-- ==== Sys2Proof/Word.lean ====
section
/-! DEFINITION. The word types of the Ontor OV-7624 model: bytes, 32-bit object words, 24-bit object
addresses, 64-bit timebase values, and the two numberings (command ports, Wings) that every chapter uses. -/

namespace Sys2Proof

/-- One byte of a packet, a Placard, an image, a record or a store. -/
abbrev Byte := BitVec 8
/-- One 16-bit field. -/
abbrev Half := BitVec 16
/-- One object word (chapter 00, "Objects"). -/
abbrev Word := BitVec 32
/-- One object address: class [23:16], instance [15:8], word [7:0]. -/
abbrev Addr := BitVec 24
/-- A 64-bit count of nanoseconds (R150), or a 64-bit counter. -/
abbrev W64 := BitVec 64

/-- The two Wings (chapter 01); the code is the one the spec uses everywhere: 0 for A, 1 for B. -/
inductive Wing where
  | a | b
  deriving DecidableEq, Repr

/-- The requesters of commands, in the order of their port codes (Table 3-9): CP0 to CP3, the
thermal manager (4) and the Docent (5), which reach the command queue as internal requesters (R14). -/
inductive Port where
  | cp0 | cp1 | cp2 | cp3 | thermal | docent
  deriving DecidableEq, Repr

end Sys2Proof
end

