-- ==== Sys2Proof/Config.lean ====
section
/-! DEFINITION. What one implementation fixes, and the free values the spec leaves open. None has a body, so nothing
can be proved about the values. -/

namespace Sys2Proof.Config
open Sys2Proof

/-- The 64-bit device identifier (Table 4-4). Log entry 6 (DESIGN CHOICE). -/
opaque deviceId : W64
/-- The silicon step, starting at 0x01 (Table 4-4). Log entry 6 (DESIGN CHOICE). -/
opaque siliconStep : Byte
/-- Whether the part is an OV-7624-G2; otherwise it is a G3 (Table 0-5). -/
opaque isG2 : Bool
/-- The boot ROM version (Table 4-4). -/
opaque romVersion : Word
/-- A fresh free byte, number n of its run: a value the spec leaves open. Log entry 7 (DESIGN CHOICE). -/
opaque freeByte : Nat → Byte
/-- A fresh free word. Log entry 7 (DESIGN CHOICE). -/
opaque freeWord : Nat → Word
/-- The product of a sample and a gain, before saturation: the rounding of 10^(g ÷ 20) is not stated (R470). The gain is in
1/65,536 dB. -/
opaque gainProduct : Int → Int → Int
/-- Byte n of the built-in EDID, of which the spec gives the timing alone (R295). Log entry 50 (PRESUMED). -/
opaque builtinEdid : Nat → Byte
/-- A DPCD byte that neither DPS words nor the source determine (R294). -/
opaque dpcdByte : Nat → Byte
/-- The key that seals the root secrets and the boot image, fixed in each part (R572). -/
opaque firmwareKey : List Byte

end Sys2Proof.Config
end

