-- ==== Sys2Proof/Machine/Tab.lean ====
section
/-! DEFINITION. The one sparse table every array of units is kept in: a list of (number, value) pairs
with strictly rising numbers and no entry equal to what an unlisted number reads as. -/

namespace Sys2Proof.Machine

/-- A sparse table: unlisted numbers read as the default its owner names. -/
abbrev Tab (α : Type) := List (Nat × α)

/-- The value at `k`, `d` where nothing is listed. -/
def tget {α : Type} (d : α) : Tab α → Nat → α
  | [], _ => d
  | (j, v) :: r, k => if j = k then v else tget d r k

/-- `t` with `k` set to `v`; writing the default removes the entry, so equal tables are equal lists. -/
def tput {α : Type} [DecidableEq α] (d : α) : Tab α → Nat → α → Tab α
  | [], k, v => if v = d then [] else [(k, v)]
  | (j, w) :: r, k, v =>
    if k < j then (if v = d then (j, w) :: r else (k, v) :: (j, w) :: r)
    else if k = j then (if v = d then r else (k, v) :: r)
    else (j, w) :: tput d r k v

/-- Every number listed in `t` is above `n`. -/
def tabove {α : Type} (n : Nat) (t : Tab α) : Bool := t.all fun e => decide (n < e.1)

/-- The canonical form: numbers strictly rising, no value equal to the default `d` names for its number. -/
def twf {α : Type} [DecidableEq α] (d : Nat → α) : Tab α → Bool
  | [] => true
  | (j, v) :: r => decide (v ≠ d j) && tabove j r && twf d r

/-- The numbers listed, in rising order. -/
def tkeys {α : Type} (t : Tab α) : List Nat := t.map Prod.fst

end Sys2Proof.Machine
end

