-- ==== Sys2Proof/Machine/Operands.lean ====
section
/-! DEFINITION. Operand helpers: bit fields of words, little-endian bytes (R5), object addresses and keys,
port codes (Table 3-9), bank bytes (R93). -/

namespace Sys2Proof.Machine
open Sys2Proof

/-- Bits `hi` down to `lo` of a word, as a number. -/
def bits (w : Word) (hi lo : Nat) : Nat := (w.toNat / 2 ^ lo) % 2 ^ (hi + 1 - lo)
/-- Bit `i` of a word. -/
def bit (w : Word) (i : Nat) : Bool := w.getLsbD i
/-- The word whose bits `lo` upwards hold `v`, for a field `n` bits wide. -/
def field (lo n v : Nat) : Word := BitVec.ofNat 32 ((v % 2 ^ n) * 2 ^ lo)
/-- The mask of the bits `hi` down to `lo`. -/
def maskOf (hi lo : Nat) : Word := BitVec.ofNat 32 ((2 ^ (hi + 1 - lo) - 1) * 2 ^ lo)
/-- A flag as a number. -/
def b2n (b : Bool) : Nat := if b then 1 else 0
/-- `old` with the bits of `mask` taken from `v`. -/
def merge (old mask v : Word) : Word := (old &&& ~~~mask) ||| (v &&& mask)

/-- A signed reading of a 16-bit field. -/
def sext16 (n : Nat) : Int := (BitVec.ofNat 16 n).toInt
/-- A signed reading of a word. -/
def sext32 (w : Word) : Int := w.toInt

/-- The `n` low bytes of a number, least significant first (R5). -/
def leBytes : Nat → Nat → List Byte
  | 0, _ => []
  | n + 1, v => BitVec.ofNat 8 v :: leBytes n (v / 256)
/-- The number a little-endian byte list spells (R5). -/
def leNat : List Byte → Nat
  | [] => 0
  | b :: r => b.toNat + 256 * leNat r
/-- Byte `i` of a list, zero past its end. -/
def byteAt (l : List Byte) (i : Nat) : Nat := (l.getD i 0).toNat
/-- The `n` bytes of `l` from offset `o`. -/
def slice (l : List Byte) (o n : Nat) : List Byte := (l.drop o).take n
/-- The little-endian number of the `n` bytes of `l` at offset `o`. -/
def leAt (l : List Byte) (o n : Nat) : Nat := leNat (slice l o n)
/-- The words a byte list spells, four bytes each. -/
def wordsOf : List Byte → List Word
  | a :: b :: c :: d :: r => BitVec.ofNat 32 (leNat [a, b, c, d]) :: wordsOf r
  | _ => []
/-- The four bytes of a word. -/
def wordBytes (w : Word) : List Byte := leBytes 4 w.toNat
/-- The bytes of a list of words. -/
def wordsBytes (ws : List Word) : List Byte := ws.flatMap wordBytes
/-- `l` with the bytes of `d` written at offset `o`; a write past the end extends with zero bytes. -/
def patch (l : List Byte) (o : Nat) (d : List Byte) : List Byte :=
  let l' := l ++ List.replicate (o - l.length) 0
  l'.take o ++ d ++ l'.drop (o + d.length)
/-- `l` cut or filled with zero bytes to exactly `n` bytes. -/
def sized (l : List Byte) (n : Nat) : List Byte := (l ++ List.replicate (n - l.length) 0).take n

/-- The class of an object address. -/
def clsOf (a : Addr) : Nat := a.toNat / 65536
/-- The instance of an object address. -/
def instOf (a : Addr) : Nat := a.toNat / 256 % 256
/-- The word of an object address. -/
def wordOf (a : Addr) : Nat := a.toNat % 256
/-- The object address of a word. -/
def mkAddr (cls inst word : Nat) : Addr := BitVec.ofNat 24 (cls * 65536 + inst * 256 + word)
/-- The address a status carries when none applies (Table 3-9). Log entry 18 (DEDUCED). -/
def noAddr : Addr := 0xFFFFFF#24

/-- The number a word is stored under: its Wing's bank above its address (R127). -/
def wkey (bank : Nat) (a : Addr) : Nat := bank * 16777216 + a.toNat
/-- The number an instance is known by: bank, class and instance. -/
def ikey (bank cls inst : Nat) : Nat := bank * 65536 + cls * 256 + inst
/-- The instance a word belongs to. -/
def ikeyOf (bank : Nat) (a : Addr) : Nat := bank * 65536 + a.toNat / 256

/-- The classes with a separate set of instances in each Wing (R93). -/
def isBanked (cls : Nat) : Bool := [0x10, 0x11, 0x13, 0x15, 0x16, 0x17, 0x18].contains cls
/-- The classes Table 5-1 assigns. -/
def classAssigned (cls : Nat) : Bool :=
  decide (cls ≤ 4) || (decide (8 ≤ cls) && decide (cls ≤ 0x0B)) || (decide (0x10 ≤ cls) && decide (cls ≤ 0x1A))
    || (decide (0x20 ≤ cls) && decide (cls ≤ 0x26))
/-- The instances Table 5-1 gives each class; a gap counts as absent (R126). -/
def instExists (cls i : Nat) : Bool :=
  match cls with
  | 0x00 | 0x01 => decide (i = 0)
  | 0x02 => decide (i ≤ 4)
  | 0x03 => decide (i ≤ 16) || (decide (24 ≤ i) && decide (i ≤ 31))
  | 0x04 => decide (i ≤ 11)
  | 0x08 => decide (i ≤ 23)
  | 0x09 | 0x0A => decide (i ≤ 3)
  | 0x0B => decide (i ≤ 7)
  | 0x10 => decide (i ≤ 39)
  | 0x11 => decide (i ≤ 63)
  | 0x12 => decide (i ≤ 19)
  | 0x13 => decide (i ≤ 191)
  | 0x14 => decide (i ≤ 19) || (decide (64 ≤ i) && decide (i ≤ 127))
  | 0x15 => decide (i ≤ 9)
  | 0x16 => decide (i ≤ 31)
  | 0x17 | 0x18 => decide (i ≤ 19)
  | 0x19 => decide (i ≤ 3)
  | 0x1A => decide (i ≤ 72)
  | 0x20 | 0x23 | 0x24 => decide (i = 0)
  | 0x21 | 0x25 | 0x26 => decide (i ≤ 1)
  | 0x22 => decide (i ≤ 14)
  | _ => false
/-- The classes whose instances a port may own (R83). -/
def isOwnable (cls : Nat) : Bool := decide (8 ≤ cls) && decide (cls ≤ 0x1A) && decide (cls ≠ 0x14)
/-- The Wing banks a bank byte names: one for 0x00 and 0x01, both for 0x02 (R93). -/
def banksOf (bank : Nat) : List Nat := if bank = 2 then [0, 1] else [bank]

/-- The code of a port (Table 3-9). -/
def portCode : Port → Nat
  | .cp0 => 0 | .cp1 => 1 | .cp2 => 2 | .cp3 => 3 | .thermal => 4 | .docent => 5
/-- The number of credits of a port (R75); an internal requester has none. -/
def portCredits : Port → Nat
  | .cp0 => 16 | .cp1 => 8 | .cp2 => 8 | .cp3 => 4 | _ => 0
/-- The port whose rank an internal requester takes (R14). -/
def rankPort : Port → Port
  | .thermal => .cp1 | .docent => .cp0 | p => p
/-- The place of a requester in the precedence CP1, CP0, CP2, CP3, an internal requester before the host
port of equal rank (R87); lower wins. -/
def rankOf : Port → Nat
  | .thermal => 0 | .cp1 => 1 | .docent => 2 | .cp0 => 3 | .cp2 => 4 | .cp3 => 5

/-- The code of a Wing. -/
def wingCode : Wing → Nat
  | .a => 0 | .b => 1
/-- The other Wing. -/
def otherWing : Wing → Wing
  | .a => .b | .b => .a
/-- The Wing of a bank number. -/
def wingOf (n : Nat) : Wing := if n = 0 then .a else .b

end Sys2Proof.Machine
end

