-- ==== Sys2Proof/Machine/ObjectMap.lean ====
section
/-! DEFINITION. The object and register map (chapter 05, with Tables 2-8 to 2-12 and 3-14 to 3-17): for every word
its access masks and its reset value. -/

namespace Sys2Proof.Machine
open Sys2Proof

/-- What the map says of one word: which bits are RW, WS, RO, W1C and WP, and the value after reset (R128).
A bit in none of the five masks is RSV (R3). -/
structure WInfo where
  rw : Word := 0#32
  ws : Word := 0#32
  ro : Word := 0#32
  w1c : Word := 0#32
  wp : Word := 0#32
  reset : Word := 0#32
  deriving DecidableEq, Repr

/-- A word that the map does not list: RSV throughout (R126). -/
def wRsv : WInfo := {}
/-- A word with RW bits. -/
def wRw (m r : Word) : WInfo := { rw := m, reset := r }
/-- A word with WS bits. -/
def wWs (m r : Word) : WInfo := { ws := m, reset := r }
/-- A word with RO bits. -/
def wRo (m r : Word) : WInfo := { ro := m, reset := r }
/-- A word with WP bits. -/
def wWp (m r : Word) : WInfo := { wp := m, reset := r }
/-- A whole counter that writing ones clears. -/
def wW1c : WInfo := { w1c := 0xFFFFFFFF#32 }
/-- Every bit of a word. -/
def allOnes : Word := 0xFFFFFFFF#32

/-- SYS[0] (Tables 3-15 to 3-17, 5-3). -/
def sysInfo (w : Nat) : WInfo :=
  match w with
  | 0x00 | 0x01 | 0x02 | 0x08 | 0x09 => wRo allOnes 0#32
  | 0x03 => wRo 0x7#32 0#32
  | 0x04 => wRo 0xF#32 0#32
  | 0x10 => wRw 0x1#32 0x1#32
  | 0x14 | 0x15 | 0x16 | 0x17 => wRo 0xFFFF03FF#32 0#32
  | 0x18 | 0x19 | 0x1A | 0x1B | 0x1C | 0x1D | 0x1E | 0x1F => wRo allOnes 0#32
  | 0x20 | 0x21 => wRw 0xFFFF#32 0#32
  | 0x22 => wRo 0xFFFF#32 0#32
  | _ => wRsv
/-- MODE[0] (Tables 2-8 to 2-11). -/
def modeInfo (w : Nat) : WInfo :=
  match w with
  | 0x00 => wRo 0x00FF0F77#32 0#32
  | 0x01 => wRw 0x30F#32 0x4#32
  | 0x02 => wRw 0x8F8F#32 0#32
  | 0x03 => wRo allOnes 0#32
  | _ => wRsv
/-- TB[0–4] (Table 5-4). -/
def tbInfo (i w : Nat) : WInfo :=
  if i = 0 then
    match w with
    | 0x00 => wRo 0xFFFF#32 0#32
    | 0x01 | 0x02 => wRo allOnes 0#32
    | 0x03 => wRo 0xFF0001FF#32 0#32
    | _ => wRsv
  else if w % 4 = 3 then wRsv else wRo allOnes 0#32
/-- REF words (Table 5-5). -/
def refInfo (i w : Nat) : WInfo :=
  if i ≤ 15 then
    match w with
    | 0x00 => if i ≤ 3 then wRw 0xFFFF0003#32 0#32 else if i = 4 then wRw 0xFFFF0003#32 1#32
              else wRw 0xFFFF0003#32 2#32
    | 0x01 => if i ≤ 4 then wRw allOnes (field 16 16 500 ||| 200#32) else wRw allOnes (field 16 16 20000 ||| 5000#32)
    | 0x02 => wRw allOnes (field 16 16 2000 ||| 4#32)
    | 0x03 => wRo 0xFFFF0007#32 0#32
    | _ => wRsv
  else if i = 16 then
    match w with
    | 0x00 => wRo 0x3#32 0#32
    | 0x01 => wRw 0x1FF#32 16#32
    | 0x02 => wRw allOnes (field 16 16 60 ||| 2000#32)
    | 0x03 => wRw allOnes 0x76543210#32
    | 0x04 => wRw allOnes 0xFEDCBA98#32
    | _ => wRsv
  else if w = 0 then wRw 0xFFFF01FF#32 0#32 else wRsv
/-- SYN words (Table 5-6); every word of SYN[11] is RO to the host (R137). -/
def synInfo (i w : Nat) : WInfo :=
  let m : Word := match w with
    | 0x00 => allOnes | 0x01 => 0xFFFFFF#32 | 0x02 => 0xFFF#32 | 0x03 => 0xFF0F#32
    | 0x04 => if i ≤ 3 then 3#32 else 0#32 | _ => 0#32
  let r : Word := match w with
    | 0x01 => 1#32 | 0x02 => 2#32 | _ => 0#32
  if i = 11 ∨ w = 3 then wRo m r else wRw m r
/-- PLK, DPS, EDP and CSI words (Table 5-7). -/
def portInfo (cls w : Nat) : WInfo :=
  match cls, w with
  | 0x08, 0x00 => wRo 0x3FFF#32 0xF00#32
  | 0x08, 0x01 | 0x08, 0x02 | 0x08, 0x03 | 0x08, 0x06 => wRo allOnes 0#32
  | 0x08, 0x04 => wRw 0x1F37#32 4#32
  | 0x08, 0x05 => wRw allOnes 1024#32
  | 0x09, 0x00 => wRw 0xF7#32 6#32
  | 0x09, 0x01 => wRo allOnes 0#32
  | 0x0A, 0x00 => wRw 0x3F#32 (field 3 3 4)
  | 0x0A, 0x01 => wRw 0x1F#32 0#32
  | 0x0B, 0x00 => wRw 0xFFFF0007#32 (field 16 16 1500 ||| 4#32)
  | 0x0B, 0x01 => wRo allOnes 0#32
  | _, _ => wRsv
/-- CAP, RTE, OUT and LYR words (Table 5-8). -/
def pathInfo (cls w : Nat) : WInfo :=
  match cls, w with
  | 0x10, 0x00 => wRo 0xFF0F#32 0#32
  | 0x10, 0x01 => wWs 0xFF03#32 0#32
  | 0x10, 0x02 => wWs allOnes 0#32
  | 0x10, 0x03 | 0x10, 0x04 | 0x10, 0x06 => wRo allOnes 0#32
  | 0x10, 0x05 => wRw allOnes 0#32
  | 0x10, 0x07 => wW1c
  | 0x11, 0x00 => wRo allOnes 0#32
  | 0x11, 0x01 => wWs 0x1FF#32 0x100#32
  | 0x12, 0x00 => wRo allOnes 0#32
  | 0x12, 0x04 | 0x12, 0x05 | 0x12, 0x07 | 0x12, 0x08 => wWs 0xFFFF#32 0#32
  | 0x12, 0x01 | 0x12, 0x02 | 0x12, 0x03 | 0x12, 0x06 | 0x12, 0x09 | 0x12, 0x0B => wWs allOnes 0#32
  | 0x12, 0x0A => wRw 0x3FFFFFFF#32 0#32
  | 0x12, 0x0C | 0x12, 0x0D => wWs 1#32 0#32
  | 0x13, 0x00 | 0x13, 0x09 | 0x13, 0x0A => wRo allOnes 0#32
  | 0x13, 0x01 | 0x13, 0x02 | 0x13, 0x03 | 0x13, 0x04 | 0x13, 0x05 => wWs allOnes 0#32
  | 0x13, 0x06 => wWs allOnes 0x3FF#32
  | 0x13, 0x07 => wWs allOnes 0xFFFF#32
  | 0x13, 0x08 => wWs allOnes 0x000400FF#32
  | _, _ => wRsv
/-- VIT, SCL, WRP, CLR and FRC words (Table 5-9, and Table 16-5 for the matrix); CLR_TBL_WIN words live in the
colour tables, not here (R141). -/
def videoInfo (cls i w : Nat) : WInfo :=
  match cls with
  | 0x14 =>
    if i ≥ 64 then (if w ≤ 1 then wRo allOnes 0#32 else wRsv)
    else match w with
      | 0x00 | 0x06 => wRo allOnes 0#32
      | 0x01 | 0x02 | 0x03 | 0x05 => wWs allOnes 0#32
      | 0x04 => wWs allOnes 0x03FF03FF#32
      | _ => wRsv
  | 0x15 => match w with
    | 0x00 => wRo allOnes 0#32
    | 0x01 => wWs allOnes 0x88#32
    | _ => wRsv
  | 0x16 => match w with
    | 0x00 => wRo allOnes 0#32
    | 0x01 => wWs 0x1FFFFF#32 0#32
    | 0x02 => wWs allOnes 0#32
    | _ => wRsv
  | 0x17 =>
    if w ≥ 0x80 then wWs allOnes 0#32
    else match w with
      | 0x00 => wWs allOnes 1#32
      | 0x01 => wWs allOnes 2#32
      | 0x02 => wWs allOnes 1#32
      | 0x03 | 0x05 => wWs allOnes 0x4000#32
      | 0x04 | 0x06 => wWs allOnes 0#32
      | 0x07 => wWs 0xFFFF#32 0x4000#32
      | 0x10 => wRw allOnes 0#32
      | _ => wRsv
  | 0x18 => match w with
    | 0x00 => wWs allOnes 0#32
    | 0x01 => wRo allOnes 0#32
    | _ => wRsv
  | _ => wRsv
/-- FST and AUD words (Table 5-10). -/
def memAudInfo (cls i w : Nat) : WInfo :=
  if cls = 0x19 then
    (if w = 0 then wRo allOnes 0#32 else if w ≤ 4 then wW1c else wRsv)
  else if i ≤ 7 then
    (if w = 0 then wRw allOnes 0#32 else if w = 1 then wRw 0xFF#32 (field 0 8 (16 * i)) else wRsv)
  else if i ≤ 71 then
    (if w = 0 then wRw allOnes 0xFFFF#32 else if w = 1 then wRo allOnes 0#32 else wRsv)
  else wRo allOnes 0xFFFF#32
/-- BMX, WNG, THM, LDG, VLT, EVT and PRS words (Tables 5-11 to 5-13, 2-12, 3-14). The reset value of a PRS
word is the one manufacture writes (R54, R90; host words start at 0). -/
def supportInfo (cls i w : Nat) : WInfo :=
  match cls with
  | 0x20 => if w = 0 then wRo allOnes 0#32 else if w = 1 then wW1c else wRsv
  | 0x21 => if w ≤ 1 then wRo allOnes 0#32 else if w = 2 then wRw 0x1F#32 0x1F#32 else wRsv
  | 0x22 =>
    if i = 14 then (if w = 0 then wRw allOnes 0#32 else if w = 1 then wRw 0x3FFF#32 0x3FFF#32 else wRsv)
    else if w = 0 then wRo 0xFFFF#32 0#32 else if w = 1 then wRw allOnes 0x00736964#32
    else if w = 2 then wRw 0xFF#32 5#32 else wRsv
  | 0x23 => if w ≤ 2 then wRo allOnes 0#32 else wRsv
  | 0x24 => if w = 0 then wRo allOnes 0#32 else wRsv
  | 0x25 => if i = 0 then wRw allOnes 1#32 else if w ≤ 8 then wRo allOnes 0#32 else wRsv
  | 0x26 =>
    if i = 0 then
      match w with
      | 0x00 => wWp 0x77#32 0x61#32
      | 0x01 => wWp 0x7F1F01#32 (field 16 7 0x4C)
      | 0x02 => wWp 0x3FFFFFF#32 0#32
      | 0x03 => wWp 0xF#32 0#32
      | _ => if 8 ≤ w ∧ w ≤ 15 then wWp allOnes 0#32 else wRsv
    else if w ≤ 3 ∨ (8 ≤ w ∧ w ≤ 15) then wRo 0x3F3FFFFF#32 0#32 else wRsv
  | _ => wRsv

/-- The map entry of a word. -/
def wordInfo (cls i w : Nat) : WInfo :=
  match cls with
  | 0x00 => sysInfo w
  | 0x01 => modeInfo w
  | 0x02 => tbInfo i w
  | 0x03 => refInfo i w
  | 0x04 => synInfo i w
  | 0x08 | 0x09 | 0x0A | 0x0B => portInfo cls w
  | 0x10 | 0x11 | 0x12 | 0x13 => pathInfo cls w
  | 0x14 | 0x15 | 0x16 | 0x17 | 0x18 => videoInfo cls i w
  | 0x19 | 0x1A => memAudInfo cls i w
  | 0x20 | 0x21 | 0x22 | 0x23 | 0x24 | 0x25 | 0x26 => supportInfo cls i w
  | _ => wRsv
/-- The map entry of the word at an address. -/
def infoAt (a : Addr) : WInfo := wordInfo (clsOf a) (instOf a) (wordOf a)
/-- The value a stored word has after reset, by its storage number. -/
def resetWord (k : Nat) : Word := (infoAt (BitVec.ofNat 24 (k % 16777216))).reset

/-- The safety-state words: all of MODE[0], VIT, SYN and REF, OUT words 0x02 to 0x09 and 0x0D (R130). -/
def isSafety (a : Addr) : Bool :=
  let c := clsOf a
  let w := wordOf a
  [0x01, 0x14, 0x04, 0x03].contains c || (decide (c = 0x12) && ((decide (2 ≤ w) && decide (w ≤ 9)) || decide (w = 0x0D)))
/-- The words that belong to the PRS class and go through to the Ledger (R103). -/
def isPrs (a : Addr) : Bool := decide (clsOf a = 0x26)
/-- Whether an image may set the word: RW and WS words outside LDG, VLT and PRS, or an RSV word (R37, R129). -/
def imageMaySet (a : Addr) : Bool :=
  let i := infoAt a
  decide (i.ro = 0#32) && decide (i.w1c = 0#32) && decide (i.wp = 0#32) && !([0x23, 0x24, 0x26].contains (clsOf a))

end Sys2Proof.Machine
end

