-- ==== Sys2Proof/Machine/ReedSolomon.lean ====
section
/-! DEFINITION. The Reed–Solomon code of the Prenlink forward lanes: RS(528, 512) over GF(2^10) with field polynomial x^10 + x^3 + 1 and
the roots α^0 to α^15 (R266). -/

namespace Sys2Proof.Machine
open Sys2Proof

/-- A symbol of 10 bits (R267). -/
abbrev Symbol := BitVec 10

/-! ## The field -/

/-- Multiplication by α, the root of x^10 + x^3 + 1. -/
def symTimesAlpha (a : Symbol) : Symbol := (a <<< 1) ^^^ (if a.getLsbD 9 then 0x009#10 else 0#10)
/-- The product in GF(2^10). -/
def symMul (a b : Symbol) : Symbol :=
  (List.range 10).foldl (fun t i => symTimesAlpha t ^^^ (if b.getLsbD (9 - i) then a else 0#10)) 0#10
/-- α to a power. -/
def symAlpha (n : Nat) : Symbol := (List.range (n % 1023)).foldl (fun t _ => symTimesAlpha t) 1#10
/-- The inverse of a symbol other than 0: its power 2^10 - 2. -/
def symInv (a : Symbol) : Symbol :=
  ((List.range 9).foldl (fun x _ => let q := symMul x.1 x.1; (q, symMul x.2 q)) (a, 1#10)).2

/-! ## Polynomials, lowest coefficient first -/

/-- The value of a polynomial at a point. -/
def symEval (p : List Symbol) (x : Symbol) : Symbol := p.foldr (fun c t => c ^^^ symMul t x) 0#10
/-- The sum of two polynomials. -/
def symAdd : List Symbol → List Symbol → List Symbol
  | [], q => q
  | p, [] => p
  | a :: p, b :: q => (a ^^^ b) :: symAdd p q
/-- A polynomial times a symbol. -/
def symScale (p : List Symbol) (c : Symbol) : List Symbol := p.map fun a => symMul a c
/-- The product of two polynomials. -/
def symPolyMul : List Symbol → List Symbol → List Symbol
  | [], _ => []
  | a :: p, q => symAdd (symScale q a) (0#10 :: symPolyMul p q)
/-- The generator, with the 16 roots α^0 to α^15 (R266). -/
def rsGenerator : List Symbol := (List.range 16).foldl (fun g i => symPolyMul g [symAlpha i, 1#10]) [1#10]

/-! ## Encoding -/

/-- One data symbol goes through the division by the generator; the register holds 16 symbols, highest first. -/
def rsStep (gen reg : List Symbol) (d : Symbol) : List Symbol :=
  let f := d ^^^ reg.headD 0#10
  List.zipWith (fun r g => r ^^^ symMul f g) (reg.tail ++ [0#10]) gen
/-- The 16 parity symbols of the data symbols of a codeword, first sent first. -/
def rsParity (data : List Symbol) : List Symbol :=
  let gen := (rsGenerator.take 16).reverse
  data.foldl (rsStep gen) (List.replicate 16 0#10)
/-- The codeword of 512 data symbols. -/
def rsEncode (data : List Symbol) : List Symbol := data ++ rsParity data

/-! ## Correction -/

/-- The 16 syndromes of a received word, whose first symbol has the highest power. -/
def rsSyndromes (word : List Symbol) : List Symbol := (List.range 16).map fun i => symEval word.reverse (symAlpha i)
/-- The search for the shortest error locator (Berlekamp and Massey): the locator, the one before its last growth with its
discrepancy and age, and the number of errors it stands for. -/
structure RsSearch where
  loc : List Symbol := [1#10]
  old : List Symbol := [1#10]
  oldDisc : Symbol := 1#10
  age : Nat := 1
  errs : Nat := 0
  deriving DecidableEq, Repr
/-- One more syndrome is taken into the search. -/
def rsSearchStep (syn : List Symbol) (x : RsSearch) (n : Nat) : RsSearch :=
  let d := (List.range (x.errs + 1)).foldl (fun t i => t ^^^ symMul (x.loc.getD i 0#10) (syn.getD (n - i) 0#10)) 0#10
  if d = 0#10 then { x with age := x.age + 1 }
  else
    let k := symMul d (symInv x.oldDisc)
    let loc := symAdd x.loc (List.replicate x.age 0#10 ++ symScale x.old k)
    if 2 * x.errs ≤ n then { loc := loc, old := x.loc, oldDisc := d, age := 1, errs := n + 1 - x.errs }
    else { x with loc := loc, age := x.age + 1 }
/-- The error locator of a list of syndromes. -/
def rsLocator (syn : List Symbol) : RsSearch := (List.range 16).foldl (rsSearchStep syn) {}
/-- The error at a power of α: its value where the locator has a root there (Forney), 0 elsewhere. -/
def rsErrorAt (loc omega : List Symbol) (power : Nat) : Symbol :=
  let inv := symAlpha (1023 - power % 1023)
  if symEval loc inv ≠ 0#10 then 0#10
  else
    let deriv := (List.range loc.length).map fun i => if i % 2 = 0 then loc.getD (i + 1) 0#10 else 0#10
    symMul (symAlpha power) (symMul (symEval omega inv) (symInv (symEval deriv inv)))
/-- The decoding of a received word: corrected with the number of symbols changed, or none where it has more errors than the 8 the
code corrects (R266, R269). -/
def rsDecode (word : List Symbol) : Option (List Symbol × Nat) :=
  let syn := rsSyndromes word
  if syn.all fun x => decide (x = 0#10) then some (word, 0)
  else
    let x := rsLocator syn
    let omega := (symPolyMul syn x.loc).take 16
    let n := word.length
    let errs := (List.range n).map fun i => rsErrorAt x.loc omega (n - 1 - i)
    let fixed := List.zipWith (fun a e => a ^^^ e) word errs
    let count := (errs.filter fun e => decide (e ≠ 0#10)).length
    if count = x.errs ∧ count ≤ 8 ∧ (rsSyndromes fixed).all fun s => decide (s = 0#10) then some (fixed, count) else none

end Sys2Proof.Machine
end

