-- ==== Sys2Proof/Machine/BlockCode.lean ====
section
/-! DEFINITION. The blocks of a Prenlink lane (R261 to R269): headers, scrambling, the packet byte stream, control blocks, code frames, and
the hunt for block boundaries and code frames (R246, R247, R268). -/

namespace Sys2Proof.Machine
open Sys2Proof

/-! ## Blocks and scrambling (R261, R262) -/

/-- A block: its 2-bit header and its 256 payload bits in transmission order. -/
structure Block where
  hdr : BitVec 2
  bits : List Bool
  deriving DecidableEq, Repr
/-- The header of a data block and of a control block. -/
def dataHdr : BitVec 2 := 0b01#2
def ctlHdr : BitVec 2 := 0b10#2
/-- A header is valid (R246). -/
def hdrValid (h : BitVec 2) : Bool := decide (h = dataHdr) || decide (h = ctlHdr)
/-- The bits of bytes in transmission order: of each byte the least significant first. Log entry 124 (DESIGN CHOICE). -/
def bitsOf (b : List Byte) : List Bool := b.flatMap fun x => (List.range 8).map x.getLsbD
/-- The byte that eight bits in transmission order spell. Log entry 124 (DESIGN CHOICE). -/
def byteOf (l : List Bool) : Byte := BitVec.ofNat 8 (l.foldr (fun b t => 2 * t + (if b then 1 else 0)) 0)
/-- `n` bytes from bits in transmission order. -/
def bytesOf : Nat → List Bool → List Byte
  | 0, _ => []
  | n + 1, l => byteOf (l.take 8) :: bytesOf n (l.drop 8)
/-- The 258 bits of a block, header first. -/
def blockBits (b : Block) : List Bool := b.hdr.getLsbD 1 :: b.hdr.getLsbD 0 :: b.bits
/-- The block that 258 bits spell. -/
def blockOf (l : List Bool) : Block :=
  { hdr := BitVec.ofBool (l.getD 0 false) ++ BitVec.ofBool (l.getD 1 false), bits := (l.drop 2).take 256 }

/-- The register of a scrambler: its last 58 bits sent, the newest in bit 0. -/
abbrev Scr := BitVec 58
/-- The bit the register adds: x^58 + x^39 + 1. -/
def scrTap (r : Scr) : Bool := Bool.xor (r.getLsbD 38) (r.getLsbD 57)
/-- A bit enters the register. -/
def scrPush (r : Scr) (b : Bool) : Scr := (r <<< 1) ||| (if b then 1#58 else 0#58)
/-- Payload bits are scrambled in transmission order. -/
def scramble : Scr → List Bool → Scr × List Bool
  | r, [] => (r, [])
  | r, b :: l =>
    let o := Bool.xor b (scrTap r)
    let x := scramble (scrPush r o) l
    (x.1, o :: x.2)
/-- Received bits are descrambled: after 58 of them the register no longer depends on what it held. -/
def descramble : Scr → List Bool → Scr × List Bool
  | r, [] => (r, [])
  | r, b :: l =>
    let x := descramble (scrPush r b) l
    (x.1, Bool.xor b (scrTap r) :: x.2)

/-! ## Control blocks (R264) -/

/-- The 32 bytes of a control block of a type with its content. -/
def controlBytes (ty : Byte) (content : List Byte) : List Byte :=
  let b := sized (ty :: content) 28
  b ++ leBytes 4 (crc32c b).toNat
/-- The type and content of a control block, none where its CRC fails or its type is not in Table 10-1. -/
def openControl (b : List Byte) : Option (Nat × List Byte) :=
  if leAt b 28 4 = (crc32c (b.take 28)).toNat ∧ 1 ≤ byteAt b 0 ∧ byteAt b 0 ≤ 3 then some (byteAt b 0, slice b 1 27) else none
/-- An IDLE block. -/
def idleBytes : List Byte := controlBytes 0x01#8 []
/-- A MARKER of a lane with a frame count. -/
def markerBytes (lane : Nat) (count : Word) : List Byte := controlBytes 0x02#8 (BitVec.ofNat 8 lane :: leBytes 4 count.toNat)
/-- An URGENT block with a control message in short form (Table 10-6): sequence, acknowledgement, subtype, data. -/
def urgentBytes (seq ack sub : Byte) (data : List Byte) : List Byte := controlBytes 0x03#8 ([seq, ack, sub] ++ sized data 24)

/-! ## The packet byte stream (R263) -/

/-- What a transmitter has still to put into its data blocks: the rest of the packet in progress, and the packets after it, each with its
place in the order of R273. -/
structure Outgoing where
  cur : List Byte := []
  queue : List (Nat × List Byte) := []
  deriving DecidableEq, Repr
/-- A packet joins the packets that wait, behind those of its place and of earlier places (R273). -/
def joinSend (rank : Nat) (p : List Byte) : List (Nat × List Byte) → List (Nat × List Byte)
  | [] => [(rank, p)]
  | x :: l => if rank < x.1 then (rank, p) :: x :: l else x :: joinSend rank p l
/-- Fills `n` bytes of a data block from its `off`-th byte on: the bytes, the offset of the first packet header that starts there (0 for
none), and what is left. After the last packet the rest is 0x00. -/
def fillBytes : Nat → Nat → Outgoing → List Byte × Nat × Outgoing
  | 0, _, x => ([], 0, x)
  | n + 1, off, x =>
    match x.cur, x.queue with
    | b :: c, q =>
      let r := fillBytes n (off + 1) { cur := c, queue := q }
      (b :: r.1, r.2.1, r.2.2)
    | [], (_, b :: c) :: q =>
      let r := fillBytes n (off + 1) { cur := c, queue := q }
      (b :: r.1, off, r.2.2)
    | [], (_, []) :: q => (List.replicate (n + 1) 0#8, 0, { cur := [], queue := q })
    | [], [] => (List.replicate (n + 1) 0#8, 0, x)
/-- The 32 bytes of the next data block: the pointer and 31 bytes of the stream. -/
def dataBytes (x : Outgoing) : List Byte × Outgoing :=
  let r := fillBytes 31 1 x
  (BitVec.ofNat 8 r.2.1 :: r.1, r.2.2)

/-- A receiver's place in the byte stream: the bytes of the packet in progress, and whether it knows where packets start. -/
structure Incoming where
  part : List Byte := []
  sync : Bool := false
  deriving DecidableEq, Repr
/-- Takes whole packets off the front of the bytes received: the packets whose header passes, the header failures met, and the place left;
a failure of a later check leaves the place known (R272). The fuel is the number of bytes. -/
def takePackets : Nat → List Byte → List (List Byte) × Nat × Incoming
  | 0, b => ([], 0, { part := b, sync := true })
  | n + 1, b =>
    if b = [] ∨ byteAt b 0 = 0 then ([], 0, { part := [], sync := true })
    else if b.length < 8 then ([], 0, { part := b, sync := true })
    else if crc8 (b.take 7) ≠ b.getD 7 0#8 then ([], 1, { part := [], sync := false })
    else
      let len := 12 + leAt b 2 2
      if b.length < len then ([], 0, { part := b, sync := true })
      else
        let r := takePackets n (b.drop len)
        (b.take len :: r.1, r.2.1, r.2.2)
/-- A data block's 32 bytes reach a receiver (R263): one that has lost its place resumes at the pointer. -/
def takeData (x : Incoming) (b : List Byte) : List (List Byte) × Nat × Incoming :=
  let ptr := byteAt b 0
  if x.sync then takePackets (x.part.length + 32) (x.part ++ b.drop 1)
  else if ptr = 0 then ([], 0, x)
  else takePackets 32 (b.drop ptr)

/-! ## Code frames (R267, R269) -/

/-- The symbols of payload bits in transmission order, 10 bits each, the first most significant. -/
def symbolsOf : Nat → List Bool → List Symbol
  | 0, _ => []
  | n + 1, l => BitVec.ofNat 10 ((l.take 10).foldl (fun t b => 2 * t + (if b then 1 else 0)) 0) :: symbolsOf n (l.drop 10)
/-- The bits of symbols. -/
def symbolBits (l : List Symbol) : List Bool := l.flatMap fun x => (List.range 10).map fun i => x.getLsbD (9 - i)
/-- The symbols of one of the 8 interleaved codewords. -/
def codewordOf (l : List Symbol) (k : Nat) : List Symbol := (List.range (l.length / 8)).map fun i => l.getD (8 * i + k) 0#10
/-- Codewords of `n` symbols put back into their interleaved order. -/
def interleave (n : Nat) (cs : List (List Symbol)) : List Symbol :=
  (List.range n).flatMap fun i => cs.map fun c => c.getD i 0#10
/-- Bits in pieces of 256. -/
def cutBlocks : Nat → List Bool → List (List Bool)
  | 0, _ => []
  | n + 1, l => l.take 256 :: cutBlocks n (l.drop 256)
/-- The payloads of the five parity blocks of 160 covered payloads. -/
def parityBlocks (covered : List (List Bool)) : List (List Bool) :=
  let data := symbolsOf 4096 covered.flatten
  cutBlocks 5 (symbolBits (interleave 16 ((List.range 8).map fun k => rsParity (codewordOf data k))))
/-- A code frame's 165 payloads are decoded: the 160 covered payloads, the symbols corrected and the codewords that could not be. -/
def decodeFrame (payloads : List (List Bool)) : List (List Bool) × Nat × Nat :=
  let data := symbolsOf 4096 (payloads.take 160).flatten
  let par := symbolsOf 128 (payloads.drop 160).flatten
  let r := (List.range 8).map fun k =>
    let w := codewordOf data k ++ codewordOf par k
    match rsDecode w with
    | some (c, n) => (c.take 512, n, 0)
    | none => (w.take 512, 0, 1)
  (cutBlocks 160 (symbolBits (interleave 512 (r.map (·.1)))), r.foldl (fun t x => t + x.2.1) 0, r.foldl (fun t x => t + x.2.2) 0)

/-! ## Block and code-frame lock (R246, R247, R268) -/

/-- One receiving data lane: the candidate boundary, the valid headers in a row at it, the last 64 headers (newest first), the
descrambler with what it held before each of the last five blocks; and code-frame lock: the frame count of the last MARKER, when it came,
and the blocks of the frame in progress. -/
structure LaneRx where
  cand : Nat := 0
  run : Nat := 0
  recent : List Bool := []
  scr : Scr := 0#58
  past : List Scr := []
  framed : Bool := false
  count : Option Word := none
  markAt : Nat := 0
  missed : Nat := 0
  frame : List Block := []
  deriving DecidableEq, Repr
/-- What a header does to a lane's lock. -/
inductive LockChange where
  | none | locked | lost
  deriving DecidableEq, Repr
/-- A header at the candidate is judged: 64 valid ones in a row lock a lane that hunts, an invalid one moves its candidate by one bit;
16 invalid ones among the last 64 unlock a locked one, which hunts on from its candidate (R246, R247). -/
def judgeHeader (l : LaneRx) (isLocked valid : Bool) : LaneRx × LockChange :=
  if isLocked then
    let rec' := (valid :: l.recent).take 64
    if 16 ≤ rec'.count false then ({ l with recent := [], run := 0, framed := false, count := none, frame := [] }, .lost)
    else ({ l with recent := rec' }, .none)
  else if !valid then ({ l with cand := (l.cand + 1) % 258, run := 0 }, .none)
  else if l.run + 1 < 64 then ({ l with run := l.run + 1 }, .none)
  else ({ l with run := 64, recent := List.replicate 64 true }, .locked)
/-- A MARKER comes in position, with its frame count: the second in a row with consecutive counts gives code-frame lock (R268). -/
def takeMarker (l : LaneRx) (count : Word) (clk : Nat) : LaneRx :=
  { l with framed := l.framed || decide (l.count = some (count - 1)), count := some count, markAt := clk, missed := 0 }
/-- A code frame passes without a valid MARKER in position; the fourth in a row ends code-frame lock (R268). -/
def missMarker (l : LaneRx) : LaneRx × Bool :=
  if 4 ≤ l.missed + 1 then ({ l with framed := false, count := none, missed := 0, frame := [] }, l.framed)
  else ({ l with missed := l.missed + 1, count := l.count.map (· + 1) }, false)

end Sys2Proof.Machine
end

