-- ==== Sys2Proof/Machine/Manufacture.lean ====
section
/-! DEFINITION. What manufacture leaves in the Ledger (R54, R144, R562): in slot 0 of each ring a record with sequence 1 and write
count 1, which for a PRS word holds its value at manufacture and for a Vault slot is the empty record. Bytes not listed are
0x00; the manufacture record itself is read by nothing that the spec describes. -/

namespace Sys2Proof.Machine
open Sys2Proof

/-- The records of PRS[0] words 0x00 to 0x03, 0x08 and 0x09. -/
def manufacturedPrsLow : Tab Byte := [
  (5120, 97#8), (5124, 1#8), (5128, 1#8), (5132, 152#8), (5133, 102#8), (5134, 156#8), (5135, 216#8),
  (5634, 76#8), (5636, 1#8), (5640, 1#8), (5644, 217#8), (5645, 73#8), (5646, 161#8), (5647, 231#8),
  (6148, 1#8), (6152, 1#8), (6156, 194#8), (6157, 98#8), (6158, 25#8), (6159, 191#8),
  (6660, 1#8), (6664, 1#8), (6668, 194#8), (6669, 98#8), (6670, 25#8), (6671, 191#8),
  (9220, 1#8), (9224, 1#8), (9228, 194#8), (9229, 98#8), (9230, 25#8), (9231, 191#8),
  (9732, 1#8), (9736, 1#8), (9740, 194#8), (9741, 98#8), (9742, 25#8), (9743, 191#8)]
/-- The records of PRS[0] words 0x0A to 0x0F. -/
def manufacturedPrsHigh : Tab Byte := [
  (10244, 1#8), (10248, 1#8), (10252, 194#8), (10253, 98#8), (10254, 25#8), (10255, 191#8),
  (10756, 1#8), (10760, 1#8), (10764, 194#8), (10765, 98#8), (10766, 25#8), (10767, 191#8),
  (11268, 1#8), (11272, 1#8), (11276, 194#8), (11277, 98#8), (11278, 25#8), (11279, 191#8),
  (11780, 1#8), (11784, 1#8), (11788, 194#8), (11789, 98#8), (11790, 25#8), (11791, 191#8),
  (12292, 1#8), (12296, 1#8), (12300, 194#8), (12301, 98#8), (12302, 25#8), (12303, 191#8),
  (12804, 1#8), (12808, 1#8), (12812, 194#8), (12813, 98#8), (12814, 25#8), (12815, 191#8)]
/-- The empty records of Vault slots 0 to 7. -/
def manufacturedVault : Tab Byte := [
  (13316, 1#8), (13320, 1#8), (13372, 99#8), (13373, 44#8), (13374, 47#8), (13375, 96#8),
  (13568, 1#8), (13572, 1#8), (13576, 1#8), (13628, 56#8), (13629, 136#8), (13630, 148#8), (13631, 21#8),
  (13824, 2#8), (13828, 1#8), (13832, 1#8), (13884, 213#8), (13885, 100#8), (13886, 88#8), (13887, 139#8),
  (14080, 3#8), (14084, 1#8), (14088, 1#8), (14140, 142#8), (14141, 192#8), (14142, 227#8), (14143, 254#8),
  (14336, 4#8), (14340, 1#8), (14344, 1#8), (14396, 254#8), (14397, 203#8), (14398, 45#8), (14399, 179#8),
  (14592, 5#8), (14596, 1#8), (14600, 1#8), (14652, 165#8), (14653, 111#8), (14654, 150#8), (14655, 198#8),
  (14848, 6#8), (14852, 1#8), (14856, 1#8), (14908, 72#8), (14909, 131#8), (14910, 90#8), (14911, 88#8),
  (15104, 7#8), (15108, 1#8), (15112, 1#8), (15164, 19#8), (15165, 39#8), (15166, 225#8), (15167, 45#8)]
/-- The Ledger's bytes after manufacture. Log entry 8 (DESIGN CHOICE). -/
def manufactured : Tab Byte := manufacturedPrsLow ++ manufacturedPrsHigh ++ manufacturedVault

end Sys2Proof.Machine
end

