-- ==== Sys2Proof/Syntax.lean ====
section
/-! DEFINITION. The commands of the Ontor OV-7624: one constructor of `Instr` for each row of the table of
commands and events (spec/opcode_table.json). A command that a packet carries has its request fields in a `Req`;
an event has the unit it happens to and the data that the outside world brings with it. Numbers the host can send
out of range are bit vectors or naturals; units that an event can only name in range are `Fin`. -/

namespace Sys2Proof

/-- What a packet brings besides its opcode and parameters (Tables 3-4 and 3-5). -/
structure Req where
  /-- The port the command came from (port codes, Table 3-9). -/
  port : Port
  /-- The tag the Placard echoes. -/
  tag : Byte := 0#8
  /-- Flag bit 0: the command executes at its launch value. -/
  sched : Bool := false
  /-- Flag bit 1: privileged authority asked for. -/
  priv : Bool := false
  /-- Flag bit 2: a Placard with OK or SCHEDULED is queued. -/
  reply : Bool := true
  /-- Flag bit 3: the payload ends with a MAC. -/
  auth : Bool := false
  /-- The launch value, meaningful when `sched` is set (R69). -/
  launch : W64 := 0#64
  /-- Header bytes 0 to 7 followed by the payload bytes before the MAC (R72, items 2 and 3). -/
  msg : List Byte := []
  /-- The 16 bytes of the MAC, when `auth` is set. -/
  mac : List Byte := []
  /-- The tick the effect instant falls on, when other commands may share it (R86); none: alone on its tick. -/
  tick : Option Nat := none
  deriving DecidableEq, Repr

/-- A unit reference: instance, then bank byte (R94). -/
structure UnitRef where
  inst : Byte
  bank : Byte
  deriving DecidableEq, Repr

/-- One ramp segment: signed slope and duration in ns (Table 4-10). -/
structure Seg where
  slope : Word
  dur : Word
  deriving DecidableEq, Repr

/-- One entry of a GROUP_FLIP: layer and surface base address (Table 4-8). -/
structure FlipEntry where
  layer : UnitRef
  surf : W64
  deriving DecidableEq, Repr

/-- One entry of an AUD_XBAR: destination, source, gain in 1/256 dB (Table 4-12). -/
structure XbarEntry where
  dst : Half
  src : Half
  gain : Half
  deriving DecidableEq, Repr

/-- The core clock generators of Table 8-3. -/
inductive CoreGen where
  | wing (w : Wing) | fabric | control
  deriving DecidableEq, Repr

/-- A control message as it arrives (Table 10-6). -/
structure Ctl where
  seq : Byte
  ack : Byte
  first : Bool := true
  last : Bool := true
  data : List Byte := []
  deriving DecidableEq, Repr

/-- An MST sideband request (R297). An allocation names the sub-stream, its pixel rate in Hz (0 frees it) and whether it is
compressed. -/
inductive SideReq where
  | linkAddress | enumPathResources (port : Nat) | allocatePayload (sub rate : Nat) (dsc : Bool) | clearPayloadIdTable
  | remoteDpcdRead (port addr len : Nat) | remoteI2cRead (port dev off len : Nat) | powerUpPhy | powerDownPhy | other
  deriving DecidableEq, Repr

/-- Main stream attributes with colorimetry and what the DSC picture parameters say (R298, R299): capture format code, active size, frame
rate in mHz, colour space code, the pixel clock in Hz that Mvid and Nvid give (R307), and for a compressed stream slices per line, slice width and compressed rate in
sixteenths of a bit. -/
structure MsaData where
  fmt : Nat
  w : Nat
  h : Nat
  rate : Nat
  color : Nat := 0
  clock : Nat := 0
  dsc : Option (Nat × Nat × Nat) := none
  deriving DecidableEq, Repr

/-- What the composers find at a commit tick: late Vitrine fetches, the Wings' CRC over the checked pixels, and the layers
whose route brought no frame in time (chapters 13 to 17). -/
structure TickObs where
  vitLate : Bool := false
  safeLate : Bool := false
  crcA : Option Word := none
  crcB : Option Word := none
  absent : List Nat := []
  deriving DecidableEq, Repr


/-- What a transaction that fails served, beside its master port (Table 20-5): a pipe's frame; a source tile of a layer, and whether the tile that would
replace it passes; a tile of the scan-out window; a packet of a port. -/
inductive BusUse where
  | other | frame (pipe : Fin 40) | source (o : Fin 20) (layer tile : Nat) (ok : Bool) | window (o : Fin 20) (row col : Nat) | packet (p : Port)
  deriving DecidableEq, Repr
/-- The target port of a transaction, and what the transaction served. -/
structure BusTarget where
  port : Fin 16
  use : BusUse
  deriving DecidableEq, Repr
/-- What there was of a CP3 transaction: the code received, if any; for a write, the packet bytes received so far; and for a read, how many bytes
the Ontor has clocked out. -/
structure SclCut where
  code : Option Byte := none
  got : List Byte := []
  n : Nat := 0
  deriving DecidableEq, Repr
/-- The row and column of a tile. -/
structure TileAt where
  row : Nat
  col : Nat
  deriving DecidableEq, Repr

/-- The commands and events, one constructor per row of spec/opcode_table.json, in its order. -/
inductive Instr where
  /-- WRITE_PACKET. A WRITE_PACKET transaction carrying these bytes after its code (R58, R67). -/
  | writePacket (port : Port) (bytes : List Byte)
  /-- READ_PLACARD. A READ_PLACARD transaction that clocks `n` bytes (R60). -/
  | readPlacard (port : Port) (n : Nat)
  /-- READ_PORT_STATUS. A READ_PORT_STATUS transaction that clocks `n` bytes (Table 3-3). -/
  | readPortStatus (port : Port) (n : Nat)
  /-- UNKNOWN_TRANSACTION. A transaction with the given code (R59). -/
  | unknownTransaction (port : Port) (code : Byte)
  /-- CP3_SCL_TIMEOUT. SCL low for more than 25 ms within a CP3 transaction, and what there was of it (R62). -/
  | cp3SclTimeout (got : SclCut)
  /-- CP2_PACKET_TIMEOUT. A CP2 packet not complete within 10 ms (R64). -/
  | cp2PacketTimeout
  /-- CP2_LINK_RETRY. 1 s after the CP2 port entered FAILED (R65). -/
  | cp2LinkRetry
  /-- BUILD_TIMEOUT. 10 s without IMAGE_DATA or IMAGE_CLOSE from the holder of the build buffer (R106). -/
  | buildTimeout
  /-- NOP. Opcode 0x00. -/
  | nop (q : Req)
  /-- IDENTIFY. Opcode 0x01. -/
  | identify (q : Req)
  /-- CLAIM. Opcode 0x02 (R98). -/
  | claim (q : Req) (cls first count bank : Byte) (force : Bool)
  /-- RELEASE. Opcode 0x03 (R99). -/
  | release (q : Req) (cls first count bank : Byte) (force : Bool)
  /-- OWNERS. Opcode 0x04. -/
  | owners (q : Req) (cls first count bank : Byte)
  /-- SYS_RESET. Opcode 0x05 (R100). -/
  | sysReset (q : Req) (scope : Byte) (confirm : Word)
  /-- WARM_RESET. The armed warm reset starts (R100, R614). -/
  | warmReset
  /-- READ. Opcode 0x10. -/
  | read (q : Req) (addr : Addr) (bank : Byte)
  /-- WRITE. Opcode 0x11 (R102). -/
  | write (q : Req) (addr : Addr) (bank : Byte) (value : Word)
  /-- WRITE_MASKED. Opcode 0x12 (R102). -/
  | writeMasked (q : Req) (addr : Addr) (bank : Byte) (mask value : Word)
  /-- BLOCK_READ. Opcode 0x13. -/
  | blockRead (q : Req) (addr : Addr) (bank count : Byte)
  /-- BLOCK_WRITE. Opcode 0x14; the count is the number of words. -/
  | blockWrite (q : Req) (addr : Addr) (bank : Byte) (values : List Word)
  /-- REGISTER_WRITE. A WRITE of an object word (R102, R15). -/
  | registerWrite (q : Req) (addr : Addr) (bank : Byte) (value : Word)
  /-- PRS_WRITE. A WRITE of PRS[0] (R103, R146 to R149). -/
  | prsWrite (q : Req) (word : Byte) (value : Word)
  /-- SYN_EN_WRITE. A masked write of SYN_EN (R209). -/
  | synEnWrite (q : Req) (syn : Byte) (en : Bool)
  /-- SYN_FREQ_WRITE. A WRITE of SYN_FREQ (R210). -/
  | synFreqWrite (q : Req) (syn : Byte) (value : Word)
  /-- SYN_DITHER_SEED_WRITE. A WRITE of SYN_DITHER_SEED (R219). -/
  | synDitherSeedWrite (q : Req) (syn : Byte) (seed : Word)
  /-- SYN_SPREAD_WRITE. A masked write of SYN_SS_MODE and SYN_SS_DEPTH (R220). -/
  | synSpreadWrite (q : Req) (syn : Byte) (mode : BitVec 2) (depth : Byte)
  /-- REF_CONFIG_WRITE. A WRITE of REF word 0x00 of a candidate (R176). -/
  | refConfigWrite (q : Req) (cand : Byte) (value : Word)
  /-- REF_RANK_WORD_WRITE. A WRITE of REF_RANK_LO or REF_RANK_HI (R184). -/
  | refRankWordWrite (q : Req) (hi : Bool) (value : Word)
  /-- CLR_TBL_WIN_WRITE. A WRITE of a CLR_TBL_WIN word (R141). -/
  | clrTblWinWrite (q : Req) (unit : UnitRef) (word : Byte) (value : Word)
  /-- W1C_CLEAR. A WRITE of a W1C word (R16, R102). -/
  | w1cClear (q : Req) (addr : Addr) (bank : Byte) (ones : Word)
  /-- CAP_MODE_WRITE. A WRITE of CAP_MODE (chapter 12). -/
  | capModeWrite (q : Req) (pipe : UnitRef) (value : Word)
  /-- EVT_CFG_WRITE. A WRITE of EVT_CFG (R581). -/
  | evtCfgWrite (q : Req) (source : Byte) (value : Word)
  /-- AUD_TDM_CFG_WRITE. A WRITE of AUD_TDM_CFG (chapter 19). -/
  | audTdmCfgWrite (q : Req) (port : Byte) (value : Word)
  /-- AUD_SRC_IN_WRITE. A WRITE of AUD_SRC_IN of converter instance `conv` (chapter 19). -/
  | audSrcInWrite (q : Req) (conv : Byte) (value : Word)
  /-- MODE_CHANGE. Opcode 0x20 (R104). -/
  | modeChange (q : Req) (target trigger output : Byte)
  /-- MODE_CANCEL. Opcode 0x21 (R105). -/
  | modeCancel (q : Req)
  /-- MODE_WAKE_WAIT_END. The wait MODE_WAKE_WAIT of a waking Wing ends (R47). -/
  | modeWakeWaitEnd
  /-- WING_READY. A waking, booting or re-admitted Wing finishes its readying (R47, R619). -/
  | wingReady (w : Wing)
  /-- WAKE_TIMEOUT. A waking Wing is not ready within 6 ms (R47). -/
  | wakeTimeout (w : Wing)
  /-- IMAGE_OPEN. Opcode 0x22 (R106). -/
  | imageOpen (q : Req) (kind mode : Byte) (total : Word)
  /-- IMAGE_DATA. Opcode 0x23 (R106). -/
  | imageData (q : Req) (offset : Word) (data : List Byte)
  /-- IMAGE_CLOSE. Opcode 0x24 (R107). -/
  | imageClose (q : Req) (action : Byte)
  /-- IMAGE_CLOSE_COMPLETE. The checks, and any Ledger copy write, of an IMAGE_CLOSE complete (R107). -/
  | imageCloseComplete
  /-- IMAGE_STATUS. Opcode 0x25 (Table 4-7). -/
  | imageStatus (q : Req)
  /-- ROUTE_SWITCH. Opcode 0x30. -/
  | routeSwitch (q : Req) (route : UnitRef) (kind : Byte) (pipe : UnitRef)
  /-- FLIP. Opcode 0x31 (R108). -/
  | flip (q : Req) (layer : UnitRef) (fence : Half) (surf : W64)
  /-- GROUP_FLIP. Opcode 0x32 (R108). -/
  | groupFlip (q : Req) (fence : Half) (entries : List FlipEntry)
  /-- FENCE_SIGNAL. Opcode 0x33. -/
  | fenceSignal (q : Req) (fence : Half)
  /-- OUTPUT_START. Opcode 0x34. -/
  | outputStart (q : Req) (output wing : Byte)
  /-- OUTPUT_START_INSTANT. The start instant c0 of an output in STARTING (chapter 17). -/
  | outputStartInstant (out : Fin 20)
  /-- OUTPUT_STOP. Opcode 0x35 (R109). -/
  | outputStop (q : Req) (output : Byte) (force : Bool)
  /-- OUTPUT_ASSIGN. Opcode 0x38 (R110). -/
  | outputAssign (q : Req) (output wing : Byte)
  /-- CAPTURE_START. Opcode 0x36. -/
  | captureStart (q : Req) (pipe : UnitRef)
  /-- CAPTURE_STOP. Opcode 0x37 (R109). -/
  | captureStop (q : Req) (pipe : UnitRef) (force : Bool)
  /-- TB_READ. Opcode 0x40 (R155). -/
  | tbRead (q : Req)
  /-- TB_SET. Opcode 0x41 (R156). -/
  | tbSet (q : Req) (ns : W64) (frac : Half)
  /-- SCHED_CANCEL. Opcode 0x42 (R112). -/
  | schedCancel (q : Req) (entry : Half) (tag : Byte)
  /-- SCHED_LIST. Opcode 0x43. -/
  | schedList (q : Req) (first count : Byte)
  /-- TRIGGER. Opcode 0x44 (R113). -/
  | trigger (q : Req) (port camera : Byte) (word : Word)
  /-- LAUNCH. A launch tick: the due schedule entries are launched (R159). -/
  | launch
  /-- TRIGGER_DEPARTURE. The first back-lane block carrying the trigger at the head of the queue starts `offset` ns after the launch tick (R171). -/
  | triggerDeparture (port : Fin 24) (offset : Nat)
  /-- REF_SELECT. Opcode 0x50 (R185). -/
  | refSelect (q : Req) (cand : Byte)
  /-- REF_RANK. Opcode 0x51 (R184). -/
  | refRank (q : Req) (cands : List Byte)
  /-- FSYNC_REALIGN. Opcode 0x52 (R202). -/
  | fsyncRealign (q : Req) (mask : Byte)
  /-- SYN_HOP. Opcode 0x53 (R213). -/
  | synHop (q : Req) (syn mem : Byte) (word : Word)
  /-- SYN_BAND_STORE. Opcode 0x54 (R212). -/
  | synBandStore (q : Req) (syn mem : Byte)
  /-- SYN_BAND_STORE_COMPLETE. The band memory write completes (R212). -/
  | synBandStoreComplete (syn : Fin 12)
  /-- SYN_RAMP_LOAD. Opcode 0x55 (R215). -/
  | synRampLoad (q : Req) (syn : Byte) (segs : List Seg)
  /-- SYN_RAMP_START. Opcode 0x56 (R216). -/
  | synRampStart (q : Req) (syn : Byte)
  /-- RAMP_STEP. A whole microsecond of a running ramp (R216). -/
  | rampStep (syn : Fin 12)
  /-- SYN_LOCK_ACQUIRED. A search or hop locks, in the band and with the post-divider the Ontor found (R204, R222). -/
  | synLockAcquired (syn : Fin 12) (band post : Nat)
  /-- SYN_UNGATE. Lock has held for 100 µs after a relock (R222). -/
  | synUngate (syn : Fin 12)
  /-- SYN_SEARCH_TIMEOUT. A band search has not locked within 400 µs (R222). -/
  | synSearchTimeout (syn : Fin 12)
  /-- SYN_LOSS_OF_LOCK. 4 consecutive comparisons beyond ±500 ps (R222). -/
  | synLossOfLock (syn : Fin 12)
  /-- CORE_CLOCK_LOSS. A core clock generator loses lock (Table 8-3). -/
  | coreClockLoss (gen : CoreGen)
  /-- LINK_UP. Opcode 0x60 (R115). -/
  | linkUp (q : Req) (port role step code : Byte)
  /-- LINK_DOWN. Opcode 0x61 (R244). -/
  | linkDown (q : Req) (port : Byte) (force : Bool)
  /-- LINK_POWER. Opcode 0x62 (R248 to R252). -/
  | linkPower (q : Req) (port dir state : Byte)
  /-- LINK_STATUS. Opcode 0x63. -/
  | linkStatus (q : Req) (port : Byte)
  /-- EYE_SCAN. Opcode 0x64 (R253, R254). -/
  | eyeScan (q : Req) (port lane dwell : Byte)
  /-- EYE_SCAN_COMPLETE. The eye scan of the port finishes with these 4,096 counts (R253). -/
  | eyeScanComplete (port : Fin 24) (counts : List Byte)
  /-- LINK_LOOP. Opcode 0x65 (R255 to R257). -/
  | linkLoop (q : Req) (port loop pair : Byte)
  /-- PLK_DETECT_CLOCK. 1,024 consecutive clock edges within tolerance (Table 9-4). -/
  | plkDetectClock (port : Fin 24)
  /-- PLK_LANE_LOCK. A receiving lane locks: 0 and 1 forward data, 2 back data (R246). -/
  | plkLaneLock (port : Fin 24) (lane : Fin 3)
  /-- PLK_LANE_LOCK_LOST. A locked lane loses lock after counting `invalid` invalid headers (R247). -/
  | plkLaneLockLost (port : Fin 24) (lane : Fin 3) (invalid : Nat)
  /-- PLK_ALIGN_TIMEOUT. 20 ms in ALIGN. -/
  | plkAlignTimeout (port : Fin 24)
  /-- CAPABILITY. A CAPABILITY packet, whole (R281). -/
  | capability (port : Fin 24) (packet : List Byte)
  /-- CAPABILITY_RESEND. 100 µs have passed in CAPABILITY (R282). -/
  | capabilityResend (port : Fin 24)
  /-- CAPABILITY_TIMEOUT. 5 ms in CAPABILITY. -/
  | capabilityTimeout (port : Fin 24)
  /-- PLK_STEP_TIMEOUT. 100 µs in STEP. -/
  | plkStepTimeout (port : Fin 24)
  /-- PLK_TRAIN_TIMEOUT. 10 ms in TRAIN. -/
  | plkTrainTimeout (port : Fin 24)
  /-- PLK_VERIFY_END. The 1 ms verification ends, `symbols` having been received (R240). -/
  | plkVerifyEnd (port : Fin 24) (symbols : Nat)
  /-- PLK_FALLBACK_TIMEOUT. A fallback restore fails within 10 ms. -/
  | plkFallbackTimeout (port : Fin 24)
  /-- PLK_RECOVER_TIMEOUT. 1 ms in RECOVER without relock. -/
  | plkRecoverTimeout (port : Fin 24)
  /-- PLK_CLOCK_LOST. No activity on a receiving clock lane for 10 µs. -/
  | plkClockLost (port : Fin 24)
  /-- HEARTBEAT_TIMEOUT. No valid packet for 1 ms on an active receiving direction (R274). -/
  | heartbeatTimeout (port : Fin 24)
  /-- BACKOFF_END. The BACKOFF wait ends (R242). -/
  | backoffEnd (port : Fin 24)
  /-- PLK_DRAIN_TIMEOUT. DRAIN reaches its bound (R244). -/
  | plkDrainTimeout (port : Fin 24)
  /-- HEARTBEAT_SEND. 100 µs have passed in RUNNING (R274). -/
  | heartbeatSend (port : Fin 24)
  /-- HEARTBEAT. A HEARTBEAT packet, whole. -/
  | heartbeat (port : Fin 24) (packet : List Byte)
  /-- VIDEO_LINE. A VIDEO_LINE packet, whole; on a frame's last packet, the net change of the front-end queue's fill over the frame (R285, R319). -/
  | videoLine (port : Fin 24) (packet : List Byte) (drift : Int)
  /-- TILE. A TILE packet, whole, with the same drift (R451). -/
  | tile (port : Fin 24) (packet : List Byte) (drift : Int)
  /-- AUDIO. An AUDIO packet, whole. -/
  | audio (port : Fin 24) (packet : List Byte)
  /-- FENCE. A FENCE packet, whole (R275). -/
  | fence (port : Fin 24) (packet : List Byte)
  /-- MARKER. A MARKER control block in position, with what the decoder found in its code frame (R268, R269). -/
  | marker (port : Fin 24) (lane : Fin 2) (count : Word) (corrected uncorrectable : Nat)
  /-- CP2_COMMAND. A CP2_COMMAND control message (R280). -/
  | cp2Command (port : Fin 24) (m : Ctl)
  /-- CP2_PLACARD. Every message carrying the oldest CP2 Placard has been acknowledged (R280). -/
  | cp2Placard (port : Fin 24)
  /-- ACK. An acknowledgement of the sequence numbers up to this one (R277). -/
  | ack (port : Fin 24) (upTo : Byte)
  /-- ACK_TIMER. 20 µs after a delivery with no packet to carry its acknowledgement (R277). -/
  | ackTimer (port : Fin 24)
  /-- RETRANSMIT_TIMEOUT. The oldest unacknowledged message reaches 200 µs (R278). -/
  | retransmitTimeout (port : Fin 24)
  /-- URGENT. An URGENT control block with a short-form TRIGGER (R279). -/
  | urgent (port : Fin 24) (m : Ctl)
  /-- POWER. A POWER control message (R250). -/
  | power (port : Fin 24) (m : Ctl)
  /-- TRAINING. A TRAINING control message (Table 10-7). -/
  | training (port : Fin 24) (m : Ctl)
  /-- END_OF_LINK. An END_OF_LINK control message. -/
  | endOfLink (port : Fin 24) (m : Ctl)
  /-- CAPABILITY_ACK. A CAPABILITY_ACK control message (R282). -/
  | capabilityAck (port : Fin 24) (m : Ctl)
  /-- FAILURE. A FAILURE control message. -/
  | failure (port : Fin 24) (m : Ctl)
  /-- BEACON. A beacon on the clock lane of a direction: 0 forward, 1 back (R251). -/
  | beacon (port : Fin 24) (dir : Fin 2)
  /-- POWER_REQUEST_TIMEOUT. A power request unanswered for 1 ms (R250). -/
  | powerRequestTimeout (port : Fin 24)
  /-- WAKE_TIMEOUT_PLK. A wake not complete within 1 ms of its bound (R252). -/
  | wakeTimeoutPlk (port : Fin 24)
  /-- TRAFFIC_IDLE_RETURN. 1 ms with nothing queued on a direction woken for traffic (R252). -/
  | trafficIdleReturn (port : Fin 24) (dir : Fin 2)
  /-- PLK_ERROR_WINDOW_END. A 1 s error window ends, `invalid` invalid headers having been counted in it (R288, R289). -/
  | plkErrorWindowEnd (port : Fin 24) (invalid : Nat)
  /-- AUX_REQUEST. A DisplayPort AUX request: 0 native read, 1 native write, 2 I²C read, 3 I²C write (R294). -/
  | auxRequest (port : Fin 4) (kind : Fin 4) (addr off len : Nat) (data : List Byte)
  /-- DP_LINK_TRAINING. The source completes link training at a rate code on 1, 2 or 4 lanes (R296). -/
  | dpLinkTraining (port : Fin 4) (rate : Fin 7) (lanes : Fin 3)
  /-- DP_LINK_LOSS. A trained link loses symbol lock, block lock or alignment (R296). -/
  | dpLinkLoss (port : Fin 4)
  /-- SIDEBAND_MESSAGE. An MST sideband request (R297). -/
  | sidebandMessage (port : Fin 4) (m : SideReq)
  /-- MSA. Main stream attributes of a sub-stream (R299). -/
  | msa (port : Fin 4) (sub : Fin 4) (m : MsaData)
  /-- AUDIO_SDP. Audio sample frames of a sub-stream, with the last frame's samples (R299). -/
  | audioSdp (port : Fin 4) (sub : Fin 4) (channels rate frames : Nat) (lpcm : Bool) (last : List Word)
  /-- FENCE_SDP. A secondary data packet with this header byte 1 (R299). -/
  | fenceSdp (port : Fin 4) (hb1 : Byte) (data : List Byte)
  /-- EDP_HPD_SETTLED. EDPp_HPD has been high for 2 ms; the panel supports the configured rate and lanes or not (Table 11-5). -/
  | edpHpdSettled (port : Fin 4) (supports : Bool)
  /-- EDP_TRAINING_DONE. An eDP training attempt ends (Table 11-5). -/
  | edpTrainingDone (port : Fin 4) (good : Bool)
  /-- EDP_IRQ_HPD. An IRQ_HPD pulse of the panel; the link status says the link is lost or not (R303). -/
  | edpIrqHpd (port : Fin 4) (lost : Bool)
  /-- EDP_PANEL_LOSS. EDPp_HPD low for more than 2 ms (R303). -/
  | edpPanelLoss (port : Fin 4)
  /-- CSI_FRAME_START. A frame-start short packet; `hdr` is 0 for a good header, 1 for one error bit, 2 for more (R306). -/
  | csiFrameStart (port : Fin 8) (vc : Fin 4) (hdr : Fin 3)
  /-- CSI_FRAME_END. A frame-end short packet; `drift` is the net change of the front-end queue's fill over the frame (R306, R319). -/
  | csiFrameEnd (port : Fin 8) (vc : Fin 4) (hdr : Fin 3) (drift : Int)
  /-- CSI_LONG_PACKET. A long packet: data type, word count, and whether its CRC is good (R306). -/
  | csiLongPacket (port : Fin 8) (vc : Fin 4) (hdr : Fin 3) (vcx : Bool) (dtype : Nat) (count : Nat) (good : Bool)
  /-- CSI_ULPS_ENTRY. The lanes of a receiver enter ULPS (R318). -/
  | csiUlpsEntry (port : Fin 8)
  /-- SOURCE_LOSS_TIMEOUT. No frame pulse within 2 × CAP_PERIOD or 400 ms; pipe number 40 × bank + instance (R318). -/
  | sourceLossTimeout (pipe : Fin 80)
  /-- FILL_COMPLETE. A FILLING pipe has filled its frame and feed (R323). -/
  | fillComplete (pipe : Fin 80)
  /-- COMMIT_TICK. A commit tick of an output (R360, R167). -/
  | commitTick (o : Fin 20) (obs : TickObs)
  /-- SWITCH_WAIT_BOUND. A route switch has waited 500 ms on an output (R335). -/
  | switchWaitBound (bank : Fin 2) (route : Fin 64) (o : Fin 20)
  /-- LOCK_POINT. A lock point of a source-locked output, and the pixel clocks that the crossing phases of R599 add to the count measured
  there (R426). -/
  | lockPoint (o : Fin 20) (phase : Int)
  /-- JOB_COMPLETE. A job finishes; the source tiles that its fetches found failed, by layer and tile: those that
  another replaces, and those whose replacement fails too (R457); and for a dual job, whether its two results agree, and whether a rerun's do where
  time remained for one (R375). A line job's row is its line. -/
  | jobComplete (w : Wing) (o : Fin 20) (row col : Nat) (fails lost : List (Nat × Nat)) (agree : Bool) (rerun : Option Bool)
  /-- JOB_DEADLINE_MISS. A job has not finished by its deadline; `late` is the memory port of the Wing whose source fetch is to blame (R374, R462). -/
  | jobDeadlineMiss (w : Wing) (o : Fin 20) (row col : Nat) (late : Option (Fin 2))
  /-- TILE_ROW_READ. The hold reader reads a tile row: the column and payload CRC of each tile in the window, none for a failed tile (R458). -/
  | tileRowRead (w : Wing) (o : Fin 20) (row : Nat) (tiles : List (Nat × Option Word))
  /-- RECOMPOSED_TILE_READ. A recomposed tile is read at its deadline, none where it is late or fails (R459). -/
  | recomposedTileRead (w : Wing) (o : Fin 20) (row col : Nat) (crc : Option Word)
  /-- AUD_XBAR. Opcode 0x70 (R117, R468). -/
  | audXbar (q : Req) (ramp : Bool) (entries : List XbarEntry)
  /-- XBAR_CHANGE_BOUNDARY. A 48 kHz boundary of SYN8 (R469). -/
  | xbarChangeBoundary
  /-- TDM_PORT_START. The first 48 kHz boundary of the clock of a TDM port that is to start (R476). -/
  | tdmPortStart (port : Fin 8)
  /-- TDM_PORT_STOP. The next boundary of the rate of a TDM port that is to stop (R476). -/
  | tdmPortStop (port : Fin 8)
  /-- CONVERTER_LOCK. A converter locks on its input (R479). -/
  | converterLock (conv : Fin 64)
  /-- CONVERTER_RATIO_MEASURE. A converter's measured ratio, unsigned 8.24 (R478). -/
  | converterRatioMeasure (conv : Fin 64) (ratio : Word)
  /-- MESH_DATA. Opcode 0x80 (R118). -/
  | meshData (q : Req) (mesh : UnitRef) (first : Word) (entries : List Word)
  /-- MESH_COMMIT. Opcode 0x81 (R119). -/
  | meshCommit (q : Req) (meshes : List UnitRef)
  /-- MESH_FROM_CAPTURE. Opcode 0x82 (R120). -/
  | meshFromCapture (q : Req) (mesh pipe : UnitRef) (first count : Word) (every commit : Bool)
  /-- BULK_TRANSFER_COMPLETE. The bulk mover's transfer in progress ends (R500). -/
  | bulkTransferComplete
  /-- TRANSACTION_TIMEOUT. A slice ends a transaction that took 65,536 cycles: slice 0 Wing A, 1 Wing B, 2 Atrium; and what it served (R494, R499). -/
  | transactionTimeout (slice : Fin 3) (master : Fin 16) (target : BusTarget)
  /-- VIT_DATA. Opcode 0x84 (R121). -/
  | vitData (q : Req) (slot : Byte) (offset : Word) (data : List Byte)
  /-- VIT_COMMIT. Opcode 0x85 (R380). -/
  | vitCommit (q : Req) (slot : Byte) (len crc : Word)
  /-- VIT_COMMIT_COMPLETE. The copies of a slot exchange roles (R378). -/
  | vitCommitComplete (slot : Fin 64)
  /-- LDG_READ. Opcode 0x90 (R122). -/
  | ldgRead (q : Req) (page : Half) (offset : Byte) (count : Half)
  /-- LDG_WRITE. Opcode 0x91 (R544). -/
  | ldgWrite (q : Req) (page : Half) (offset : Byte) (data : List Byte)
  /-- LDG_MAINT. Opcode 0x92 (R557). -/
  | ldgMaint (q : Req) (action region : Byte) (page : Half)
  /-- LDG_MAINT_COMPLETE. The maintenance action ends (R557). -/
  | ldgMaintComplete
  /-- LDG_WEAR. Opcode 0x93 (R548). -/
  | ldgWear (q : Req) (first count : Half)
  /-- LDG_PROGRAM_COMPLETE. The running program operation ends its verification; the groups that failed it (R542, R666). -/
  | ldgProgramComplete (failed : List Nat)
  /-- VLT_SECRET_WRITE. Opcode 0xA0 (R564). -/
  | vltSecretWrite (q : Req) (slot : Byte) (secret : List Byte)
  /-- VLT_DERIVE. Opcode 0xA1 (R566). -/
  | vltDerive (q : Req) (slot : Byte) (ctx : List Byte)
  /-- VLT_DERIVE_COMPLETE. The derivation ends (R566). -/
  | vltDeriveComplete
  /-- VLT_CHALLENGE. Opcode 0xA2 (R570). -/
  | vltChallenge (q : Req) (nonce : List Byte)
  /-- VLT_CHALLENGE_COMPLETE. The challenge computation ends (R570). -/
  | vltChallengeComplete
  /-- VLT_INVALIDATE. Opcode 0xA3 (R565). -/
  | vltInvalidate (q : Req) (slot : Byte)
  /-- VLT_STATUS. Opcode 0xA4 (R562). -/
  | vltStatus (q : Req)
  /-- TAMPER. TAMPER_N has been low for 1 µs (R573). -/
  | tamper
  /-- THM_MEASURE. Opcode 0xB0 (R529). -/
  | thmMeasure (q : Req) (mask : Half)
  /-- THERMAL_WATCH. A watch instant (R531). -/
  | thermalWatch
  /-- MEASUREMENT_COMPLETE. A conversion ends: the reading of each converted sensor in ascending order, none where its check failed (R532). -/
  | measurementComplete (readings : List (Option Half))
  /-- SHUTDOWN_STEP_2. Step 2 of the orderly shutdown; `bound` says its 100 ms bound has come (R537). -/
  | shutdownStep2 (bound : Bool)
  /-- SHUTDOWN_STEP_4. Step 4 of the orderly shutdown (R537). -/
  | shutdownStep4
  /-- THERMAL_TRIP. A comparator trips (R539). -/
  | thermalTrip
  /-- SELFTEST. Opcode 0xC0 (R125). -/
  | selftest (q : Req) (cls target : Byte) (unit : Half)
  /-- SELFTEST_COMPLETE. The test on a target ends; the failing unit and detail where it failed (R125). -/
  | selftestComplete (target : Fin 3) (failed : Option (Half × Word))
  /-- SELFTEST_ABORT. Opcode 0xC1 (R125). -/
  | selftestAbort (q : Req) (target : Byte)
  /-- FAULT_LOG_READ. Opcode 0xC2 (R590). -/
  | faultLogRead (q : Req) (first count : Half)
  /-- HEALTH_REPORT. Opcode 0xC3 (R525). -/
  | healthReport (q : Req) (wing : Byte)
  /-- FAILOVER_FORCE. Opcode 0xC4 (R124). -/
  | failoverForce (q : Req)
  /-- EVT_READ. Opcode 0xD0 (R584). -/
  | evtRead (q : Req) (count : Byte)
  /-- EVT_ACK. Opcode 0xD1 (R585). -/
  | evtAck (q : Req) (mask : List Byte)
  /-- WING_FAULT. A source of Table 21-3 with causes 1 to 5 fires; the cause less 1 (R510). -/
  | wingFault (w : Wing) (cause : Fin 5)
  /-- WING_SUPPLY_FAULT. A Wing's supply monitor reports a fault (R10). -/
  | wingSupplyFault (w : Wing)
  /-- GIVE_UP. G of a Wing; `both` says the other Wing's G is the same edge (R511). -/
  | giveUp (w : Wing) (both : Bool)
  /-- TAKEOVER. K of a fail-over; whether the standby's queues and line counts check (R516). -/
  | takeover (checks : Bool)
  /-- TILE_COMPARE. The comparator pairs two records: payload CRC and whether recomposed or concealed, none where absent (R512). -/
  | tileCompare (o : Fin 20) (tile : TileAt) (a b : Option (Word × Bool))
  /-- ARBITRATION_RESULT. A Wing's recomputation of a disagreed tile ends (R513). -/
  | arbitrationResult (o : Fin 20) (tile : TileAt) (w : Wing) (confirmed : Bool)
  /-- READMISSION_MONITOR_CLEAR. The monitors have been clear for 10 ms (R521). -/
  | readmissionMonitorClear (w : Wing)
  /-- READMISSION_MONITOR_TIMEOUT. The monitors are not clear within 1 s of G (R526). -/
  | readmissionMonitorTimeout (w : Wing)
  /-- READMISSION_TEST_DONE. The re-admission test ends; the class that failed (R521). -/
  | readmissionTestDone (w : Wing) (failed : Option Byte)
  /-- LOCKSTEP_MISMATCH. The cores of the command pair, or of the management pair, disagree (R12). -/
  | lockstepMismatch (mgmt : Bool)
  /-- PAIR_BACK_IN_SERVICE. A restarted pair is back (R12). -/
  | pairBackInService (mgmt : Bool)
  /-- CURATOR_WATCHDOG. Event 0 has not been raised 1 s after the Curator started (R615). -/
  | curatorWatchdog
  /-- REF_PULSE. A candidate's frame pulse arrives, `interval` ps after the one before (0 for the first). -/
  | refPulse (c : Fin 16) (interval : Nat)
  /-- REF_FREQ_MEASUREMENT. A 100 ms gate ends; `edges` were counted in it. -/
  | refFreqMeasurement (c : Fin 16) (edges : Nat)
  /-- REF_ACTIVITY_LOST. No edge or pulse for the time-out of Table 7-5. -/
  | refActivityLost (c : Fin 16)
  /-- REF_QUALIFIED. A candidate's qualification time ends (R181). -/
  | refQualified (c : Fin 16)
  /-- DPLL_COMPARISON. A phase comparison, with the phase error in ps. -/
  | dpllComparison (phase : Int)
  /-- HOLDOVER_INTERVAL_RECORD. A 100 ms interval ends with this average control value (R192). -/
  | holdoverIntervalRecord (avg : Int)
  /-- ACQUIRE_ALARM. The DPLL has been in ACQUIRE for 10 s (R191). -/
  | acquireAlarm
  /-- FSYNC_PULSE. An FSYNC output starts (or ends) its pulse (R200). -/
  | fsyncPulse (n : Fin 8) (high : Bool)
  /-- TB_PPS_PULSE. TB_PPS_OUT goes high at a whole second of the timebase, or low 4,096 ns later. -/
  | tbPpsPulse (high : Bool)
  /-- MR4_REFRESH_POLL. MR4 is read: its refresh code, and whether the device is above its operating limit (R445). -/
  | mr4RefreshPoll (port : Fin 4) (code : Byte) (hot : Bool)
  /-- MEMORY_TRAINING_COMPLETE. Training of a memory port ends, with the capacity found (R443). -/
  | memoryTrainingComplete (port : Fin 4) (trained : Bool) (gib : Nat)
  /-- PORST_N_ASSERT. PORST_N has been low for 10 µs (R610). -/
  | porstNAssert
  /-- POWER_LOSS. Power fails with this many groups of the running Ledger operation programmed (R547). -/
  | powerLoss (groups : Nat)
  /-- ATR_SUPPLY_FAULT. VDD_ATR has been outside ±10 % for 1 µs (R640). -/
  | atrSupplyFault
  /-- BOOT_START. PORST_N is released, or a warm reset hold ends: the strap balls and which Wing rails are valid (R619). -/
  | bootStart (strap : BitVec 3) (railA railB : Bool)
  /-- FLASH_LOAD_COMPLETE. The flash has been read: the bytes of its two copies (R617). -/
  | flashLoadComplete (copy0 copy1 : List Byte)
  /-- FLASH_LOAD_RETRY. 1 s has passed with no valid flash copy (Table 27-8). -/
  | flashLoadRetry
  /-- BOOT_MODE_APPLY. Step 8 of boot (R621). -/
  | bootModeApply
  /-- SAMPLE_BOUNDARY. A sample boundary of SYN8 (or SYN9) at a rate code, with the frame each running TDM input port has received (R484). -/
  | sampleBoundary (syn9 : Bool) (rate : Fin 3) (frames : List (Nat × List Word))
  /-- OUTPUT_LINE_BOUNDARY. The first pixel clock of a line of an output (R417). -/
  | outputLineBoundary (o : Fin 20) (line : Nat)
  /-- VB_ID_TRANSITION. A VB-ID transition that starts (or ends) vertical blanking (R175, R312). -/
  | vbIdTransition (port : Fin 4) (sub : Fin 4) (starts : Bool) (drift : Int)
  /-- CORE_CLOCK_REGAINED. A core clock generator regains lock (R227). -/
  | coreClockRegained (gen : CoreGen)
  /-- SYN_HOP_LOCK_TIMEOUT. A hop's stored band has not locked within 20 µs (R213). -/
  | synHopLockTimeout (syn : Fin 12)
  /-- EQUALISER_TRAINING_DONE. Training of the Ontor's own receiving lanes at a step finishes (R239). -/
  | equaliserTrainingDone (port : Fin 24)
  deriving DecidableEq, Repr

end Sys2Proof
end

