-- ==== Sys2Proof/Machine/Units.lean ====
section
/-! DEFINITION. The records of the units that State is made of. Every default value is the unit's value after reset. -/

namespace Sys2Proof.Machine
open Sys2Proof

/-! ## Command ports (chapter 03) -/

/-- A Placard (Table 3-8), without its sync byte, length and CRC, which `placardBytes` adds. -/
structure Placard where
  opcode : Byte
  tag : Byte
  status : Byte
  data : List Byte := []
  deriving DecidableEq, Repr

/-- A Placard waiting on a port, and whether it stands in a reserve slot or holds a credit (R75). -/
structure Waiting where
  plac : Placard
  reserve : Bool
  deriving DecidableEq, Repr

/-- One command port. -/
structure CmdPort where
  /-- The credit of a command that executes (R75). -/
  used : Nat := 0
  /-- Placards waiting, oldest first. -/
  queue : List Waiting := []
  /-- SYS_CPn_DISCARDS. -/
  discards : Byte := 0#8
  /-- SYS_CPn_LAST_STATUS. -/
  last : Byte := 0#8
  /-- Byte 2 bit 0 of the port status: an intake error since the last status read (Table 3-3). -/
  intakeErr : Bool := false
  /-- The authentication counter (R72). -/
  counter : W64 := 0#64
  /-- Bytes of a packet partly received on CP2 (R63). -/
  rx : List Byte := []
  deriving DecidableEq, Repr

/-- A packet that has passed the arrival checks and waits for its effect instant (R76). -/
structure Flight where
  port : Port
  /-- The counting edge in CLK_CTL, in ns. -/
  edge : Nat
  /-- The first tick at or after the effect instant E. -/
  eTick : Nat
  bytes : List Byte
  deriving DecidableEq, Repr

/-- The part of a command that a same-tick contest looks at (R86): the words it writes with the bits and
values, the instances it names or writes a word of, and the instances it disables, deletes or reassigns. -/
structure Foot where
  writes : List (Nat × Word × Word) := []
  touches : List Nat := []
  reassigns : List Nat := []
  deriving DecidableEq, Repr

/-- The statuses of Table 3-13. -/
inductive Status where
  | ok | scheduled | badOpcode | badLength | badCrc | badParam | range | busy | conflict | notOwner | linebufShort
  | noResource | authFail | keyRevoked | nvmWorn | nvmConflict | thermalRefused | modeForbids | internal
  deriving DecidableEq, Repr

/-- A refusal of a command: its status, the first offending object address and byte 3 (Table 3-9). Log entry 18 (DEDUCED). -/
structure Rej where
  status : Status
  addr : Addr := 0xFFFFFF#24
  b3 : Byte := 0#8
  deriving DecidableEq, Repr

/-- A command of the current tick whose outcome is decided and that has not acted yet (R86, R159, R667). -/
structure Decided where
  port : Port
  /-- The schedule-table entry it launches from; none for an immediate command. -/
  entry : Option Nat
  /-- Step 1 of Table 6-1: a TB_SET. -/
  setsTime : Bool
  /-- Why it changes nothing. -/
  rej : Option Rej
  deriving DecidableEq, Repr

/-- The IO lines of an SPI port at one rising SCLK edge: what the host drives and what the Ontor drives; a line that neither drives is in
high impedance. CP0 moves four bits a cycle, CP1 one (R58, R59). -/
structure SclkCycle where
  host : Option Nat := none
  ontor : Option Nat := none
  deriving DecidableEq, Repr
/-- One byte on the I²C lines, whether the Ontor drives it, and whether its receiver acknowledges it (R61). -/
structure I2cByte where
  byte : Byte
  ontor : Bool := false
  ack : Bool := true
  deriving DecidableEq, Repr

/-- All four ports and the intake. -/
structure Ports where
  cp0 : CmdPort := {}
  cp1 : CmdPort := {}
  cp2 : CmdPort := {}
  cp3 : CmdPort := {}
  /-- Packets between arrival and effect instant, in arrival order. -/
  flights : List Flight := []
  /-- Counting edges of the packets admitted under R78. -/
  admitted : List Nat := []
  /-- The tick that `decided` belongs to, and the commands decided on it that have still to act. -/
  decidedTick : Nat := 0
  decided : List Decided := []
  /-- The last transaction on each of CP0, CP1 and CP3: the bytes the Ontor drove in the data phase of a read, none in any other (R59, R60). -/
  driven : List Byte := []
  /-- The SCLK cycles of the last transaction on CP0 or CP1 (R58, R59), and the bytes of the last one on CP3, each with its acknowledgement (R61). -/
  cycles : List SclkCycle := []
  i2c : List I2cByte := []
  /-- The CP2 Placards already given to the link, from the oldest on (R66). -/
  cp2Sent : Nat := 0
  /-- The clock value at which the packet being put together on CP2 began (R64). -/
  cp2RxAt : Nat := 0
  /-- The CP3 address in force until the next STOP (R90). -/
  cp3Addr : Byte := 0x4C#8
  deriving DecidableEq, Repr

/-! ## Timebase and schedule (chapter 06) -/

/-- One waiting schedule-table entry (R158). -/
structure SchedEntry where
  launch : W64
  cmd : Instr
  /-- Acceptance order. -/
  seq : Nat
  /-- Passed over by a forward TB_SET (R157), or delayed by a command-pair restart (R164): 1 or 2. -/
  late : Nat := 0
  deriving DecidableEq, Repr

/-- The timebase and the schedule table. -/
structure Timebase where
  ns : W64 := 0#64
  frac : Half := 0#16
  /-- Counting since SYN11's first lock (R152). -/
  running : Bool := false
  /-- TB_LATE_CNT. -/
  lateCnt : Byte := 0#8
  /-- The 256 entries. -/
  entries : Tab (Option SchedEntry) := []
  /-- The next acceptance number. -/
  seq : Nat := 0
  /-- TB_PPS_OUT, and the clock value at which its last pulse started. -/
  pps : Bool := false
  ppsRose : Nat := 0
  /-- Clock value of the last tick whose step 1 of Table 6-1 has launched its entries. -/
  setsDone : Option Nat := none
  deriving DecidableEq, Repr

/-! ## Events (chapter 25) -/

/-- One entry of the event queue (Table 25-4). -/
structure EvEntry where
  ns : W64
  source : Nat
  /-- Flag bit 0: the time stamp is a commit tick. -/
  commit : Bool
  /-- Flag bit 1: raises went uncounted. -/
  sat : Bool
  count : Nat
  detail : Word
  /-- The tick of the raise, by the model's clock: raises of one tick stand in ascending event number (R578). -/
  tick : Nat := 0
  deriving DecidableEq, Repr

/-- One record waiting to be written to the fault log (R588). -/
structure LogItem where
  /-- 0 event, 1 boot epoch, 2 time epoch (Table 25-6). -/
  kind : Nat
  source : Nat
  ns : W64
  detail : Word
  deriving DecidableEq, Repr

/-- The event unit. -/
structure Events where
  /-- EVT_PENDING, bit s for source s. -/
  pending : BitVec 256 := 0#256
  /-- The sources raised on the tick `freshTick`: an EVT_ACK of that tick leaves their bits (R585). -/
  fresh : BitVec 256 := 0#256
  freshTick : Nat := 0
  queue : List EvEntry := []
  /-- EVT_QUEUE bits 31:16. -/
  lost : Nat := 0
  /-- The run of losses going on: its first tick and its length (R583). -/
  run : Option (W64 × Nat) := none
  /-- Per source, the timebase value of its last logged raise (R586). -/
  logged : Tab (Option W64) := []
  /-- The staging area of the fault log (R588). -/
  staged : List LogItem := []
  /-- A time epoch is due before the next event record, after a TB_SET (R587). -/
  epochDue : Bool := false
  deriving DecidableEq, Repr

/-! ## Long-running commands (R79, R97) -/

/-- What a long-running command holds or still has to do. -/
inductive Job where
  | prs (words : List (Nat × Word))
  | imageClose (action : Nat)
  | bandStore (syn mem : Nat)
  | eyeScan (port lane dwell : Nat)
  | vitCommit (slot len : Nat)
  | ldgWrite (page : Nat) (count : Nat)
  | ldgMaint (action region page : Nat)
  | secretWrite (slot : Nat)
  | derive (slot : Nat) (ctx : List Byte)
  | challenge (nonce : List Byte)
  | measure (mask : Nat)
  | selftest (cls target unit : Nat)
  deriving DecidableEq, Repr

/-- A long-running command that has started and not formed its Placard. -/
structure Run where
  req : Req
  opcode : Byte
  job : Job
  /-- Executed late or launched: its Placard is a launch Placard (Table 6-2). -/
  launched : Bool := false
  /-- The working key as it stood when the command started; it is the one a keyed operation uses (R567). -/
  key : Option (List Byte) := none
  /-- That key has been revoked while the command ran (R568). -/
  revoked : Bool := false
  /-- Its Ledger writes: 0 nothing against them, 1 a tie was resolved (with the four bytes of Table 3-9), 2 NVM_WORN. -/
  mark : Nat := 0
  tie : List Byte := []
  /-- An IMAGE_CLOSE with action 0x01 has passed its checks and writes its copy; a VLT_DERIVE's slot has changed (R569). -/
  phase : Nat := 0
  /-- Its Placard has been formed with INTERNAL (R12), and what other units do for it goes on. -/
  told : Bool := false
  deriving DecidableEq, Repr

/-! ## Modes and images (chapter 02) -/

/-- The trigger of an accepted mode change (R44). -/
inductive ModeTrigger where
  | entry (e : Nat) | atOnce | frame (out : Nat)
  deriving DecidableEq, Repr

/-- An accepted mode change that has not reached T. -/
structure ModePend where
  req : Req
  target : Nat
  trigger : ModeTrigger
  /-- The Wing being woken for it, and whether it is ready (R47). -/
  wake : Option (Wing × Bool) := none
  /-- Its launch value has come before the Wing was ready: the tick it first was due (event 4). -/
  dueAt : Option W64 := none
  /-- Clock values of the acceptance, and of the end of MODE_WAKE_WAIT (R47). -/
  askedAt : Nat := 0
  waitedAt : Option Nat := none
  deriving DecidableEq, Repr

/-- The build buffer while a port holds it (R106). -/
structure Build where
  port : Port
  kind : Nat
  mode : Nat
  total : Nat
  bytes : List Byte
  deriving DecidableEq, Repr

/-- The mode unit. -/
structure Modes where
  cur : Nat := 0
  /-- 0 STEADY, 1 WAKING, 2 PENDING, 3 APPLYING, 4 REFUSED (Table 2-8). -/
  state : Nat := 0
  target : Nat := 0
  old : Nat := 0
  seq : Byte := 0#8
  errStatus : Byte := 0#8
  lastErr : Addr := 0#24
  pend : Option ModePend := none
  /-- Outputs that have still to take their entries while APPLYING (R50). -/
  awaiting : List Nat := []
  /-- Layers that the change rewrites and whose output has not taken its entries: 192 × bank + layer (R49). -/
  layers : List Nat := []
  build : Option Build := none
  stagedBase : List Byte := []
  /-- The base image in effect. -/
  base : List Byte := []
  /-- The staged overlay of each mode 1 to 6; empty is none. -/
  overlays : Tab (List Byte) := []
  /-- The overlay that the mode in effect was entered with. -/
  curOverlay : List Byte := []
  /-- The Wing kept powered by the M5 in effect (R32). -/
  kept : Wing := .a
  deriving DecidableEq, Repr

/-! ## Reset, boot and the Curator (chapters 01 and 27) -/

/-- How far boot has come (Table 27-7). -/
inductive BootPhase where
  | held       -- in reset: PORST_N low, or the 100 µs of a warm reset
  | noSupply   -- held by an Atrium supply fault
  | rom        -- steps 1 to 3
  | noImage    -- step 3 with no valid flash copy
  | curator    -- steps 4 to 8
  | done       -- event 0 raised
  deriving DecidableEq, Repr

/-- One lockstep pair of the Curator (R12). -/
structure Pair where
  restarting : Bool := false
  held : Bool := false
  /-- Clock value of the last mismatch. -/
  last : Option Nat := none
  deriving DecidableEq, Repr

/-- Reset and boot state. -/
structure Boot where
  phase : BootPhase := .held
  /-- SYS_RST_CAUSE. -/
  cause : Nat := 0
  /-- SYS_STRAP_MODE. -/
  strap : BitVec 3 := 0#3
  /-- The boot attempt count (R615). -/
  attempts : Nat := 0
  /-- SYS_REMAP. -/
  remap : Bool := false
  fwVer : Word := 0#32
  /-- Clock values at the start of a warm reset, at the release of reset, at the last flash load that failed, and at the start of the Curator. -/
  resetAt : Nat := 0
  releasedAt : Nat := 0
  loadedAt : Nat := 0
  curatorAt : Nat := 0
  /-- A warm reset is armed to start at this clock value (R100). -/
  armed : Option Nat := none
  cmdPair : Pair := {}
  mgmtPair : Pair := {}
  /-- The next boot follows a warm reset, and the cause of it: 1 or 4 (Table 27-3). -/
  warm : Bool := false
  asked : Nat := 0
  /-- The rate code of the memory section. -/
  memRate : Nat := 0
  /-- Failures of boot, as events to be raised at T (R625). -/
  deferred : List (Nat × Word) := []
  /-- Wing A has missed its readying bound, so Wing B drives the boot-frame outputs (R620). -/
  aLate : Bool := false
  /-- Outputs running as boot-frame outputs until they take the effective configuration (R620). -/
  bootOuts : List Nat := []
  /-- VIT_POS and VIT_SIZE that the base image gives an output (R395). -/
  bootRects : Tab (Word × Word) := []
  /-- The rails that are valid. -/
  railA : Bool := false
  railB : Bool := false
  deriving DecidableEq, Repr

/-! ## References (chapter 07) -/

/-- One reference candidate. -/
structure Cand where
  present : Bool := false
  qualified : Bool := false
  everQualified : Bool := false
  /-- REF_OFFSET in 0.1 ppm, saturated to 16 bits. -/
  offset : Int := 0
  /-- The nominal rate found by the monitor, in Hz as a fraction; 0 over 1 for none (R178). -/
  nominal : Nat × Nat := (0, 1)
  /-- Beyond the accept limit at the last check (R182). -/
  outside : Bool := false
  /-- Consecutive checked intervals within the accept limit (R181). -/
  good : Nat := 0
  /-- The last pulse intervals, newest first, at most 4, in ps (Table 7-5). -/
  intervals : List Nat := []
  /-- Clock value at which its qualification time began. -/
  since : Nat := 0
  /-- Clock value of the last frame pulse that its capture source gave (kind 0). -/
  lastPulse : Option Nat := none
  deriving DecidableEq, Repr

/-- The DPLL. Log entry 33 (DEDUCED). -/
structure Dpll where
  /-- 0 FREERUN, 1 ACQUIRE, 2 LOCKED, 3 HOLDOVER (R188). -/
  state : Nat := 0
  active : Option Nat := none
  named : Option Nat := none
  inWin : Nat := 0
  outWin : Nat := 0
  /-- A phase step has still to be measured on the new reference (R195). -/
  measure : Bool := false
  /-- The offset stored in the 5400 style (R197), in ps. -/
  stored : Int := 0
  /-- The style in which the last change of active reference takes its phase step: the 5400 style (R197, R198). -/
  compat : Bool := false
  /-- Clock value of the entry into the state. -/
  since : Nat := 0
  /-- In ACQUIRE for more than 10 s (R191). -/
  slow : Bool := false
  /-- The native phase step being taken by the genlocked outputs, in ps (R196, R198). -/
  stepping : Option Int := none
  /-- The state that a reset left, until its transition is told (Table 7-6, Table 7-9). -/
  resetFrom : Option Nat := none
  /-- Averages recorded per 100 ms interval while LOCKED, with the clock value at the interval's end (R192). -/
  records : List (Nat × Int) := []
  /-- The holdover value in use. -/
  holdover : Option Int := none
  /-- Tiers in disagreement (R187). -/
  disagree : List Nat := []
  /-- The rate of the frame-phase instants, in Hz as a fraction; one a second until a frame reference is active (R420). -/
  phase : Nat × Nat := (1, 1)
  /-- One of the frame-phase instants, in ns of the model's clock; none until a frame reference first becomes active (R420). -/
  origin : Option Rat := none
  deriving DecidableEq, Repr

/-- One FSYNC output (R200 to R202). -/
structure Fsync where
  high : Bool := false
  /-- Aligned at least once, so the output runs on its period. -/
  running : Bool := false
  /-- A realignment is waiting for a source pulse: the byte-1 cause of event 187. -/
  waiting : Option Nat := none
  /-- Clock value at which the pulse of the last alignment starts; the output's period counts from it (R201). -/
  aligned : Nat := 0
  /-- Clock value at which the last pulse started. -/
  rose : Nat := 0
  deriving DecidableEq, Repr

/-! ## Synthesizers (chapter 08) -/

/-- One band memory (R212). -/
structure Band where
  band : Nat
  post : Nat
  /-- VCO frequency in word units: the frequency word times the post-divider. -/
  vco : Nat
  /-- The tuning measurement, whose form the spec does not give: a free value. -/
  tuning : Word := 0#32
  deriving DecidableEq, Repr

/-- What a synthesizer's loop is doing. -/
inductive SynTask where
  | idle | start | retune | hop (mem : Nat) | fallback (mem : Nat) | relock
  deriving DecidableEq, Repr

/-- One synthesizer. -/
structure Syn where
  locked : Bool := false
  gated : Bool := false
  task : SynTask := .idle
  /-- Locked after a relock and waiting out the 100 µs hold. -/
  holding : Bool := false
  /-- Clock values: when the task began, when the search in progress began, when the output was gated, and when lock was reached. -/
  since : Nat := 0
  searchAt : Nat := 0
  gatedAt : Nat := 0
  lockedAt : Nat := 0
  /-- Failed searches of the current relock (R222). -/
  fails : Nat := 0
  band : Nat := 0
  post : Nat := 0
  bands : Tab (Option Band) := []
  /-- The record that a SYN_BAND_STORE in progress writes, and into which memory. -/
  storing : Option (Nat × Band) := none
  /-- The loaded profile, and the segments of the ramp that runs with the clock value of its last step. -/
  profile : List Seg := []
  ramp : List Seg := []
  rampAt : Nat := 0
  ramping : Bool := false
  /-- Segment index and whole microseconds run in it. -/
  segIdx : Nat := 0
  segRun : Nat := 0
  /-- The 16 fraction bits below SYN_FREQ (R216). -/
  frac : Half := 0#16
  /-- The dither generator (R219). -/
  dither : BitVec 24 := 1#24
  /-- Spread mode and depth in effect (R220). -/
  spread : Nat × Nat := (0, 0)
  /-- A hop waiting for the commit tick of the one output it feeds (R214): memory and word. -/
  pendHop : Option (Nat × Word) := none
  deriving DecidableEq, Repr

/-- The core clock generators: a Wing's generator out of lock, and the Atrium fabric on its reserve (Table 8-3). -/
structure CoreClocks where
  lostA : Bool := false
  lostB : Bool := false
  reserve : Bool := false
  deriving DecidableEq, Repr

/-! ## The Vault (chapter 24) -/

/-- The Vault: the working key register and the slots' volatile state. -/
structure Vault where
  /-- The working key, none while none is loaded. -/
  key : Option (List Byte) := none
  /-- The slot the working key was derived from (R568). -/
  parent : Option Nat := none
  /-- A revoked key whose keyed operations still run: its parent, the port that revoked it, and the KEY_REVOKED Placards
  formed so far (R568). -/
  dying : Option (Nat × Port × Nat) := none
  /-- Slots invalidated since their last secret, whether or not the record is written yet (R565). -/
  gone : List Nat := []
  /-- The tamper latch (R573). -/
  tamper : Bool := false
  deriving DecidableEq, Repr

/-! ## Prenlink ports (chapters 09 and 10) -/

/-- A trigger that waits at the head of the back direction's queue, with its launch tick, and the latest departure offset that R171 and
R172 allow where nothing else holds it up (R170). -/
structure Trig where
  cam : Nat
  word : Word
  launch : W64
  tick : Nat := 0
  latest : Option Nat := none
  deriving DecidableEq, Repr

/-- A control message sent and not yet acknowledged, or waiting to be sent (R276 to R278). -/
structure CtlOut where
  /-- Its sequence number, once it has been sent. -/
  seq : Byte := 0#8
  sub : Byte
  data : List Byte
  /-- Byte 3 of the long form: bit 0 first fragment, bit 1 last fragment. -/
  frag : Byte := 3#8
  /-- How often it has been sent, and the clock value of the last sending. -/
  sends : Nat := 1
  sentAt : Nat := 0
  /-- A trigger, which leaves in an URGENT block. -/
  trig : Option Trig := none
  /-- It carries bytes of a Placard that waits on CP2 (R280). -/
  cp2 : Bool := false
  deriving DecidableEq, Repr

/-- The equaliser settings of a step (R237, R239): the forward transmitter's preset and fine cursors, and what the receiver adapted,
its peaking and eight taps, none for minimum peaking with the taps off. -/
structure Equal where
  preset : Nat := 0
  pre : Byte := 0#8
  post : Byte := 0#8
  adapted : List Byte := []
  deriving DecidableEq, Repr

/-- The transmitter of one data lane: its scrambler, the payloads covered so far and the parity still to be sent of the code frame in
progress, and the block last driven (R262, R267). -/
structure LaneTx where
  scr : Scr := 0#58
  cov : List (List Bool) := []
  par : List (List Bool) := []
  last : Option Block := none
  deriving DecidableEq, Repr
/-- What a port's transmitter holds (R261 to R273): the packets and URGENT blocks that wait, the frame count and the place in the code
frame, and its lanes; the back direction has one. -/
structure Sender where
  out : Outgoing := {}
  urgents : List (List Byte) := []
  frames : Word := 0#32
  pos : Nat := 0
  lane0 : LaneTx := {}
  lane1 : LaneTx := {}
  deriving DecidableEq, Repr

/-- The receiving lanes' lock and training of one end. -/
structure Lanes where
  d0 : Bool := false
  d1 : Bool := false
  back : Bool := false
  /-- The Ontor's own receiving lanes are trained at the step (R239). -/
  trained : Bool := false
  /-- The far end reported its lanes locked and trained. -/
  far : Bool := false
  deriving DecidableEq, Repr

/-- The counters of PLK words 0x01 to 0x03 and the error window (R288, R289). -/
structure PlkCount where
  crc : Nat := 0
  hdr : Nat := 0
  corr : Nat := 0
  uncorr : Nat := 0
  retx : Nat := 0
  /-- Combined count of the window, the counters that rose in it, and whether the last window was at the threshold. -/
  win : Nat := 0
  rose : BitVec 4 := 0#4
  overThr : Bool := false
  /-- The counts when the check of R240 began, the symbols corrected on each forward lane since then, and whether a lane lost lock. -/
  base : Nat := 0
  baseUncorr : Nat := 0
  corr0 : Nat := 0
  corr1 : Nat := 0
  lost : Bool := false
  deriving DecidableEq, Repr

/-- One Prenlink port. Log entry 9 (DESIGN CHOICE). -/
structure Plk where
  /-- PLK_BRINGUP (Table 9-3), and the clock value at which the port entered it. -/
  st : Nat := 0
  since : Nat := 0
  /-- PLK_ROLE: 0 source end, 1 sink end. -/
  role : Nat := 0
  /-- PLK_STEP. -/
  step : Nat := 0
  /-- PLK_RS_ON. -/
  rs : Bool := false
  /-- PLK_FWD_PWR and PLK_BCK_PWR. -/
  fwd : Nat := 3
  bck : Nat := 3
  /-- The states LINK_POWER commanded (R252). -/
  cmdFwd : Nat := 0
  cmdBck : Nat := 0
  /-- A direction that wakes: the clock value its wake is bound to end at (Table 9-5); a received one wakes until it is aligned and has
  passed the check of R240 (R252). -/
  wakeFwd : Option Nat := none
  wakeBck : Option Nat := none
  /-- The clock value from which the transmitted direction has had nothing queued (R252). -/
  idleAt : Nat := 0
  /-- The last beacon sent: the direction whose clock lane it was on, and the clock value at which it started (R251). -/
  beacon : Option (Nat × Nat) := none
  /-- The highest step, the code request and the acceptance of spreading taken at LINK_UP (R235, R238, R245). -/
  maxStep : Nat := 0
  askRs : Bool := false
  takesSpread : Bool := false
  /-- What the far end's block gave: its request for the code, its spreading, and the target step (R235, R238). -/
  farRs : Bool := false
  farSpread : Bool := false
  target : Nat := 0
  attempts : Nat := 0
  lanes : Lanes := {}
  /-- The equaliser settings in use, and those stored for the steps that passed training (R239). -/
  eq : Equal := {}
  stored : List (Nat × Equal) := []
  /-- The check of R240: passed at the Ontor's end, passed at the far end; and when it began. -/
  ownOk : Bool := false
  farOk : Bool := false
  checkAt : Nat := 0
  counts : PlkCount := {}
  /-- PLK_REMOTE_CAP, whether the far end's block has come and whether the Ontor's has been acknowledged. -/
  remote : Word := 0#32
  capIn : Bool := false
  capAcked : Bool := false
  window : Nat := 8
  /-- The next sequence number sent, and the last one received in order. -/
  txSeq : Byte := 0#8
  rxSeq : Byte := 0xFF#8
  unacked : List CtlOut := []
  waiting : List CtlOut := []
  /-- A delivery has still to be acknowledged, and the clock value of the delivery (R277). -/
  ackDue : Bool := false
  ackAt : Nat := 0
  /-- The clock value of the last valid packet received (R274). -/
  lastRx : Nat := 0
  hbCount : Half := 0#16
  triggers : List Trig := []
  /-- A power request the far end has not answered: direction, state and the clock value of the request (R250). -/
  request : Option (Nat × Nat × Nat) := none
  /-- The test loop running, and the port whose far-end loop this port pairs (R255 to R257). -/
  loop : Nat := 0
  pairOf : Option Nat := none
  /-- Going down (R244): the streams whose frames are waited for, each with its frame number; whether the LINK_DOWN was forced; and the bound
  of DRAIN in ns. -/
  draining : List (Nat × Option Nat) := []
  forced : Bool := false
  drainBound : Nat := 0
  /-- The receiving data lanes: forward 0 and 1, and back; and the place in the packet byte stream. -/
  rx0 : LaneRx := {}
  rx1 : LaneRx := {}
  rxb : LaneRx := {}
  rxs : Incoming := {}
  /-- The transmitter. -/
  send : Sender := {}
  /-- The PRBS31 generator of the test loops (R256). -/
  prbs : BitVec 31 := 0x7FFFFFFF#31
  /-- The frame number of the last video packet of each stream, which the Atrium's reference taps watch (R175). -/
  frameNums : Tab (Option Nat) := []
  /-- The last packet the port gave its transmitter. -/
  tx : List Byte := []
  /-- The step of the last entry into RUNNING, 8 before the first. -/
  runStep : Nat := 8
  /-- The clock value at which the error window started (R288). -/
  winAt : Nat := 0
  deriving DecidableEq, Repr

/-! ## Outputs (chapter 17) -/

/-- The state of an output (Table 17-4). -/
inductive OutState where
  | stopped | starting | running | draining | filling | fill | linkIdle | halted
  deriving DecidableEq, Repr

/-- A composition job (R372): its output, its tile's row and column or its line and 0, its rank (Table 14-7), its deadline in ps of the model's
clock, and whether it runs on two engines (R375). -/
structure EJob where
  out : Nat
  row : Nat
  col : Nat := 0
  rank : Nat := 4
  due : Int := 0
  dual : Bool := false
  /-- The Gallery that composed the tile at first, which an arbitration's recomposition stays away from (R513). -/
  avoid : Option Nat := none
  deriving DecidableEq, Repr
/-- An engine: the job it runs and since when, and until when it takes no job that the throttle gate pauses (R536). -/
structure Engine where
  job : Option EJob := none
  since : Nat := 0
  restTo : Nat := 0
  deriving DecidableEq, Repr
/-- The jobs of an output's frame that a Wing composes: the frame start in ps of the model's clock, the tile rows read from the window (R458), and the
first line or tile of rank 1 or 2, and of rank 4, not handed out yet. -/
structure FrameJobs where
  out : Nat
  start : Int := 0
  read : Nat := 0
  next : Nat := 0
  rest : Nat := 0
  deriving DecidableEq, Repr
/-- A Wing's dispatcher (R373): the frames whose jobs are eligible, the recompositions asked for, and the engines that are not idle and rested. -/
structure Dispatcher where
  frames : List FrameJobs := []
  recomp : List EJob := []
  engines : Tab Engine := []
  /-- The Gallery, and 1, that composed each tile last, by output, row and column. -/
  made : Tab Nat := []
  deriving DecidableEq, Repr
/-- One output. -/
structure Out where
  st : OutState := .stopped
  wing : Wing := .a
  /-- The part of native phase steps still to be taken, in pixel clocks; whether its first blanking is still to come; and whether a
  blanking of the frame in progress took some of it (R196, R199). -/
  stepLeft : Int := 0
  stepNew : Bool := false
  stepFrame : Bool := false
  /-- OUT_STATE bits 31:8 (R431). -/
  count : Nat := 0
  /-- The line the timing generator is in; at or above OUT_VACT it is in vertical blanking (R417). -/
  line : Nat := 0
  /-- The start instant s (R432), in ns of the model's clock. -/
  startAt : Nat := 0
  /-- The exact instants of the last line boundary and of the last frame start, in ns of the model's clock, and whether the boundary of the line
  in progress is still to be told (R417). -/
  lineAt : Rat := 0
  frameAt : Rat := 0
  atLine : Bool := false
  /-- The pixel clocks by which the blanking in progress is changed (R423). -/
  extra : Int := 0
  /-- The alignment instant last used, and the commit ticks until the one whose frame start should fall on the next; 0 while that is still to be
  found. The grid's φ where the grid is unrelated to the frame phase (R421 to R423). -/
  alignAt : Option Rat := none
  alignLeft : Nat := 0
  phi : Rat := 0
  /-- Source-locked: the last source frame pulse seen, the pulses left until the next lock point's, and the lock point that is to come (R425). -/
  lockSeen : Nat := 0
  lockLeft : Nat := 0
  lockAt : Option Rat := none
  /-- The first commit tick has passed since the last entry into STARTING. -/
  begun : Bool := false
  /-- Aligned (R424) or locked (R426). -/
  aligned : Bool := false
  /-- The ratio m/n found at its start or when following was enabled (R422, R425, R430). -/
  ratio : Option (Nat × Nat) := none
  /-- Whole lines and clocks of blanking adjustment still to be taken (R423), in pixel clocks, and whether they stem from a realignment. -/
  remain : Int := 0
  realign : Bool := false
  /-- Source-locked: consecutive good lock points, previous relative error times 2^32, base word, limit and absence reported (R426 to R428). -/
  goodLocks : Nat := 0
  prevErr : Int := 0
  baseWord : Word := 0#32
  atLimit : Bool := false
  absent : Bool := false
  /-- Event cause 10 has been reported for this grid (R421). -/
  gridTold : Bool := false
  /-- A boot-frame output, or one boot started, still runs free (R620, R622). -/
  forceFree : Bool := false
  /-- OUTPUT_STOP accepted: forced (the fill begins at the next line boundary) or drained; stops at the next line boundary where it came in blanking (R433). -/
  forced : Bool := false
  stopAtLine : Bool := false
  /-- Byte 2 of the stop's event (Table 17-7). -/
  stopWhy : Nat := 0
  /-- The Wing an OUTPUT_ASSIGN or mode change moves it to at the next line boundary (R9). -/
  assignTo : Option Wing := none
  /-- FILL is to be entered at the next line boundary (R520, Table 17-5). -/
  fillNext : Bool := false
  /-- An OUTPUT_ASSIGN was taken in FILL: RUNNING follows at the next commit tick. -/
  moved : Bool := false
  /-- In a fail-over gap: the gap ends with the new Wing, or in FILL (R517, R520). -/
  gap : Bool := false
  gapTo : Option Wing := none
  /-- A gap fell in the frame in progress, so it is not compared (R394, R512). -/
  gapInFrame : Bool := false
  /-- The last 256 commit ticks: a newly published frame was taken (R439). -/
  frcHist : List Bool := []
  /-- The dither state (R416). -/
  dither : Word := 0#32
  ditherLoad : Bool := true
  /-- The mode change disables the output at that blanking (R49). -/
  disableDue : Bool := false
  /-- Late jobs, recomposed and concealed tiles of the frame in progress; event 164 and 207 raised for it. -/
  recomposed : Nat := 0
  concealed : Nat := 0
  toldLate : Bool := false
  toldBw : Bool := false
  /-- Late jobs of the frame in progress, and whether the whole previous frame is repeated for them (R374). -/
  late : Nat := 0
  repeated : Bool := false
  /-- Recompositions dispatched and not read: 2^20 × Wing + 2^10 × row + column (R459). -/
  recomposing : List Nat := []
  /-- Tiles the frame records hold, by Wing, row and column as above, with payload CRC (R460, R461). -/
  record : Tab (Option Word) := []
  /-- Thermal shutdown: the next commit tick puts it to the safe patterns (Table 22-2); frames scanned out since. -/
  safeDue : Bool := false
  safeFrames : Nat := 0
  /-- The eDP backlight count of vertical blankings since training (Table 11-5). -/
  blWait : Nat := 0
  /-- M2: consecutive complete frames the standby composed with nothing against it (R515). -/
  goodFrames : Nat := 0
  toldArb : Bool := false
  /-- The frame in progress has a tile excluded because of the standby or an unresolved disagreement, or the standby did not
  compose all of it (R515). -/
  frameBad : Bool := true
  /-- A committed OUT_TIMING asks for a realignment at the next lock point (R428). -/
  relock : Bool := false
  /-- The fill of the genlocked queue into the hold stage, of a 16-entry depth; none from a loss of lock of one of its clocks until it is
  re-centred (R20, R22). -/
  queue : Option Nat := some 8
  /-- It has been re-centred, and the next frame has not begun (R22). -/
  recentred : Bool := false
  deriving DecidableEq, Repr

/-! ## Capture pipes (chapter 12) and the frame store (chapter 18) -/

/-- Where the pixels of a span come from: received bytes in a format of Table 12-4a, a fill colour, or content that no
command of the model carries, which is a run of free values starting at the given number. Log entry 61 (DESIGN CHOICE). -/
inductive SpanSrc where
  | bytes (fmt : Nat) (data : List Byte)
  | fill (colour : Word)
  | free (start : Nat)
  deriving DecidableEq, Repr

/-- A rectangle of received, filled or concealed pixels of a frame. Log entry 60 (DEDUCED). -/
structure Span where
  y : Nat
  rows : Nat
  x : Nat
  count : Nat
  src : SpanSrc
  deriving DecidableEq, Repr

/-- A published or unfinished frame: a surface of the frame store, held as the spans its pixels were taken from, the
first span that covers a pixel giving it, or as the tile records received (R451). Log entry 60 (DEDUCED). -/
structure Frame where
  base : Nat := 0
  /-- The surface format code (Table 18-4). -/
  fmt : Nat := 0
  w : Nat := 0
  h : Nat := 0
  /-- Publication tick and frame number (Table 18-2). -/
  tick : W64 := 0#64
  num : Nat := 0
  spans : List Span := []
  /-- A received tile stream (Table 18-2, flag bit 1), with the records stored as received, by tile number. -/
  isTiles : Bool := false
  tiles : Tab (List Byte) := []
  /-- Tiles stored as concealed copies. -/
  concealed : List Nat := []
  /-- How many of the spans, from the first on, were delivered; the others lie beneath (R321). -/
  own : Nat := 0
  deriving DecidableEq, Repr

/-- A standing MESH_FROM_CAPTURE request: mesh, first entry, count, every frame, commit at the frame's end (R120). -/
structure MeshReq where
  mesh : Nat
  first : Nat
  count : Nat
  every : Bool
  commit : Bool
  deriving DecidableEq, Repr

/-- One capture pipe. -/
structure Cap where
  /-- CAP_STATE (Table 12-1). -/
  st : Nat := 0
  /-- CAP_FORMAT, CAP_SIZE and CAP_PERIOD. -/
  fmt : Nat := 0
  w : Nat := 0
  h : Nat := 0
  period : Nat := 0
  locked : Bool := false
  /-- Consecutive frames that met R319. -/
  lockRun : Nat := 0
  /-- CAP_FRAMES. -/
  frames : Word := 0#32
  inFrame : Bool := false
  /-- Format, width and height of the detection frame held, or of the last complete frame in UNSUPPORTED. -/
  det : Option (Nat × Nat × Nat) := none
  /-- Timebase value of the last frame pulse, and the interval that ended there; 0 for none. -/
  pulse : Option W64 := none
  interval : Nat := 0
  /-- What is known of the frame in progress: format code, width, lines so far, its Prenlink frame number. -/
  curFmt : Nat := 0
  curW : Nat := 0
  curH : Nat := 0
  curNum : Option Nat := none
  /-- The resumption of HOLDING is still to be judged on the frame in progress (Table 12-2). -/
  judging : Bool := false
  /-- Height of the last frame where it was deviant, else 0 (R317). -/
  devH : Nat := 0
  /-- The frame in the write buffer; none while not storing, or dropped. -/
  write : Option Frame := none
  /-- Buffers allocated: base addresses, the one written longest ago first. -/
  bufs : List Nat := []
  /-- Published frames still in their buffers, newest first. -/
  hist : List Frame := []
  /-- Sequence number expected next on the Prenlink stream (R270). -/
  seqNext : Option Nat := none
  /-- What the stream carries: 0 not known, 1 lines, 2 tiles (R451). -/
  carries : Nat := 0
  /-- Largest tile column and row of the frame in progress, and of the detection frame. -/
  tileMax : Nat × Nat := (0, 0)
  tileDet : Nat × Nat := (0, 0)
  meshes : List MeshReq := []
  /-- The line-locked feed's most recent lines, newest first, at most 8 (R324). -/
  feed : List Nat := []
  /-- The fill of the front-end queue, whether it is a genlocked queue, and the whole lines that the last vertical blanking of a rate-adapting
  one repeated (1) or dropped (−1) (R20, R21, R319, R604). -/
  fill : Int := 8
  genlocked : Bool := false
  adapted : Int := 0
  /-- What the line-locked feed has delivered of the frame in progress (R324). -/
  live : Option Frame := none
  /-- The model's clock at the last frame pulse, and at the entry into FILLING (R318, R323). -/
  pulseAt : Nat := 0
  fillAt : Nat := 0
  /-- When the last pixel of each line came on the lanes, in ns from the frame pulse, in the frame in progress and in the one before it (R597, R599). -/
  lineTimes : Tab (Option Nat) := []
  lineTimesWas : Tab (Option Nat) := []
  deriving DecidableEq, Repr

/-- One memory port (R443, R444). -/
structure MemPort where
  gib : Nat := 0
  rate : Nat := 0
  trained : Bool := false
  mr4 : Nat := 0
  /-- The devices are in deep-sleep power-down (R32). -/
  asleep : Bool := false
  /-- Clock values of the end of training and of the last MR4 report taken (R445, R619). -/
  trainedAt : Nat := 0
  deriving DecidableEq, Repr

/-- One allocation of the frame store (R455): 0 a pipe's buffer, 1 an output's frame record. -/
structure Alloc where
  wing : Wing
  base : Nat
  size : Nat
  kind : Nat
  owner : Nat
  deriving DecidableEq, Repr

/-! ## Routes, layers, fences and sets (chapters 13 and 14) -/

/-- The switch state of a route on one output while it is not plainly STEADY on the route's word (Table 13-2). -/
structure RteOut where
  /-- 0 STEADY, 1 PENDING, 2 WAITING. -/
  st : Nat := 0
  /-- The model's clock at the entry into WAITING. -/
  since : Nat := 0
  /-- The source this output shows, where it is not RTE word 0x01 as in effect. -/
  src : Option Word := none
  /-- The last switch this output took was taken on the frame now shown (R340), and event 157 cause 1 stands reported. -/
  fresh : Bool := false
  told : Bool := false
  deriving DecidableEq, Repr

/-- A waiting flip of a layer. -/
structure Flip where
  fence : Option Nat
  addr : W64
  /-- Tick at which it entered the flip table. -/
  tick : W64
  deriving DecidableEq, Repr

/-- One layer's state (Table 14-2). -/
structure Lyr where
  st : Nat := 0
  misses : Nat := 0
  flip : Option Flip := none
  /-- The set of its pending change. -/
  set : Option Nat := none
  /-- The surface in use and the one before it: base addresses; resolved from a pipe's address (R453). -/
  surf : Option W64 := none
  prev : Option W64 := none
  pin : Option Nat := none
  /-- A flip has been taken. -/
  flipped : Bool := false
  /-- The frames in use by a route layer: N and P, and whether they are blended (R435 to R437). -/
  now : Option Frame := none
  before : Option Frame := none
  weight : Nat := 64
  /-- Nothing of the source is shown in this frame (R337, R347). -/
  blank : Bool := false
  /-- The output whose commit tick last judged it: a layer that moves is shown on its new output from that output's next commit tick on (R361). -/
  seenOn : Option Nat := none
  /-- Failed source tiles in the frame (R457). -/
  failed : Nat := 0
  toldFail : Bool := false
  /-- Those tiles, and whether a tile of the frame or surface before stands in for each (R457). -/
  bad : List (Nat × Bool) := []
  deriving DecidableEq, Repr

/-- A set of pending changes that are taken all or none (R359). Log entry 108 (DEDUCED). -/
structure FSet where
  members : List Nat := []
  /-- The fences bound to it (R363). -/
  fences : List Nat := []
  /-- The standing group's number. -/
  group : Option Nat := none
  /-- Formed by a GROUP_FLIP. -/
  isGroup : Bool := false
  port : Port := .cp0
  tag : Byte := 0#8
  released : Bool := false
  /-- Tick of the release. -/
  at_ : W64 := 0#64
  /-- Event 161 has been raised. -/
  held : Bool := false
  deriving DecidableEq, Repr

/-! ## The Vitrine layer (chapter 15) -/

/-- The condition of a Vitrine layer (Table 15-4). -/
inductive VitCond where
  | off | content | stale | safe | overridden
  deriving DecidableEq, Repr

/-- One Vitrine layer. -/
structure Vit where
  cond : VitCond := .off
  /-- VIT_STATE bits 11:8, 5:0, 31:16. -/
  stale : Nat := 0
  slot : Nat := 0
  fails : Nat := 0
  /-- The held copies of the slot's and the safe slot's images. -/
  held : Option (List Byte) := none
  heldSafe : Option (List Byte) := none
  /-- The CRC of the copy last shown. -/
  shownCrc : Word := 0#32
  /-- Consecutive mismatches and matches, the cause of SAFE, and frames in SAFE. -/
  bad : Nat := 0
  good : Nat := 0
  cause : Nat := 0
  inSafe : Nat := 0
  /-- VIT_CRC_EXP, and whether the frame has checked pixels. -/
  expect : Word := 0#32
  checked : Bool := false
  /-- A VIT_SLOT write was taken at this tick, or a fail-over changed the driving Wing (Table 15-5). -/
  fresh : Bool := false
  /-- CP1 wrote VIT_SLOT or VIT_ALPHA and the words wait. -/
  byCp1 : Bool := false
  deriving DecidableEq, Repr

/-- One Vitrine slot (R378). -/
structure Slot where
  verified : List Byte := []
  staging : List Byte := []
  len : Nat := 0
  crc : Word := 0#32
  /-- Clock value of the last fetch of the verified copy, and the clock value until which a fetch that began before the last
  exchange still reads the staging copy (R381). -/
  fetched : Option Nat := none
  readTo : Nat := 0
  deriving DecidableEq, Repr

/-! ## Meshes and colour tables (chapter 16) -/

/-- One warp mesh. -/
structure Mesh where
  /-- WRP_STATE bit 0: the front buffer. -/
  front : Bool := false
  accepted : Nat := 0
  /-- Outputs that have not taken the last swap, with the buffer each still reads (R119). -/
  lag : Tab (Option Bool) := []
  /-- Outputs that have taken the geometry waiting in the flip table (R409). -/
  took : List Nat := []
  deriving DecidableEq, Repr

/-- One colour pipeline's tables: front and back entries by number (table × 1024 + entry), where they differ from
Linear, and the tables written since the last commit (R141). -/
structure ClrTab where
  front : Tab (Option Half) := []
  back : Tab (Option Half) := []
  dirty : BitVec 2 := 0#2
  deriving DecidableEq, Repr

/-- One scaler: the layer it serves, the stripe count, and whether it serves a stripe beyond the first (R398, R401). -/
structure Scl where
  layer : Option Nat := none
  stripes : Nat := 0
  extra : Bool := false
  deriving DecidableEq, Repr

/-! ## Standard ports (chapter 11) -/

/-- The answer to an AUX request (R294): none while HPD is low. -/
inductive AuxReply where
  | none | ack (data : List Byte) | i2cNack
  deriving DecidableEq, Repr

/-- The answer to an MST sideband request (R297). -/
inductive Sideband where
  | none | ack | nakBadParam | nakResources
  /-- The logical ports of the branch; the pixel rate all its streams may have and what is left of it; the bytes of a remote read. -/
  | ackPorts (l : List Nat) | ackPath (total left : Nat) | ackData (d : List Byte)
  deriving DecidableEq, Repr

/-- One DisplayPort sink port. -/
structure Dps where
  hpd : Bool := false
  rate : Nat := 0
  lanes : Nat := 0
  trained : Bool := false
  /-- The DPCD bytes the source wrote, and the reply to the last request. -/
  dpcd : Tab (Option Byte) := []
  reply : AuxReply := .none
  /-- IRQ_HPD pulses driven since HPD rose, and the instant at which the last one began (R293). -/
  irqs : Nat := 0
  irqAt : Option Nat := none
  /-- The EDID served. -/
  edid : List Byte := []
  builtin : Bool := false
  /-- MST payloads: per sub-stream the pixel rate in Hz, and whether it is compressed. -/
  payload : Tab (Option (Nat × Bool)) := []
  /-- The pixel clock of each sub-stream in Hz, as its main stream attributes give it (R307). -/
  clock : Tab Nat := []
  /-- Main stream attributes per sub-stream: format code, width, height, colorimetry. -/
  msa : Tab (Option (Nat × Nat × Nat × Nat)) := []
  side : Sideband := .none
  /-- DSC streams, by sub-stream. -/
  compressed : BitVec 4 := 0#4
  /-- Logical ports reported by CONNECTION_STATUS_NOTIFY. -/
  notified : Nat := 0
  powered : Bool := true
  deriving DecidableEq, Repr

/-- One eDP source port (Table 11-5). -/
structure Edp where
  /-- 0 off, 1 waiting for HPD, 2 capabilities read and training, 3 trained, 4 abandoned. -/
  st : Nat := 0
  fails : Nat := 0
  hpd : Bool := false
  light : Bool := false
  /-- Vertical blankings since training, for the backlight. -/
  blank : Nat := 0
  out : Nat := 0
  deriving DecidableEq, Repr

/-- One CSI-2 receiver: per virtual channel, frame in progress, the image data type taken, and first frame reported. -/
structure Csi where
  busy : BitVec 4 := 0#4
  dtype : Tab Nat := []
  told : BitVec 4 := 0#4
  lines : Tab Nat := []
  ecc : Nat := 0
  crc : Nat := 0
  ulps : Bool := false
  deriving DecidableEq, Repr

/-! ## Audio (chapter 19) -/

/-- One destination lane of the crossbar. -/
structure XDest where
  /-- Source and gain from the last change boundary; 0xFFFF is silence. -/
  src : Half := 0xFFFF#16
  gain : Half := 0#16
  /-- The sample on the lane. -/
  sample : Word := 0#32
  /-- A running ramp: old source, gain at its start in 1/65536 dB, samples done, whole length; 0 for none. -/
  oldSrc : Half := 0xFFFF#16
  fromGain : Int := 0
  done : Nat := 0
  len : Nat := 0
  /-- Timebase value of the last saturation report. -/
  told : Option W64 := none
  deriving DecidableEq, Repr

/-- One converter. -/
structure Conv where
  src : Half := 0xFFFF#16
  locked : Bool := false
  /-- 0 none, 1 locked mode, 2 presentation, 3 FIFO. -/
  mode : Nat := 0
  ratio : Nat := 0
  muted : Bool := false
  /-- The fade step: 32 is full. -/
  fade : Nat := 0
  fadingOut : Bool := false
  /-- The model's clock at its last ratio measurement (R478). -/
  ratioAt : Option Nat := none
  /-- A write waits for the next 48 kHz boundary of SYN8 (R478). -/
  waiting : Bool := false
  deriving DecidableEq, Repr

/-- One TDM port. -/
structure Tdm where
  running : Bool := false
  /-- Halted by a gate (R473). -/
  halted : Bool := false
  stopping : Bool := false
  starting : Bool := false
  /-- The frame sent. -/
  sent : List Word := []
  /-- The model's clock at the write that starts or stops it. -/
  asked : Nat := 0
  deriving DecidableEq, Repr

/-- The boundaries of SYN8 or SYN9 since its ungating (R472): the last 192 kHz one, exactly, in ns of the model's clock, and how many came since the first;
the last boundary of each rate code, and the last one told. -/
structure AudioClock where
  on : Bool := false
  at_ : Rat := 0
  n : Nat := 0
  last : Tab Rat := []
  done : Tab (Option Rat) := []
  deriving DecidableEq, Repr

/-- One received audio stream. -/
structure Stream where
  /-- It has been received since it was last admitted. -/
  admitted : Bool := false
  channels : Nat := 0
  /-- Samples per second. -/
  rate : Nat := 0
  /-- The sequence number expected next. -/
  seq : Option Nat := none
  /-- Frames and presentation time of the last valid packet, and its last frame's samples. -/
  frames : Nat := 0
  pt : W64 := 0#64
  last : List Word := []
  /-- In FIFO mode because of a presentation time out of range (R480). -/
  fifo : Bool := false
  deriving DecidableEq, Repr

/-- A crossbar change that waits for its boundary (R469). -/
structure XChange where
  q : Req
  ramp : Bool
  entries : List XbarEntry
  /-- The entries on SYN8 have been taken; those on SYN9 wait for their own boundary. -/
  first : Bool := false
  /-- The model's clock at the command's tick. -/
  tick : Nat := 0
  deriving DecidableEq, Repr

/-- The audio unit. -/
structure Audio where
  clock8 : AudioClock := {}
  clock9 : AudioClock := {}
  dests : Tab XDest := []
  inputs : Tab Word := []
  convs : Tab Conv := []
  tdms : Tab Tdm := []
  streams : Tab Stream := []
  changes : List XChange := []
  buses : Tab (Option W64) := []
  /-- Windows sending (R483), and the samples gathered for the next packet. -/
  sending : Tab Bool := []
  gather : Tab (List Word) := []
  /-- The tick of the first frame gathered, and the next sequence number of each window's packets. -/
  gatherAt : Tab W64 := []
  seqs : Tab Nat := []
  deriving DecidableEq, Repr

/-! ## Wings and fail-over (chapter 21) -/

/-- One Wing's health counters (Table 21-9). -/
structure Health where
  lastCause : Nat := 0
  lastG : W64 := 0#64
  gaveUp : Nat := 0
  takeovers : Nat := 0
  compared : Nat := 0
  excluded : Nat := 0
  against : Nat := 0
  unresolved : Nat := 0
  reruns : Nat := 0
  lockstep : Nat := 0
  engine : Nat := 0
  supply : Nat := 0
  clock : Nat := 0
  diverged : Nat := 0
  vitrine : Nat := 0
  readmitted : Nat := 0
  deriving DecidableEq, Repr

/-- One Wing. -/
structure WingSt where
  /-- Table 21-1. -/
  role : Nat := 0
  /-- Bits 3:0 of the cause byte, re-admission in progress, held out. -/
  cause : Nat := 0
  readmit : Bool := false
  heldOut : Bool := false
  /-- Re-admission step: 0 none, 1 monitors, 2 readying, 3 test. -/
  step : Nat := 0
  armed : Bool := false
  health : Health := {}
  /-- Clock value of the last completed re-admission. -/
  readmittedAt : Option Nat := none
  /-- The supply monitor reports the rail outside its range. -/
  supplyBad : Bool := false
  clocksOff : Bool := false
  /-- A waking Wing has not been readied. -/
  waking : Bool := false
  ready : Bool := false
  /-- Pipes and routes whose last comparison found a divergence (R514). -/
  divPipes : List Nat := []
  divRoutes : List Nat := []
  /-- A give-up asserted and not yet visible at G: its cause (R511). -/
  asserted : Option Nat := none
  /-- The pipes that were started when the Wing gave up, and the failed test of a re-admission. -/
  pipes : List Nat := []
  /-- Clock values of the last G, and of the last sign of a supply or clock fault (R521). -/
  gAt : Nat := 0
  badAt : Nat := 0
  deriving DecidableEq, Repr

/-- A fail-over between G and K (R516). -/
structure Failover where
  old : Wing
  cause : Nat
  /-- Clock value of K. -/
  k : Nat
  deriving DecidableEq, Repr

/-- An arbitration of a cross-Wing disagreement (R513). -/
structure Arb where
  out : Nat
  row : Nat
  col : Nat := 0
  /-- Results for Wing A and B: none pending, some true confirmed, some false against. -/
  a : Option Bool := none
  b : Option Bool := none
  deriving DecidableEq, Repr

/-! ## Thermal management (chapter 22) -/

/-- One sensor. -/
structure Sensor where
  last : Half := 0#16
  ref : Option (Int × Nat) := none
  rising : Bool := false
  /-- 0 none, 1 warn: and the throttle level. -/
  warn : Bool := false
  thr : Nat := 0
  bad : Bool := false
  deriving DecidableEq, Repr

/-- The thermal manager. -/
structure Thermal where
  sensors : Tab Sensor := []
  /-- The mask in conversion and the merged mask of the next (R530). -/
  now : Option Nat := none
  next : Option Nat := none
  /-- Clock values of the start of that conversion (R529), and of the last watch instant that was served (R531). -/
  nowAt : Nat := 0
  watchAt : Option Nat := none
  /-- How many of the THM_MEASURE commands in progress the running conversion serves: the oldest ones. -/
  served : Nat := 0
  /-- The throttle level last reported for each Wing. -/
  lvlA : Nat := 0
  lvlB : Nat := 0
  /-- Shutdown step done: 0 none, 1 to 4 (Table 22-2), and the clock value of step 1. -/
  shut : Nat := 0
  shutAt : Nat := 0
  /-- The time by which restarts of the management pair have extended the bound of the step (Table 22-3). -/
  shutMore : Nat := 0
  /-- Step 1 was ended by its 100 ms bound. -/
  shutLate : Bool := false
  /-- Timebase value and detail of event 243, whose record is written in step 3 (R588). -/
  shutNs : W64 := 0#64
  shutDetail : Word := 0#32
  /-- PWR_OFF_REQ_N and THERM_TRIP_N held low; the trip latch. -/
  powerOff : Bool := false
  tripped : Bool := false
  tripLatch : Bool := false
  deriving DecidableEq, Repr

/-! ## The Ledger (chapter 23) and the interconnect (chapter 20) -/

/-- One program operation that waits or runs (R541, R546). -/
inductive LdgStep where
  /-- The data of an LDG_WRITE. -/
  | host (page off : Nat) (data : List Byte)
  /-- A record of a ring, with its body: the record without sequence, write count and CRC. -/
  | record (ring : Nat) (body : List Byte)
  /-- A Vault record, for a command of a port. -/
  | vault (slot state : Nat) (secret : List Byte) (port : Port)
  /-- A page of an image copy. -/
  | page (page : Nat) (data : List Byte)
  /-- A page scrub: the page copied to a scrub buffer, and rewritten from it. -/
  | scrubCopy (page buf : Nat)
  | scrubBack (page buf : Nat)
  /-- A page of a region erase. -/
  | erase (page : Nat)
  deriving DecidableEq, Repr

/-- A step that waits, and whether it is the first of its command (R546). -/
structure LdgWait where
  step : LdgStep
  lead : Bool := true
  deriving DecidableEq, Repr

/-- The program operation running: its step, the byte address and the bytes of the groups it covers, the groups among them still
to be programmed, and for a record its slot, its sequence and the slots that failed it. -/
structure LdgRun where
  step : LdgStep
  addr : Nat
  data : List Byte
  groups : List Nat
  again : Bool := false
  slot : Nat := 0
  seq : Nat := 0
  failed : List Nat := []
  deriving DecidableEq, Repr

/-- A settled tie that has still to be reported (R553): region, ring, winning slot, losing slot. -/
structure Tie where
  region : Nat
  ring : Nat
  win : Nat
  lose : Nat
  deriving DecidableEq, Repr

/-- The Ledger: array bytes that are not 0x00, page counters, operations in order, the volatile outcome of recovery. Log entry 89 (DEDUCED). -/
structure Ledger where
  bytes : Tab Byte := manufactured
  wear : Tab Nat := []
  run : Option LdgRun := none
  /-- Steps of commands that wait, in the order they will run. -/
  queue : List LdgWait := []
  /-- Retirement map records that follow a repeated record write (R552). -/
  retire : List LdgStep := []
  /-- The steps left of an image copy write or a maintenance action. -/
  task : List LdgStep := []
  /-- A task is in progress, and it has gone wrong: its command returns NVM_WORN. -/
  busy : Bool := false
  taskBad : Bool := false
  /-- The operations since the last step of a task: a PRS write, a fault-log record. -/
  hadPrs : Bool := false
  hadLog : Bool := false
  /-- Image copies a compaction has still to write: image, and the copy to write. -/
  rewrites : List (Nat × Nat) := []
  recovery : Nat := 0
  ties : Nat := 0
  open_ : List Tie := []
  /-- The scrub buffer the last scrub named. -/
  scrub : Nat := 1
  /-- Pages of a region erase still to be programmed after recovery, which read 0x00 meanwhile (R558). -/
  erase : List Nat := []
  /-- The task in progress as its journal record names it: operation, first page, page count and item (Table 23-6). -/
  journal : Nat × Nat × Nat × Nat := (0, 0, 0, 0)
  /-- The journal and every write are closed by the orderly shutdown (R537). -/
  closed : Bool := false
  /-- Boot count of the fault log, and milliseconds of the newest epoch record written in this boot. -/
  bootCount : Nat := 0
  epoch : Nat := 0
  deriving DecidableEq, Repr

/-- The bulk mover (R500). -/
structure Bmx where
  queue : List (Byte × Port × Byte × Nat) := []
  completed : Nat := 0
  /-- Span starts of events 224 and 226 per master and cause (R506). -/
  told : Tab (Option W64) := []
  priorities : List Byte := []
  sectionBad : Bool := false
  deriving DecidableEq, Repr

end Sys2Proof.Machine
end

