-- ==== Sys2Proof/Machine/State.lean ====
section
/-! DEFINITION. The state of the Ontor as plain data, its reset value, and the reasons a step can stop. -/

namespace Sys2Proof.Machine
open Sys2Proof

/-- Why a step stops with a fault. -/
inductive Fault where
  /-- Raised by the transaction rows (WRITE_PACKET, READ_PLACARD, READ_PORT_STATUS, UNKNOWN_TRANSACTION) when they name
  CP2 or an internal requester: R63 says transaction codes are not used on CP2, so no such transaction exists. Safe. -/
  | noTransactionHere
  deriving DecidableEq, Repr

/-- Why a command has no meaning here. -/
inductive Refusal where
  /-- Raised by `exec` alone, for a row that has no meaning yet. Safe. -/
  | notModelled (mnemonic : String)
  deriving DecidableEq, Repr

/-- The state of the Ontor. -/
structure State where
  /-- CLK_TB ticks (ns) since the model's start; it measures spans, and no command reads it. -/
  clk : Nat := 0
  ports : Ports := {}
  tb : Timebase := {}
  ev : Events := {}
  modes : Modes := {}
  boot : Boot := {}
  /-- Long-running commands in progress. -/
  runs : List Run := []
  /-- Object words: RW, WS and WP words in effect, and the RO and W1C words a unit keeps there (the status mirror, R16). -/
  words : Tab Word := []
  /-- The flip table's waiting WS values, as (mask, value) (R131). -/
  flip : Tab (Word × Word) := []
  /-- Owners of instances (R83). -/
  owners : Tab (Option Port) := []
  cands : Tab Cand := []
  dpll : Dpll := {}
  fsyncs : Tab Fsync := []
  syns : Tab Syn := []
  clocks : CoreClocks := {}
  vault : Vault := {}
  plks : Tab Plk := []
  outs : Tab Out := []
  caps : Tab Cap := []
  mem : Tab MemPort := []
  allocs : List Alloc := []
  /-- Started pipes, routes per output, layers, sets and the next set number, fence latches. -/
  rtes : Tab RteOut := []
  lyrs : Tab Lyr := []
  sets : Tab FSet := []
  nextSet : Nat := 0
  fences : BitVec 1024 := 0#1024
  /-- The fences signalled on the tick `signalTick` (R362). -/
  signals : List Nat := []
  signalTick : Nat := 0
  vits : Tab Vit := []
  slots : Tab Slot := []
  meshes : Tab Mesh := []
  /-- Warp store entries that are not 0, by Wing × 2^21 + entry. -/
  warp : Tab Word := []
  /-- Entries accepted since the last MESH_COMMIT launch of each Wing (R120). -/
  warpUsedA : Nat := 0
  warpUsedB : Nat := 0
  clrs : Tab ClrTab := []
  scls : Tab Scl := []
  dpss : Tab Dps := []
  edps : Tab Edp := []
  csis : Tab Csi := []
  audio : Audio := {}
  wingA : WingSt := {}
  wingB : WingSt := {}
  failover : Option Failover := none
  /-- The dispatchers of the Wings (R373). -/
  dispA : Dispatcher := {}
  dispB : Dispatcher := {}
  arbs : List Arb := []
  thermal : Thermal := {}
  ledger : Ledger := {}
  bmx : Bmx := {}
  /-- The level driven on each GPIO pad from the board. -/
  gpioIn : Half := 0#16
  /-- The model's own counter of free values drawn so far. -/
  freeCtr : Nat := 0
  /-- The commands that wait, first in, first out. -/
  pending : List Instr := []
  deriving DecidableEq, Repr

/-- The machine right after reset: every unit at its reset value (R128), memory and tables with nothing listed. Log entry 9 (DESIGN CHOICE). -/
def State.reset : State := {}

end Sys2Proof.Machine
end

