-- ==== Sys2Proof/Machine/Raise.lean ====
section
/-! DEFINITION. The operations under all others: object words, free values, events. -/

namespace Sys2Proof.Machine
open Sys2Proof

/-! ## Object words -/

/-- The stored word at an address, of Wing bank `bank` (0 for a class that is not banked). -/
def wget (s : State) (bank : Nat) (a : Addr) : Word := tget (resetWord (wkey bank a)) s.words (wkey bank a)
/-- Sets a stored word. -/
def wput (s : State) (bank : Nat) (a : Addr) (v : Word) : State :=
  { s with words := tput (resetWord (wkey bank a)) s.words (wkey bank a) v }
/-- The stored word of a class, instance and word number. -/
def word (s : State) (bank cls inst w : Nat) : Word := wget s bank (mkAddr cls inst w)
/-- Sets the stored word of a class, instance and word number. -/
def setWord (s : State) (bank cls inst w : Nat) (v : Word) : State := wput s bank (mkAddr cls inst w) v
/-- The value of a word once every entry waiting in the flip table has been taken (R664). -/
def projected (s : State) (bank cls inst w : Nat) : Word :=
  let k := wkey bank (mkAddr cls inst w)
  let e := tget (0#32, 0#32) s.flip k
  merge (word s bank cls inst w) e.1 e.2
/-- A saturating count of `n` bits. -/
def sat (n v : Nat) : Nat := min v (2 ^ n - 1)

/-! ## Free values -/

/-- A fresh free byte. -/
def drawByte (s : State) : Byte × State := (Config.freeByte s.freeCtr, { s with freeCtr := s.freeCtr + 1 })
/-- A fresh free word. -/
def drawWord (s : State) : Word × State := (Config.freeWord s.freeCtr, { s with freeCtr := s.freeCtr + 1 })
/-- `n` fresh free bytes. -/
def drawBytes (s : State) (n : Nat) : List Byte × State :=
  ((List.range n).map (fun i => Config.freeByte (s.freeCtr + i)), { s with freeCtr := s.freeCtr + n })

/-! ## Events (chapter 25) -/

/-- The 4-byte detail of an event, byte 0 first. -/
def det (b0 b1 b2 b3 : Nat) : Word := field 0 8 b0 ||| field 8 8 b1 ||| field 16 8 b2 ||| field 24 8 b3
/-- A detail whose bytes 2 and 3 hold a 16-bit number. -/
def det2 (b0 b1 n : Nat) : Word := field 0 8 b0 ||| field 8 8 b1 ||| field 16 16 n
/-- The EVT_CFG word of a source. -/
def evtCfg (s : State) (src : Nat) : Word := word s 0 0x25 0 src
/-- The sources that are always logged (R586). -/
def alwaysLogged (src : Nat) : Bool := [1, 2, 6, 232, 234, 243, 252].contains src

/-- The newest queue entry of a source with equal detail takes the raise (R582 case 1); newest-first list. -/
def coalesce (src : Nat) (d : Word) : List EvEntry → Option (List EvEntry)
  | [] => none
  | e :: r =>
    if e.source = src ∧ e.detail = d then
      some ((if e.count = 65535 then { e with sat := true } else { e with count := e.count + 1 }) :: r)
    else (coalesce src d r).map (e :: ·)

/-- An entry joins a queue, newest first: among the entries of its own tick in ascending event number (R578). Log entry 30 (DEDUCED). -/
def joinQueue (e : EvEntry) : List EvEntry → List EvEntry
  | [] => [e]
  | x :: r => if x.tick = e.tick ∧ e.source < x.source then x :: joinQueue e r else e :: x :: r
/-- A raise placed in the event queue (R582). Log entry 30 (DEDUCED). -/
def enqueue (ev : Events) (tick : Nat) (ns : W64) (src : Nat) (commit : Bool) (d : Word) : Events :=
  match coalesce src d ev.queue.reverse with
  | some q => { ev with queue := q.reverse }
  | none =>
    if ev.queue.length < 128 then
      { ev with queue := (joinQueue { ns := ns, source := src, commit := commit, sat := false, count := 1, detail := d, tick := tick }
                  ev.queue.reverse).reverse }
    else
      { ev with lost := sat 16 (ev.lost + 1), pending := ev.pending ||| (1#256 <<< 15), fresh := ev.fresh ||| (1#256 <<< 15),
                run := match ev.run with
                  | none => some (ns, 1)
                  | some (t, n) => some (t, n + 1) }

/-- Once the queue has room after a run of losses, one entry of event 15 is added (R583); no pending bit changes (R584). Log entry 29 (DEDUCED). -/
def settleLosses (ev : Events) : Events :=
  match ev.run with
  | none => ev
  | some (t, n) =>
    if ev.queue.length < 128 then
      { ev with run := none,
                queue := ev.queue ++ [{ ns := t, source := 15, commit := false, sat := false, count := 1,
                                        detail := det2 (sat 16 n % 256) (sat 16 n / 256) 0 }] }
    else ev

/-- A record placed in the staging area of the fault log; with the area full it is dropped and the pending bit and
queue entry of event 14 follow, which is itself never logged (R588). -/
def stageLog (ev : Events) (tick : Nat) (queued14 : Bool) (it : LogItem) : Events :=
  if ev.staged.length < 64 then { ev with staged := ev.staged ++ [it] }
  else
    let ev := { ev with pending := ev.pending ||| (1#256 <<< 14), fresh := ev.fresh ||| (1#256 <<< 14) }
    if queued14 then enqueue ev tick it.ns 14 false (det it.source 0 0 0) else ev

/-- Whether a raise is logged (R586). -/
def isLogged (s : State) (src : Nat) : Bool :=
  alwaysLogged src ||
  (bit (evtCfg s src) 3 && match tget none s.ev.logged src with
    | none => true
    | some t => decide (1000000000 ≤ (s.tb.ns - t).toNat))

/-- Logs a raise: the record waits in the staging area, after a time epoch where one is due (R587). -/
def logRaise (s : State) (src : Nat) (d : Word) : State :=
  let q14 := bit (evtCfg s 14) 0
  let ev := if s.ev.epochDue then
      { stageLog s.ev s.clk q14 { kind := 2, source := 0, ns := s.tb.ns, detail := 0#32 } with epochDue := false }
    else s.ev
  let ev := { ev with logged := tput none ev.logged src (some s.tb.ns) }
  { s with ev := stageLog ev s.clk q14 { kind := 0, source := src, ns := s.tb.ns, detail := d } }

/-- The pending bit and queue entry of a raise, without the fault log (R579, R582). -/
def post (s : State) (src : Nat) (commit : Bool) (d : Word) : State :=
  let fresh := if s.ev.freshTick = s.clk then s.ev.fresh else 0#256
  let ev := { s.ev with pending := s.ev.pending ||| (1#256 <<< src), fresh := fresh ||| (1#256 <<< src), freshTick := s.clk }
  { s with ev := if bit (evtCfg s src) 0 then enqueue ev s.clk s.tb.ns src commit d else ev }

/-- A source raises an event (R575 to R588). -/
def raise (s : State) (src : Nat) (d : Word) : State :=
  let s' := post s src false d
  if isLogged s src then logRaise s' src d else s'
/-- A raise stamped with a commit tick (Table 25-4, flag bit 0). -/
def raiseCommit (s : State) (src : Nat) (d : Word) : State :=
  let s' := post s src true d
  if isLogged s src then logRaise s' src d else s'

end Sys2Proof.Machine
end

