-- ==== Sys2Proof/Machine/Control.lean ====
section
/-! DEFINITION. What a Prenlink port gives its transmitter: packets and control messages, the wake that traffic asks for, and the Placards of
CP2 (R66, R250 to R252, R270 to R280). -/

namespace Sys2Proof.Machine
open Sys2Proof

/-- One Prenlink port. -/
def plk (s : State) (n : Nat) : Plk := tget {} s.plks n
/-- Sets one Prenlink port. -/
def setPlk (s : State) (n : Nat) (p : Plk) : State := { s with plks := tput {} s.plks n p }
/-- The nominated CP2 port, while CP2 is enabled (R63). -/
def cp2Port (s : State) : Option Nat :=
  let w := word s 0 0x26 0 1
  if bit w 0 then some (bits w 12 8) else none

/-- PLK_ROLE as it is shown: 0 in the near-end loops (R256). -/
def shownRole (p : Plk) : Nat := if p.st = 13 ∧ (p.loop = 1 ∨ p.loop = 2) then 0 else p.role
/-- PLK word 0x04 (RW). -/
def plkCfg (s : State) (n : Nat) : Word := word s 0 0x08 n 4
/-- The state-change event 32 + 2n (Table 9-8). -/
def plkEvent (s : State) (n cause : Nat) (pwr : Nat) (back : Bool) : State :=
  let p := plk s n
  raise s (32 + 2 * n) (det p.st (p.step + 8 * shownRole p + 16 * b2n p.rs + 32 * pwr + 128 * b2n back) cause (sat 8 p.attempts))
/-- A packet of the link layer (R270, Table 10-2). -/
def plkPacket (ty stream seq : Nat) (payload : List Byte) : List Byte :=
  let h := [BitVec.ofNat 8 ty, BitVec.ofNat 8 stream] ++ leBytes 2 payload.length ++ leBytes 2 seq ++ [0#8]
  h ++ [crc8 h] ++ payload ++ leBytes 4 (crc32c payload).toNat
/-! ## Power states (R248 to R252) -/

/-- The direction the Ontor's end transmits: forward as the source end, back as the sink end. -/
def txDir (p : Plk) : Nat := p.role
/-- The power state of a direction. -/
def powerOf (p : Plk) (dir : Nat) : Nat := if dir = 0 then p.fwd else p.bck
/-- A direction's power state reads anew; each change raises the event with cause 13 (R260). -/
def setPwr (s : State) (n dir st : Nat) : State :=
  let p := plk s n
  if powerOf p dir = st then s
  else plkEvent (setPlk s n (if dir = 0 then { p with fwd := st } else { p with bck := st })) n 13 st (decide (dir = 1))
/-- The bound of a wake from a power state, in ns (Table 9-5). -/
def wakeBound (st : Nat) : Nat := match st with | 1 => 2000 | 2 => 50000 | 3 => 1000000 | _ => 0
/-- Notes that a direction wakes until a clock value, or no longer. -/
def setWake (p : Plk) (dir : Nat) (w : Option Nat) : Plk := if dir = 0 then { p with wakeFwd := w } else { p with wakeBck := w }
/-- A direction's wake. -/
def wakeOf (p : Plk) (dir : Nat) : Option Nat := if dir = 0 then p.wakeFwd else p.wakeBck
/-- The Ontor wakes the direction it transmits with a beacon on that direction's clock lane. A sink end's back direction has no clock while
its forward direction is in SLEEP or OFF: from SLEEP a beacon on the back clock lane asks for the forward direction first (R251). -/
def wakeTx (s : State) (n : Nat) : State :=
  let p := plk s n
  let d := txDir p
  let old := powerOf p d
  if old = 0 then s
  else if p.role = 1 ∧ 2 ≤ p.fwd then (if p.fwd = 2 then setPlk s n { p with beacon := some (1, s.clk) } else s)
  else setPwr (setPlk s n (setWake { p with beacon := some (d, s.clk) } d (some (s.clk + wakeBound old)))) n d 0
/-- Traffic is queued: in RUNNING a direction in STANDBY or SLEEP wakes for it (R252). -/
def wakeForTraffic (s : State) (n : Nat) : State :=
  let p := plk s n
  if p.st = 8 ∧ (powerOf p (txDir p) = 1 ∨ powerOf p (txDir p) = 2) then wakeTx s n else s

/-! ## Packets and control messages (R270 to R278) -/

/-- A packet joins what the port sends: 0 a retransmitted control message, 1 a control message, 2 CAPABILITY, 3 HEARTBEAT, 5 AUDIO,
6 VIDEO_LINE (R273). A HEARTBEAT is no traffic that keeps a direction awake (R252). -/
def sendPacket (s : State) (n rank : Nat) (b : List Byte) : State :=
  let p := plk s n
  setPlk s n { p with tx := b, idleAt := if rank = 3 then p.idleAt else s.clk, send := { p.send with out := { p.send.out with queue := joinSend rank b p.send.out.queue } } }
/-- The payload of a control message in long form (Table 10-6). -/
def ctlPayload (sub seq ack frag : Byte) (data : List Byte) : List Byte :=
  [sub, seq, ack, frag] ++ leBytes 2 data.length ++ [0#8, 0#8] ++ data
/-- A control message goes out with its sequence number and the acknowledgement due: a trigger in an URGENT block, any other in a CONTROL
packet (R276, R279). -/
def transmitCtl (s : State) (n rank : Nat) (m : CtlOut) : State :=
  let p := plk s n
  let s := setPlk s n { p with ackDue := false }
  if m.trig.isSome then
    let p := plk s n
    setPlk s n { p with idleAt := s.clk, send := { p.send with urgents := p.send.urgents ++ [urgentBytes m.seq p.rxSeq m.sub m.data] } }
  else sendPacket s n rank (plkPacket 0x15 0 0 (ctlPayload m.sub m.seq p.rxSeq m.frag m.data))
/-- A message is sent for the first time: it takes the next sequence number and waits for its acknowledgement (R277). -/
def launchCtl (s : State) (n : Nat) (m : CtlOut) : State :=
  let p := plk s n
  let m := { m with seq := p.txSeq, sentAt := s.clk }
  transmitCtl (setPlk s n { p with unacked := p.unacked ++ [m], txSeq := p.txSeq + 1 }) n 1 m
/-- The window has room for one more message (R277, R282). -/
def windowOpen (p : Plk) : Bool := decide (p.unacked.length < min 8 p.window)
/-- A control message is sent, or waits while the window is full (R277). -/
def postCtl (s : State) (n : Nat) (m : CtlOut) : State :=
  let p := plk s n
  let s := if windowOpen p && decide (p.waiting = []) then launchCtl s n m else setPlk s n { p with waiting := p.waiting ++ [m] }
  wakeForTraffic s n
/-- A control message in one fragment. -/
def sendCtl (s : State) (n : Nat) (sub : Byte) (data : List Byte) : State := postCtl s n { sub := sub, data := data }
/-- Placards delivered on CP2 leave its queue (R66, R280). -/
def cp2Delivered (s : State) (k : Nat) : State :=
  let k := min k s.ports.cp2Sent
  { s with ports := { s.ports with cp2 := { s.ports.cp2 with queue := s.ports.cp2.queue.drop k }, cp2Sent := s.ports.cp2Sent - k } }
/-- A message ends a Placard that waits on CP2. -/
def endsPlacard (m : CtlOut) : Bool := m.cp2 && m.frag.getLsbD 1
/-- An acknowledgement releases every message up to its sequence number; waiting ones are sent, and Placards whose messages are all
acknowledged are delivered (R277, R280). -/
def takeAck (s : State) (n : Nat) (upTo : Byte) : State :=
  let p := plk s n
  if !p.unacked.any fun m => decide (m.seq = upTo) then s
  else
    let keep := (p.unacked.dropWhile fun m => m.seq ≠ upTo).drop 1
    let gone := p.unacked.take (p.unacked.length - keep.length)
    let room := min 8 p.window - keep.length
    let s := cp2Delivered (setPlk s n { p with unacked := keep, waiting := p.waiting.drop room }) (gone.countP endsPlacard)
    (p.waiting.take room).foldl (fun s m => launchCtl s n m) s

/-! ## Placards on CP2 (R63, R66, R280) -/

/-- The bytes of a Placard (Table 3-8). -/
def placardBytes (p : Placard) : List Byte :=
  let b := [0x5A#8, p.opcode, p.tag, p.status] ++ leBytes 2 p.data.length ++ p.data
  b ++ leBytes 4 (crc32c b).toNat

/-- Bytes cut into messages of at most 256: all but the last one full, with first and last marked. -/
def cp2Messages : Nat → Bool → List Byte → List CtlOut
  | 0, _, _ => []
  | k + 1, first, b =>
    { sub := 0x02#8, data := b.take 256, frag := BitVec.ofNat 8 ((if first then 1 else 0) + (if k = 0 then 2 else 0)), cp2 := true }
      :: cp2Messages k false (b.drop 256)
/-- Every Placard that waits on CP2 and has not been sent goes out while the port is linked (R66). -/
def cp2Flush (s : State) : State :=
  match cp2Port s with
  | none => s
  | some n =>
    if (plk s n).st ≠ 8 then s
    else
      let ms := (s.ports.cp2.queue.drop s.ports.cp2Sent).flatMap fun w =>
        let b := placardBytes w.plac
        cp2Messages ((b.length + 255) / 256) true b
      ms.foldl (fun s m => postCtl s n m) { s with ports := { s.ports with cp2Sent := s.ports.cp2.queue.length } }

end Sys2Proof.Machine
end

