-- ==== Sys2Proof/Machine/Ops.lean ====
section
/-! DEFINITION. The named operations over the state that every family uses: Placards and credits, ownership, the Curator pairs. -/

namespace Sys2Proof.Machine
open Sys2Proof

/-! ## Status codes and Placards (chapter 03) -/

/-- The code of a status (Table 3-13). -/
def stCode : Status → Byte
  | .ok => 0x00 | .scheduled => 0x01 | .badOpcode => 0x10 | .badLength => 0x11 | .badCrc => 0x12 | .badParam => 0x13
  | .range => 0x14 | .busy => 0x20 | .conflict => 0x21 | .notOwner => 0x22 | .linebufShort => 0x30 | .noResource => 0x31
  | .authFail => 0x40 | .keyRevoked => 0x41 | .nvmWorn => 0x50 | .nvmConflict => 0x51 | .thermalRefused => 0x60
  | .modeForbids => 0x70 | .internal => 0x7F

/-- The statuses whose Placard carries an object address (Table 3-9). -/
def hasAddr : Status → Bool
  | .badParam | .range | .notOwner | .conflict | .modeForbids | .noResource | .linebufShort => true
  | _ => false
/-- The Placard data of a refusal, for a status other than AUTH_FAIL (Table 3-9). -/
def rejData (r : Rej) : List Byte := if hasAddr r.status then leBytes 3 r.addr.toNat ++ [r.b3] else []

/-- One port's state. An internal requester has none. -/
def getPort (s : State) : Port → CmdPort
  | .cp0 => s.ports.cp0 | .cp1 => s.ports.cp1 | .cp2 => s.ports.cp2 | .cp3 => s.ports.cp3 | _ => {}
/-- Sets one port's state. -/
def setPort (s : State) (p : Port) (c : CmdPort) : State :=
  match p with
  | .cp0 => { s with ports := { s.ports with cp0 := c } }
  | .cp1 => { s with ports := { s.ports with cp1 := c } }
  | .cp2 => { s with ports := { s.ports with cp2 := c } }
  | .cp3 => { s with ports := { s.ports with cp3 := c } }
  | _ => s

/-- The credits a port has in use: the command that executes, packets in flight, long-running commands whose own Placard is to come, and
Placards that wait on a credit (R75). Log entry 23 (DEDUCED). -/
def creditsUsed (s : State) (p : Port) : Nat :=
  (getPort s p).used + (s.ports.flights.filter (fun f => f.port = p)).length
  + (s.runs.filter (fun r => decide (r.req.port = p) && !r.launched && !r.told)).length
  + ((getPort s p).queue.filter (fun w => !w.reserve)).length
/-- Free credits of a port. Log entry 23 (DEDUCED). -/
def creditsFree (s : State) (p : Port) : Nat := portCredits p - creditsUsed s p
/-- Reserve Placard slots of a port that are free (R75: two). -/
def reserveFree (s : State) (p : Port) : Nat := 2 - ((getPort s p).queue.filter (·.reserve)).length

/-- Counts a packet, transaction or Placard discarded without a Placard. Log entry 12 (DEDUCED). -/
def countDiscard (s : State) (p : Port) : State :=
  let c := getPort s p
  setPort s p { c with discards := c.discards + 1 }
/-- Raises the port's intake-error event and sets byte 2 bit 0 of its status (Tables 3-3 and 3-12). Log entry 12 (DEDUCED). -/
def intakeError (s : State) (p : Port) : State :=
  let c := getPort s p
  raise (setPort s p { c with intakeErr := true }) (17 + 4 * portCode p) 0#32
/-- Discards without a Placard (R59, R67, R75). -/
def discard (s : State) (p : Port) : State := intakeError (countDiscard s p) p

/-- Whether a port code is one of the four host ports. -/
def isHostPort : Port → Bool
  | .thermal | .docent => false
  | _ => true

/-- SYS_CPn_LAST_STATUS takes the status of every Placard formed (R74). -/
def noteStatus (s : State) (p : Port) (st : Byte) : State :=
  let c := getPort s p
  setPort s p { c with last := st }
/-- Queues a Placard and raises the Placard-waiting event. -/
def queuePlacard (s : State) (p : Port) (pl : Placard) (reserve : Bool) : State :=
  let c := getPort s p
  let s := raise (setPort s p { c with queue := c.queue ++ [⟨pl, reserve⟩] }) (16 + 4 * portCode p) 0#32
  if p = .cp2 then cp2Flush s else s
/-- Whether the Placard of a status is queued for delivery: OK and SCHEDULED only when wanted (R74). -/
def delivered (reply : Bool) (st : Status) : Bool := reply || (decide (st ≠ .ok) && decide (st ≠ .scheduled))

/-- Forms the Placard of a command (R74). A Placard that is not queued returns its credit at once: the credits in use
are counted, so nothing is left to do for it. -/
def formPlacard (s : State) (q : Req) (opcode : Byte) (st : Status) (data : List Byte) : State :=
  if isHostPort q.port then
    let s := noteStatus s q.port (stCode st)
    if delivered q.reply st then queuePlacard s q.port ⟨opcode, q.tag, stCode st, data⟩ false else s
  else s
/-- Forms a launch Placard: it takes a free credit, else a reserve slot, else it is dropped and counted (R162). -/
def formLaunchPlacard (s : State) (q : Req) (opcode : Byte) (st : Status) (data : List Byte) : State :=
  if isHostPort q.port then
    let s := noteStatus s q.port (stCode st)
    if delivered q.reply st then
      if creditsFree s q.port > 0 then queuePlacard s q.port ⟨opcode, q.tag, stCode st, data⟩ false
      else if reserveFree s q.port > 0 then queuePlacard s q.port ⟨opcode, q.tag, stCode st, data⟩ true
      else countDiscard s q.port
    else s
  else s
/-- Forms a Placard in a reserve slot, or discards the packet when both are full (R75). -/
def formReserve (s : State) (p : Port) (opcode tag : Byte) (st : Status) : State :=
  if reserveFree s p > 0 then queuePlacard (noteStatus s p (stCode st)) p ⟨opcode, tag, stCode st, []⟩ true
  else discard s p
/-- A run's own status and data: a write that wore out, or one that resolved a tie (R553, Table 3-9). -/
def runStatus (r : Run) (st : Status) (data : List Byte) : Status × List Byte :=
  if r.mark = 2 ∧ st = .ok then (.nvmWorn, [])
  else if r.mark = 1 ∧ st = .ok then (.nvmConflict, data ++ r.tie)
  else (st, data)
/-- A revoked key is zeroised once no keyed operation that started with it still runs (R568). Log entry 25 (DEDUCED). -/
def settleKey (s : State) : State :=
  match s.vault.dying with
  | some (k, p, n) =>
    if s.runs.any (·.revoked) then s
    else raise { s with vault := { s.vault with dying := none } } 250 (det 1 k (portCode p) (sat 8 n))
  | none => s
/-- A keyed operation forms a Placard with KEY_REVOKED (R568). -/
def tellRevoked (s : State) (q : Req) (opcode : Byte) : State :=
  let v := s.vault
  raise { s with vault := { v with dying := v.dying.map fun x => (x.1, x.2.1, x.2.2 + 1) } } 253
    (det (portCode q.port) opcode.toNat q.tag.toNat 0)
/-- The Placard of a run that completes, once it is out of the list of runs: of the command itself, or a launch Placard
(Table 6-2); KEY_REVOKED where its key was revoked meanwhile (R568). -/
def finishRun (s : State) (r : Run) (st : Status) (data : List Byte) : State :=
  if r.told then s
  else
  let (st, data) := if r.revoked then (Status.keyRevoked, []) else runStatus r st data
  let s := if r.launched then formLaunchPlacard s r.req r.opcode st data else formPlacard s r.req r.opcode st data
  if r.revoked then settleKey (tellRevoked s r.req r.opcode) else s

/-! ## Ownership -/

/-- The owner of an instance, none while it is free (R83). -/
def ownerOf (s : State) (bank cls inst : Nat) : Option Port := tget none s.owners (ikey bank cls inst)
/-- Sets the owner of an instance. -/
def setOwner (s : State) (bank cls inst : Nat) (p : Option Port) : State :=
  { s with owners := tput none s.owners (ikey bank cls inst) p }
/-- The refusal of a command that changes an instance another port owns (R84): CP1 and the thermal manager are not
subject to ownership, the Docent is as CP0. -/
def ownerRej (s : State) (p : Port) (bank cls inst word : Nat) : Option Rej :=
  match ownerOf s bank cls inst with
  | none => none
  | some o =>
    if rankPort p = .cp1 ∨ rankPort p = o then none
    else some { status := .notOwner, addr := mkAddr cls inst word, b3 := BitVec.ofNat 8 (portCode o) }
/-- The first refusal of a list of checks. -/
def firstRej : List (Option Rej) → Option Rej
  | [] => none
  | some r :: _ => some r
  | none :: l => firstRej l
/-- A check: `rej` where `bad` holds. -/
def rejIf (bad : Bool) (rej : Rej) : Option Rej := if bad then some rej else none
/-- A plain refusal with a status alone. -/
def rejSt (st : Status) : Rej := { status := st }

/-! ## The Curator and boot -/

/-- The Ontor is held in reset, before boot begins. -/
def inReset (s : State) : Bool := match s.boot.phase with | .held | .noSupply => true | _ => false
/-- The command pair takes commands: boot has raised event 0 and the pair is neither restarting nor held (R12, R624). -/
def commandPairUp (s : State) : Bool :=
  decide (s.boot.phase = .done) && !s.boot.cmdPair.restarting && !s.boot.cmdPair.held
/-- The management pair works: it is neither restarting nor held (R11, R12). -/
def mgmtPairUp (s : State) : Bool := !s.boot.mgmtPair.restarting && !s.boot.mgmtPair.held
/-- The command ports see transactions: from step 4 of boot on, or while boot waits for a flash copy (R624, Table 27-8). Log entry 28 (DEDUCED). -/
def portsAwake (s : State) : Bool :=
  match s.boot.phase with
  | .curator | .done | .noImage => true
  | _ => false
/-- Whether a port is enabled (R57). -/
def portEnabled (s : State) : Port → Bool
  | .cp2 => bit (word s 0 0x26 0 1) 0
  | .cp3 => bit (word s 0 0x00 0 0x10) 0
  | _ => true

/-! ## Modes -/

/-- The Wing that M5 powers down, while M5 is in effect (R32). -/
def downWing (s : State) : Option Wing := if s.modes.cur = 5 then some (otherWing s.modes.kept) else none
/-- Whether a bank names the powered-down Wing. -/
def bankDown (s : State) (bank : Nat) : Bool :=
  match downWing s with
  | none => false
  | some w => decide (bank = 2) || decide (bank = wingCode w)
/-- Step 11 for a write of a banked unit (Tables 4-1 and 2-2). -/
def bankWriteMode (s : State) (bank : Nat) (a : Addr) : Option Rej :=
  rejIf (isBanked (clsOf a) && ((decide (s.modes.cur = 2) && decide (bank < 2)) || bankDown s bank))
    (rejSt .modeForbids)
/-- Step 11 for a read, CLAIM or RELEASE of a banked unit (Table 4-1). -/
def bankReadMode (s : State) (bank : Nat) (a : Addr) : Option Rej :=
  rejIf (isBanked (clsOf a) && bankDown s bank) (rejSt .modeForbids)
/-- Step 13 for a bank byte (Table 4-1): at most `top` on a banked class, 0 on any other. Log entry 17 (DEDUCED). -/
def bankParam (bank top : Nat) (a : Addr) : Option Rej :=
  rejIf (if isBanked (clsOf a) then decide (top < bank) else decide (bank ≠ 0)) { status := .badParam, addr := a }

/-! ## Long-running commands (R79) -/

/-- The refusal of a command that names what an unfinished long-running command holds. Log entry 103 (DEDUCED). -/
def heldRej (s : State) (held : Run → Bool) : Option Rej := rejIf (s.runs.any held) (rejSt .busy)
/-- What a run holds of the instances of the Mirror: a band store its synthesizer, a self-test its unit (R79). Log entry 103 (DEDUCED). -/
def holdsInst (r : Run) (cls bank inst : Nat) : Bool :=
  match r.job with
  | .bandStore n _ => decide (cls = 0x04) && decide (inst = n)
  | .selftest c t u => (decide (c = 4) && decide (cls = 0x04) && decide (inst = u))
      || (decide (c = 2) && decide (cls = 0x15) && decide (inst = u) && decide (bank = t))
      || (decide (c = 6) && decide (cls = 0x19) && decide (inst = u))
  | _ => false
/-- BUSY for a command that names an instance that an unfinished command of the same port holds (R79). -/
def instHeldRej (s : State) (p : Port) (cls bank inst : Nat) : Option Rej :=
  heldRej s fun r => decide (r.req.port = p) && holdsInst r cls bank inst
/-- Takes the first run of a kind out of the list. -/
def takeRun (f : Run → Bool) : List Run → Option (Run × List Run)
  | [] => none
  | r :: l => if f r then some (r, l) else (takeRun f l).map fun (x, l') => (x, r :: l')

end Sys2Proof.Machine
end

