-- ==== Sys2Proof/Machine/Op.lean ====
section
/-! DEFINITION. What every opcode says of itself to the one pipeline of Table 3-10: its scheduling rule, its
authority, its checks of steps 11 to 14, its footprint in a same-tick contest, and its effect. -/

namespace Sys2Proof.Machine
open Sys2Proof

/-- The column "Sched" of the opcode tables; `bad` where the parameters themselves make the scheduling not
permitted (R104). -/
inductive SchedRule where
  | yes | no | must | bad
  deriving DecidableEq, Repr

/-- The column "Authority" (R70). -/
inductive Authority where
  | plain | authenticated | privileged
  deriving DecidableEq, Repr

/-- What a command answers when its effect has started. -/
structure Reply where
  st : Status := .ok
  data : List Byte := []
  deriving DecidableEq, Repr

/-- One opcode with its parameters. -/
structure Op where
  opcode : Byte
  sched : SchedRule := .no
  auth : State → Authority := fun _ => .plain
  /-- Not refused during an orderly shutdown (R538). -/
  exempt : Bool := false
  /-- Steps 11 to 14 of Table 3-10, in the order the spec gives. -/
  check : State → Option Rej := fun _ => none
  foot : State → Foot := fun _ => {}
  /-- The footprint of an acceptance into the schedule table, where acceptance itself has an effect (R44). -/
  acceptFoot : Foot := {}
  /-- What a refusal leaves behind besides its Placard (an allocation that does not fit raises event 208). -/
  refused : Rej → State → State := fun _ s => s
  /-- The effect at E or at the launch tick. -/
  run : State → State × Reply := fun s => (s, {})
  /-- What acceptance into schedule-table entry `e` does besides placing it. -/
  accept : Nat → State → State := fun _ s => s
  /-- The checks repeated at a launch, where they are not those of `check` (R161). -/
  relaunch : Option (State → Option Rej) := none
  /-- A launch may go on; otherwise the entry waits (Table 6-2). -/
  ready : State → Bool := fun _ => true
  /-- What a launch that may not go on yet leaves behind, and the effect of a launch from an entry where it is not `run`. -/
  waits : State → State := fun s => s
  launchRun : Option (State → State × Reply) := none
  /-- What a failed launch, or a lost contest, leaves behind besides its Placard and event (R51). -/
  failed : Rej → State → State := fun _ s => s
  /-- A long-running command starts with its effect and forms its Placard later (R97). -/
  job : Option Job := none
  /-- Whether its OK reply can carry data, so that a late or launched execution forms a second Placard (R80). -/
  hasData : Bool := false

/-- An effect with no reply data. -/
def done (s : State) : State × Reply := (s, {})
/-- A reply with data and no effect. -/
def answer (s : State) (d : List Byte) : State × Reply := (s, { data := d })

/-- Two commands contradict: they write one word and give a bit different values, or one disables, deletes or
reassigns a unit that the other names or configures (R86). -/
def contradict (a b : Foot) : Bool :=
  a.writes.any (fun x => b.writes.any fun y =>
    decide (x.1 = y.1) && decide ((x.2.1 &&& y.2.1 &&& (x.2.2 ^^^ y.2.2)) ≠ 0#32))
  || a.reassigns.any (fun k => b.touches.contains k || b.reassigns.contains k)
  || b.reassigns.any (fun k => a.touches.contains k)

/-- The contradicted instances of two commands, and whether a safety-state or Vitrine word is among the
contradicted words (R87). A contradicted word is one that both write, with different bits: a unit-level command against a write of a safety-state word of
its unit contests the unit and no word, and the owner rule decides. Log entry 128 (DESIGN CHOICE). -/
def contested (a b : Foot) : List Nat × Bool :=
  let ws := a.writes.filter fun x => b.writes.any fun y =>
    decide (x.1 = y.1) && decide ((x.2.1 &&& y.2.1 &&& (x.2.2 ^^^ y.2.2)) ≠ 0#32)
  let us := a.reassigns.filter (fun k => b.touches.contains k || b.reassigns.contains k)
    ++ b.reassigns.filter (fun k => a.touches.contains k)
  (ws.map (fun x => x.1 / 256) ++ us, ws.any fun x => isSafety (BitVec.ofNat 24 (x.1 % 16777216)))

/-- The owner of a contradicted instance; a contested ownership stands for its instance. -/
def contestOwner (s : State) (k : Nat) : Option Port := tget none s.owners (if k / 4194304 = 1 then k - 4194304 else k)
/-- Whether a command of port `p` beats one of port `q` that it contradicts (R87). Commands of one requester
never contest (the caller does not ask). Where several instances with different owners are contradicted, the first decides. Log entry 128
(DESIGN CHOICE). -/
def beats (s : State) (p q : Port) (a b : Foot) : Bool :=
  let (ks, safety) := contested a b
  let own := match ks.head? with
    | none => none
    | some k => contestOwner s k
  if !safety && (own = some (rankPort p)) && !(own = some (rankPort q)) then true
  else if !safety && (own = some (rankPort q)) && !(own = some (rankPort p)) then false
  else decide (rankOf p < rankOf q)

/-- One contender of a tick: its requester, its footprint, and whether it is decided yet. -/
structure Contender where
  port : Port
  foot : Foot
  verdict : Option Bool := none
  /-- The port of the command it lost to, and the first contradicted address. -/
  lostTo : Option (Port × Addr) := none

/-- The first contradicted object address of two commands; the numbers of things that are no instances give none. Log entry 22 (DEDUCED). -/
def contestAddr (a b : Foot) : Addr :=
  match a.writes.find? fun x => b.writes.any fun y =>
    decide (x.1 = y.1) && decide ((x.2.1 &&& y.2.1 &&& (x.2.2 ^^^ y.2.2)) ≠ 0#32) with
  | some x => BitVec.ofNat 24 (x.1 % 16777216)
  | none => match (contested a b).1.head? with
    | some k => if k < 1073741824 then BitVec.ofNat 24 (k % 65536 * 256) else noAddr
    | none => noAddr
/-- Whether two contenders contest: different requesters, contradicting footprints. -/
def contests (a b : Contender) : Bool := decide (a.port ≠ b.port) && contradict a.foot b.foot

/-- The contender that a round lets take effect: the first undecided one that beats every undecided one it contests,
else the highest-ranking undecided one (R667). -/
def roundWinner (s : State) (cs : List Contender) : Option Contender :=
  let und := cs.filter fun c => c.verdict.isNone
  match und.find? fun c => und.all fun d => !contests c d || beats s c.port d.port c.foot d.foot with
  | some c => some c
  | none => und.foldl (fun best c => match best with
      | none => some c
      | some b => if rankOf c.port < rankOf b.port then some c else some b) none

/-- Marks the winner of a round and every undecided contender it contests. The first undecided contender of the
winner's port with the winner's footprint is the winner. -/
def markRound (w : Contender) : Bool → List Contender → List Contender
  | _, [] => []
  | found, c :: r =>
    if c.verdict.isSome then c :: markRound w found r
    else if !found && decide (c.port = w.port) && decide (c.foot = w.foot) then
      { c with verdict := some true } :: markRound w true r
    else if contests c w then { c with verdict := some false, lostTo := some (w.port, contestAddr c.foot w.foot) } :: markRound w found r
    else c :: markRound w found r

/-- The rounds of R667, at most `n` of them. -/
def rounds (s : State) : Nat → List Contender → List Contender
  | 0, cs => cs
  | n + 1, cs =>
    match roundWinner s cs with
    | none => cs
    | some w => rounds s n (markRound w false cs)

/-- The contest of one tick: the contenders with their verdicts (R86, R87, R667). -/
def contest (s : State) (cs : List Contender) : List Contender := rounds s cs.length cs

end Sys2Proof.Machine
end

