-- ==== Sys2Proof/Machine/Queries.lean ====
section
/-! DEFINITION. Questions that one unit's rules ask of another unit's words and state. -/

namespace Sys2Proof.Machine
open Sys2Proof

/-- A Prenlink port is linked while it is in RUNNING or RECOVER's neighbour states that carry traffic: RUNNING (9). -/
def anyPlkUp (s : State) : Bool := s.plks.any fun e => decide (e.2.st ≠ 0)

/-- One output. -/
def out (s : State) (n : Nat) : Out := tget {} s.outs n
/-- Sets one output. -/
def setOut (s : State) (n : Nat) (o : Out) : State := { s with outs := tput {} s.outs n o }
/-- A word of an output, in effect. -/
def outWord (s : State) (n w : Nat) : Word := word s 0 0x12 n w
/-- The output's timing runs and it takes commit ticks: RUNNING, LINK_IDLE, FILL, DRAINING, FILLING (R431). -/
def timingRuns (o : Out) : Bool :=
  match o.st with
  | .running | .draining | .filling | .fill | .linkIdle => true
  | _ => false
/-- The output's timing generator runs or is about to: any state but STOPPED. -/
def outActive (s : State) (n : Nat) : Bool := decide ((out s n).st ≠ .stopped)
/-- The outputs that are not STOPPED. -/
def activeOuts (s : State) : List Nat := (List.range 20).filter (outActive s)
/-- The synthesizer an OUT_CLK word names, and its divider. -/
def clkSyn (w : Word) : Nat := bits w 2 0
def clkDiv (w : Word) : Nat := bits w 15 8
/-- The active outputs a synthesizer feeds. -/
def fedOuts (s : State) (n : Nat) : List Nat :=
  (activeOuts s).filter fun o => decide (clkSyn (outWord s o 3) = n) && decide (clkDiv (outWord s o 3) ≠ 0)
/-- The running outputs a synthesizer feeds: one that waits in STARTING or is HALTED at a gate is none (R45, Table 17-4). -/
def servedOuts (s : State) (n : Nat) : List Nat := (fedOuts s n).filter fun o => timingRuns (out s o)
/-- Every output whose OUT_CLK names the synthesizer, active or not (R207). -/
def namedOuts (s : State) (n : Nat) : List Nat :=
  (List.range 20).filter fun o => decide (clkSyn (outWord s o 3) = n) && decide (clkDiv (outWord s o 3) ≠ 0)
/-- The timing kind of an output: 0 free-running, 1 genlocked, 2 source-locked. -/
def outKind (s : State) (n : Nat) : Nat := bits (outWord s n 2) 1 0
/-- The follow bit of the FRC_MODE that serves an output. -/
def outFollows (s : State) (n : Nat) : Bool := bit (word s (wingCode (out s n).wing) 0x18 n 0) 4
/-- A synthesizer is steered while it feeds a source-locked or following output (R208). -/
def steered (s : State) (n : Nat) : Bool :=
  (fedOuts s n).any fun o => decide (outKind s o = 2) || outFollows s o
/-- A TDM port is enabled with its clock from the synthesizer. -/
def tdmOn (s : State) (n : Nat) : Bool :=
  (List.range 8).any fun p =>
    let w := word s 0 0x1A p 0
    bit w 0 && decide (n = if bit w 12 then 9 else 8)
/-- A synthesizer is in use so that it may not be gated: it feeds a running output or an enabled TDM port, or, for SYN10, a Prenlink port is not down
(R209, R224). -/
def synBusy (s : State) (n : Nat) : Bool :=
  if n = 10 then anyPlkUp s else decide (servedOuts s n ≠ []) || tdmOn s n

/-- The source words of a capture pipe: kind, port, sub-stream (Table 5-8). -/
def capSrc (s : State) (bank n : Nat) : Nat × Nat × Nat :=
  let w := word s bank 0x10 n 1
  (bits w 15 14, bits w 13 8, bits w 1 0)

/-! ## Readings of the words, and an output's clock and rate -/

/-- A reading of object words: bank, class, instance, word. -/
abbrev Rd := Nat → Nat → Nat → Nat → Word
/-- A word of an output in a reading. -/
def rdOut (rd : Rd) (o w : Nat) : Word := rd 0 0x12 o w

/-- OUT_HTOTAL, OUT_HACT, OUT_VTOTAL and OUT_VACT. -/
def hTotal (rd : Rd) (o : Nat) : Nat := bits (rdOut rd o 4) 15 0
def hAct (rd : Rd) (o : Nat) : Nat := bits (rdOut rd o 5) 15 0
def vTotal (rd : Rd) (o : Nat) : Nat := bits (rdOut rd o 7) 15 0
def vAct (rd : Rd) (o : Nat) : Nat := bits (rdOut rd o 8) 15 0
/-- The pixel clock of an output in Hz (R417, R204). -/
def pixelClock (rd : Rd) (o : Nat) : Rat :=
  let d := clkDiv (rdOut rd o 3)
  if d = 0 then 0 else (100000000 * (rd 0 0x04 (clkSyn (rdOut rd o 3)) 0).toNat : Nat) / (16777216 * d : Nat)
/-- The nominal frame rate F in Hz; 0 where the words give none. -/
def frameRate (rd : Rd) (o : Nat) : Rat :=
  let n := hTotal rd o * vTotal rd o
  if n = 0 then 0 else pixelClock rd o / n
/-- A rational rounded to the nearest whole number, ties upwards. -/
def roundRat (x : Rat) : Int := (x + 1 / 2).floor

end Sys2Proof.Machine
end

