-- ==== Sys2Proof/Machine/FlipTable.lean ====
section
/-! DEFINITION. The flip table's word entries (R15, R131), and questions about Wings, outputs and layers that the video
path asks. -/

namespace Sys2Proof.Machine
open Sys2Proof

/-! ## Waiting WS values -/

/-- The waiting entry of a word, as (mask, value). -/
def waiting (s : State) (bank cls inst w : Nat) : Word × Word := tget (0#32, 0#32) s.flip (wkey bank (mkAddr cls inst w))
/-- Places an entry: it replaces the waiting value bit by bit, as its mask allows (R131). -/
def placeWs (s : State) (bank cls inst w : Nat) (mask v : Word) : State :=
  let k := wkey bank (mkAddr cls inst w)
  let e := tget (0#32, 0#32) s.flip k
  { s with flip := tput (0#32, 0#32) s.flip k (e.1 ||| mask, merge e.2 mask v &&& (e.1 ||| mask)) }
/-- Takes the waiting value of a word. -/
def takeWs (s : State) (bank cls inst w : Nat) : State :=
  let k := wkey bank (mkAddr cls inst w)
  let e := tget (0#32, 0#32) s.flip k
  let s := setWord s bank cls inst w (merge (word s bank cls inst w) e.1 e.2)
  { s with flip := tput (0#32, 0#32) s.flip k (0#32, 0#32) }
/-- The words of an instance that have waiting values, in rising order. -/
def waitingWords (s : State) (bank cls inst : Nat) : List Nat :=
  let u := ikey bank cls inst
  (s.flip.filter fun e => decide (e.1 / 256 = u)).map fun e => e.1 % 256
/-- Takes every waiting value of an instance (R131: the words of one unit commit together). -/
def takeUnit (s : State) (bank cls inst : Nat) : State :=
  (waitingWords s bank cls inst).foldl (fun s w => takeWs s bank cls inst w) s
/-- Drops every waiting value of an instance. -/
def dropUnit (s : State) (bank cls inst : Nat) : State :=
  (waitingWords s bank cls inst).foldl (fun s w =>
    { s with flip := tput (0#32, 0#32) s.flip (wkey bank (mkAddr cls inst w)) (0#32, 0#32) }) s

/-! ## Wings -/

/-- One Wing's state. -/
def wing (s : State) : Wing → WingSt
  | .a => s.wingA | .b => s.wingB
/-- Sets one Wing's state. -/
def setWing (s : State) (w : Wing) (x : WingSt) : State :=
  match w with
  | .a => { s with wingA := x } | .b => { s with wingB := x }
/-- The bank's Wing raises no events of its data path: in M2 only the active Wing does (R326, R350, R376). -/
def quietBank (s : State) (bank : Nat) : Bool := decide (s.modes.cur = 2) && decide ((wing s (wingOf bank)).role ≠ 2)
/-- Raises an event of a bank's data path, unless the Wing raises none. -/
def raiseBank (s : State) (bank src : Nat) (d : Word) : State := if quietBank s bank then s else raise s src d
/-- The same, stamped with a commit tick. -/
def raiseBankCommit (s : State) (bank src : Nat) (d : Word) : State := if quietBank s bank then s else raiseCommit s src d
/-- The standby is disarmed, with the reason of event 235 (R515). Log entry 67 (DEDUCED). -/
def disarm (s : State) (w : Wing) (reason : Nat) : State :=
  let x := wing s w
  if x.armed then raise (setWing s w { x with armed := false }) 235 (det (wingCode w) 1 reason 0) else s
/-- The internal precision (Table 2-1). -/
def precision (s : State) : Nat := if s.modes.cur = 4 then 12 else 10

/-! ## Outputs and layers -/

/-- The output is running, for the purpose of commit points and of layers being shown. -/
def outRuns (s : State) (n : Nat) : Bool := timingRuns (out s n)
/-- The output is assigned to the Wing of a bank, in M2 to both (R351), and that Wing is on. -/
def outOfBank (s : State) (n bank : Nat) : Bool :=
  (decide (s.modes.cur = 2) || decide (wingCode (out s n).wing = bank)) && decide ((wing s (wingOf bank)).role ≠ 0)
/-- A word of a layer, in effect. -/
def lyrWord (s : State) (bank n w : Nat) : Word := word s bank 0x13 n w
/-- One layer's state. -/
def lyr (s : State) (bank n : Nat) : Lyr := tget {} s.lyrs (bank * 192 + n)
/-- Sets one layer's state. -/
def setLyr (s : State) (bank n : Nat) (x : Lyr) : State := { s with lyrs := tput {} s.lyrs (bank * 192 + n) x }
/-- LYR_PLACE bit 31. -/
def lyrOn (s : State) (bank n : Nat) : Bool := bit (lyrWord s bank n 1) 31
/-- The output a layer is placed on. -/
def lyrOut (s : State) (bank n : Nat) : Nat := bits (lyrWord s bank n 1) 4 0
/-- A layer is shown (R351). -/
def lyrShown (s : State) (bank n : Nat) : Bool :=
  lyrOn s bank n && decide (lyrOut s bank n < 20) && outRuns s (lyrOut s bank n) && outOfBank s (lyrOut s bank n) bank
/-- The enabled layers of a bank, in rising order. LYR_PLACE resets to 0, so an enabled layer's is a listed word. -/
def onLayers (s : State) (bank : Nat) : List Nat :=
  (s.words.filter fun e => decide (e.1 / 65536 = bank * 256 + 0x13) && decide (e.1 % 256 = 1)
    && decide (e.1 / 256 % 256 < 192) && bit e.2 31).map fun e => e.1 / 256 % 256
/-- The route a layer reads, none for a surface layer (R328). -/
def lyrRoute (s : State) (bank n : Nat) : Option Nat :=
  let w := lyrWord s bank n 2
  if bit w 0 then some (bits w 13 8) else none
/-- The mesh a layer names, none for 0xFF. -/
def lyrMesh (s : State) (bank n : Nat) : Option Nat :=
  let m := bits (lyrWord s bank n 7) 15 8
  if m < 32 then some m else none
/-- The output is line-locked in M3 (R30). -/
def lineLocked (s : State) (n : Nat) : Bool := decide (s.modes.cur = 3) && bit (outWord s n 1) 16

/-! ## The bulk mover (R500) -/

/-- A command's transfer joins the bulk mover's queue; `ws` are the banks of the Wings it goes to. -/
def bulkPush (s : State) (q : Req) (opcode : Byte) (ws : List Nat) : State :=
  { s with bmx := { s.bmx with queue := s.bmx.queue ++ [(opcode, q.port, q.tag, ws.foldl (fun m b => m + 2 ^ b) 0)] } }

/-! ## Unit references (R93, R94) -/

/-- Step 11 for a command that changes a banked unit. -/
def unitMode (s : State) (cls : Nat) (r : UnitRef) : Option Rej := bankWriteMode s r.bank.toNat (mkAddr cls r.inst.toNat 0)
/-- Step 12: another port owns one of the named instances. -/
def unitOwner (s : State) (q : Req) (cls : Nat) (r : UnitRef) : Option Rej :=
  firstRej ((banksOf r.bank.toNat).map fun b => ownerRej s q.port b cls r.inst.toNat 0)
/-- Step 13: the bank byte and the instance number. -/
def unitParam (cls : Nat) (r : UnitRef) : Option Rej :=
  firstRej [bankParam r.bank.toNat 2 (mkAddr cls r.inst.toNat 0),
    rejIf (!instExists cls r.inst.toNat) { status := .range, addr := mkAddr cls r.inst.toNat 0 }]
/-- The instances a unit reference names, for a footprint. -/
def unitKeys (cls : Nat) (r : UnitRef) : List Nat := (banksOf r.bank.toNat).map fun b => ikey b cls r.inst.toNat

/-! ## Memory of a Wing (R444, R446, R455) -/

/-- The frame-store space of a Wing in bytes (R444). -/
def storeSize (s : State) (w : Wing) : Nat :=
  let p := 2 * wingCode w
  2 * min (tget {} s.mem p).gib (tget {} s.mem (p + 1)).gib * 1073741824
/-- Slot bytes of a surface format (Table 18-4). -/
def slotBytes (fmt : Nat) : Nat :=
  match fmt with
  | 0x01 => 768 | 0x02 => 960 | 0x03 => 1024 | 0x04 => 512 | 0x05 => 640 | 0x06 => 256 | 0x07 => 320 | 0x08 => 384
  | 0x09 => 512 | 0x0A => 1024 | 0x20 => 1024 | 0x21 => 1536 | 0x24 => 1024 | 0x25 => 1536 | _ => 0
/-- Rounds up to a multiple of 4,096. -/
def page4k (n : Nat) : Nat := (n + 4095) / 4096 * 4096
/-- The number of 16×16 tiles of a surface (R446). -/
def tileCount (w h : Nat) : Nat := ((w + 15) / 16) * ((h + 15) / 16)
/-- The bytes a surface occupies (R446). -/
def surfaceBytes (fmt w h : Nat) : Nat := page4k (64 + 8 * tileCount w h) + page4k (tileCount w h * slotBytes fmt)
/-- Two extents do not overlap. -/
def apart (a n b m : Nat) : Bool := decide (a + n ≤ b) || decide (b + m ≤ a)
/-- The allocations of a Wing. -/
def allocsOf (s : State) (w : Wing) : List Alloc := s.allocs.filter fun a => a.wing = w
/-- The lowest free base above the reserved 16 MiB at which `size` bytes fit (R455). -/
def findFree (s : State) (w : Wing) (size : Nat) : Option Nat :=
  let l := allocsOf s w
  let starts := 16777216 :: l.map fun a => a.base + a.size
  let ok := starts.filter fun b => decide (b + size ≤ storeSize s w) && l.all fun a => apart b size a.base a.size
  ok.foldl (fun m b => match m with
    | none => some b
    | some c => some (min b c)) none
/-- The largest free extent of a Wing. -/
def largestFree (s : State) (w : Wing) : Nat :=
  let l := allocsOf s w
  let starts := 16777216 :: l.map fun a => a.base + a.size
  starts.foldl (fun m b =>
    if l.any fun a => decide (a.base ≤ b) && decide (b < a.base + a.size) then m
    else
      let top := l.foldl (fun t a => if b ≤ a.base then min t a.base else t) (storeSize s w)
      max m (top - b)) 0
/-- Allocates a surface (R455): 0 a pipe's buffer, 1 an output's frame record. -/
def allocate (s : State) (w : Wing) (size kind owner : Nat) : Option (State × Nat) :=
  (findFree s w size).map fun b => ({ s with allocs := s.allocs ++ [⟨w, b, size, kind, owner⟩] }, b)
/-- The MiB that an allocation is short of, saturating in a byte (Table 18-5). -/
def mibShort (s : State) (w : Wing) (size : Nat) : Nat := sat 8 ((size - largestFree s w + 1048575) / 1048576)
/-- Frees the allocations of a kind and owner in a Wing, but for those whose base is to be kept. -/
def freeAllocs (s : State) (w : Wing) (kind owner : Nat) (keep : Nat → Bool) : State :=
  { s with allocs := s.allocs.filter fun a => !(decide (a.wing = w) && decide (a.kind = kind) && decide (a.owner = owner)) || keep a.base }
/-- A composer holds the buffer at a base: a shown layer's frames in use, or a pinned buffer (R321, R347, R453). -/
def bufferHeld (s : State) (bank base : Nat) : Bool :=
  s.lyrs.any fun e => decide (e.1 / 192 = bank) &&
    (decide (e.2.pin = some base) || decide (e.2.now.map (·.base) = some base) || decide (e.2.before.map (·.base) = some base))

end Sys2Proof.Machine
end

