-- ==== Sys2Proof/Machine/References.lean ====
section
/-! DEFINITION. Reference selection, qualification and holdover (chapter 07). -/

namespace Sys2Proof.Machine
open Sys2Proof

/-! ## Candidates -/

/-- The candidates' state after reset: all at rest. -/
def cand (s : State) (c : Nat) : Cand := tget {} s.cands c
/-- Sets a candidate. -/
def setCand (s : State) (c : Nat) (x : Cand) : State := { s with cands := tput {} s.cands c x }
/-- REF word `w` of candidate `c`. -/
def refWord (s : State) (c w : Nat) : Word := word s 0 0x03 c w
/-- REF_EN. -/
def refEnabled (s : State) (c : Nat) : Bool := bit (refWord s c 0) 0
/-- REF_CLASS: a frame reference. -/
def isFrameRef (s : State) (c : Nat) : Bool := bit (refWord s c 0) 1
/-- REF_ACCEPT_PPM and REF_REJECT_PPM, in 0.1 ppm. -/
def acceptOf (s : State) (c : Nat) : Nat := bits (refWord s c 1) 15 0
def rejectOf (s : State) (c : Nat) : Nat := bits (refWord s c 1) 31 16
/-- An offset as a 16-bit field, saturating. Log entry 32 (DEDUCED). -/
def off16 (o : Int) : Nat := ((BitVec.ofInt 16 (max (-32768) (min 32767 o))).toNat)
/-- The detail of an event that carries an offset in bytes 2 and 3. -/
def detOff (b0 b1 : Nat) (o : Int) : Word := det2 b0 b1 (off16 o)

/-- The nominal rates of frame references in Hz, as fractions (Table 7-2). -/
def frameRates : List (Nat × Nat) :=
  ([1, 24, 25, 30, 48, 50, 60, 72, 90, 100, 120, 144, 240].map fun r => (r, 1))
    ++ ([24, 30, 48, 60, 120].map fun r => (r * 1000, 1001))
/-- The nominal rates of clock references on REFIN0 to REFIN3, in Hz (Table 7-3). -/
def clockRates : List (Nat × Nat) :=
  [8000, 1544000, 2048000, 5000000, 6480000, 10000000, 12800000, 19200000, 20000000].map (fun r => (r, 1))
    ++ ([25000000, 38400000, 40000000, 50000000, 100000000, 122880000, 125000000, 156250000, 200000000].map fun r => (r, 1))
/-- The distance of a nominal rate n/d from a measured rate a/b, times b·d (so a·d against n·b). Log entry 31 (DEDUCED). -/
def rateGap (m : Nat × Nat) (r : Nat × Nat) : Nat := (m.1 * r.2 - r.1 * m.2) + (r.1 * m.2 - m.1 * r.2)
/-- The nominal rate of a table that lies within ±0.3 % of the measured rate (R178); the nearest, where two do. Log entry 31 (DEDUCED). -/
def nominalOf (rates : List (Nat × Nat)) (m : Nat × Nat) : Nat × Nat :=
  (rates.filter fun r => decide (rateGap m r * 1000 ≤ 3 * m.1 * r.2)).foldl
    (fun best r => if best = (0, 1) then r else if rateGap m r * best.2 < rateGap m best * r.2 then r else best) (0, 1)
/-- The offset of a measured rate from a nominal rate in 0.1 ppm, rounded toward zero. With no nominal rate it saturates, at the positive
end: R178 gives the saturation no sign. Log entry 32 (DEDUCED). -/
def offsetOf (m r : Nat × Nat) : Int :=
  if r.1 = 0 ∨ m.2 = 0 then 32767 else (((m.1 * r.2 : Nat) : Int) - ((r.1 * m.2 : Nat) : Int)) * 10000000 |>.tdiv ((r.1 * m.2 : Nat) : Int)
/-- A measured rate lies within `lim` × 0.1 ppm of a nominal rate. -/
def within (m r : Nat × Nat) (lim : Nat) : Bool :=
  decide (r.1 ≠ 0) && decide (rateGap m r * 10000000 ≤ lim * r.1 * m.2)

/-- The class a candidate has is one that Table 7-1 allows it: candidate 4 is a clock, and candidates 5 to 15 are frame references of
kind 0 and clock references of kind 1. Another class has no monitor, so such a candidate is measured by none. -/
def classAllowed (s : State) (c : Nat) : Bool :=
  if c ≤ 3 then true else if c = 4 then !isFrameRef s c else isFrameRef s c != bit (refWord s c 0) 16
/-- A frame reference with its monitor running (R174). -/
def frameMonitor (s : State) (c : Nat) : Bool := refEnabled s c && isFrameRef s c && classAllowed s c
/-- A clock reference with its monitor running (R174). -/
def clockMonitor (s : State) (c : Nat) : Bool := refEnabled s c && !isFrameRef s c && classAllowed s c
/-- The capture source that a candidate's REF_SRC names: kind, port, sub-stream (R175). -/
def candSrc (s : State) (c : Nat) : Nat × Nat × Nat := let w := refWord s c 0; capSrc s (bits w 23 23) (bits w 31 24)
/-- The Wing of a candidate's pipe is powered down in M5 (R175). -/
def candDown (s : State) (c : Nat) : Bool := bankDown s (bits (refWord s c 0) 23 23)
/-- A port receives: a Prenlink port at its sink end with the far end's clock found, a trained DisplayPort, and a CSI-2 receiver out of
ULPS (R175). Log entry 119 (DEDUCED). -/
def portReceives (s : State) : Nat × Nat × Nat → Bool
  | (1, p, _) => decide ((plk s p).role = 1) && [2, 3, 4, 5, 6, 7, 8, 9, 12].contains (plk s p).st
  | (2, p, _) => (tget {} s.dpss p).trained
  | (3, p, _) => !(tget {} s.csis p).ulps
  | _ => false
/-- A candidate fed by a capture source is absent (R175). -/
def candAbsent (s : State) (c : Nat) : Bool := decide (5 ≤ c) && (candDown s c || !portReceives s (candSrc s c))
/-- The activity monitor sees edges: candidate 4 for as long as XIN runs, which is from the release of reset on (R180). -/
def candPresent (s : State) (c : Nat) : Bool :=
  if c = 4 then !inReset s else (cand s c).present && !candAbsent s c

/-- The nominal rate of a kind-1 candidate, from the trained rate of its port (Table 7-4). -/
def kind1Nominal (s : State) (c : Nat) : Nat × Nat :=
  let (kind, port, _) := candSrc s c
  match kind with
  | 1 => if (plk s port).role = 1 then (97656250 * 2 ^ (plk s port).step, 1) else (0, 1)
  | 2 => match (tget {} s.dpss port).rate with
    | 0 => (40500000, 1) | 1 => (67500000, 1) | 2 => (135000000, 1) | 3 => (202500000, 1)
    | 4 => (250000000, 1) | 5 => (337500000, 1) | _ => (500000000, 1)
  | 3 => (bits (word s 0 0x0B port 0) 31 16 * 125000, 1)
  | _ => (0, 1)

/-! ## Selection and the DPLL -/

/-- REF_RANK: the candidate in a position of the ranked list. -/
def rankAt (s : State) (pos : Nat) : Nat :=
  if pos < 8 then bits (refWord s 16 3) (4 * pos + 3) (4 * pos) else bits (refWord s 16 4) (4 * (pos - 8) + 3) (4 * (pos - 8))
/-- Two candidates disagree: their offsets differ by more than the smaller accept limit (R187). -/
def disagrees (s : State) (a b : Nat) : Bool :=
  decide ((((cand s a).offset - (cand s b).offset).natAbs) > min (acceptOf s a) (acceptOf s b))
/-- A candidate's offset lies inside its accept limit. -/
def insideAccept (s : State) (c : Nat) : Bool := decide ((cand s c).offset.natAbs ≤ acceptOf s c)
/-- The equal-rank rule (R187). -/
def equalRank (s : State) (a b : Nat) : Nat :=
  let (lo, hi) := if a < b then (a, b) else (b, a)
  if s.dpll.active = some a then a
  else if s.dpll.active = some b then b
  else match insideAccept s lo, insideAccept s hi with
    | true, true => lo
    | true, false => lo
    | false, true => hi
    | false, false => if (cand s hi).offset.natAbs < (cand s lo).offset.natAbs then hi else lo
/-- Selection over the tiers from `k` on, `n` tiers left (R186). -/
def selectTier (s : State) : Nat → Nat → Option Nat
  | 0, _ => none
  | n + 1, k =>
    let a := rankAt s (2 * k)
    let b := rankAt s (2 * k + 1)
    match (cand s a).qualified, (cand s b).qualified with
    | true, false => some a
    | false, true => some b
    | true, true => if a ≠ b ∧ disagrees s a b then some (equalRank s a b) else some a
    | false, false => selectTier s n (k + 1)
/-- The candidate that selection chooses (R186). -/
def selection (s : State) : Option Nat :=
  match s.dpll.named with
  | some c => if (cand s c).qualified then some c else selectTier s 8 0
  | none => selectTier s 8 0

/-! ## The frame phase (R420) -/

/-- The instant of a sequence at or before `t`. -/
def lastInstant (origin spacing t : Rat) : Rat := if spacing ≤ 0 then origin else origin + spacing * (((t - origin) / spacing).floor : Rat)
/-- The first instant of a sequence at or after `t`. -/
def nextInstant (origin spacing t : Rat) : Rat := if spacing ≤ 0 then origin else origin + spacing * (((t - origin) / spacing).ceil : Rat)
/-- The frame phase: one of its instants on the model's clock and their spacing, in ns. Until a frame reference first becomes active the instants
are the whole seconds of the timebase. -/
def framePhase (s : State) : Rat × Rat :=
  match s.dpll.origin with
  | none => ((s.clk : Rat) - (s.tb.ns.toNat % 1000000000 : Nat), 1000000000)
  | some r => (r, (1000000000 * s.dpll.phase.2 : Nat) / (max 1 s.dpll.phase.1 : Nat))
/-- The frame-phase instant most recent now. -/
def recentPhase (s : State) : Rat := lastInstant (framePhase s).1 (framePhase s).2 s.clk
/-- A frame reference becomes active: the instants go on from the most recent one at its nominal period; the phase step moves them (R420). -/
def takePhase (s : State) (c : Nat) : State :=
  if isFrameRef s c && decide ((cand s c).nominal.1 ≠ 0) then
    { s with dpll := { s.dpll with phase := (cand s c).nominal, origin := some (recentPhase s) } }
  else s

/-- The code of an optional candidate in an event. -/
def candCode : Option Nat → Nat
  | some c => c | none => 0xFF
/-- A DPLL transition (Table 7-6), with event 180 (Table 7-9). -/
def dpllTo (s : State) (new cause : Nat) : State :=
  let old := s.dpll.state
  let same := decide (old = new)
  raise { s with dpll := { s.dpll with state := new, inWin := 0, outWin := 0, slow := same && s.dpll.slow, since := if same then s.dpll.since else s.clk } } 180
    (det new old (candCode s.dpll.active) cause)
/-- A new active reference: ACQUIRE on it, events 180 and 181, and a phase step to be measured in the style that is set now (R188, R195,
R198). The first selection from FREERUN is measured too: R195 lists ACQUIRE, LOCKED and HOLDOVER, and Table 7-6 has a change of active
reference there as well. Log entries 33 (DEDUCED), 120 (DEDUCED). -/
def follow (s : State) (c : Nat) (why : Nat) : State :=
  let old := s.dpll.active
  let s := dpllTo { s with dpll := { s.dpll with active := some c, measure := true, holdover := none, compat := bit (refWord s 16 1) 8 } } 1 0
  raise (takePhase s c) 181 (det c (candCode old) why 0)

/-- The recorded intervals that a holdover entry at `l` averages (R192). -/
def holdoverSpan (s : State) (l : Nat) : List Int :=
  let w := refWord s 16 2
  let guard := (bits w 15 0 + 99) / 100 * 100000000
  let win := bits w 31 16 * 1000000000
  (s.dpll.records.filter fun r => decide (l - guard - win + 100000000 ≤ r.1) && decide (r.1 + guard ≤ l)
    && decide (guard ≤ l)).map Prod.snd
/-- No candidate is left: HOLDOVER on a valid value, else FREERUN (Table 7-6). The mean is rounded toward zero, which R192 leaves open.
Log entry 120 (DEDUCED). -/
def loseAll (s : State) : State :=
  let v := holdoverSpan s s.clk
  if v.length ≥ 10 then
    let m := v.foldl (· + ·) 0 |>.tdiv v.length
    let s := { s with dpll := { s.dpll with active := none, holdover := some m, measure := false } }
    dpllTo s 3 3
  else
    let s := { s with dpll := { s.dpll with active := none, holdover := none, measure := false } }
    dpllTo s 0 4

/-- Selection after a candidate qualifies, in FREERUN or HOLDOVER (R186). -/
def runSelection (s : State) : State :=
  if s.dpll.state = 0 ∨ s.dpll.state = 3 then
    match selection s with
    | some c => follow s c (if s.dpll.state = 3 then 2 else 3)
    | none => s
  else s

/-- A disagreement lasts only while both candidates of the tier are qualified (R187). -/
def endDisagreement (s : State) (c : Nat) : State :=
  { s with dpll := { s.dpll with disagree := s.dpll.disagree.filter fun k => decide (rankAt s (2 * k) ≠ c) && decide (rankAt s (2 * k + 1) ≠ c) } }
/-- Disqualifies a candidate (R182), with event 183; losing the active reference runs selection (R186). One beyond its reject limit stays
outside its accept limit until a measurement lies inside it again. -/
def disqualify (s : State) (c cause : Nat) : State :=
  let x := cand s c
  let s0 := endDisagreement (setCand s c { x with
    qualified := false, outside := x.outside && decide (cause = 1), good := 0, since := s.clk, present := x.present && decide (cause ≠ 0) }) c
  if x.qualified then
    let s1 := raise s0 183 (detOff c cause x.offset)
    if s.dpll.active = some c then
      match selection s1 with
      | some d => follow s1 d 1
      | none => loseAll s1
    else s1
  else s0

/-- The disagreement of the tier of a candidate just measured (R187): event 184 when it begins. Its offset difference is given as a
magnitude, since Table 7-9 does not say which offset is taken from which. Log entry 120 (DEDUCED). -/
def checkTier (s : State) (c : Nat) : State :=
  match (List.range 16).find? (fun p => rankAt s p = c) with
  | none => s
  | some p =>
    let k := p / 2
    let a := rankAt s (2 * k)
    let b := rankAt s (2 * k + 1)
    let now := decide (a ≠ b) && (cand s a).qualified && (cand s b).qualified && disagrees s a b
    if now && !s.dpll.disagree.contains k then
      let ch := equalRank s a b
      let other := if ch = a then b else a
      raise { s with dpll := { s.dpll with disagree := k :: s.dpll.disagree } } 184
        (detOff ch other ((cand s a).offset - (cand s b).offset).natAbs)
    else if !now then { s with dpll := { s.dpll with disagree := s.dpll.disagree.filter (· ≠ k) } }
    else s

/-- A measurement of a candidate: its offset, the accept-limit crossings of event 185, and the reject limit (R182). -/
def measured (s : State) (c : Nat) (m r : Nat × Nat) : State :=
  let x := cand s c
  let o := max (-32768) (min 32767 (offsetOf m r))
  let inA := within m r (acceptOf s c)
  let s := setCand s c { x with nominal := r, offset := o, outside := !inA,
                                since := if inA then x.since else s.clk, good := if inA then x.good else 0 }
  if x.qualified then
    let s := if !inA && !x.outside then raise s 185 (detOff c 0 o)
      else if inA && x.outside then raise s 185 (detOff c 1 o) else s
    if within m r (rejectOf s c) then checkTier s c else checkTier (disqualify s c 1) c
  else s

/-! ## FSYNC outputs (R200 to R202) -/

/-- The source candidate of an FSYNC output lets it run: a frame reference that has qualified once (R200). -/
def fsyncSourced (s : State) (n : Nat) : Bool :=
  let src := bits (refWord s (24 + n) 0) 7 0
  isFrameRef s src && (cand s src).everQualified
/-- One FSYNC output. -/
def fsync (s : State) (n : Nat) : Fsync := tget {} s.fsyncs n
/-- The word of FSYNC output n, REF[24 + n]. -/
def fsyncWord (s : State) (n : Nat) : Word := refWord s (24 + n) 0
/-- A pulse of candidate `c` aligns the FSYNC outputs that take it as their source. -/
def alignFsyncs (s : State) (c : Nat) : State :=
  (List.range 8).foldl (fun s n =>
    let w := fsyncWord s n
    let f := fsync s n
    if bits w 7 0 ≠ c ∨ !isFrameRef s c ∨ !(cand s c).everQualified then s
    else if !(cand s c).qualified then s
    else
      let mode1 := bit w 8
      let cause : Option Nat := match f.waiting with
        | some k => some k
        | none => if f.running then none else some 2
      let move := !mode1 || cause.isSome
      let f' : Fsync := if move then { f with running := true, waiting := none, aligned := s.clk + bits w 31 16 * 16 } else f
      let s := { s with fsyncs := tput {} s.fsyncs n f' }
      match cause with
      | some k => raise s 187 (det n k 0 0)
      | none => s) s
/-- The outputs in mode 0 that lost their source realign when it qualifies again (R201). -/
def armFsyncs (s : State) (c : Nat) : State :=
  (List.range 8).foldl (fun s n =>
    let w := fsyncWord s n
    let f := fsync s n
    if bits w 7 0 = c ∧ !bit w 8 ∧ f.running then { s with fsyncs := tput {} s.fsyncs n { f with waiting := some 1 } } else s) s
/-- The period of an FSYNC output in 1/65,536 ns: the nominal period of its source, rounded to the 16-bit fraction (R200). Log entry 121 (DEDUCED). -/
def fsyncPeriod (s : State) (n : Nat) : Nat :=
  let r := (cand s (bits (fsyncWord s n) 7 0)).nominal
  if r.1 = 0 then 0 else (1000000000 * 65536 * r.2 + r.1 / 2) / r.1
/-- The output runs on its period: in mode 1 always, in mode 0 while its source is absent or disqualified (R201, R202). -/
def fsyncCoasts (s : State) (n : Nat) : Bool :=
  let w := fsyncWord s n
  bit w 8 || !(cand s (bits w 7 0)).qualified || !candPresent s (bits w 7 0)
/-- A pulse of the output starts at this tick: the pulse of its last alignment, or one a whole number of periods after it, at the first
tick at or after it (R200 to R202). Log entry 121 (DEDUCED). -/
def fsyncRises (s : State) (n : Nat) : Bool :=
  let f := fsync s n
  let p := fsyncPeriod s n
  let d := (s.clk - f.aligned) * 65536
  f.running && fsyncSourced s n && decide (f.aligned ≤ s.clk)
    && (decide (f.aligned = s.clk) || (fsyncCoasts s n && decide (p ≠ 0) && decide (d % p < 65536)))
/-- A pulse of the output ends at this tick: it is 4,096 ns wide (R200). -/
def fsyncFalls (s : State) (n : Nat) : Bool := let f := fsync s n; f.high && decide (f.rose + 4096 ≤ s.clk)
/-- An output whose source has become a clock reference, or one that has never qualified, is low (R200). -/
def settleFsyncs (s : State) : State :=
  (List.range 8).foldl (fun s n => if (fsync s n).high && !fsyncSourced s n then { s with fsyncs := tput {} s.fsyncs n { fsync s n with high := false } } else s) s
/-- The FSYNC rows that fall due at this tick. -/
def fsyncDue (s : State) : List Instr :=
  (List.finRange 8).filterMap fun n => if fsyncFalls s n.val then some (.fsyncPulse n false) else if fsyncRises s n.val then some (.fsyncPulse n true) else none

/-! ## Writes of REF words -/

/-- The refusals of a write that would leave REF word `w` of instance `i` at `v` (R176, R183, R184, R189, R193, R200);
`lo` and `hi` are the ranked list as it would stand. -/
def refWriteRej (i w : Nat) (v lo hi : Word) : Option Rej :=
  let a := mkAddr 0x03 i w
  let rng : Rej := { status := .range, addr := a }
  let bad : Rej := { status := .badParam, addr := a }
  if i ≤ 15 then
    match w with
    | 0 => firstRej [rejIf (decide (i = 4) && bit v 1) bad, rejIf (decide (i ≤ 4) && decide (bits v 31 16 ≠ 0)) bad,
        rejIf (decide (5 ≤ i) && decide (bits v 31 24 > 39)) rng]
    | 1 => firstRej [rejIf (decide (bits v 31 16 < bits v 15 0)) bad, rejIf (decide (bits v 15 0 = 0)) rng]
    | 2 => rejIf (decide (bits v 31 16 = 0)) rng
    | _ => none
  else if i = 16 then
    match w with
    | 1 => rejIf (decide (bits v 7 0 = 0)) rng
    | 2 => rejIf (decide (bits v 31 16 = 0) || decide (bits v 31 16 > 3600) || decide (bits v 15 0 > 60000)) rng
    | 3 | 4 =>
      let l := (List.range 8).map (fun k => bits lo (4 * k + 3) (4 * k)) ++ (List.range 8).map (fun k => bits hi (4 * k + 3) (4 * k))
      rejIf (!decide l.Nodup) bad
    | _ => none
  else rejIf (decide (w = 0) && decide (bits v 7 0 > 15)) rng
/-- The effect of a REF word write beyond the word itself: a change of REF_EN, REF_CLASS or REF_SRC disqualifies the
candidate and starts its qualification again (R176). -/
def refWritten (s : State) (i w : Nat) (old new : Word) : State :=
  if i ≤ 15 ∧ w = 0 ∧ old ≠ new then
    let s := disqualify s i 2
    let x := cand s i
    setCand s i { x with intervals := [], good := 0, since := s.clk, nominal := (0, 1), present := false, lastPulse := none }
  else s
/-- A change of a port's trained rate disqualifies the kind-1 candidates that measure it (R179). -/
def rateChanged (s : State) (kind port : Nat) : State :=
  (List.range 11).foldl (fun s k =>
    let c := k + 5
    let src := candSrc s c
    if refEnabled s c ∧ bit (refWord s c 0) 16 ∧ src.1 = kind ∧ src.2.1 = port then
      let s := disqualify s c 3
      setCand s c { cand s c with nominal := (0, 1) }
    else s) s
/-- A candidate that has become absent is lost at once: with cause 3 where its Wing is powered down (R175, R182, Table 7-9). Log entry 119 (DEDUCED). -/
def settleCand (s : State) (c : Nat) : State :=
  if candAbsent s c && ((cand s c).present || (cand s c).qualified) then
    let s := disqualify s c (if candDown s c then 3 else 0)
    setCand s c { cand s c with present := false, intervals := [], good := 0, lastPulse := none }
  else s
/-- Every candidate that capture sources feed. -/
def settleCands (s : State) : State := (List.range 11).foldl (fun s k => settleCand s (k + 5)) s

/-! ## Commands -/

/-- REF_SELECT (R185, R114). -/
def opRefSelect (c : Byte) : Op :=
  { opcode := 0x50
    sched := .yes
    auth := fun _ => .authenticated
    check := fun s => firstRej [rejIf (decide (c.toNat > 15)) (rejSt .range),
      rejIf (!(cand s c.toNat).qualified) { status := .badParam, addr := mkAddr 0x03 c.toNat 0 }]
    foot := fun _ => { touches := [ikey 0 0x03 c.toNat] }
    run := fun s =>
      let s0 := { s with dpll := { s.dpll with named := some c.toNat } }
      if s.dpll.active = some c.toNat then done s0 else done (follow s0 c.toNat 0) }

/-- The ranked list that REF_RANK writes: the named candidates, then the others in ascending order (R184). -/
def rankList (cs : List Byte) : List Nat :=
  let l := cs.map (·.toNat)
  l ++ (List.range 16).filter fun c => !l.contains c
/-- The word of eight positions of a ranked list. -/
def rankWord (l : List Nat) : Word := BitVec.ofNat 32 ((l.take 8).foldr (fun c acc => c % 16 + 16 * acc) 0)
/-- REF_RANK (R184, R114). -/
def opRefRank (cs : List Byte) : Op :=
  let l := rankList cs
  { opcode := 0x51
    sched := .yes
    auth := fun _ => .authenticated
    check := fun _ => firstRej [rejIf (decide (cs.length = 0) || decide (cs.length > 16)) (rejSt .range),
      rejIf (cs.any fun c => decide (c.toNat > 15)) (rejSt .range), rejIf (!decide cs.Nodup) (rejSt .badParam)]
    foot := fun _ => { writes := [(wkey 0 (mkAddr 0x03 16 3), allOnes, rankWord l), (wkey 0 (mkAddr 0x03 16 4), allOnes, rankWord (l.drop 8))],
                       touches := [ikey 0 0x03 16] }
    run := fun s => done (setWord (setWord s 0 0x03 16 3 (rankWord l)) 0 0x03 16 4 (rankWord (l.drop 8))) }

/-- FSYNC_REALIGN (R202, R114): the selected outputs wait for the next pulse of their source. -/
def opFsyncRealign (mask : Byte) : Op :=
  { opcode := 0x52
    sched := .yes
    check := fun s => ((List.range 8).find? fun n => mask.getLsbD n && !bit (fsyncWord s n) 8).map
      fun n => { status := .badParam, addr := mkAddr 0x03 (24 + n) 0 }
    foot := fun _ => { touches := ((List.range 8).filter fun n => mask.getLsbD n).map fun n => ikey 0 0x03 (24 + n) }
    run := fun s => done ((List.range 8).foldl (fun s n =>
      if mask.getLsbD n then { s with fsyncs := tput {} s.fsyncs n { (fsync s n) with waiting := some 0 } } else s) s) }

/-! ## Happenings -/

/-- A candidate's frame pulse, `interval` ps after the one before; 0 for the first (R180, R181). Log entry 34 (DEDUCED). -/
def refPulseNow (s : State) (n interval : Nat) : State :=
  if !frameMonitor s n || candAbsent s n then s
  else
    let x := cand s n
    if !x.present || decide (interval = 0) then
      alignFsyncs (setCand s n { x with present := true, intervals := [], good := 0, since := s.clk }) n
    else
      let iv := (interval :: x.intervals).take 4
      let sum := iv.foldl (· + ·) 0
      let mean : Nat × Nat := (1000000000000 * iv.length, sum)
      let r := nominalOf frameRates mean
      let one := within (1000000000000, interval) r (acceptOf s n)
      let s := setCand s n { x with
        intervals := iv, nominal := r, offset := if r.1 = 0 then 32767 else x.offset,
        good := if one then x.good + 1 else 0, since := if one then x.since else s.clk }
      let s := if iv.length = 4 then measured s n mean r else s
      alignFsyncs s n
/-- A candidate's frame pulse at a reference ball, or wherever the board gives its interval. Log entry 34 (DEDUCED). -/
def execRefPulse (c : Fin 16) (interval : Nat) (s : State) : Host.Outcome State Fault Refusal :=
  .next (refPulseNow s c.val interval)
/-- A frame pulse of a capture source reaches the kind-0 candidates whose pipe names it (R175); the interval is measured against the
TCXO, which the model's clock stands for (R180). -/
def sourceRefPulse (s : State) (src : Nat × Nat × Nat) : State :=
  (List.range 11).foldl (fun s k =>
    let c := k + 5
    if frameMonitor s c ∧ src.1 ≠ 0 ∧ candSrc s c = src ∧ !candAbsent s c then
      let iv := match (cand s c).lastPulse with
        | some t => (s.clk - t) * 1000
        | none => 0
      let s := refPulseNow s c iv
      setCand s c { cand s c with lastPulse := some s.clk }
    else s) s

/-- A 100 ms gate ends a clock candidate's frequency measurement (Table 7-5). Candidate 4 is measured against itself
(R180). -/
def execRefFreqMeasurement (c : Fin 16) (edges : Nat) (s : State) : Host.Outcome State Fault Refusal :=
  let n := c.val
  if !clockMonitor s n || candAbsent s n then .next s
  else if n = 4 then .next (measured s n (1, 1) (1, 1))
  else if edges = 0 then .next s
  else
    let x := cand s n
    let s := setCand s n { x with present := true, since := if x.present then x.since else s.clk }
    let m : Nat × Nat := (edges * 10, 1)
    .next (measured s n m (if n ≤ 3 then nominalOf clockRates m else kind1Nominal s n))

/-- A candidate's activity is lost (Table 7-5, R182). XIN runs for as long as the Ontor does, so candidate 4 loses none (R180). -/
def execRefActivityLost (c : Fin 16) (s : State) : Host.Outcome State Fault Refusal :=
  if c.val = 4 then .next s
  else
    let s := disqualify s c.val 0
    let x := cand s c.val
    .next (setCand s c.val { x with present := false, intervals := [], good := 0, lastPulse := none })

/-- The conditions of R181 have held for the qualification time: REF_QUAL_MS, and for a frame reference REF_QUAL_PULSES intervals besides. -/
def qualTimeOver (s : State) (c : Nat) : Bool :=
  let w := refWord s c 2
  let x := cand s c
  decide (x.since + bits w 31 16 * 1000000 ≤ s.clk) && (!isFrameRef s c || decide (bits w 15 0 ≤ x.good))
/-- A candidate's qualification time ends: it qualifies where it has been enabled, present and within its accept limit for the whole of it
(R181). -/
def execRefQualified (c : Fin 16) (s : State) : Host.Outcome State Fault Refusal :=
  let n := c.val
  let x := cand s n
  if refEnabled s n && classAllowed s n && candPresent s n && !x.qualified && !x.outside && decide (x.nominal.1 ≠ 0) && qualTimeOver s n then
    let s := raise (setCand s n { x with qualified := true, everQualified := true }) 182 (detOff n 0 x.offset)
    .next (runSelection (armFsyncs (checkTier s n) n))
  else .next s

/-- The outputs that are genlocked and running take a native phase step (R196); the remainder is kept per output. -/
def genlockedOuts (s : State) : List Nat :=
  (activeOuts s).filter fun o => timingRuns (out s o) && !(out s o).forceFree && decide (outKind s o = 1)
/-- A phase step in whole clocks of an output, rounded to the nearest (R196). -/
def stepClocks (s : State) (o : Nat) (ps : Int) : Int := roundRat ((ps : Rat) * pixelClock (word s) o / 1000000000000)
/-- Adds a native phase step, in ps, to the frame phase and to every genlocked output's remainder: its next blanking takes it, and its alignment
instants move with it (R196, R198, R420). -/
def addStep (s : State) (ps : Int) : State :=
  let s := (genlockedOuts s).foldl (fun s o =>
    let x := out s o
    let k := stepClocks s o ps
    setOut s o { x with stepLeft := x.stepLeft + k, remain := x.remain + k, stepNew := true, alignAt := x.alignAt.map (· + (ps : Rat) / 1000) }) s
  { s with dpll := { s.dpll with stepping := some (s.dpll.stepping.getD 0 + ps), origin := s.dpll.origin.map (· + (ps : Rat) / 1000) } }
/-- Δ in units of 16 ns, as the 24-bit field of event 186. It is truncated toward zero and its low 24 bits are given, where Table 7-9 states
neither. Log entry 120 (DEDUCED). -/
def stepField (ps : Int) : Nat := (BitVec.ofInt 24 (ps.tdiv 16000)).toNat
/-- Once every genlocked output has taken the whole step, event 186 is raised again (R198); its Δ is that of all steps taken together. Log
entry 120 (DEDUCED). -/
def settleStep (s : State) : State :=
  match s.dpll.stepping with
  | none => s
  | some ps =>
    if (genlockedOuts s).any fun o => decide ((out s o).stepLeft ≠ 0) then s
    else raise { s with dpll := { s.dpll with stepping := none } } 186 (BitVec.ofNat 32 (stepField ps + 33554432))

/-! ## The loop (R188 to R190) -/

/-- The rate of the phase comparisons on a candidate in Hz: 2 kHz for a clock reference, one per pulse for a frame reference (Table 7-7). -/
def comparisonRate (s : State) (c : Nat) : Rat :=
  if isFrameRef s c then ((cand s c).nominal.1 : Rat) / max 1 (cand s c).nominal.2 else 2000
/-- The bandwidth in effect: the acquisition figure in ACQUIRE, else the tracking one, or a tenth of the comparison rate where that is
lower (R189, Table 7-7). -/
def loopBandwidth (s : State) (c : Nat) : Rat :=
  let wide := decide (s.dpll.state = 1)
  let fig : Rat := if isFrameRef s c then (if wide then 2 else 1 / 20) else (if wide then 200 else 10)
  min fig (comparisonRate s c / 10)
/-- The control value the loop holds where no reference steers it: zero offset against the TCXO in FREERUN, the holdover value in HOLDOVER
(R189, R194). -/
def heldControl (s : State) : Option Int :=
  match s.dpll.state with
  | 0 => some 0
  | 3 => s.dpll.holdover
  | _ => none
/-- A phase against a reference with `rate` comparisons a second, taken within half a period: above −T/2 and at most T/2 (R195). -/
def wrapPhase (rate : Rat) (ps : Int) : Int :=
  if rate = 0 then ps
  else
    let t : Rat := 1000000000000 / rate
    roundRat ((ps : Rat) - t * (((ps : Rat) / t - 1 / 2).ceil : Rat))
/-- The first comparison on a new reference takes the phase step in the style of the change, and re-bases the comparator, so that it counts
as one within the lock window (R195 to R198, Table 7-8 step 8). -/
def takeStep (s : State) (ps : Int) : State :=
  let compat := s.dpll.compat
  let s := { s with dpll := { s.dpll with measure := false, stored := if compat then ps else 0, inWin := 1 } }
  let s := raise s 186 (BitVec.ofNat 32 (stepField ps + 16777216 * b2n compat))
  if compat then s else settleStep (addStep s ps)
/-- A comparison counts toward the lock or its loss (Table 7-6). -/
def countComparison (s : State) (c : Nat) (ps : Int) : State :=
  let win : Int := if isFrameRef s c then 1000000 else 8000
  let err := ps - s.dpll.stored
  { s with dpll := { s.dpll with
    inWin := if (err.natAbs : Int) ≤ win then s.dpll.inWin + 1 else 0, outWin := if (err.natAbs : Int) > 4 * win then s.dpll.outWin + 1 else 0 } }
/-- A DPLL phase comparison, with the phase error in ps (R188, R189, R195 to R198). -/
def execDpllComparison (phase : Int) (s : State) : Host.Outcome State Fault Refusal :=
  match s.dpll.active with
  | none => .next s
  | some c =>
    let ps := wrapPhase (comparisonRate s c) phase
    let s := if s.dpll.measure then takeStep s ps else countComparison s c ps
    if s.dpll.state = 1 ∧ s.dpll.inWin ≥ bits (refWord s 16 1) 7 0 then .next (dpllTo s 2 1)
    else if s.dpll.state = 2 ∧ s.dpll.outWin ≥ 4 then .next (dpllTo s 1 2)
    else .next s

/-- Every 100 ms while LOCKED the average of the control value is recorded (R192). An interval counts as spent in LOCKED where the DPLL has
been in LOCKED since before it began, and records older than any window and guard can reach are dropped. -/
def execHoldoverIntervalRecord (avg : Int) (s : State) : Host.Outcome State Fault Refusal :=
  if s.dpll.state = 2 ∧ s.dpll.since + 100000000 ≤ s.clk then
    let keep := s.dpll.records.filter fun r => decide (s.clk ≤ r.1 + 3660100000000)
    .next { s with dpll := { s.dpll with records := (s.clk, avg) :: keep } }
  else .next s

/-- The DPLL has been in ACQUIRE for 10 s (R191). -/
def execAcquireAlarm (s : State) : Host.Outcome State Fault Refusal :=
  if s.dpll.state = 1 ∧ s.dpll.since + 10000000000 ≤ s.clk then .next { s with dpll := { s.dpll with slow := true } } else .next s

/-- REF_ALARM_N is driven low (R191, R188). -/
def refAlarmLow (s : State) : Bool :=
  !(match s.boot.phase with | .curator | .done => true | _ => false)
    || decide (s.dpll.state = 0) || decide (s.dpll.state = 3) || s.dpll.slow || decide (s.dpll.disagree ≠ [])
    || (s.dpll.named.isSome && decide (s.dpll.named ≠ s.dpll.active))

/-- An FSYNC output starts or ends its 4,096 ns pulse, where that is due (R200 to R202). -/
def execFsyncPulse (n : Fin 8) (high : Bool) (s : State) : Host.Outcome State Fault Refusal :=
  let f := fsync s n.val
  if high then
    (if fsyncRises s n.val then .next { s with fsyncs := tput {} s.fsyncs n.val { f with high := true, rose := s.clk } } else .next s)
  else if fsyncFalls s n.val then .next { s with fsyncs := tput {} s.fsyncs n.val { f with high := false } } else .next s

end Sys2Proof.Machine
end

