-- ==== Sys2Proof/Machine/Synth.lean ====
section
/-! DEFINITION. Clock synthesizers (chapter 08): the frequency word, starting and retuning, band memories and hops, the
ramp generator, dither and spreading, loss of lock, and the SYN_LOCK balls. -/

namespace Sys2Proof.Machine
open Sys2Proof

/-- One synthesizer. -/
def syn (s : State) (n : Nat) : Syn := tget {} s.syns n
/-- Sets one synthesizer. -/
def setSyn (s : State) (n : Nat) (x : Syn) : State := { s with syns := tput {} s.syns n x }
/-- SYN word `w`. -/
def synWord (s : State) (n w : Nat) : Word := word s 0 0x04 n w
/-- SYN_FREQ, the word in effect. -/
def synFreq (s : State) (n : Nat) : Word := synWord s n 0
/-- SYN_EN. -/
def synOn (s : State) (n : Nat) : Bool := bit (synWord s n 2) 0

/-- The word ranges that the output ranges of Table 8-1 give (R204): f = 100 MHz × W ÷ 2^24. -/
def synRange (n : Nat) : Nat × Nat :=
  if n ≤ 7 then (0x0019999A, 0x19000000)
  else if n ≤ 9 then (0x0019999A, 0x02000000)
  else if n = 10 then (0x01900000, 0x01900000) else (0x0A000000, 0x0A000000)
/-- A word lies in the range of its synthesizer. -/
def inRange (n : Nat) (w : Nat) : Bool := decide ((synRange n).1 ≤ w) && decide (w ≤ (synRange n).2)
/-- A frequency word and a divider give a pixel clock of 10 MHz to 1,200 MHz (R207). -/
def pixelOk (w div : Nat) : Bool :=
  decide (100 * w ≥ 10 * div * 16777216) && decide (100 * w ≤ 1200 * div * 16777216)
/-- Every output that names the synthesizer keeps a legal pixel clock with word `w` (R207). -/
def pixelsOk (s : State) (n w : Nat) : Bool := (namedOuts s n).all fun o => pixelOk w (clkDiv (outWord s o 3))
/-- A word within the audio band: ±2 % of 98.304 MHz (R472). -/
def audioBand (w : Nat) : Bool := decide ((((w * 100000000 : Nat) : Int) - 98304000 * 16777216).natAbs * 50 ≤ 98304000 * 16777216)
/-- While a TDM port is enabled on the synthesizer, its word stays in the audio band (R472). -/
def audioOk (s : State) (n w : Nat) : Bool := !tdmOn s n || audioBand w
/-- Two words lie within ±0.1 % of one another, the first being in effect (R210). -/
def inPlace (old new : Nat) : Bool := decide (((new : Int) - old).natAbs * 1000 ≤ old)

/-- The time since a synthesizer's task began, in whole µs, saturating in 16 bits. -/
def sinceUs (s : State) (x : Syn) : Nat := sat 16 ((s.clk - x.since) / 1000)
/-- Gates a synthesizer for a task that ends with a lock. Log entry 35 (DESIGN CHOICE). -/
def beginTask (s : State) (n : Nat) (t : SynTask) : State :=
  setSyn s n { syn s n with task := t, locked := false, gated := true, since := s.clk, searchAt := s.clk, gatedAt := s.clk, fails := 0, holding := false }

/-! ## Writes of SYN words -/

/-- The refusals of a write that would leave SYN word `w` of SYN[n] at `v`, `old` being the word in effect
(R137, R204 to R211, R219 to R221). Log entry 36 (DEDUCED). -/
def synWriteRej (s : State) (n w : Nat) (old v : Word) : Option Rej :=
  let a := mkAddr 0x04 n w
  let rng : Rej := { status := .range, addr := a }
  let bad : Rej := { status := .badParam, addr := a }
  let x := syn s n
  match w with
  | 0 => firstRej [
      rejIf (decide (n = 10) && decide (v ≠ 0x01900000#32)) bad,
      rejIf (!inRange n v.toNat) rng,
      rejIf (!pixelsOk s n v.toNat || !audioOk s n v.toNat) rng,
      rejIf (x.ramping || steered s n) { status := .busy },
      rejIf (synOn s n && !inPlace old.toNat v.toNat && synBusy s n) { status := .busy }]
  | 1 => rejIf (decide (bits v 23 0 = 0)) rng
  | 2 =>
    let mode := bits v 3 2
    let depth := bits v 11 4
    let change := decide (bits old 11 2 ≠ bits v 11 2)
    let feeds := (fedOuts s n).any fun o => decide (outKind s o ≠ 0)
    firstRej [
      rejIf (decide (depth > 100)) rng,
      rejIf (change && decide (mode ≠ 0) && decide (depth = 0)) bad,
      rejIf (change && decide (n ≤ 7) && decide (mode = 1) && (feeds || steered s n)) bad,
      rejIf (change && (decide (n = 8) || decide (n = 9)) && decide (mode ≠ 0)) bad,
      rejIf (change && decide (n = 10) && decide (mode ≠ 0) && !(decide (mode = 1) && decide (depth = 50))) bad,
      rejIf (decide (mode = 3)) rng,
      rejIf (change && decide (n = 10) && anyPlkUp s) { status := .busy },
      rejIf (bit old 0 && !bit v 0 && synBusy s n) { status := .busy }]
  | _ => none

/-- The effect of a SYN word write beyond the word itself. Log entry 68 (DESIGN CHOICE). -/
def synWritten (s : State) (n w : Nat) (old new : Word) : State :=
  let x := syn s n
  match w with
  | 0 =>
    if !synOn s n then s
    else if old = new then s
    else if inPlace old.toNat new.toNat then
      -- The spec bounds the duration by 20 µs and states no value: a free value within the bound.
      let (f, s) := drawByte s
      raise s 190 (det2 n 1 (f.toNat % 21))
    else beginTask s n .retune
  | 1 => setSyn s n { x with dither := BitVec.ofNat 24 (bits new 23 0) }
  | 2 =>
    if bit new 0 ∧ !bit old 0 then beginTask s n .start
    else if !bit new 0 ∧ bit old 0 then
      setSyn s n { x with locked := false, gated := true, task := .idle, holding := false, ramping := false, pendHop := none }
    else s
  | _ => s

/-- The spread setting in effect changes at the start of the next spreading period (R220); every 31,250 ns is one. -/
def takeSpread (s : State) (n : Nat) : State :=
  let w := synWord s n 2
  setSyn s n { syn s n with spread := (bits w 3 2, bits w 11 4) }
/-- One step of the 24-bit dither generator, x^24 + x^23 + x^22 + x^17 + 1 (R219). Log entry 37 (DEDUCED). -/
def ditherStep (x : BitVec 24) : BitVec 24 :=
  let b := x.getLsbD 23 ^^ x.getLsbD 22 ^^ x.getLsbD 21 ^^ x.getLsbD 16
  (x <<< 1) ||| (if b then 1#24 else 0#24)
/-- SYN_DITHER_EN, on a synthesizer that is on. -/
def dithers (s : State) (n : Nat) : Bool := (synOn s n || decide (n = 11)) && bit (synWord s n 2) 1
/-- A phase-detector comparison, every 10 ns: the dither generator of each synthesizer that dithers takes a step (R219, R222). -/
def ditherTickSyn (s : State) (n : Nat) : State :=
  if dithers s n then setSyn s n { syn s n with dither := ditherStep (syn s n).dither } else s
/-- The word that the modulator takes at a comparison, with 16 further fraction bits: the word in effect with the ramp's fraction, and 1 LSB more or
less as bit 0 of the dither generator says (R216, R219). Log entry 37 (DEDUCED). -/
def modulatorWord (s : State) (n : Nat) : Int :=
  let x := syn s n
  let w : Int := ((synFreq s n).toNat : Int) * 65536 + x.frac.toNat
  if dithers s n then (if x.dither.getLsbD 0 then w + 65536 else w - 65536) else w
/-- The place in the spreading triangle: 0 at the period's start, 1 at its middle, 0 at its end; 32 kHz (R220). Log entry 37 (DEDUCED). -/
def triangle (clk : Nat) : Rat := let t := clk % 31250; if t ≤ 15625 then (t : Rat) / 15625 else (31250 - t : Nat) / (15625 : Rat)
/-- The factor that spreading puts on the word: down spread moves it between 1 and 1 − depth, centre spread between 1 ± depth ÷ 2; the depth is in
0.01 % (R220). -/
def spreadFactor (s : State) (n : Nat) : Rat :=
  let d : Rat := ((syn s n).spread.2 : Rat) / 10000
  match (syn s n).spread.1 with
  | 1 => 1 - d * triangle s.clk
  | 2 => 1 + d / 2 * (2 * triangle s.clk - 1)
  | _ => 1
/-- The output frequency of a synthesizer at this tick in Hz, before the loop's own tracking: 100 MHz × W ÷ 2^24 (R204, R206, R216, R219, R220). -/
def synHz (s : State) (n : Nat) : Rat := 100000000 * (modulatorWord s n : Rat) / (16777216 * 65536) * spreadFactor s n

/-! ## Commands -/

/-- The synthesizers an opcode may name: SYN0 to SYN10 (R114). -/
def synNumRej (n : Byte) : Option Rej := rejIf (decide (n.toNat > 10)) (rejSt .range)
/-- The number under which changes of a synthesizer's SYN_FREQ contest: any two of them contradict (R211). -/
def freqKey (n : Nat) : Nat := 3221225472 + n
/-- The footprint of a command that changes SYN_FREQ. -/
def freqFoot (n : Nat) : Foot := { touches := [ikey 0 0x04 n, freqKey n], reassigns := [freqKey n] }

/-- An unfinished command of the same port holds the synthesizer: SYN_BAND_STORE, or a self-test of it (R79). -/
def synHeld (s : State) (p : Port) (n : Nat) : Option Rej := instHeldRej s p 0x04 0 n
/-- Starts a hop at once: the output is gated, and the word takes effect (R213). -/
def hopNow (s : State) (n mem : Nat) (w : Word) : State :=
  let s := setWord s 0 0x04 n 0 w
  beginTask (setSyn s n { syn s n with frac := 0#16, pendHop := none }) n (.hop mem)
/-- SYN_HOP (R211, R213, R214, R114). -/
def opSynHop (q : Req) (n mem : Byte) (w : Word) : Op :=
  let k := n.toNat
  let m := mem.toNat
  { opcode := 0x53
    sched := .yes
    auth := fun _ => .authenticated
    check := fun s =>
      let x := syn s k
      firstRej [
        synNumRej n,
        rejIf (decide (m > 7)) (rejSt .range),
        match tget none x.bands m with
        | none => some { status := .badParam, addr := mkAddr 0x04 k 3 }
        | some b => firstRej [
            rejIf (!inRange k w.toNat) { status := .range, addr := mkAddr 0x04 k 0 },
            rejIf (!pixelsOk s k w.toNat || !audioOk s k w.toNat) { status := .range, addr := mkAddr 0x04 k 0 },
            rejIf (decide ((((w.toNat * b.post : Nat) : Int) - b.vco).natAbs * 100 > 6 * b.vco))
              { status := .badParam, addr := mkAddr 0x04 k 0 }],
        rejIf (x.ramping || steered s k) (rejSt .busy),
        rejIf (decide ((servedOuts s k).length ≥ 2)) (rejSt .busy),
        synHeld s q.port k]
    foot := fun _ => freqFoot k
    run := fun s =>
      if servedOuts s k = [] then done (hopNow s k m w)
      else done (setSyn s k { syn s k with pendHop := some (m, w) }) }

/-- What a SYN_BAND_STORE records: the band in use, the post-divider, the VCO frequency at that moment, and a tuning measurement, of which the spec gives
no value: a free one (R212). -/
def bandRecord (s : State) (n : Nat) : Band × State :=
  let x := syn s n
  let (f, s) := drawWord s
  (⟨x.band, x.post, (synFreq s n).toNat * x.post, f⟩, s)
/-- SYN_BAND_STORE: the record is taken while the synthesizer is locked, and written into the memory by the time the command completes (R212). -/
def opSynBandStore (q : Req) (n mem : Byte) : Op :=
  let k := n.toNat
  { opcode := 0x54
    auth := fun _ => .authenticated
    check := fun s =>
      let x := syn s k
      firstRej [synNumRej n, rejIf (decide (mem.toNat > 7)) (rejSt .range),
        rejIf (!x.locked || x.ramping || x.gated) (rejSt .busy),
        rejIf (s.runs.any fun r => match r.job with | .bandStore j _ => decide (j = k) | _ => false) (rejSt .busy),
        synHeld s q.port k]
    foot := fun _ => { touches := [ikey 0 0x04 k] }
    run := fun s =>
      let (b, s) := bandRecord s k
      done (setSyn s k { syn s k with storing := some (mem.toNat, b) })
    job := some (.bandStore k mem.toNat) }
/-- The band memory write completes, and the Placard is formed (R212). -/
def execSynBandStoreComplete (n : Fin 12) (s : State) : Host.Outcome State Fault Refusal :=
  match takeRun (fun r => match r.job with | .bandStore k _ => decide (k = n.val) | _ => false) s.runs with
  | none => .next s
  | some (r, rest) =>
    let k := n.val
    let x := syn s k
    let x' := match x.storing with
      | some (m, b) => { x with bands := tput none x.bands m (some b), storing := none }
      | none => x
    .next (finishRun (setSyn { s with runs := rest } k x') r .ok [])

/-- SYN_RAMP_LOAD (R215, R211, R208). -/
def opSynRampLoad (q : Req) (n : Byte) (segs : List Seg) : Op :=
  let k := n.toNat
  { opcode := 0x55
    auth := fun _ => .authenticated
    check := fun s => firstRej [synNumRej n,
      rejIf (decide (segs.length = 0) || decide (segs.length > 64)) (rejSt .range),
      rejIf (segs.any fun g => decide (g.dur.toNat < 1000)) (rejSt .range),
      rejIf ((syn s k).ramping || steered s k) (rejSt .busy),
      synHeld s q.port k]
    foot := fun _ => { touches := [ikey 0 0x04 k] }
    run := fun s => done (setSyn s k { syn s k with profile := segs }) }

/-- A ramp segment's length in whole µs (R215). -/
def segUs (g : Seg) : Nat := g.dur.toNat / 1000
/-- The 48-bit words at the segment ends of a profile (R217). -/
def rampEnds (w48 : Int) : List Seg → List Int
  | [] => []
  | g :: r => let e := w48 + sext32 g.slope * segUs g; e :: rampEnds e r
/-- A ramp of some segments starts from the word in effect, in place of any that runs; the loaded profile stays (R215, R216, R430). -/
def rampNow (s : State) (n : Nat) (segs : List Seg) : State :=
  raise (setSyn s n { syn s n with ramp := segs, rampAt := s.clk, ramping := true, segIdx := 0, segRun := 0, frac := 0#16 }) 192 (det n segs.length 0 0)
/-- SYN_RAMP_START (R216, R217). -/
def opSynRampStart (q : Req) (n : Byte) : Op :=
  let k := n.toNat
  { opcode := 0x56
    sched := .yes
    auth := fun _ => .authenticated
    check := fun s =>
      let x := syn s k
      let w := (synFreq s k).toNat
      let ends := rampEnds ((w : Int) * 65536) x.profile
      firstRej [synNumRej n,
        rejIf (decide (x.profile = [])) { status := .badParam, addr := mkAddr 0x04 k 3 },
        rejIf ((fedOuts s k).any fun o => decide (outKind s o = 1)) { status := .badParam, addr := mkAddr 0x04 k 0 },
        rejIf (ends.any fun e => decide (e < 0) || decide ((e - (w : Int) * 65536).natAbs * 100 > 6 * w * 65536)
          || !inRange k (e.toNat / 65536) || !pixelsOk s k (e.toNat / 65536)
          || !audioOk s k (e.toNat / 65536)) { status := .range, addr := mkAddr 0x04 k 0 },
        rejIf (x.ramping || steered s k) (rejSt .busy),
        synHeld s q.port k]
    foot := fun _ => freqFoot k
    run := fun s => done (rampNow s k (syn s k).profile) }

/-! ## Happenings -/

/-- One whole microsecond of a running ramp: the segment's slope is added to the 48-bit word (R216). -/
def execRampStep (n : Fin 12) (s : State) : Host.Outcome State Fault Refusal :=
  let k := n.val
  let x := syn s k
  if !x.ramping ∨ s.clk < x.rampAt + 1000 then .next s
  else
    match x.ramp[x.segIdx]? with
    | none => .next (setSyn s k { x with ramping := false })
    | some g =>
      let w48 : Int := ((synFreq s k).toNat : Int) * 65536 + x.frac.toNat + sext32 g.slope
      let v := w48.toNat
      let s := setWord s 0 0x04 k 0 (BitVec.ofNat 32 (v / 65536))
      let run := x.segRun + 1
      let next := decide (run ≥ segUs g)
      let idx := if next then x.segIdx + 1 else x.segIdx
      let last := decide (idx ≥ x.ramp.length)
      let s := setSyn s k { x with rampAt := x.rampAt + 1000, frac := BitVec.ofNat 16 v, segIdx := idx, segRun := if next then 0 else run, ramping := !last }
      .next (if last then raise s 193 (det2 k 0 x.ramp.length) else s)

/-- A synthesizer takes part in a task that a lock ends. -/
def searching (x : Syn) : Bool := decide (x.task ≠ .idle) && !x.locked

/-- Lock is reached (R209, R210, R213, R222): a commanded task ungates and raises event 190; a relock begins its 100 µs
hold; a hop that locks does so on the stored band. SYN11's lock starts the timebase at boot and otherwise raises event 201 (R152, R153). Log entries 4 (DESIGN CHOICE), 35 (DESIGN CHOICE). -/
def execSynLockAcquired (n : Fin 12) (band post : Nat) (s : State) : Host.Outcome State Fault Refusal :=
  let k := n.val
  let x := syn s k
  if !searching x then .next s
  else
    let kept : Band := match x.task with | .hop m => (tget none x.bands m).getD ⟨band, post, 0, 0#32⟩ | _ => ⟨band, post, 0, 0#32⟩
    let x' := { x with locked := true, lockedAt := s.clk, band := kept.band, post := kept.post, fails := 0 }
    if k = 11 then
      let s' := setSyn s k { x' with task := .idle, gated := false }
      if s.tb.running then .next (raise s' 201 (det 1 0 0 0))
      else .next { s' with tb := { s'.tb with running := true } }
    else
      match x.task with
      | .relock => .next (setSyn s k { x' with holding := true })
      | .start => .next (raise (setSyn s k { x' with task := .idle, gated := false }) 190 (det2 k 0 (sinceUs s x)))
      | .retune => .next (raise (setSyn s k { x' with task := .idle, gated := false }) 190 (det2 k 2 (sinceUs s x)))
      | .hop _ => .next (raise (setSyn s k { x' with task := .idle, gated := false }) 190 (det2 k 3 (sinceUs s x)))
      | .fallback m =>
        let (f, s) := drawWord s
        let b : Band := ⟨band, post, (synFreq s k).toNat * post, f⟩
        let s' := setSyn s k { x' with task := .idle, gated := false, bands := tput none x.bands m (some b) }
        .next (raise s' 190 (det2 k 3 (sinceUs s x)))
      | .idle => .next s

/-- A hop's stored band has not locked within 20 µs: a full search follows, and event 191 (R213). -/
def execSynHopLockTimeout (n : Fin 12) (s : State) : Host.Outcome State Fault Refusal :=
  let x := syn s n.val
  match x.task with
  | .hop m =>
    if x.locked ∨ s.clk < x.since + 20000 then .next s
    else .next (raise (setSyn s n.val { x with task := .fallback m, searchAt := s.clk }) 191 (det n.val m 0 0))
  | _ => .next s

/-- A band search has not locked within 400 µs: it starts again, with event 194 at every 16th failure of a relock
(R222). -/
def execSynSearchTimeout (n : Fin 12) (s : State) : Host.Outcome State Fault Refusal :=
  let k := n.val
  let x := syn s k
  if !searching x || (match x.task with | .hop _ => true | _ => false) || decide (s.clk < x.searchAt + 400000) then .next s
  else
    let f := x.fails + 1
    let s := setSyn s k { x with fails := f, searchAt := s.clk }
    .next (if x.task = .relock ∧ f % 16 = 0 then raise s 194 (field 0 8 k ||| field 8 24 (sat 24 f)) else s)

end Sys2Proof.Machine
end

