-- ==== Sys2Proof/Machine/OutLimits.lean ====
section
/-! DEFINITION. Output timing: the pixel clock, frame rate and ratio, and the checks of Tables 17-1 and 17-2, made against
any reading of the object words (in effect, as projected, or as an image would leave them). -/

namespace Sys2Proof.Machine
open Sys2Proof

/-- The active pixel rate in pixels per second (R417). -/
def activeRate (rd : Rd) (o : Nat) : Rat := (hAct rd o * vAct rd o : Nat) * frameRate rd o
/-- An output is enabled by its words: a size and a pixel clock divider (R621). -/
def outEnabledIn (rd : Rd) (o : Nat) : Bool :=
  decide (hAct rd o ≠ 0) && decide (vAct rd o ≠ 0) && decide (clkDiv (rdOut rd o 3) ≠ 0)
/-- An output is enabled by its words in effect. -/
def outEnabled (s : State) (o : Nat) : Bool := outEnabledIn (word s) o

/-- The ratio m/n nearest `x` within the tolerance, with the smallest n (R422). Log entry 76 (DEDUCED). -/
def findRatio (x tol : Rat) : Option (Nat × Nat) :=
  (List.range 8).findSome? fun k =>
    let n : Nat := k + 1
    let m : Nat := (roundRat (x * (n : Rat))).toNat
    let err : Rat := (m : Rat) / (n : Rat) - x
    if 1 ≤ m ∧ m ≤ 240 ∧ (if err < 0 then -err else err) ≤ tol * x then some (m, n) else none
/-- The nominal period of an anchor as a rate; none before its first (R421). -/
def anchorRate (s : State) (g : Nat) : Option Rat :=
  let r := (cand s g).nominal
  if r.1 = 0 then none else some ((r.1 : Rat) / r.2)
/-- The anchor of an output. -/
def outAnchor (rd : Rd) (o : Nat) : Nat := bits (rdOut rd o 2) 11 8
/-- The pipe a source-locked or following output names: number 40 × bank + pipe. -/
def outPipe (s : State) (rd : Rd) (o : Nat) : Nat :=
  let w := rdOut rd o 2
  let b := if s.modes.cur = 2 then wingCode (out s o).wing else bits w 24 24
  40 * b + bits w 23 16
/-- The output's kind in a reading: 0 free-running, 1 genlocked, 2 source-locked. -/
def kindIn (rd : Rd) (o : Nat) : Nat := bits (rdOut rd o 2) 1 0
/-- Following is set in FRC_MODE of one of the output's Wings. Log entry 73 (DEDUCED). -/
def followsIn (rd : Rd) (o : Nat) (banks : List Nat) : Bool := banks.any fun b => bit (rd b 0x18 o 0) 4
/-- The output's synthesizer would be steered by it (R208). -/
def steersIn (rd : Rd) (o : Nat) (banks : List Nat) : Bool := decide (kindIn rd o = 2) || followsIn rd o banks
/-- The output is nominated as line-locked. -/
def nominated (rd : Rd) (o : Nat) : Bool := bit (rdOut rd o 1) 16
/-- The banks whose Wings compose an output that is not STOPPED. -/
def outBanks (s : State) (mode o : Nat) : List Nat := if mode = 2 then [0, 1] else [wingCode (out s o).wing]

/-- Output pixel rates of a mode: the device's and one Wing's (Table 2-1); none promised in M6. -/
def modeRates (mode : Nat) : Option (Rat × Rat) :=
  match mode with
  | 1 | 3 => some (12000000000, 6000000000)
  | 2 => some (6000000000, 6000000000)
  | 4 => some (7200000000, 3600000000)
  | 5 => some (4000000000, 4000000000)
  | _ => none
/-- Active outputs of a mode: the device's and one Wing's (Table 2-1). -/
def modeOuts (mode : Nat) : Nat × Nat :=
  match mode with
  | 2 => (10, 10) | 4 => (12, 12) | 5 => (4, 4) | _ => (20, 20)
/-- eDP link rates in units of 10 Mb/s per lane (Table 11-6). -/
def edpRate (code : Nat) : Nat :=
  match code with
  | 0 => 162 | 1 => 216 | 2 => 243 | 3 => 270 | 4 => 324 | 5 => 432 | 6 => 540 | _ => 810
/-- Bits per pixel of a CLR_DITHER value: 18, 24 or 30 (R301). -/
def panelBits (dither : Word) : Nat := 18 + 6 * bits dither 1 0
/-- An eDP port carries a pixel clock at a depth (R301). Log entry 74 (DEDUCED). -/
def edpCarries (clock : Rat) (bpp : Nat) (cfg : Word) : Bool :=
  decide (clock * bpp ≤ (78 : Rat) / 100 * (bits cfg 5 3) * (edpRate (bits cfg 2 0) * 10000000 : Nat))

/-- The enabled layers of a bank on an output. -/
def layersOnIn (rd : Rd) (b o : Nat) : List Nat :=
  (List.range 192).filter fun n => let w := rd b 0x13 n 1; bit w 31 && decide (bits w 4 0 = o)
/-- The rows of Table 17-2 that return MODE_FORBIDS, and the fifth layer of Table 2-2. `others` are the other outputs that are not STOPPED with the banks
that compose them; `full` counts this output too. -/
def outModeRej (rd : Rd) (mode o : Nat) (banks : List Nat) (full : Bool) (others : List (Nat × List Nat)) : Option Rej :=
  let no (w : Nat) : Rej := { status := .modeForbids, addr := mkAddr 0x12 o w }
  let all := if full then (o, banks) :: others else others
  let wingSum (b : Nat) : Rat := (all.filter fun x => x.2.contains b).foldl (fun t x => t + activeRate rd x.1) 0
  let nom (b : Nat) : Nat := (all.filter fun x => x.2.contains b && nominated rd x.1).length
  firstRej [
    rejIf (nominated rd o && (decide (mode ≠ 3) || decide (kindIn rd o = 0)
      || banks.any fun b => decide (rd b 0x18 o 0 ≠ 0#32) || decide ((layersOnIn rd b o).length > 4))) (no 1),
    rejIf (full && nominated rd o && banks.any fun b => decide (nom b > 4)) (no 1),
    match modeRates mode with
    | none => none
    | some (dev, per) =>
      rejIf (full && (decide (all.foldl (fun t x => t + activeRate rd x.1) 0 > dev)
        || [0, 1].any fun b => decide (wingSum b > per))) (no 3)]

/-- The rows of Table 17-2 that return RANGE or BAD_PARAM. `live` says the output is starting or not STOPPED, so that
it has driving Wings. -/
def outParamRej (s : State) (rd : Rd) (mode o : Nat) (banks : List Nat) (live starting : Bool) (others : List (Nat × List Nat)) :
    Option Rej :=
  let rng (w : Nat) : Rej := { status := .range, addr := mkAddr 0x12 o w }
  let bad (w : Nat) : Rej := { status := .badParam, addr := mkAddr 0x12 o w }
  let ht := hTotal rd o
  let ha := hAct rd o
  let vt := vTotal rd o
  let va := vAct rd o
  let hs := rdOut rd o 6
  let vs := rdOut rd o 9
  let port := rdOut rd o 1
  let f := frameRate rd o
  let clock := pixelClock rd o
  let tim := rdOut rd o 2
  let g := outAnchor rd o
  let fol := followsIn rd o banks
  firstRej [
    rejIf (decide (ha < 16) || decide (ha > 7680)) (rng 5),
    rejIf (decide (ht > 16384)) (rng 4),
    rejIf (decide (va < 8) || decide (va > 2160)) (rng 8),
    rejIf (decide (vt > 8191)) (rng 7),
    rejIf (decide (bits port 1 0 > 1) || decide (bits port 12 8 > if bits port 1 0 = 1 then 3 else 23)) (rng 1),
    rejIf (decide (clkDiv (rdOut rd o 3) = 0) || decide (clock < 10000000) || decide (clock > 1200000000)) (rng 3),
    rejIf (decide (ht * vt ≠ 0) && (decide (f < 24) || decide (f > 240))) (rng 3),
    rejIf (decide (activeRate rd o > 995328000)) (rng 5),
    rejIf (decide (bits tim 1 0 = 3)) (rng 2),
    rejIf (decide (ha % 4 ≠ 0)) (bad 5),
    rejIf (decide (ht < ha + 32)) (bad 4),
    rejIf (decide (bits hs 31 16 < ha) || decide (bits hs 15 0 = 0) || decide (bits hs 31 16 + bits hs 15 0 > ht)) (bad 6),
    rejIf (decide (vt < va + 3)) (bad 7),
    rejIf (decide (bits vs 31 16 < va) || decide (bits vs 15 0 = 0) || decide (bits vs 31 16 + bits vs 15 0 + 1 > vt)) (bad 9),
    rejIf (others.any fun x => decide (x.1 ≠ o) && decide (bits (rdOut rd x.1 1) 1 0 = bits port 1 0)
      && decide (bits (rdOut rd x.1 1) 12 8 = bits port 12 8)) (bad 1),
    rejIf (decide (bits port 1 0 = 0) && decide ((plk s (bits port 12 8)).st ≠ 0) && decide ((plk s (bits port 12 8)).role = 1)) (bad 1),
    rejIf (starting && !bit (rd 0 0x04 (clkSyn (rdOut rd o 3)) 2) 0) (bad 3),
    rejIf (decide (bits tim 1 0 = 1) && (!bit (rd 0 0x03 g 0) 0 || !bit (rd 0 0x03 g 0) 1 || match anchorRate s g with
      | none => false
      | some r => (findRatio (f / r) (1 / 2000)).isNone)) (bad 2),
    rejIf (live && (decide (bits tim 1 0 = 2) || fol) && decide (mode ≠ 2) && !banks.contains (bits tim 24 24)) (bad 2),
    rejIf (fol && decide (bits tim 1 0 ≠ 0)) (bad 2),
    rejIf (others.any fun x => decide (x.1 ≠ o) && decide (clkSyn (rdOut rd x.1 3) = clkSyn (rdOut rd o 3))
      && (steersIn rd o (if live then banks else [0, 1]) || steersIn rd x.1 x.2)) (bad 3),
    rejIf (live && decide (bits port 1 0 = 1) && banks.any fun b =>
      !edpCarries clock (panelBits (rd b 0x17 o 1)) (rd 0 0x0A (bits port 12 8) 0)) (rng 1)]

/-- The outputs that are not STOPPED, with the banks that compose them. -/
def liveOuts (s : State) (mode : Nat) : List (Nat × List Nat) := (activeOuts s).map fun o => (o, outBanks s mode o)

end Sys2Proof.Machine
end

