-- ==== Sys2Proof/Machine/Follow.lean ====
section
/-! DEFINITION. Following outputs (R430): the ramps that keep a free-running output at its source's rate. -/

namespace Sys2Proof.Machine
open Sys2Proof

/-- The running free-running outputs that follow a pipe of a bank. -/
def followers (s : State) (bank pipe : Nat) : List Nat :=
  (List.range 20).filter fun o => outRuns s o && decide (outKind s o = 0) && outFollows s o
    && decide (outPipe s (word s) o = 40 * bank + pipe)
/-- Replaces any ramp of a synthesizer by one segment toward the target word over eight frame periods of `us` whole
microseconds, no frame changing by more than 0.5 % (R430). -/
def followRamp (s : State) (n : Nat) (target : Nat) (us : Nat) : State :=
  let w := (synFreq s n).toNat
  let lim : Int := w * 65536 * 8 / 200
  let d : Int := ((target : Int) - w) * 65536
  let d := max (-lim) (min lim d)
  let seg : Seg := ⟨BitVec.ofInt 32 (d / (8 * us : Nat)), BitVec.ofNat 32 (8 * us * 1000)⟩
  rampNow s n [seg]
/-- A following output at a frame end of its source, whose period is `period` ns (R430). -/
def followOne (s : State) (period : Nat) (o : Nat) : State :=
  let x := out s o
  let n := clkSyn (outWord s o 3)
  match x.ratio with
  | none => s
  | some (m, d) =>
    let f := frameRate (word s) o
    if f = 0 ∨ period = 0 then s
    else
      let cur : Rat := 1000000000 / f
      let target : Rat := (period * d : Nat) / (m : Nat)
      let gap := if target < cur then cur - target else target - cur
      if gap * 5000 ≤ cur then s
      else
        let w := roundRat ((synFreq s n).toNat * cur / target)
        let lo : Int := x.baseWord.toNat * 94 / 100
        let hi : Int := x.baseWord.toNat * 106 / 100
        let sat := decide (w < lo) || decide (w > hi)
        let s := setOut s o { x with atLimit := sat }
        let s := if sat && !x.atLimit then
            raise s (136 + o) (det 12 (2 + 8 * wingCode x.wing) 0 0) else s
        followRamp s n (max lo (min hi w)).toNat (cur / 1000).floor.toNat
/-- A frame end of a capture source steers the outputs that follow it. -/
def followSource (s : State) (bank pipe period : Nat) : State :=
  (followers s bank pipe).foldl (fun s o => followOne s period o) s

end Sys2Proof.Machine
end

