-- ==== Sys2Proof/Machine/Mesh.lean ====
section
/-! DEFINITION. Warp meshes (R404 to R409, R118 to R120): the warp store, MESH_DATA, MESH_COMMIT, MESH_FROM_CAPTURE. -/

namespace Sys2Proof.Machine
open Sys2Proof

/-- One mesh: number 32 × bank + instance. -/
def mesh (s : State) (k : Nat) : Mesh := tget {} s.meshes k
/-- Sets one mesh. -/
def setMesh (s : State) (k : Nat) (m : Mesh) : State := { s with meshes := tput {} s.meshes k m }
/-- WRP_BASE of a word value. -/
def gridBase (w : Word) : Nat := bits w 20 0
/-- Columns, rows and entries of one buffer of a WRP_GRID value (R404). -/
def gridCols (w : Word) : Nat := bits w 11 0
def gridRows (w : Word) : Nat := bits w 23 12
def gridSize (w : Word) : Nat := gridCols w * gridRows w
/-- The grid spacing S of a WRP_GRID value. -/
def gridStep (w : Word) : Nat := 8 * 2 ^ bits w 25 24
/-- A mesh covers a destination (R407). -/
def gridCovers (grid dst : Word) : Bool :=
  let st := gridStep grid
  decide ((bits dst 15 0 + st - 1) / st + 1 ≤ gridCols grid) && decide ((bits dst 31 16 + st - 1) / st + 1 ≤ gridRows grid)
/-- The geometry words of a mesh in effect. -/
def meshBase (s : State) (k : Nat) : Word := word s (k / 32) 0x16 (k % 32) 1
def meshGrid (s : State) (k : Nat) : Word := word s (k / 32) 0x16 (k % 32) 2

/-- The refusals of a write that would leave the geometry of a mesh at `base` and `grid` (R140, R404): `others` are the
geometries of the Wing's other meshes. A mesh whose WRP_GRID was never written occupies no entries. -/
def meshGeomRej (a : Addr) (base grid : Word) (others : List (Word × Word)) : Option Rej :=
  let rng : Rej := { status := .range, addr := a }
  let n := 2 * gridSize grid
  firstRej [
    rejIf (decide (grid ≠ 0#32) && (decide (gridCols grid < 2) || decide (gridCols grid > 4095) || decide (gridRows grid < 2)
      || decide (gridRows grid > 4095) || decide (bits grid 25 24 = 3))) rng,
    rejIf (decide (gridBase base + n > 2097152)) rng,
    rejIf (others.any fun o => decide (n ≠ 0) && decide (gridSize o.2 ≠ 0) && !apart (gridBase base) n (gridBase o.1) (2 * gridSize o.2)) rng]

/-- The outputs that use a mesh: those on which an enabled layer that names it is shown. -/
def meshUsers (s : State) (k : Nat) : List Nat :=
  let b := k / 32
  (((onLayers s b).filter fun n => decide (lyrMesh s b n = some (k % 32)) && lyrShown s b n).map (lyrOut s b)).dedup
/-- The buffer an output reads: the one it last took (R119). -/
def meshFrontFor (s : State) (k o : Nat) : Bool := (tget none (mesh s k).lag o).getD (mesh s k).front

/-- Sets an entry of a Wing's warp store. -/
def warpSet (s : State) (bank entry : Nat) (v : Word) : State := { s with warp := tput 0#32 s.warp (bank * 2097152 + entry) v }
/-- An entry of a Wing's warp store. Log entry 10 (DESIGN CHOICE). -/
def warpGet (s : State) (bank entry : Nat) : Word := tget 0#32 s.warp (bank * 2097152 + entry)
/-- Writes entries at consecutive store positions. -/
def warpFill (s : State) (bank entry : Nat) : List Word → State
  | [] => s
  | v :: r => warpFill (warpSet s bank entry v) bank (entry + 1) r
/-- Entries accepted by a Wing since its last MESH_COMMIT launch. -/
def warpUsed (s : State) (bank : Nat) : Nat := if bank = 0 then s.warpUsedA else s.warpUsedB
/-- Sets that count. -/
def setWarpUsed (s : State) (bank n : Nat) : State := if bank = 0 then { s with warpUsedA := n } else { s with warpUsedB := n }

/-- Entries go into the back buffer of a mesh, from entry `first` on (R404, R409). -/
def meshWrite (s : State) (k first : Nat) (vs : List Word) : State :=
  let b := k / 32
  let m := mesh s k
  let back := if m.front then 0 else gridSize (meshGrid s k)
  let s := warpFill s b (gridBase (meshBase s k) + back + first) vs
  let s := setWarpUsed s b (warpUsed s b + vs.length)
  setMesh s k { m with accepted := m.accepted + vs.length }
/-- A mesh's buffers swap (R119): outputs that use it take the swap at their next commit tick. -/
def meshSwap (s : State) (k : Nat) : State :=
  let m := mesh s k
  let lag := (meshUsers s k).foldl (fun t o =>
    match tget none t o with
    | some _ => t
    | none => tput none t o (some m.front)) m.lag
  setMesh s k { m with front := !m.front, accepted := 0, lag := lag }
/-- An output takes the swaps and geometry changes that wait for it, at its commit tick. The geometry words change once
every output that uses the mesh has taken them (R409). -/
def meshTakeAt (s : State) (o : Nat) : State :=
  (List.range 64).foldl (fun s k =>
    let b := k / 32
    let n := k % 32
    let m := mesh s k
    let users := meshUsers s k
    let m := { m with lag := tput none m.lag o none }
    if waitingWords s b 0x16 n = [] then setMesh s k m
    else
      let took := if users.contains o then (o :: m.took).dedup else m.took
      if users.all took.contains then takeUnit (setMesh s k { m with took := [] }) b 0x16 n
      else setMesh s k { m with took := took }) s
/-- The geometry an output reads a mesh with: base and grid. -/
def meshGeomFor (s : State) (k o : Nat) : Word × Word :=
  if (mesh s k).took.contains o then (projected s (k / 32) 0x16 (k % 32) 1, projected s (k / 32) 0x16 (k % 32) 2)
  else (meshBase s k, meshGrid s k)
/-- The whole store of a Wing is cleared when the Wing is readied (R404). -/
def warpClear (s : State) (bank : Nat) : State :=
  { s with warp := s.warp.filter fun e => decide (e.1 / 2097152 ≠ bank),
           meshes := s.meshes.filter fun e => decide (e.1 / 32 ≠ bank) }

/-- The Wings' mesh numbers that a unit reference names. -/
def meshKeys (r : UnitRef) : List Nat := (banksOf r.bank.toNat).map fun b => 32 * b + r.inst.toNat
/-- The refusal of more entries than R120 allows. -/
def meshLimitRej (s : State) (r : UnitRef) (n : Nat) : Option Rej :=
  rejIf ((meshKeys r).any fun k => decide (warpUsed s (k / 32) + n > 524288))
    { status := .noResource, addr := mkAddr 0x16 r.inst.toNat 0 }

/-- MESH_DATA (R118, R120). -/
def opMeshData (q : Req) (m : UnitRef) (first : Word) (vs : List Word) : Op :=
  { opcode := 0x80
    check := fun s => firstRej [
      unitMode s 0x16 m, unitOwner s q 0x16 m, unitParam 0x16 m,
      rejIf ((meshKeys m).any fun k => decide (first.toNat + vs.length > gridSize (meshGrid s k)))
        { status := .range, addr := mkAddr 0x16 m.inst.toNat 2 },
      meshLimitRej s m vs.length]
    foot := fun _ => { touches := unitKeys 0x16 m }
    run := fun s => done (bulkPush ((meshKeys m).foldl (fun s k => meshWrite s k first.toNat vs) s) q 0x80 (banksOf m.bank.toNat)) }

/-- MESH_COMMIT (R119): every named mesh swaps, all together, and the Wing's count of accepted entries starts again. -/
def opMeshCommit (q : Req) (ms : List UnitRef) : Op :=
  { opcode := 0x81
    sched := .yes
    check := fun s => firstRej (
      ms.map (unitMode s 0x16) ++ ms.map (unitOwner s q 0x16)
      ++ [rejIf (decide (ms.length = 0) || decide (ms.length > 16)) (rejSt .range)] ++ ms.map (unitParam 0x16))
    foot := fun _ => { touches := ms.flatMap (unitKeys 0x16) }
    run := fun s =>
      let ks := (ms.flatMap meshKeys).dedup
      let s := ks.foldl meshSwap s
      done ((ks.map (· / 32)).dedup.foldl (fun s b => setWarpUsed s b 0) s) }

/-- MESH_FROM_CAPTURE (R120). A later request for a mesh takes the place of the standing one. Log entry 59 (DEDUCED). -/
def opMeshFromCapture (q : Req) (m pipe : UnitRef) (first count : Word) (every commit : Bool) : Op :=
  { opcode := 0x82
    sched := .yes
    check := fun s => firstRej [
      unitMode s 0x16 m, unitOwner s q 0x16 m, unitParam 0x16 m,
      rejIf (decide (pipe.bank ≠ m.bank)) { status := .badParam, addr := mkAddr 0x10 pipe.inst.toNat 0 },
      unitParam 0x10 pipe,
      rejIf ((meshKeys m).any fun k => decide (first.toNat + count.toNat > gridSize (meshGrid s k)))
        { status := .range, addr := mkAddr 0x16 m.inst.toNat 2 },
      rejIf ((banksOf pipe.bank.toNat).any fun b => decide ((tget {} s.caps (40 * b + pipe.inst.toNat)).fmt ≠ 0x0A))
        { status := .badParam, addr := mkAddr 0x10 pipe.inst.toNat 0 },
      meshLimitRej s m count.toNat]
    foot := fun _ => { touches := unitKeys 0x16 m ++ unitKeys 0x10 pipe }
    run := fun s => done ((banksOf m.bank.toNat).foldl (fun s b =>
      let k := 32 * b + m.inst.toNat
      let r : MeshReq := ⟨k, first.toNat, count.toNat, every, commit⟩
      let cs := s.caps.map fun e => (e.1, { e.2 with meshes := e.2.meshes.filter fun x => x.mesh ≠ k })
      let c := tget {} cs (40 * b + pipe.inst.toNat)
      { s with caps := tput {} (cs.filter fun e => e.2 ≠ {}) (40 * b + pipe.inst.toNat) { c with meshes := c.meshes ++ [r] } }) (bulkPush s q 0x82 (banksOf m.bank.toNat))) }

/-- A pipe's frame has ended with these 32-bit pixels: the requests that read it load their entries, where R120's limit
leaves room, and commit where asked. The requests that stay are answered. Log entry 59 (DEDUCED). -/
def meshFromFrame (s : State) (pixel : Nat → Word) (size : Nat) : List MeshReq → State × List MeshReq
  | [] => (s, [])
  | r :: rest =>
    let n := min r.count size
    let fits := decide (r.first + r.count ≤ gridSize (meshGrid s r.mesh)) && decide (warpUsed s (r.mesh / 32) + n ≤ 524288)
    let s := if fits then meshWrite s r.mesh r.first ((List.range n).map pixel) else s
    let s := if r.commit then setWarpUsed (meshSwap s r.mesh) (r.mesh / 32) 0 else s
    let (s, keep) := meshFromFrame s pixel size rest
    (s, if r.every then r :: keep else keep)

end Sys2Proof.Machine
end

