-- ==== Sys2Proof/Machine/Rings.lean ====
section
/-! DEFINITION. The Ledger's array, its records and rings (chapter 23), read without changing anything: validity, newest records,
slots out of service, write counts and wear. -/

namespace Sys2Proof.Machine
open Sys2Proof

/-! ## The array (R541, R558) -/

/-- A byte of the array; a page whose erase is still being completed reads 0x00. Log entry 10 (DESIGN CHOICE). -/
def ledgerByte (s : State) (a : Nat) : Byte := if s.ledger.erase.contains (a / 256) then 0#8 else tget 0#8 s.ledger.bytes a
/-- `n` bytes from an address. -/
def ledgerBytes (s : State) (a n : Nat) : List Byte := (List.range n).map fun i => ledgerByte s (a + i)
/-- The 256 bytes of a page. -/
def pageBytes (s : State) (p : Nat) : List Byte := ledgerBytes s (256 * p) 256
/-- The region of a page (Table 23-1). -/
def regionOf (p : Nat) : Nat :=
  if p ≤ 15 then 0 else if p ≤ 19 then 1 else if p ≤ 51 then 2 else if p ≤ 59 then 3 else if p ≤ 635 then 4
  else if p ≤ 891 then 5 else 6

/-! ## Rings (Tables 23-2 to 23-6, 24-1, 25-5) -/

/-- The ring codes of Table 23-5 beyond the PRS words: image directory, journal, retirement map, fault log. -/
def dirRing : Nat := 0x40
def journalRing : Nat := 0x41
def mapRing : Nat := 0x42
def logRing : Nat := 0x43
/-- The first byte of a ring. -/
def ringBase (r : Nat) : Nat :=
  256 * (if r < 16 then 20 + 2 * r else if r = dirRing then 4 else if r = journalRing then 16 else if r = mapRing then 12
    else if r = logRing then 636 else 52 + (r - 0x80))
/-- The bytes of a slot. -/
def slotLen (r : Nat) : Nat := if r = journalRing then 32 else if 0x80 ≤ r then 64 else 16
/-- The number of slots. -/
def slotCount (r : Nat) : Nat := if r = dirRing then 128 else if r = journalRing then 16 else if r = logRing then 4096 else if 0x80 ≤ r then 4 else 32
/-- Where the sequence lies in a record. -/
def seqAt (r : Nat) : Nat := if r = dirRing ∨ r = mapRing then 8 else if r = logRing then 0 else 4
/-- Rings whose records carry their slot's write count. -/
def counted (r : Nat) : Bool := decide (r < 16) || decide (0x80 ≤ r)
/-- The page a slot lies on. -/
def slotPage (r i : Nat) : Nat := (ringBase r + slotLen r * i) / 256
/-- The bytes of a slot. -/
def slotBytesOf (s : State) (r i : Nat) : List Byte := ledgerBytes s (ringBase r + slotLen r * i) (slotLen r)
/-- A record's sequence. -/
def recSeq (r : Nat) (b : List Byte) : Nat := leAt b (seqAt r) 4
/-- A record's write count. -/
def recCount (b : List Byte) : Nat := leAt b 8 4
/-- A ring code of Table 23-5, and a group of it. -/
def ringGroup (r g : Nat) : Bool :=
  if r = dirRing then decide (g ≤ 3) else if r = logRing then decide (g ≤ 127)
  else decide (g = 0) && (decide (r < 16) || decide (r = journalRing) || decide (r = mapRing) || (decide (0x80 ≤ r) && decide (r ≤ 0x87)))
/-- Every byte of a part of a record is zero. Log entry 8 (DESIGN CHOICE). -/
def zeroAt (b : List Byte) (o n : Nat) : Bool := (slice b o n).all fun x => decide (x = 0#8)
/-- Every field lies within its table's range (R551). -/
def fieldsOk (r : Nat) (b : List Byte) : Bool :=
  let count := decide (1 ≤ recCount b) && decide (recCount b ≤ 100000)
  if r < 16 then count
  else if r = dirRing then decide (byteAt b 0 ≤ 6) && decide (byteAt b 1 ≤ 1) && zeroAt b 2 2
  else if r = mapRing then ringGroup (byteAt b 0) (byteAt b 1) && zeroAt b 2 2
  else if r = journalRing then
    let op := byteAt b 2
    let item := byteAt b 12
    decide (leAt b 0 2 = 0x4A1D) && decide (1 ≤ op) && decide (op ≤ 4) && decide (byteAt b 3 ≤ 2) && zeroAt b 13 3 && zeroAt b 20 8
      && (if op ≤ 2 then decide (item ≤ 13) else if op = 3 then decide (item ≤ 1) else decide (item = 5) || decide (item = 6))
  else if r = logRing then true
  else decide (byteAt b 0 = r - 0x80) && decide (byteAt b 1 ≤ 2) && zeroAt b 2 2 && zeroAt b 12 4 && zeroAt b 48 12 && count
    && (decide (byteAt b 1 = 1) || zeroAt b 16 32)
/-- A slot's bytes are a valid record (R551). -/
def recValid (r : Nat) (b : List Byte) : Bool :=
  let n := slotLen r
  decide (1 ≤ recSeq r b) && fieldsOk r b && decide (crc32c (b.take (n - 4)) = BitVec.ofNat 32 (leAt b (n - 4) 4))
/-- The valid records of a ring with their slots, whatever the map says. -/
def allRecords (s : State) (r : Nat) : List (Nat × List Byte) :=
  ((List.range (slotCount r)).map fun i => (i, slotBytesOf s r i)).filter fun e => recValid r e.2
/-- The record with the highest sequence; of equal ones the one in the lower slot (R551, R553). -/
def newestOf (r : Nat) (l : List (Nat × List Byte)) : Option (Nat × List Byte) :=
  l.foldl (fun m e => match m with
    | none => some e
    | some x => if recSeq r x.2 < recSeq r e.2 then some e else some x) none
/-- The slots of a ring's group that the retirement map holds out of service (R552). -/
def outMask (s : State) (r g : Nat) : Word :=
  match newestOf mapRing ((allRecords s mapRing).filter fun e => decide (byteAt e.2 0 = r) && decide (byteAt e.2 1 = g)) with
  | some e => BitVec.ofNat 32 (leAt e.2 4 4)
  | none => 0#32
/-- The masks of every group of a ring. -/
def outMasks (s : State) (r : Nat) : List Word := (List.range ((slotCount r + 31) / 32)).map (outMask s r)
/-- A slot is in service. -/
def inService (masks : List Word) (i : Nat) : Bool := !bit (masks.getD (i / 32) 0#32) (i % 32)
/-- A worn page of the fault log reads as absent (R589); the page counter tells for every page outside the persistent and
Vault regions. -/
def logWorn (s : State) (r i : Nat) : Bool := decide (r = logRing) && decide (100000 ≤ tget 0 s.ledger.wear (slotPage r i))
/-- The valid records of a ring that are in service. -/
def records (s : State) (r : Nat) : List (Nat × List Byte) :=
  let m := outMasks s r
  (allRecords s r).filter fun e => inService m e.1 && !logWorn s r e.1
/-- The newest record of a ring. -/
def newest (s : State) (r : Nat) : Option (Nat × List Byte) := newestOf r (records s r)
/-- The newest record of an item that shares a ring. -/
def newestItem (s : State) (r : Nat) (f : List Byte → Bool) : Option (Nat × List Byte) := newestOf r ((records s r).filter fun e => f e.2)
/-- The next sequence of a ring. -/
def nextSeq (s : State) (r : Nat) : Nat := match newest s r with
  | some e => recSeq r e.2 + 1
  | none => 1

/-! ## Write counts and wear (R548, R549, R552) -/

/-- The highest write count in a ring. -/
def highCount (s : State) (r : Nat) : Nat := (allRecords s r).foldl (fun m e => max m (recCount e.2)) 0
/-- The write count of a slot: its record's, 0 where it has never been written, and the recovered one where it is torn. -/
def slotWrites (s : State) (r i : Nat) : Nat :=
  let b := slotBytesOf s r i
  if recValid r b then recCount b else if b.all (fun x => decide (x = 0#8)) then 0 else highCount s r + 1
/-- The same for W(p), in which the record that manufacture made counts nothing: it alone has sequence 1. -/
def slotWear (s : State) (r i : Nat) : Nat :=
  let b := slotBytesOf s r i
  if recValid r b ∧ recSeq r b = 1 then 0 else slotWrites s r i
/-- W(p) (R548). -/
def wearOf (s : State) (p : Nat) : Nat :=
  if 20 ≤ p ∧ p ≤ 51 then
    let w := (p - 20) / 2
    (List.range 16).foldl (fun m i => max m (slotWear s w (16 * ((p - 20) % 2) + i))) 0
  else if 52 ≤ p ∧ p ≤ 59 then (List.range 4).foldl (fun m i => max m (slotWear s (0x80 + (p - 52)) i)) 0
  else tget 0 s.ledger.wear p
/-- A worn page (R549). -/
def pageWorn (s : State) (p : Nat) : Bool := decide (100000 ≤ wearOf s p)
/-- LDG_MAX_WEAR: pages that no table lists have a count of 0. -/
def maxWear (s : State) : Nat :=
  let c := s.ledger.wear.foldl (fun m e => max m e.2) 0
  (List.range 40).foldl (fun m i => max m (wearOf s (20 + i))) c
/-- The next usable slot of a ring from slot `start` on, without those in `bad` (R552). -/
def usableFrom (s : State) (r start : Nat) (bad : List Nat) : Option Nat :=
  let n := slotCount r
  let m := outMasks s r
  ((List.range n).map fun i => (start + i) % n).find? fun i =>
    inService m i && !bad.contains i && (!counted r || decide (slotWrites s r i < 100000)) && !pageWorn s (slotPage r i)
/-- The slot that the next record of a ring goes to. -/
def nextSlot (s : State) (r : Nat) (bad : List Nat) : Option Nat :=
  usableFrom s r (match newest s r with | some e => e.1 + 1 | none => 0) bad
/-- The number of usable slots of a ring. -/
def usableSlots (s : State) (r : Nat) : Nat :=
  let m := outMasks s r
  ((List.range (slotCount r)).filter fun i =>
    inService m i && (!counted r || decide (slotWrites s r i < 100000)) && !pageWorn s (slotPage r i)).length
/-- A record of a ring from its body, that is, the record without sequence, write count and CRC. -/
def makeRecord (r : Nat) (body : List Byte) (seq count : Nat) : List Byte :=
  let o := seqAt r
  let b := body.take o ++ leBytes 4 seq ++ (if counted r then leBytes 4 count else []) ++ body.drop o
  b ++ wordBytes (crc32c b)

/-! ## PRS words (R144 to R147) -/

/-- The value of a PRS word's newest record, or its default. -/
def prsStored (s : State) (w : Nat) : Word := match newest s w with
  | some e => BitVec.ofNat 32 (leAt e.2 0 4)
  | none => resetWord (wkey 0 (mkAddr 0x26 0 w))
/-- A word of PRS[0] that is not RSV. -/
def prsWord (w : Nat) : Bool := decide (w ≤ 3) || (decide (8 ≤ w) && decide (w ≤ 15))
/-- PRS_LIVE and PRS_LEFT of a word. -/
def prsLive (s : State) (w : Nat) : Nat := let m := outMasks s w; ((List.range 32).filter (inService m)).length
def prsLeft (s : State) (w : Nat) : Nat :=
  let m := outMasks s w
  ((List.range 32).filter (inService m)).foldl (fun t i => t + (100000 - slotWrites s w i)) 0
/-- PRS[1] (Table 5-13). -/
def prsLifeWord (s : State) (w : Nat) : Word := if prsWord w then field 24 6 (prsLive s w) ||| field 0 22 (prsLeft s w) else 0#32

/-! ## Vault slots (R561 to R565) -/

/-- The newest record of a Vault slot. -/
def vaultRecord (s : State) (k : Nat) : Option (List Byte) := (newest s (0x80 + k)).map (·.2)
/-- The state of a Vault slot: 0 empty, 1 valid, 2 invalidated. -/
def vaultState (s : State) (k : Nat) : Nat :=
  if s.vault.gone.contains k then 2 else match vaultRecord s k with
    | some b => byteAt b 1
    | none => 0
/-- The secret of a valid slot. -/
def vaultSecret (s : State) (k : Nat) : List Byte := match vaultRecord s k with
  | some b => slice b 16 32
  | none => []
/-- VLT_SLOTS (Table 24-3). -/
def vltWord (s : State) : Word :=
  field 16 1 (b2n (s.vault.key.isSome || s.vault.dying.isSome)) ||| (List.range 8).foldl (fun m k => m ||| field (2 * k) 2 (vaultState s k)) 0#32

end Sys2Proof.Machine
end

