-- ==== Sys2Proof/Machine/Capture.lean ====
section
/-! DEFINITION. Capture pipes (chapter 12): format detection, states, storing frames, source loss, and the hot-plug rule
that follows from which pipes are started (R291). -/

namespace Sys2Proof.Machine
open Sys2Proof

/-! ## Pipes -/

/-- One capture pipe: number 40 × bank + pipe. -/
def capAt (s : State) (k : Nat) : Cap := tget {} s.caps k
/-- Sets one pipe. -/
def setCap (s : State) (k : Nat) (c : Cap) : State := { s with caps := tput {} s.caps k c }
/-- A word of a pipe, in effect. -/
def capWord (s : State) (k w : Nat) : Word := word s (k / 40) 0x10 (k % 40) w
/-- The pipe's source words: kind, port, sub-stream. -/
def capSource (s : State) (k : Nat) : Nat × Nat × Nat := capSrc s (k / 40) (k % 40)
/-- CAP_MODE bits 1:0. -/
def capMode (s : State) (k : Nat) : Nat := bits (capWord s k 2) 1 0
/-- The pipe writes frames to the store. -/
def capStores (s : State) (k : Nat) : Bool := decide (capMode s k = 0) || decide (capMode s k = 2)
/-- The pipe feeds line-locked layers. -/
def capFeeds (s : State) (k : Nat) : Bool := decide (capMode s k = 1) || decide (capMode s k = 2)
/-- The pipe delivers frames: RUNNING or DRAINING. -/
def capRunning (c : Cap) : Bool := decide (c.st = 2) || decide (c.st = 4)
/-- The pipe is fed by Prenlink port `n`. -/
def capFedBy (s : State) (k n : Nat) : Bool := decide ((capSource s k).1 = 1) && decide ((capSource s k).2.1 = n)
/-- The started pipes. -/
def startedPipes (s : State) : List Nat := (s.caps.filter fun e => decide (e.1 < 80) && decide (e.2.st ≠ 0)).map Prod.fst
/-- The started pipes that name a source. -/
def pipesOf (s : State) (src : Nat × Nat × Nat) : List Nat :=
  (startedPipes s).filter fun k => decide (capSource s k = src)
/-- The started pipes that name a port of a kind, on any sub-stream. -/
def pipesOfPort (s : State) (kind port : Nat) : List Nat :=
  (startedPipes s).filter fun k => decide ((capSource s k).1 = kind) && decide ((capSource s k).2.1 = port)

/-- A DisplayPort or CSI-2 port that no pipe uses is powered off in M5, once APPLYING has ended (R32). The hot-plug output of such a
DisplayPort is low in any mode (R291), and the port of an eDP output that has stopped rests. Log entry 84 (DEDUCED). -/
def portOff (s : State) (kind port : Nat) : Bool := decide (s.modes.cur = 5) && decide (s.modes.state ≠ 3) && decide (pipesOfPort s kind port = [])
/-- Capture event 96 + n (Table 12-5). -/
def capEvent (s : State) (k cause reason : Nat) : State :=
  let c := capAt s k
  raiseBank s (k / 40) (96 + k % 40) (det cause (c.st + 8 * b2n c.locked + 16 * (k / 40)) c.fmt reason)
/-- CAP words 0x00, 0x03, 0x04 and 0x06. -/
def capStatusWord (s : State) (k w : Nat) : Word :=
  let c := capAt s k
  match w with
  | 0 => field 8 8 c.fmt ||| field 3 1 (b2n c.locked) ||| field 0 3 c.st
  | 3 => field 16 16 c.h ||| field 0 16 c.w
  | 4 => BitVec.ofNat 32 c.period
  | 6 => c.frames
  | _ => 0#32
/-- CAP_CONCEALED counts, saturating. -/
def countConcealed (s : State) (k n : Nat) : State :=
  let v := (capWord s k 7).toNat
  setWord s (k / 40) 0x10 (k % 40) 7 (BitVec.ofNat 32 (sat 32 (v + n)))

/-! ## Formats -/

/-- The surface format a frame of a source format is stored in (R450, R451). -/
def storedFormat (s : State) (tiles : Bool) (fmt : Nat) : Nat :=
  let hi := b2n (decide (precision s = 12))
  if tiles then fmt
  else if [0x04, 0x05, 0x20, 0x21].contains fmt ∨ (0x14 ≤ fmt ∧ fmt ≤ 0x1F) then 0x24 + hi
  else if fmt = 0x0A then 0x0A
  else if (0x06 ≤ fmt ∧ fmt ≤ 0x09) ∨ (0x24 ≤ fmt ∧ fmt ≤ 0x29) then 0x09
  else 0x20 + hi
/-- A capture format code of Table 12-4a, other than none and 0xFF. -/
def formatOk (fmt : Nat) : Bool :=
  (decide (1 ≤ fmt) && decide (fmt ≤ 0x0A)) || (decide (0x10 ≤ fmt) && decide (fmt ≤ 0x1B)) || (decide (0x20 ≤ fmt) && decide (fmt ≤ 0x29))
/-- Bytes of a run of pixels in a Prenlink format, none where the count is no whole number of groups (Table 10-5). -/
def pixelBytes (fmt n : Nat) : Option Nat :=
  let g (px bytes : Nat) : Option Nat := if n % px = 0 then some (n / px * bytes) else none
  match fmt with
  | 0x01 => g 1 3 | 0x02 => g 4 15 | 0x03 => g 1 4 | 0x04 => g 2 4 | 0x05 => g 2 5 | 0x06 => g 1 1 | 0x07 => g 4 5
  | 0x08 => g 2 3 | 0x09 => g 1 2 | 0x0A => g 1 4 | _ => none
/-- `n` bits of a byte list from a bit position, least significant first (Table 10-5). -/
def bitsAt (d : List Byte) (off n : Nat) : Nat := leAt d (off / 8) 5 / 2 ^ (off % 8) % 2 ^ n

/-- The span of a frame that gives a pixel. -/
def spanAt (f : Frame) (x y : Nat) : Option Span :=
  f.spans.find? fun p => decide (p.y ≤ y) && decide (y < p.y + p.rows) && decide (p.x ≤ x) && decide (x < p.x + p.count)
/-- A pixel of a RAW32 frame, stored unchanged (R316). A filled pixel holds the fill colour's word. -/
def rawPixel (f : Frame) (x y : Nat) : Word :=
  match spanAt f x y with
  | none => 0#32
  | some p => match p.src with
    | .bytes _ d => BitVec.ofNat 32 (leAt d (4 * (x - p.x)) 4)
    | .fill c => c
    | .free n => Config.freeWord (n + (y - p.y) * p.count + (x - p.x))

/-! ## Limits (R325) -/

/-- A pipe's pixel rate in pixels per second. -/
def capRate (w h period : Nat) : Rat := if period = 0 then 0 else (w * h * 1000000000 : Nat) / (period : Nat)
/-- The sum of the pixel rates of the other RUNNING pipes of the Wing. -/
def otherRate (s : State) (k : Nat) : Rat :=
  (((List.range 40).map (· + k / 40 * 40)).filter fun j => decide (j ≠ k) && decide ((capAt s j).st = 2)).foldl
    (fun t j => t + capRate (capAt s j).w (capAt s j).h (capAt s j).period) 0
/-- The first limit of Table 12-4 that a source breaks: its reason code. Log entries 55 (DEDUCED), 58 (DEDUCED). -/
def capLimit (s : State) (k fmt w h period : Nat) : Option Nat :=
  if !formatOk fmt then some 0
  else if w < 16 ∨ 8192 < w ∨ h < 8 ∨ 8192 < h then some 1
  else if period < 4000000 ∨ 200000000 < period then some 2
  else if decide (capRate w h period > 2400000000) || decide (otherRate s k + capRate w h period > 8000000000) then some 3
  else none

/-! ## Hot-plug (R291, R295) -/

/-- The 256 bytes of the EDID page of a DisplayPort port; the host region starts at page 892. -/
def edidPage (s : State) (p : Nat) : List Byte := pageBytes s (892 + p)
/-- The EDID page is served (R295). -/
def edidValid (b : List Byte) : Bool :=
  decide (b.take 8 = [0x00#8, 0xFF#8, 0xFF#8, 0xFF#8, 0xFF#8, 0xFF#8, 0xFF#8, 0x00#8])
    && decide (((b.take 128).foldl (fun t x => t + x.toNat) 0) % 256 = 0)
/-- A DisplayPort port's record. -/
def dps (s : State) (p : Nat) : Dps := tget {} s.dpss p
/-- Sets it. -/
def setDps (s : State) (p : Nat) (d : Dps) : State := { s with dpss := tput {} s.dpss p d }
/-- Event 80 + p (Table 11-9). -/
def dpsEvent (s : State) (p cause sub : Nat) : State :=
  let d := dps s p
  raise s (80 + p) (det cause (d.rate + 8 * d.lanes) sub 0)
/-- An IRQ_HPD pulse is driven: DPSp_HPD is low for 750 µs (R293). -/
def irqHpd (s : State) (p : Nat) : State := setDps s p { dps s p with irqs := (dps s p).irqs + 1, irqAt := some s.clk }
/-- The hot-plug outputs follow the pipes in use. At a rise the EDID page is read again (R291, R295). -/
def settleHpd (s : State) : State :=
  (List.range 4).foldl (fun s p =>
    let want := decide (pipesOfPort s 2 p ≠ [])
    let d := dps s p
    if want = d.hpd then s
    else if want then
      let e := edidPage s p
      let ok := edidValid e
      let n := if bit (word s 0 0x09 p 0) 4 then bits (word s 0 0x09 p 0) 6 5 + 1 else 0
      let s := dpsEvent (setDps s p { d with hpd := true, edid := if ok then e else [], builtin := !ok, notified := n }) p 0 0
      let s := if n = 0 then s else irqHpd s p
      if ok then s else dpsEvent s p 9 0
    else
      let s := dpsEvent (setDps s p { edid := d.edid, builtin := d.builtin }) p 1 0
      if d.trained then rateChanged s 2 p else s) s

/-! ## Transitions -/

/-- Moves a pipe to a state, with the event of a cause. Log entry 56 (DEDUCED). -/
def capTo (s : State) (k st : Nat) (ev : Option (Nat × Nat)) : State :=
  let s := setCap s k { capAt s k with st := st }
  match ev with
  | none => s
  | some (c, r) => capEvent s k c r
/-- Takes the words that wait for a pipe: a change of CAP_SRC arms a started pipe with no detection frame (Table 12-2). -/
def capCommit (s : State) (k : Nat) : State :=
  let b := k / 40
  let n := k % 40
  if waitingWords s b 0x10 n = [] then s
  else
    let old := capWord s k 1
    let s := takeUnit s b 0x10 n
    if capWord s k 1 = old ∨ (capAt s k).st = 0 then settleHpd s
    else
      let c := capAt s k
      let s := setCap s k { c with det := none, inFrame := false, write := none, pulse := none, locked := false, lockRun := 0, genlocked := false, fill := 8, adapted := 0,
                                   seqNext := none, carries := 0, curNum := none, devH := 0 }
      settleHpd (if c.st = 2 ∨ c.st = 3 ∨ c.st = 5 then capTo s k 1 (some (11, 0)) else s)
/-- The pipe's source is running, so that its words wait for the next frame (Table 5-2). -/
def capSourceRuns (s : State) (k : Nat) : Bool :=
  let c := capAt s k
  decide (c.st ≠ 0) && decide (c.st ≠ 3) && c.pulse.isSome && decide ((capSource s k).1 ≠ 0)

/-- The memory of a stopped pipe is freed, but for the buffers a composer still holds (R347, R453). -/
def capFree (s : State) (k : Nat) : State :=
  freeAllocs s (wingOf (k / 40)) 0 (k % 40) (bufferHeld s (k / 40))
/-- Frees the buffers of stopped pipes whose last use has ended (R453). Log entry 66 (DEDUCED). -/
def sweepBuffers (s : State) : State :=
  (((s.allocs.filter fun a => decide (a.kind = 0)).map fun a => 40 * wingCode a.wing + a.owner).dedup).foldl
    (fun s k => if (capAt s k).bufs = [] then capFree s k else s) s
/-- The pipe reaches STOPPED: its buffers are freed, waiting words commit (R132), and event cause 10 is raised where the
transition has one. -/
def capStopped (s : State) (k : Nat) (tell : Bool) : State :=
  let c := capAt s k
  let s := setCap s k { c with st := 0, inFrame := false, write := none, det := none, bufs := [], hist := [], locked := false,
                               genlocked := false, fill := 8, adapted := 0, lockRun := 0, pulse := none, judging := false, feed := [], carries := 0, seqNext := none }
  let s := capFree s k
  let s := if tell then capEvent s k 10 0 else s
  settleHpd (capCommit s k)
/-- The Wing's pipes stop with their Wing: nothing is published and no event is raised (Table 12-2). -/
def capWingStops (s : State) (bank : Nat) : State :=
  (List.range 40).foldl (fun s n => if (capAt s (40 * bank + n)).st = 0 then s else capStopped s (40 * bank + n) false) s

/-- Allocates a pipe's buffers for its size (R320). -/
def allocBuffers (s : State) (k size : Nat) : Nat → Option (State × List Nat)
  | 0 => some (s, [])
  | n + 1 =>
    match allocate s (wingOf (k / 40)) size 0 (k % 40) with
    | none => none
    | some (s, b) => (allocBuffers s k size n).map fun (s, l) => (s, b :: l)

/-- The write buffer of a new frame: the oldest that is neither the newest frame nor held by a composer (R321). -/
def writeBuffer (s : State) (k : Nat) : Option Nat :=
  let c := capAt s k
  let newest := c.hist.head?.map (·.base)
  c.bufs.find? fun b => decide (newest ≠ some b) && !bufferHeld s (k / 40) b
/-- Begins storing a frame; with no buffer free the frame is dropped, with cause 8 (R321). -/
def beginFrame (s : State) (k : Nat) : State :=
  let c := capAt s k
  if !capStores s k then setCap s k { c with write := none }
  else
    match writeBuffer s k with
    | none => capEvent (setCap s k { c with write := none }) k 8 0
    | some b =>
      setCap s k { c with
        write := some { base := b, fmt := storedFormat s (decide (c.carries = 2)) c.fmt, w := c.w, h := c.h, isTiles := decide (c.carries = 2) }
        bufs := c.bufs.filter (· ≠ b) ++ [b]
        hist := c.hist.filter fun f => f.base ≠ b }

/-- ARMED or UNSUPPORTED to RUNNING at a frame pulse that follows a complete frame within the limits, or to UNSUPPORTED
(Table 12-2, R320). -/
def capEnter (s : State) (k fmt w h : Nat) : State :=
  let c := capAt s k
  let was := c.st
  let refuse (s : State) (r : Nat) : State := if was = 5 then s else capTo s k 5 (some (5, r))
  let s := setCap s k { c with fmt := fmt, w := w, h := h, period := c.interval }
  match capLimit s k fmt w h c.interval with
  | some r => refuse s r
  | none =>
    let nbuf := if capStores s k then bits (capWord s k 2) 5 4 + 2 else 0
    let size := surfaceBytes (storedFormat s (decide (c.carries = 2)) fmt) w h
    let s := freeAllocs (setCap s k { capAt s k with bufs := [], hist := [] }) (wingOf (k / 40)) 0 (k % 40) (bufferHeld s (k / 40))
    match allocBuffers s k size nbuf with
    | none =>
      refuse (raiseBank s (k / 40) 208 (det 0 (k % 40) (k / 40) (mibShort s (wingOf (k / 40)) size))) 4
    | some (s, l) =>
      let s := setCap s k { capAt s k with bufs := l, tileDet := (capAt s k).tileDet, locked := false, lockRun := 0, devH := 0 }
      beginFrame (capTo s k 2 (some (1, 0))) k

/-- The frame in progress shows another format code or width than the pipe's: the pipe is armed with that frame as its
detection frame to be (R317, Table 12-2). -/
def capChange (s : State) (k : Nat) : State :=
  let c := capAt s k
  let s := if c.locked then capEvent (setCap s k { c with locked := false }) k 7 0 else s
  capTo (setCap s k { capAt s k with write := none, det := none, judging := false, lockRun := 0, devH := 0 }) k 1 (some (2, 0))
/-- Judges what is now known of the frame in progress (Table 12-2, R317). -/
def capJudge (s : State) (k : Nat) : State :=
  let c := capAt s k
  let differs := (decide (c.curFmt ≠ 0) && decide (c.curFmt ≠ c.fmt)) || (decide (c.curW ≠ 0) && decide (c.curW ≠ c.w))
  if !c.inFrame then s
  else if c.st = 2 then (if differs then capChange s k else s)
  else if c.st = 3 ∧ c.judging then
    if differs then capChange s k
    else if c.curFmt ≠ 0 ∧ c.curW ≠ 0 then
      capTo (setCap s k { c with judging := false }) k 2 (some (4, 0))
    else s
  else s

/-- A frame of a pipe is published (R313): it becomes the newest frame, and mesh requests read it. Pixels that were not
delivered hold those of the newest frame before it, or CAP_FILL (R321). -/
def capPublish (s : State) (k : Nat) : State :=
  let c := capAt s k
  match c.write with
  | none => s
  | some f =>
    let covered (p : Span) : Bool := f.spans.any fun q =>
      decide (q.y ≤ p.y) && decide (p.y + p.rows ≤ q.y + q.rows) && decide (q.x ≤ p.x) && decide (p.x + p.count ≤ q.x + q.count)
    let prev := c.hist.head?
    let under := match prev with
      | some g => g.spans.filter fun p => !covered p
      | none => [{ y := 0, rows := f.h, x := 0, count := f.w, src := .fill (capWord s k 5) }]
    let lost := if f.isTiles then (List.range (tileCount f.w f.h)).filter fun t => (tget [] f.tiles t).isEmpty else []
    let tiles := match prev with
      | some g => lost.foldl (fun t i => tput [] t i (tget [] g.tiles i)) f.tiles
      | none => f.tiles
    let f := { f with own := f.spans.length, spans := f.spans ++ under, tiles := tiles, concealed := lost, tick := s.tb.ns, num := (c.frames + 1).toNat }
    let (s, keep) := meshFromFrame s (fun i => rawPixel f (i % f.w) (i / f.w)) (if f.fmt = 0x0A then f.w * f.h else 0) c.meshes
    setCap s k { capAt s k with write := none, frames := c.frames + 1, hist := f :: c.hist, meshes := keep }

/-- CAP_LOCKED at a frame end (R319). `drift` is the net change of the front-end queue's fill over the frame. -/
def capLock (s : State) (k : Nat) (drift : Int) : State :=
  let s := setCap s k { capAt s k with fill := (capAt s k).fill + drift }
  let c := capAt s k
  let m : Nat × Nat := (1000000000, c.period)
  let r := nominalOf frameRates m
  let cand := (List.range 11).map (· + 5) |>.find? fun n =>
    let w := refWord s n 0
    refEnabled s n && !bit w 16 && decide (capSrc s (bits w 23 23) (bits w 31 24) = capSource s k)
  let lim := match cand with
    | some n => acceptOf s n
    | none => 5000
  let src := capSource s k
  let spread := decide (src.1 = 1) && (plk s src.2.1).farSpread
  let good := decide (c.period ≠ 0) && within m r lim && decide (drift = 0) && !spread
  if good then
    let run := c.lockRun + 1
    if !c.locked ∧ 4 ≤ run then capEvent (setCap s k { c with locked := true, lockRun := run }) k 6 0
    else setCap s k { c with lockRun := run }
  else if c.locked then capEvent (setCap s k { c with locked := false, lockRun := 0 }) k 7 0
  else setCap s k { c with lockRun := 0 }

/-- A standby pipe whose state differs from its pair's at a frame end has diverged (R326, R514). -/
def capPairCheck (s : State) (k : Nat) : State :=
  if s.modes.cur ≠ 2 then s
  else
    let n := k % 40
    let differs := decide ((capAt s n).st ≠ (capAt s (40 + n)).st)
    let upd (s : State) (w : Wing) : State :=
      let x := wing s w
      if x.role ≠ 3 then s
      else if differs && !x.divPipes.contains n then
        setWing s w { x with divPipes := n :: x.divPipes, health := { x.health with diverged := sat 16 (x.health.diverged + 1) } }
      else if !differs then setWing s w { x with divPipes := x.divPipes.filter (· ≠ n) }
      else if x.armed then disarm (raise s 238 (det (wingCode w) 0 n 0)) w 2
      else s
    upd (upd s .a) .b

/-- The end of the frame in progress (R312 to R321). Log entry 54 (DEDUCED). -/
def capFrameEnd (s : State) (k : Nat) (drift : Int) : State :=
  let c := capAt s k
  if !c.inFrame then s
  else
    let s := setCap s k { c with inFrame := false, judging := false, feed := [] }
    let known := decide (c.curFmt ≠ 0) && decide (c.curW ≠ 0) && decide (c.curH ≠ 0)
    let c := capAt s k
    match c.st with
    | 1 | 5 =>
      if !known then s
      else
        let s := setCap s k { c with det := some (c.curFmt, c.curW, c.curH), tileDet := c.tileMax }
        if c.st = 1 then
          setCap s k { capAt s k with fmt := c.curFmt, w := c.curW, h := c.curH, period := c.interval }
        else s
    | 2 =>
      if known ∧ c.curH ≠ c.h ∧ c.devH = c.curH then
        -- The second consecutive deviant frame of one height is a format change, and that frame is the detection frame.
        let s := capChange s k
        setCap s k { capAt s k with det := some (c.curFmt, c.curW, c.curH), fmt := c.curFmt, w := c.curW, h := c.curH,
                                    period := c.interval, tileDet := c.tileMax }
      else
        let deviant := known && decide (c.curH ≠ c.h)
        let s := countConcealed s k (c.h - c.curH)
        let s := setCap s k { capAt s k with devH := if deviant then c.curH else 0,
                                             period := if c.interval = 0 then c.period else c.interval }
        let s := if deviant then capEvent s k 9 0 else s
        let s := capPublish s k
        let s := followSource s (k / 40) (k % 40) (capAt s k).period
        let s := capLock s k drift
        let s := capPairCheck s k
        let c := capAt s k
        match capLimit s k c.fmt c.w c.h c.period with
        | some r =>
          let s := if c.locked then capEvent (setCap s k { c with locked := false, lockRun := 0 }) k 7 0 else s
          capTo (setCap s k { capAt s k with det := some (c.fmt, c.w, c.h) }) k 5 (some (5, r))
        | none => s
    | 4 =>
      let s := countConcealed s k (c.h - c.curH)
      capStopped (capPublish s k) k true
    | _ => s

/-- The front-end queue at a frame pulse: that of a locked source is re-centred and genlocked from here on; any other is rate-adapting, and its
fill returns to 8 entries by a line repeated or dropped (R21, R22, R319, R604). -/
def frontPulse (c : Cap) : Cap :=
  { c with fill := 8, genlocked := c.locked, adapted := if c.locked then 0 else if c.fill < 8 then 1 else if c.fill > 8 then -1 else 0 }
/-- The line-locked feed begins a frame: until its lines come, line 0 is CAP_FILL (R324). -/
def liveFrame (s : State) (k : Nat) : Option Frame :=
  let c := capAt s k
  if capFeeds s k then
    some { fmt := storedFormat s false c.fmt, w := c.w, h := c.h, spans := [{ y := 0, rows := 1, x := 0, count := c.w, src := .fill (capWord s k 5) }] }
  else none
/-- A frame pulse of the pipe's source, with what is known of the frame there: 0 for unknown (Table 12-2). A frame still in
progress ends at it (R312). Log entry 55 (DEDUCED). -/
def capPulse (s : State) (k fmt w : Nat) (num : Option Nat) : State :=
  let s := capFrameEnd s k 0
  let src := capSource s k
  let s := capCommit s k
  let c := capAt s k
  if c.st = 0 ∨ c.st = 6 ∨ capSource s k ≠ src then s
  else
    let iv := match c.pulse with
      | some t => (s.tb.ns - t).toNat
      | none => 0
    let s := setCap s k { frontPulse c with
      pulse := some s.tb.ns, interval := iv, inFrame := true, curFmt := fmt, curW := w, curH := 0, curNum := num
      judging := decide (c.st = 3), tileMax := (0, 0), feed := [], pulseAt := s.clk, live := liveFrame s k
      lineTimes := [], lineTimesWas := c.lineTimes }
    match c.st with
    | 1 | 5 =>
      match c.det with
      | some (f, w', h) => capEnter s k f w' h
      | none => s
    | 2 => capJudge (beginFrame s k) k
    | 3 => capJudge (beginFrame s k) k
    | _ => s

/-- More of the frame in progress becomes known. -/
def capKnow (s : State) (k fmt w : Nat) : State :=
  let c := capAt s k
  if !c.inFrame then s
  else capJudge (setCap s k { c with curFmt := if c.curFmt = 0 then fmt else c.curFmt, curW := if c.curW = 0 then w else c.curW }) k
/-- A span joins the frame that the feed delivers. -/
def liveSpan (c : Cap) (p : Span) : Cap := { c with live := c.live.map fun f => { f with spans := p :: f.spans } }
/-- A run of pixels of the frame in progress is stored, cut at CAP_SIZE (R321), and the feed takes its line. -/
def capPixels (s : State) (k y x n : Nat) (src : SpanSrc) : State :=
  let c := capAt s k
  if !c.inFrame then s
  else
    let c := liveSpan { c with lineTimes := tput none c.lineTimes y (some (s.clk - c.pulseAt)), curH := max c.curH (y + 1), feed := if c.feed.head? = some y then c.feed else (y :: c.feed).take 8 }
      { y := y, rows := 1, x := x, count := n, src := src }
    match c.write with
    | none => setCap s k c
    | some f =>
      if y < f.h ∧ x < f.w then
        setCap s k { c with write := some { f with spans := { y := y, rows := 1, x := x, count := n, src := src } :: f.spans } }
      else setCap s k c
/-- A tile record of the frame in progress is stored (R451). -/
def capTile (s : State) (k col row : Nat) (record : List Byte) : State :=
  let c := capAt s k
  if !c.inFrame then s
  else
    let c := { c with tileMax := (max c.tileMax.1 col, max c.tileMax.2 row), curW := (max c.tileMax.1 col + 1) * 16,
                      curH := (max c.tileMax.2 row + 1) * 16 }
    match c.write with
    | none => setCap s k c
    | some f =>
      if col * 16 < f.w ∧ row * 16 < f.h then
        setCap s k { c with write := some { f with tiles := tput [] f.tiles (row * ((f.w + 15) / 16) + col) record } }
      else setCap s k c

/-- The pipe's source is lost, with the reason of Table 12-5 (R318). Log entry 56 (DEDUCED). -/
def capLose (s : State) (k reason : Nat) : State :=
  let c := capAt s k
  match c.st with
  | 2 =>
    let s := setCap s k { c with inFrame := false, write := none, feed := [], lockRun := 0, devH := 0 }
    let s := if c.locked then capEvent (setCap s k { capAt s k with locked := false }) k 7 0 else s
    capCommit (capTo s k 3 (some (3, reason))) k
  | 4 => capStopped (setCap s k { c with write := none }) k true
  | 1 | 3 | 5 =>
    capCommit (setCap s k { c with inFrame := false, judging := false, write := none, pulse := none, det := if c.st = 1 then none else c.det, feed := [] }) k
  | _ => s
/-- Every pipe that a port of a kind feeds loses its source. -/
def portLost (s : State) (kind port reason : Nat) : State := (pipesOfPort s kind port).foldl (fun s k => capLose s k reason) s
/-- Every pipe of one source loses it. -/
def sourceLost (s : State) (src : Nat × Nat × Nat) (reason : Nat) : State := (pipesOf s src).foldl (fun s k => capLose s k reason) s

/-- A forced stop of a pipe with a frame in progress: FILLING, with CAP_FILL from the line after the last one received to
the frame's end (R323). Log entry 54 (DEDUCED). -/
def capForceFill (s : State) (k : Nat) : State :=
  let c := capAt s k
  if (c.st = 2 ∨ c.st = 4) ∧ c.inFrame then
    let w := c.write.map fun f => { f with spans :=
      { y := c.curH, rows := f.h - c.curH, x := 0, count := f.w, src := .fill (capWord s k 5) } :: f.spans }
    capTo (setCap s k { liveSpan c { y := c.curH, rows := c.h - c.curH, x := 0, count := c.w, src := .fill (capWord s k 5) } with write := w, fillAt := s.clk }) k 6 none
  else s

/-! ## Commands -/

/-- The distinct sources that the started pipes would name with one pipe more (R310). -/
def distinctSources (s : State) (more : List Nat) : Nat :=
  ((((List.range 80).filter fun k => decide ((capAt s k).st ≠ 0) || more.contains k).map (capSource s)).filter
    fun x => decide (x.1 ≠ 0)).dedup.length
/-- The pipes a unit reference names. -/
def pipeKeys (r : UnitRef) : List Nat := (banksOf r.bank.toNat).map fun b => 40 * b + r.inst.toNat
/-- CAPTURE_START (R310). -/
def opCaptureStart (q : Req) (r : UnitRef) : Op :=
  { opcode := 0x36
    sched := .yes
    check := fun s => firstRej [unitMode s 0x10 r, unitOwner s q 0x10 r, unitParam 0x10 r,
      rejIf (decide (distinctSources s (pipeKeys r) > 40)) { status := .noResource, addr := mkAddr 0x10 r.inst.toNat 1 }]
    foot := fun _ => { touches := unitKeys 0x10 r, reassigns := unitKeys 0x10 r }
    run := fun s => done (settleHpd ((pipeKeys r).foldl (fun s k =>
      if (capAt s k).st = 0 then capTo (setCap s k { capAt s k with det := none }) k 1 (some (0, 0)) else s) s)) }
/-- Stops one pipe (Table 12-2, R109). -/
def capStopNow (s : State) (force : Bool) (k : Nat) : State :=
  let c := capAt s k
  match c.st with
  | 2 => if c.inFrame then (if force then capForceFill s k else capTo s k 4 none) else capStopped s k true
  | 1 | 3 | 5 => capStopped s k true
  | 4 => if force then capForceFill s k else s
  | _ => s
/-- CAPTURE_STOP. -/
def opCaptureStop (q : Req) (r : UnitRef) (force : Bool) : Op :=
  { opcode := 0x37
    sched := .yes
    check := fun s => firstRej [unitMode s 0x10 r, unitOwner s q 0x10 r, unitParam 0x10 r]
    foot := fun _ => { touches := unitKeys 0x10 r, reassigns := unitKeys 0x10 r }
    run := fun s => done ((pipeKeys r).foldl (fun s k => capStopNow s force k) s) }

/-! ## Writes of CAP words (R292, R284, R305, R311, R322) -/

/-- The refusals of a write that would leave CAP word `w` of pipe `k` at `v`, `old` being the word as projected. -/
def capWriteRej (s : State) (k w : Nat) (old v : Word) : Option Rej :=
  let a := mkAddr 0x10 (k % 40) w
  let rng : Rej := { status := .range, addr := a }
  let bad : Rej := { status := .badParam, addr := a }
  match w with
  | 1 =>
    let port := bits v 13 8
    let sub := bits v 1 0
    match bits v 15 14 with
    | 1 => firstRej [rejIf (decide (port > 23)) rng,
        rejIf (decide ((tget {} s.plks port).st ≠ 0) && decide ((tget {} s.plks port).role = 0)) bad]
    | 2 =>
      let d := word s 0 0x09 port 0
      firstRej [rejIf (decide (port > 3)) rng,
        rejIf (if bit d 4 then decide (sub > bits d 6 5) else decide (sub ≠ 0)) bad]
    | 3 => rejIf (decide (port > 7)) rng
    | _ => none
  | 2 => firstRej [
      rejIf (decide (s.modes.cur ≠ 3) && (decide (bits v 1 0 = 1) || decide (bits v 1 0 = 2))) { status := .modeForbids, addr := a },
      rejIf (decide (bits v 1 0 = 3) || decide (v &&& 0xFFFFFFCC#32 ≠ 0#32)) bad,
      rejIf (decide ((capAt s k).st ≠ 0) && decide (bits v 5 4 ≠ bits old 5 4)) { status := .busy, addr := a }]
  | _ => none
/-- After a CAP word entered the flip table: it commits at once where the source is not running (Table 5-2). -/
def capPlaced (s : State) (k : Nat) : State := if capSourceRuns s k then s else capCommit s k

/-! ## Happenings -/

/-- The instant at which a source with no further pulse is lost: twice CAP_PERIOD or 400 ms after the last (R318). -/
def lossAt (c : Cap) : Nat := c.pulseAt + min (2 * c.period) 400000000
/-- The happenings of a pipe whose instant has come: its source is lost, or its fill has had one CAP_PERIOD (R318, R323). -/
def capDue (s : State) (k : Nat) : List Instr :=
  let c := capAt s k
  if 80 ≤ k then [] else
  (if capRunning c && decide (lossAt c ≤ s.clk) then [.sourceLossTimeout (Fin.ofNat 80 k)] else [])
    ++ (if decide (c.st = 6) && decide (c.fillAt + c.period ≤ s.clk) then [.fillComplete (Fin.ofNat 80 k)] else [])
/-- No frame pulse within twice the period, or 400 ms (R318). -/
def execSourceLossTimeout (pipe : Fin 80) (s : State) : Host.Outcome State Fault Refusal :=
  if capRunning (capAt s pipe.val) && decide (lossAt (capAt s pipe.val) ≤ s.clk) then .next (capLose s pipe.val 0) else .next s
/-- A FILLING pipe has filled its frame and its feed (R323). -/
def execFillComplete (pipe : Fin 80) (s : State) : Host.Outcome State Fault Refusal :=
  if (capAt s pipe.val).st = 6 then .next (capStopped (capPublish s pipe.val) pipe.val true) else .next s

end Sys2Proof.Machine
end

