-- ==== Sys2Proof/Machine/Intake.lean ====
section
/-! DEFINITION. The command ports at the pins (chapter 03): transactions, the arrival checks of Table 3-10 (steps 1 to
5), port status, and the time-outs of CP2 and CP3. -/

namespace Sys2Proof.Machine
open Sys2Proof

/-- The counting edge in CLK_CTL of a happening at `t` ns: the first edge (at even nanoseconds) at least 100 ps
later (R19). Log entry 13 (DESIGN CHOICE). -/
def countingEdge (t : Nat) : Nat := t + 2 - t % 2
/-- The first tick at or after the effect instant of a packet that arrives at `t` (R76, R86, R154). Log entry 13 (DESIGN CHOICE). -/
def effectTick (t : Nat) : Nat := countingEdge t + 4096 + 1

/-- A packet that arrives whole on a port: the arrival checks, in the order of Table 3-10. -/
def arrive (s : State) (p : Port) (b : List Byte) : State :=
  let op := b.getD 1 0#8
  let tag := b.getD 2 0#8
  let len := leAt b 4 2
  if s.boot.phase = .noImage then countDiscard s p
  else if b.length < 8 ∨ b.getD 0 0#8 ≠ 0xA5#8 then discard s p
  else if crc8 (b.take 7) ≠ b.getD 7 0#8 then formReserve s p 0xFF#8 0x00#8 .badCrc
  else if creditsFree s p = 0 then formReserve s p op tag .busy
  else
    let q : Req := { port := p, tag := tag, reply := (b.getD 3 0#8).getLsbD 2 }
    if b.length ≠ 12 + len then intakeError (formPlacard s q op .badLength []) p
    else if len > 4096 then formPlacard s q op .badLength []
    else if crc32c (slice b 8 len) ≠ BitVec.ofNat 32 (leAt b (8 + len) 4) then formPlacard s q op .badCrc []
    else
      { s with ports := { s.ports with
          flights := s.ports.flights ++ [⟨p, countingEdge s.clk, effectTick s.clk, b⟩] } }

/-- Whether a port has transactions at all (R63). -/
def hasTransactions : Port → Bool
  | .cp0 | .cp1 | .cp3 => true
  | _ => false
/-- Whether a transaction on the port is seen (R57, R624). -/
def listening (s : State) (p : Port) : Bool := portsAwake s && portEnabled s p

/-- The SCLK cycles of bytes on CP0: two a byte, high nibble first (R58). -/
def quadCycles (ontor : Bool) (b : List Byte) : List SclkCycle :=
  b.flatMap fun x => [x.toNat / 16, x.toNat % 16].map fun v => if ontor then { ontor := some v } else { host := some v }
/-- The SCLK cycles of bytes on CP1: eight a byte, most significant bit first (R58). -/
def singleCycles (ontor : Bool) (b : List Byte) : List SclkCycle :=
  b.flatMap fun x => (List.range 8).map fun i => let v := x.toNat / 2 ^ (7 - i) % 2; if ontor then { ontor := some v } else { host := some v }
/-- The SCLK cycles of a transaction from CS_N low to CS_N high: the code and what the host sends after it; of a read, 8 dummy cycles in which nobody
drives, and the data phase, the one time the Ontor drives (R58, R59, Table 3-2). -/
def spiCycles (p : Port) (code : Byte) (host : List Byte) (read : Bool) (back : List Byte) : List SclkCycle :=
  let put (ontor : Bool) (b : List Byte) : List SclkCycle := if p = .cp0 then quadCycles ontor b else singleCycles ontor b
  put false (code :: host) ++ (if read then List.replicate 8 { host := none } ++ put true back else [])
/-- Whether CP3 answers an address byte: it acknowledges its own 7-bit address and ignores every other one, general calls too (R61). -/
def i2cAnswers (s : State) (addr : Byte) : Bool := decide (addr.toNat / 2 = s.ports.cp3Addr.toNat) && decide (addr.toNat / 2 ≠ 0)
/-- The bytes of a CP3 transaction: the address with write, the code and what the host sends, each acknowledged; of a read, the address with read
after a repeated START, and the bytes the Ontor drives, of which the host acknowledges all but the last (R61). -/
def i2cBytes (s : State) (code : Byte) (host : List Byte) (read : Bool) (back : List Byte) : List I2cByte :=
  let a := BitVec.ofNat 8 (2 * s.ports.cp3Addr.toNat)
  (a :: code :: host).map (fun b => { byte := b })
  ++ (if read then { byte := a + 1 } :: back.mapIdx (fun i b => { byte := b, ontor := true, ack := decide (i + 1 < back.length) }) else [])
/-- A transaction as the lines carry it: the Ontor drives `back` in the data phase of a read, and nothing at any other time (R59, R60). Log entry 14
(DESIGN CHOICE). -/
def transact (s : State) (p : Port) (code : Byte) (host : List Byte) (read : Bool) (back : List Byte) : State :=
  let s := { s with ports := { s.ports with driven := back } }
  if p = .cp3 then { s with ports := { s.ports with i2c := i2cBytes s code host read back } }
  else { s with ports := { s.ports with cycles := spiCycles p code host read back } }
/-- A change of the CP3 address takes effect at the next STOP on CP3 (R90). -/
def stopCp3 (s : State) (p : Port) : State :=
  if p = .cp3 then { s with ports := { s.ports with cp3Addr := BitVec.ofNat 8 (bits (word s 0 0x26 0 1) 22 16) } } else s

/-- The 4 port status bytes (Table 3-3). Log entry 14 (DESIGN CHOICE). -/
def portStatus (s : State) (p : Port) : List Byte :=
  let c := getPort s p
  let noKey := decide (p ≠ .cp1) && s.vault.key.isNone
  let b := [BitVec.ofNat 8 (creditsFree s p), BitVec.ofNat 8 c.queue.length,
    BitVec.ofNat 8 (b2n c.intakeErr + 2 * b2n (!commandPairUp s) + 4 * b2n noKey)]
  b ++ [crc8 b]

/-- `n` bytes are clocked out of a READ_PLACARD: the oldest waiting Placard and zeros after it; it leaves with its last CRC byte (R60). -/
def clockPlacard (s : State) (p : Port) (n : Nat) : State :=
  let c := getPort s p
  match c.queue with
  | [] => transact s p 0x0B#8 [] true (List.replicate n 0#8)
  | w :: r =>
    let b := placardBytes w.plac
    let s := transact s p 0x0B#8 [] true (sized b n)
    if b.length ≤ n then setPort s p { c with queue := r } else s
/-- `n` bytes are clocked out of a READ_PORT_STATUS; reading byte 2 clears its bit 0 (Table 3-3). What stands on the lines after the
fourth byte is not stated: free bytes. -/
def clockStatus (s : State) (p : Port) (n : Nat) : State :=
  let b := portStatus s p
  let (f, s) := drawBytes s (n - 4)
  let s := transact s p 0x05#8 [] true (b.take n ++ f)
  if 3 ≤ n then setPort s p { getPort s p with intakeErr := false } else s
/-- The codes of Table 3-2. -/
def knownCode (code : Byte) : Bool := [0x02#8, 0x0B#8, 0x05#8].contains code
/-- A transaction with a code outside Table 3-2 is ignored to its end, counted, and raises the intake-error event (R59). -/
def strangeCode (s : State) (p : Port) (code : Byte) : State := discard (transact s p code [] false []) p

/-- A packet is delivered on CP0, CP1 or CP3 (R58, R61, R67). Log entry 15 (DEDUCED). -/
def execWritePacket (port : Port) (bytes : List Byte) (s : State) : Host.Outcome State Fault Refusal :=
  if !hasTransactions port then .fault .noTransactionHere
  else if listening s port then .next (stopCp3 (arrive (transact s port 0x02#8 bytes false []) port bytes) port) else .next s

/-- READ_PLACARD (R60). Log entry 15 (DEDUCED). -/
def execReadPlacard (port : Port) (n : Nat) (s : State) : Host.Outcome State Fault Refusal :=
  if !hasTransactions port then .fault .noTransactionHere
  else if listening s port then .next (stopCp3 (clockPlacard s port n) port) else .next s

/-- READ_PORT_STATUS (Table 3-3). -/
def execReadPortStatus (port : Port) (n : Nat) (s : State) : Host.Outcome State Fault Refusal :=
  if !hasTransactions port then .fault .noTransactionHere
  else if listening s port then .next (stopCp3 (clockStatus s port n) port) else .next s

/-- A transaction with a code of Table 3-2 is no unknown one; any other is discarded (R59). -/
def execUnknownTransaction (port : Port) (code : Byte) (s : State) : Host.Outcome State Fault Refusal :=
  if !hasTransactions port then .fault .noTransactionHere
  else if listening s port && !knownCode code then .next (stopCp3 (strangeCode s port code) port)
  else .next s

/-- A CP3 transaction is abandoned with SDA released, and ends there: a write falls under R67, a read has clocked out `n` bytes, a code outside
Table 3-2 is discarded, and one without a code has come to nothing (R62). -/
def execCp3SclTimeout (cut : SclCut) (s : State) : Host.Outcome State Fault Refusal :=
  if listening s .cp3 then
    match cut.code with
    | none => .next (transact s .cp3 0#8 [] false [])
    | some c =>
      if c = 0x02#8 then .next (arrive (transact s .cp3 c cut.got false []) .cp3 cut.got)
      else if c = 0x0B#8 then .next (clockPlacard s .cp3 cut.n)
      else if c = 0x05#8 then .next (clockStatus s .cp3 cut.n)
      else .next (strangeCode s .cp3 c)
  else .next s

/-- A CP2 packet that is not whole within 10 ms is discarded under R67: without its header no Placard is formed;
with a good header BAD_LENGTH answers it, and with a bad one BAD_CRC. The reassembly time-out raises the intake-error event
in every case (R64, Table 3-12). -/
def execCp2PacketTimeout (s : State) : Host.Outcome State Fault Refusal :=
  let c := s.ports.cp2
  if c.rx = [] ∨ s.clk < s.ports.cp2RxAt + 10000000 then .next s
  else
    let s0 := setPort s .cp2 { c with rx := [] }
    let short := decide (c.rx.length < 8) || decide (c.rx.getD 0 0#8 ≠ 0xA5#8)
    let badHdr := decide (crc8 (c.rx.take 7) ≠ c.rx.getD 7 0#8)
    let s1 := arrive s0 .cp2 c.rx
    .next (if !short && (badHdr || decide (creditsFree s .cp2 = 0)) then intakeError s1 .cp2 else s1)

end Sys2Proof.Machine
end

