-- ==== Sys2Proof/Machine/Lanes.lean ====
section
/-! DEFINITION. Audio lanes and the clock and rate rules that tie them together (R465 to R467). -/

namespace Sys2Proof.Machine
open Sys2Proof

/-- What the lane rules look at: the AUD_TDM_CFG and AUD_TDM_BASE words of the eight ports, the crossbar's source of each
destination, and the outputs whose windows Prenlink ports read. -/
structure LaneView where
  cfg : Nat → Word
  base : Nat → Nat
  src : Nat → Nat
  windows : List Nat

/-- The number of a destination lane as a node; an input lane is its own number. -/
def dstNode (d : Nat) : Nat := 256 + d
/-- Lanes that take one clock and rate: a destination and its source, a bus output and its two inputs, the eight lanes of a
window (R465 to R467). -/
def laneTies (v : LaneView) : List (Nat × Nat) :=
  ((List.range 256).filter fun d => decide (v.src d < 256)).map (fun d => (dstNode d, v.src d))
  ++ ((List.range 64).flatMap fun b => [(dstNode (128 + 2 * b), 192 + b), (dstNode (129 + 2 * b), 192 + b)])
  ++ (v.windows.flatMap fun o => (List.range 7).map fun i => (dstNode (8 * o + i), dstNode (8 * o + i + 1)))
/-- The lanes that clocked units fix: node, clock (8 or 9), and rate code where the unit has one. -/
def laneLabels (v : LaneView) : List (Nat × Nat × Option Nat) :=
  ((List.range 8).flatMap fun p =>
    let w := v.cfg p
    if bit w 0 then (List.range (bits w 7 4 + 1)).map fun i =>
      let l := v.base p + i
      (if bit w 1 then dstNode l else l, if bit w 12 then 9 else 8, some (bits w 9 8))
    else [])
  ++ (v.windows.flatMap fun o => (List.range 8).map fun i => (dstNode (8 * o + i), 8, none))
/-- One round of growth of a set of tied lanes. -/
def growLanes (ties : List (Nat × Nat)) (set : List Nat) : List Nat :=
  ties.foldl (fun s t =>
    if s.contains t.1 then (if s.contains t.2 then s else t.2 :: s)
    else if s.contains t.2 then t.1 :: s else s) set
/-- The lanes tied to a lane, in at most `n` rounds. -/
def tiedLanes (ties : List (Nat × Nat)) : Nat → List Nat → List Nat
  | 0, set => set
  | n + 1, set =>
    let g := growLanes ties set
    if g.length = set.length then set else tiedLanes ties n g
/-- Two labels agree. -/
def labelsAgree (a b : Nat × Option Nat) : Bool :=
  decide (a.1 = b.1) && (match a.2, b.2 with
    | some x, some y => decide (x = y)
    | _, _ => true)
/-- The clock and rate of a lane: what the labels of the lanes tied to it give. -/
def laneClock (v : LaneView) (node : Nat) : Option (Nat × Option Nat) :=
  let set := tiedLanes (laneTies v) 64 [node]
  let ls := (laneLabels v).filter fun l => set.contains l.1
  match ls with
  | [] => none
  | l :: _ => some (l.2.1, ls.findSome? fun x => x.2.2)
/-- Every two tied lanes agree, and no SYN9 lane reaches a window (R467, R468). -/
def lanesAgree (v : LaneView) : Bool :=
  let ties := laneTies v
  let ls := laneLabels v
  ls.all fun l =>
    let set := tiedLanes ties 64 [l.1]
    ls.all fun m => !set.contains m.1 || labelsAgree l.2 m.2

/-- The lanes as they stand, with the windows of the outputs that run on Prenlink ports. -/
def laneView (s : State) : LaneView where
  cfg p := word s 0 0x1A p 0
  base p := bits (word s 0 0x1A p 1) 7 0
  src d := (tget {} s.audio.dests d).src.toNat
  windows := (activeOuts s).filter fun o => decide (bits (outWord s o 1) 1 0 = 0)
/-- A window carries at least one lane with a source (R483). -/
def windowUsed (s : State) (o : Nat) : Bool := (List.range 8).any fun i => decide ((laneView s).src (8 * o + i) ≠ 0xFFFF)
/-- Samples per second of a rate code. -/
def sampleRate (code : Nat) : Nat := 48000 * 2 ^ code
/-- A window's rate in samples per second; 48 kHz where nothing fixes it. -/
def windowRate (s : State) (o : Nat) : Nat := match laneClock (laneView s) (dstNode (8 * o)) with
  | some (_, some r) => sampleRate r
  | _ => 48000

end Sys2Proof.Machine
end

