-- ==== Sys2Proof/Machine/Timing.lean ====
section
/-! DEFINITION. The timing generator of an output (R417, R423, R432): when its lines and frames begin on the model's clock, the grid of a genlocked
output and its alignment instants (R420 to R422). -/

namespace Sys2Proof.Machine
open Sys2Proof

/-! ## Lines and frames -/

/-- The period of an output's pixel clock in ns, 0 where it has none. -/
def clockNs (s : State) (o : Nat) : Rat := let f := pixelClock (word s) o; if f ≤ 0 then 0 else 1000000000 / f
/-- The clocks of vertical blanking between a commit tick and the frame start that follows, without blanking adjustment (R168, R417). -/
def blankingClocks (s : State) (o : Nat) : Nat := (vTotal (word s) o - vAct (word s) o) * hTotal (word s) o
/-- The lines of the blanking in progress: its nominal ones and the whole lines of its adjustment (R423). -/
def blankingLines (s : State) (o : Nat) : Nat :=
  (((vTotal (word s) o - vAct (word s) o : Nat) : Int) + (out s o).extra / max 1 (hTotal (word s) o)).toNat
/-- The line in progress is the last of its frame's blanking. -/
def lastLine (s : State) (o : Nat) : Bool := decide (vAct (word s) o ≤ (out s o).line) && decide (vAct (word s) o + blankingLines s o ≤ (out s o).line + 1)
/-- The clocks of the line in progress: the last line of an adjusted blanking is longer (R423). -/
def lineLength (s : State) (o : Nat) : Nat :=
  let h := hTotal (word s) o
  if lastLine s o then h + ((out s o).extra % (max 1 h : Nat)).toNat else h
/-- When the line in progress ends. -/
def lineEnd (s : State) (o : Nat) : Rat := (out s o).lineAt + lineLength s o * clockNs s o
/-- The line in progress has ended. -/
def lineOver (s : State) (o : Nat) : Bool := decide (clockNs s o ≠ 0) && decide (lineEnd s o ≤ s.clk)
/-- The line after the one in progress. -/
def nextLine (s : State) (o : Nat) : Nat := if lastLine s o then 0 else (out s o).line + 1
/-- The commit tick of the frame in progress is due: line OUT_VACT − 1 has ended (R167, R417). -/
def commitDue (s : State) (o : Nat) : Bool := timingRuns (out s o) && decide ((out s o).line + 1 = vAct (word s) o) && lineOver s o
/-- A line boundary is due: that of the line a commit tick began, or that of the next line, other than one that a commit tick begins (R417). -/
def boundaryDue (s : State) (o : Nat) : Option Nat :=
  let x := out s o
  if !timingRuns x then none
  else if x.atLine then some x.line
  else if x.line + 1 ≠ vAct (word s) o ∧ lineOver s o then some (nextLine s o)
  else none
/-- When the frame start after the line in progress comes, as the timing stands. -/
def nextStart (s : State) (o : Nat) : Rat :=
  let x := out s o
  let va := vAct (word s) o
  let h := hTotal (word s) o
  let n : Int := if x.line < va then ((vTotal (word s) o - x.line) * h : Nat) else ((va + (vTotal (word s) o - va) - x.line : Int) * h + x.extra)
  x.lineAt + n * clockNs s o
/-- At a commit tick: when the frame start that follows it would come by the timing alone, and with this blanking's adjustment. -/
def plainStart (s : State) (o : Nat) : Rat := (out s o).lineAt + blankingClocks s o * clockNs s o
def frameStartNs (s : State) (o : Nat) : Rat := plainStart s o + (out s o).extra * clockNs s o

/-! ## The grid of a genlocked output (R421, R422) -/

/-- P is an exact whole multiple of the anchor's period (R421). -/
def gridRelated (s : State) (n : Nat) : Bool :=
  let g := (cand s (outAnchor (word s) n)).nominal
  let p := s.dpll.phase
  decide (g.1 * p.2 % max 1 (g.2 * p.1) = 0)
/-- One instant of the output's grid: one of the frame phase where the grid is related to it, else the φ of its start or realignment. -/
def gridOrigin (s : State) (o : Nat) : Rat := if gridRelated s o then (framePhase s).1 else (out s o).phi
/-- The grid's spacing T_g in ns, 0 before the anchor has had a nominal period. -/
def gridSpacing (s : State) (o : Nat) : Rat := match anchorRate s (outAnchor (word s) o) with | some r => if r ≤ 0 then 0 else 1000000000 / r | none => 0
/-- A start whose frame would begin on an instant of a sequence is due: the first A with A − B at or after `from_` has A − B at this tick. Answers A − B
(R432). Log entry 133 (DEDUCED). -/
def startOn (s : State) (o : Nat) (origin spacing : Rat) (from_ : Nat) : Option Rat :=
  let b := blankingClocks s o * clockNs s o
  let a := nextInstant origin spacing (max (from_ : Rat) ((s.clk : Rat) - 1 + 1 / 1000000) + b)
  if spacing ≤ 0 then none else if a - b ≤ s.clk then some (a - b) else none
/-- The alignment instant of a commit tick and what the output remembers of it: at every m-th commit tick the next alignment instant, n grid instants after
the last; where none is known yet, the first that a frame start of the output comes nearest to. Answers the distance d of R423 where the following frame
start should fall on it. Log entry 133 (DEDUCED). -/
def alignDue (s : State) (o : Nat) : Out × Option Int :=
  let x := out s o
  let c := clockNs s o
  let d (a : Rat) : Int := if c = 0 then 0 else roundRat ((a - plainStart s o) / c)
  match x.ratio with
  | none => ({ x with alignLeft := 0 }, none)
  | some (m, n) =>
    let step := n * gridSpacing s o
    if 1 < x.alignLeft then ({ x with alignLeft := x.alignLeft - 1 }, none)
    else match x.alignLeft, x.alignAt with
      | 1, some a => ({ x with alignAt := some (a + step), alignLeft := m }, some (d (a + step)))
      | _, _ =>
        let frame := (hTotal (word s) o * vTotal (word s) o : Nat) * c
        let a := match x.alignAt with
          | some a => nextInstant a step (plainStart s o - frame / 2)
          | none => nextInstant (gridOrigin s o) (gridSpacing s o) (plainStart s o - frame / 2)
        let k := if frame = 0 then 0 else (roundRat ((a - plainStart s o) / frame)).toNat
        if k = 0 then ({ x with alignAt := some a, alignLeft := m }, some (d a))
        else ({ x with alignAt := some (a - step), alignLeft := k }, none)

end Sys2Proof.Machine
end

