-- ==== Sys2Proof/Machine/Outputs.lean ====
section
/-! DEFINITION. Outputs (chapter 17): states, starting, stopping and assigning, blanking adjustment, source-lock steering,
and what the eDP port of an output does with it (R302 to R304). -/

namespace Sys2Proof.Machine
open Sys2Proof

/-! ## States and events -/

/-- The code of an output state (Table 17-4). -/
def outCode : OutState → Nat
  | .stopped => 0 | .starting => 1 | .running => 2 | .draining => 3 | .filling => 4 | .fill => 5 | .linkIdle => 6 | .halted => 7
/-- Event 136 + n; the causes whose time stamp is a commit tick are marked so (R442). -/
def outEvent (s : State) (n cause b2 b3 : Nat) : State :=
  let o := out s n
  let d := det cause (outCode o.st + 8 * wingCode o.wing) b2 b3
  if [0, 2, 4, 6, 9].contains cause then raiseCommit s (136 + n) d else raise s (136 + n) d
/-- Moves an output to a state. -/
def outTo (s : State) (n : Nat) (st : OutState) : State := setOut s n { out s n with st := st }
/-- OUT_STATE. -/
def outStateWord (s : State) (n : Nat) : Word :=
  let o := out s n
  field 8 24 o.count ||| field 3 1 (wingCode o.wing) ||| field 0 3 (outCode o.st)
/-- A number of whole lines, signed and saturating in a byte. -/
def lineByte (clocks : Int) (ht : Nat) : Nat :=
  (BitVec.ofInt 8 (max (-128) (min 127 (if ht = 0 then 0 else clocks.tdiv ht)))).toNat
/-- The Prenlink port or eDP port of an output: kind and number. -/
def outPort (s : State) (n : Nat) : Nat × Nat := let w := outWord s n 1; (bits w 1 0, bits w 12 8)

/-! ## eDP ports -/

/-- One eDP port. -/
def edp (s : State) (p : Nat) : Edp := tget {} s.edps p
/-- Sets it. -/
def setEdp (s : State) (p : Nat) (e : Edp) : State := { s with edps := tput {} s.edps p e }
/-- Event 84 + p (Table 11-9). Log entry 51 (DEDUCED). -/
def edpEvent (s : State) (p cause : Nat) : State :=
  let w := word s 0 0x0A p 0
  raise s (84 + p) (det cause (bits w 2 0) (bits w 5 3) (edp s p).out)
/-- The port starts with its output: it waits for EDPp_HPD (Table 11-5, step 1). -/
def edpStart (s : State) (p o : Nat) : State :=
  let e := edp s p
  setEdp s p { hpd := e.hpd, st := 1, out := o }
/-- The backlight goes off (R304). -/
def edpDark (s : State) (p : Nat) : State :=
  let e := edp s p
  if e.light then edpEvent (setEdp s p { e with light := false, blank := 0 }) p 6 else setEdp s p { e with blank := 0 }
/-- The port rests once its output has stopped. Log entry 51 (DEDUCED). -/
def edpRest (s : State) (p : Nat) : State :=
  let s := edpDark s p
  setEdp s p { hpd := (edp s p).hpd, out := (edp s p).out }

/-! ## What a Prenlink port carries (R243, R286) -/

/-- The forward block payload of a step over both lanes, in bits per second (Table 9-2). -/
def blockPayload (step : Nat) (rs : Bool) : Rat :=
  (2 * 1562500000 * 2 ^ step : Nat) * (256 : Rat) / 258 * (if rs then (512 : Rat) / 528 else 1)
/-- What a step makes available to streams (R286). -/
def available (step : Nat) (rs : Bool) : Rat :=
  blockPayload step rs * 31 / 32 * (if rs then (159 : Rat) / 160 else 1)
/-- The pixel group of a Prenlink format: pixels and bytes (Table 10-5). -/
def pixelGroup (fmt : Nat) : Nat × Nat :=
  match fmt with
  | 0x01 => (1, 3) | 0x02 => (4, 15) | 0x03 => (1, 4) | 0x04 => (2, 4) | 0x05 => (2, 5) | 0x06 => (1, 1)
  | 0x07 => (4, 5) | 0x08 => (2, 3) | 0x09 => (1, 2) | _ => (1, 4)
/-- The whole groups of a line of `w` pixels, and of one packet (R285). -/
def lineGroups (fmt w : Nat) : Nat := (w + (pixelGroup fmt).1 - 1) / (pixelGroup fmt).1
def packetGroups (fmt : Nat) : Nat := 8180 / (pixelGroup fmt).2
/-- The bytes of one line's pixels and the packets it is split into, in a Prenlink format (R285). -/
def lineBytes (fmt w : Nat) : Nat × Nat :=
  (lineGroups fmt w * (pixelGroup fmt).2, (lineGroups fmt w + packetGroups fmt - 1) / packetGroups fmt)
/-- The VIDEO_LINE packets of stream 0 in which a source-end port sends line `y` of a frame: `px` is the line's pixel bytes, `seq` the first packet's
sequence number (R285, Tables 10-2 and 10-4). -/
def linePackets (fmt frame vact y w seq : Nat) (px : List Byte) : List (List Byte) :=
  let g := pixelGroup fmt
  let per := packetGroups fmt
  let n := (lineBytes fmt w).2
  (List.range n).map fun k =>
    let cnt := min per (lineGroups fmt w - k * per)
    let flags := b2n (decide (y = 0)) + 2 * b2n (decide (y + 1 = vact)) + 4 * b2n (decide (k + 1 = n))
    plkPacket 0x11 0 (seq + k) (leBytes 2 frame ++ leBytes 2 y ++ leBytes 2 (k * per * g.1) ++ leBytes 2 (cnt * g.1)
      ++ [BitVec.ofNat 8 fmt, BitVec.ofNat 8 flags, 0#8, 0#8] ++ slice px (k * per * g.2) (cnt * g.2))
/-- The rate of a video stream with a line of `w` pixels every `period` seconds (R286). -/
def streamRate (fmt w : Nat) (period : Rat) : Rat :=
  let b := lineBytes fmt w
  if period = 0 then 0 else ((b.1 + 24 * b.2) * 8 : Nat) / period
/-- The rate of an audio stream (R286). -/
def audioRate (channels rate : Nat) : Rat := (channels * rate * 32 : Nat) + (192 * rate : Nat) / (8 : Rat)
/-- The panel depth of an output, from the CLR words of its driving Wing. -/
def panelDepth (s : State) (n : Nat) : Nat := 6 + 2 * bits (word s (wingCode (out s n).wing) 0x17 n 1) 1 0
/-- The rate an output's stream needs, with its audio window. -/
def outNeed (s : State) (n : Nat) : Rat :=
  let fmt := if panelDepth s n = 10 then 0x02 else 0x01
  let f := frameRate (word s) n * vTotal (word s) n
  streamRate fmt (hAct (word s) n) (if f = 0 then 0 else 1 / f) + (if windowUsed s n then audioRate 8 (windowRate s n) else 0)
/-- The rate of the audio stream that a sink-end port receives, where one is received. -/
def audioNeed (s : State) (p : Nat) : Rat :=
  let x := tget {} s.audio.streams p
  if x.admitted then audioRate x.channels x.rate else 0
/-- The rate the streams of a sink-end port's pipes need, and its audio; each distinct stream counts once (R286). -/
def pipesNeed (s : State) (p : Nat) : Rat :=
  let subs := ((pipesOfPort s 1 p).map fun k => (capSource s k).2.2).dedup
  subs.foldl (fun t sub =>
    match (pipesOf s (1, p, sub)).find? fun k => decide ((capAt s k).w ≠ 0) with
    | none => t
    | some k =>
      let c := capAt s k
      t + streamRate c.fmt c.w (if c.h = 0 then 0 else (c.period : Rat) / 1000000000 / c.h)) (audioNeed s p)
/-- The active outputs on a Prenlink port. -/
def outsOnPlk (s : State) (p : Nat) : List Nat := (activeOuts s).filter fun o => decide (outPort s o = (0, p))
/-- The step in effect does not carry the port's configured streams (R243, R286). Log entry 69 (DEDUCED). -/
def portShort (s : State) (p : Nat) : Bool :=
  let x := plk s p
  let need := if x.role = 0 then (outsOnPlk s p).foldl (fun t o => t + outNeed s o) 0 else pipesNeed s p
  decide (need * 100 > available x.step x.rs * 98)
/-- Why the output's port cannot carry it (byte 2 of cause 5), none where it can (Table 17-5). Log entry 69 (DEDUCED). -/
def cannotCarry (s : State) (n : Nat) : Option Nat :=
  let (kind, p) := outPort s n
  if kind = 0 then
    (if (plk s p).st ≠ 8 then some 0 else if portShort s p then some 1 else none)
  else if (edp s p).st = 3 then none else some 2

/-! ## Starting and stopping -/

/-- The Wing that drives an output started in M2: the active one. -/
def activeWing (s : State) : Wing := if (wing s .b).role = 2 then .b else .a
/-- The size of an output's frame record (R455), 0 on a line-locked output. -/
def recordBytes (_ : State) (rd : Rd) (mode n : Nat) : Nat :=
  if mode = 3 ∧ nominated rd n then 0 else surfaceBytes 0x20 (hAct rd n) (vAct rd n)
/-- Reserves an output's frame records in its Wings, in place of any it holds (R455). -/
def reserveRecords (s : State) (n size : Nat) : List Nat → Option State
  | [] => some s
  | b :: r =>
    let s := freeAllocs s (wingOf b) 1 n fun _ => false
    if size = 0 then reserveRecords s n size r
    else match allocate s (wingOf b) size 1 n with
      | none => none
      | some (s, _) => reserveRecords s n size r
/-- Event 208 of a frame record that does not fit. -/
def recordShort (s : State) (n size : Nat) (banks : List Nat) : State :=
  let w := wingOf (banks.headD 0)
  raise s 208 (det 1 n (wingCode w) (mibShort s w size))
/-- Frees an output's frame records. -/
def freeRecords (s : State) (n : Nat) : State := freeAllocs (freeAllocs s .a 1 n fun _ => false) .b 1 n fun _ => false

/-! ## The grid (R420 to R422) -/

/-- Reports a grid unrelated to the frame phase, once for each grid (R421). Log entry 76 (DEDUCED). -/
def gridCheck (s : State) (n : Nat) : State :=
  let o := out s n
  if outKind s n ≠ 1 ∨ o.gridTold ∨ gridRelated s n then s
  else outEvent (setOut s n { o with gridTold := true }) n 10 0 0
/-- The output enters STARTING: its start instant is now (R432), and the base word of its synthesizer is the word in
effect (R426). -/
def enterStarting (s : State) (n : Nat) : State :=
  let o := out s n
  let s := setOut s n { o with
    st := .starting, begun := false, aligned := false, ratio := none, remain := 0, realign := false, goodLocks := 0, prevErr := 0
    baseWord := synFreq s (clkSyn (outWord s n 3)), atLimit := false, absent := false, gridTold := false, frcHist := []
    stepLeft := 0, stepNew := false, stepFrame := false, startAt := s.clk, atLine := false, extra := 0
    alignAt := none, alignLeft := 0, phi := recentPhase s, lockSeen := 0, lockLeft := 0, lockAt := none
    ditherLoad := true, record := [], forced := false, stopAtLine := false, fillNext := false, gap := false, gapTo := none
    line := vAct (word s) n }
  gridCheck s n
/-- OUTPUT_START takes effect (Table 17-5, R431). -/
def startOutput (s : State) (n : Nat) (w : Wing) : State :=
  if (out s n).st ≠ .stopped then s
  else
    let s := enterStarting (setOut s n { wing := w }) n
    let (kind, p) := outPort s n
    if kind = 1 ∧ (edp s p).st = 0 then edpStart s p n else s
/-- The output completes its stop (Table 17-5): its records are freed and its port rests. -/
def finishStop (s : State) (n why : Nat) : State :=
  let o := out s n
  let (kind, p) := outPort s n
  let s := setOut s n { wing := o.wing, count := o.count }
  let s := outEvent s n 1 why 0
  let s := freeRecords s n
  if kind = 1 then edpRest s p else s
/-- OUTPUT_STOP acts at its instant (R433, Table 17-5, R304). -/
def stopOutput (s : State) (n : Nat) (force : Bool) : State :=
  let o := out s n
  let (kind, p) := outPort s n
  let blank := decide (vAct (word s) n ≤ o.line)
  let s := if o.st ≠ .stopped ∧ kind = 1 then edpDark s p else s
  match o.st with
  | .stopped => s
  | .starting | .fill | .halted => finishStop s n 2
  | .running | .linkIdle =>
    setOut s n { o with st := if force then .filling else .draining, stopAtLine := blank, stopWhy := b2n force, forced := force }
  | .draining => if force then setOut s n { o with st := .filling, stopAtLine := blank, stopWhy := 1, forced := true } else s
  | .filling => s
/-- A clock of the queues into the hold stage of some outputs has lost lock: their fill is held no longer (R22). -/
def queuesLost (s : State) (os : List Nat) : State := os.foldl (fun s o => setOut s o { out s o with queue := none, recentred := false }) s
/-- A frame boundary of an output: its queue is re-centred to 8 entries once both of its clocks are locked again (R22). -/
def recentre (s : State) (o : Nat) : State :=
  let x := out s o
  let y := syn s (clkSyn (outWord s o 3))
  let locked := y.locked && !y.gated && (match x.wing with | .a => !s.clocks.lostA | .b => !s.clocks.lostB)
  if x.queue.isNone && locked then setOut s o { x with queue := some 8, recentred := true } else setOut s o { x with recentred := false }
/-- The outputs of a synthesizer that is gated after a loss of lock stop at the gate (R223, Table 17-5). -/
def haltOutputs (s : State) (syn : Nat) : State :=
  (fedOuts s syn).foldl (fun s n =>
    match (out s n).st with
    | .stopped | .halted => s
    | _ => outEvent (outTo s n .halted) n 8 0 0) s
/-- After the ungating they start again (Table 17-5). -/
def restartHalted (s : State) (syn : Nat) : State :=
  (fedOuts s syn).foldl (fun s n => if (out s n).st = .halted then enterStarting s n else s) s

/-- The outputs of a Wing that stops without fail-over go to FILL at their next line boundary (R10, Table 17-5). -/
def fillOutputs (s : State) (w : Wing) : State :=
  (List.range 20).foldl (fun s n =>
    let o := out s n
    if o.wing = w ∧ (o.st = .running ∨ o.st = .linkIdle) then setOut s n { o with fillNext := true } else s) s

/-- The number of active outputs of a Wing, and of the device, with one output more. -/
def countOuts (s : State) (mode : Nat) (n : Nat) (banks : List Nat) : Nat × Nat :=
  let others := (liveOuts s mode).filter fun x => decide (x.1 ≠ n)
  (others.length + 1, (banks.map fun b => (others.filter fun x => x.2.contains b).length + 1).foldl max 0)
/-- A Wing can compose outputs: it is powered and not held off by a fault. -/
def wingUsable (s : State) (w : Wing) : Bool := decide ((wing s w).role ≠ 0)

/-- Steps 11 to 14 of an output start, against a reading of the words (Table 17-2, R34, R110). Log entry 75 (DEDUCED). -/
def startRej (s : State) (q : Req) (n : Nat) (wingByte : Nat) : Option Rej :=
  let a := mkAddr 0x12 n 0
  let mode := s.modes.cur
  let banks := if mode = 2 then [0, 1] else [wingByte]
  let rd : Rd := projected s
  let others := (liveOuts s mode).filter fun x => decide (x.1 ≠ n)
  let cnt := countOuts s mode n banks
  let wingBad := rejIf (if mode = 2 then decide (wingByte ≠ 2) else decide (wingByte > 1)) { status := .badParam, addr := a }
  if n < 20 ∧ (out s n).st ≠ .stopped then firstRej [ownerRej s q.port 0 0x12 n 0, wingBad]
  else firstRej [
    rejIf (decide (n < 20) && (decide (cnt.1 > (modeOuts mode).1) || decide (cnt.2 > (modeOuts mode).2))) { status := .modeForbids, addr := a },
    rejIf (decide (wingByte < 2) && bankDown s wingByte) { status := .modeForbids, addr := a },
    if n < 20 then outModeRej rd mode n banks true others else none,
    ownerRej s q.port 0 0x12 n 0,
    rejIf (decide (n > 19)) { status := .range, addr := a },
    wingBad,
    outParamRej s rd mode n banks true true others,
    rejIf (banks.all fun b => !wingUsable s (wingOf b)) { status := .noResource, addr := a },
    rejIf ((reserveRecords s n (recordBytes s rd mode n) banks).isNone) { status := .noResource, addr := a }]
/-- OUTPUT_START. Starting an output that is not STOPPED changes nothing. -/
def opOutputStart (q : Req) (o w : Byte) : Op :=
  let n := o.toNat
  { opcode := 0x34
    sched := .yes
    check := fun s => startRej s q n w.toNat
    foot := fun _ => { touches := [ikey 0 0x12 n], reassigns := [ikey 0 0x12 n] }
    refused := fun r s =>
      if r.status = .noResource then recordShort s n (recordBytes s (projected s) s.modes.cur n) (if s.modes.cur = 2 then [0, 1] else [w.toNat]) else s
    run := fun s =>
      if (out s n).st ≠ .stopped then done s
      else
        let banks := if s.modes.cur = 2 then [0, 1] else [w.toNat]
        let s' := (reserveRecords s n (recordBytes s (projected s) s.modes.cur n) banks).getD s
        done (startOutput s' n (if s.modes.cur = 2 then activeWing s else wingOf w.toNat)) }

/-- OUTPUT_STOP (R109, R433). -/
def opOutputStop (q : Req) (o : Byte) (force : Bool) : Op :=
  let n := o.toNat
  { opcode := 0x35
    sched := .yes
    check := fun s => firstRej [ownerRej s q.port 0 0x12 n 0, rejIf (decide (n > 19)) { status := .range, addr := mkAddr 0x12 n 0 }]
    foot := fun _ => { touches := [ikey 0 0x12 n], reassigns := [ikey 0 0x12 n] }
    run := fun s => done (stopOutput s n force) }

/-- The driving Wing changes at a line boundary (R9). An output in FILL returns to RUNNING at its next commit tick. -/
def moveOutput (s : State) (n : Nat) (w : Wing) : State :=
  let o := out s n
  let s := if o.wing = w then s else freeAllocs s o.wing 1 n fun _ => false
  setOut s n { o with wing := w, assignTo := none, record := [], moved := o.moved || decide (o.st = .fill) }
/-- OUTPUT_ASSIGN (R110, R9). -/
def opOutputAssign (q : Req) (o w : Byte) : Op :=
  let n := o.toNat
  let a := mkAddr 0x12 n 0
  { opcode := 0x38
    sched := .yes
    check := fun s =>
      let mode := s.modes.cur
      let banks := [w.toNat]
      let others := (liveOuts s mode).filter fun x => decide (x.1 ≠ n)
      let live := decide (n < 20) && decide ((out s n).st ≠ .stopped)
      firstRej [
        rejIf (decide (mode = 2) || (decide (w.toNat < 2) && bankDown s w.toNat)) { status := .modeForbids, addr := a },
        rejIf (live && decide ((countOuts s mode n banks).2 > (modeOuts mode).2)) { status := .modeForbids, addr := a },
        if live && decide (w.toNat < 2) then outModeRej (projected s) mode n banks true others else none,
        ownerRej s q.port 0 0x12 n 0,
        rejIf (decide (n > 19)) { status := .range, addr := a },
        rejIf (decide (w.toNat > 1)) { status := .badParam, addr := a },
        if live then outParamRej s (projected s) mode n banks true false others else none,
        rejIf (!wingUsable s (wingOf w.toNat)) { status := .noResource, addr := a },
        rejIf (live && decide ((out s n).wing ≠ wingOf w.toNat)
          && (reserveRecords s n (recordBytes s (projected s) mode n) banks).isNone) { status := .noResource, addr := a }]
    foot := fun _ => { touches := [ikey 0 0x12 n], reassigns := [ikey 0 0x12 n] }
    refused := fun r s => if r.status = .noResource ∧ wingUsable s (wingOf w.toNat) then
      recordShort s n (recordBytes s (projected s) s.modes.cur n) [w.toNat] else s
    run := fun s =>
      let x := out s n
      let t := wingOf w.toNat
      if x.st = .stopped then done (setOut s n { x with wing := t })
      else if x.wing = t ∧ x.st ≠ .fill then done (setOut s n { x with assignTo := none })
      else
        let s := if x.wing = t then s else (reserveRecords s n (recordBytes s (projected s) s.modes.cur n) [w.toNat]).getD s
        let x := out s n
        if timingRuns x then done (setOut s n { x with assignTo := some t }) else done (moveOutput s n t) }

/-! ## Blanking adjustment (R423, R424) -/

/-- The greatest change of one blanking, in whole lines: half its nominal lines, and, shortening, never into the vertical
sync and one line more (R423). -/
def blankLimit (rd : Rd) (n : Nat) (shorten : Bool) : Nat :=
  let half := (vTotal rd n - vAct rd n) / 2
  let vs := rdOut rd n 9
  if shorten then min half (vTotal rd n - (bits vs 31 16 + bits vs 15 0) - 1) else half
/-- The part of an error of `d` pixel clocks that one blanking takes (R423). -/
def blankTake (rd : Rd) (n : Nat) (d : Int) : Int :=
  let cap : Int := blankLimit rd n (decide (d < 0)) * hTotal rd n
  max (-cap) (min cap d)
/-- What a native phase step still leaves of `step` once a blanking has taken `t` clocks (R196). -/
def stepRest (step t : Int) : Int := step - (if 0 ≤ step then max 0 (min step t) else min 0 (max step t))
/-- The blanking of an output that takes nothing of a native phase step. -/
def noStep (s : State) (n : Nat) : State := setOut s n { out s n with stepLeft := 0, stepNew := false, stepFrame := false, extra := 0 }
/-- Takes as much of the remainder as this blanking can, of a native phase step too, and reports the end of a realignment (R196, R423,
R424, R427). -/
def takeRemain (s : State) (n : Nat) : State :=
  let o := out s n
  if o.remain = 0 then noStep s n
  else
    let t := blankTake (word s) n o.remain
    let left := o.remain - t
    let s := setOut s n { o with
      remain := left, realign := o.realign && decide (left ≠ 0), stepNew := false, stepFrame := decide (o.stepLeft ≠ 0), extra := t
      stepLeft := if left = 0 then 0 else stepRest o.stepLeft t }
    if o.realign ∧ left = 0 then outEvent s n 4 0 (lineByte o.remain (hTotal (word s) n)) else s
/-- A genlocked output finds the distance `d` from the alignment instant its next frame start should fall on (R423, R424). -/
def alignTo (s : State) (n : Nat) (d : Int) : State :=
  let o := out s n
  let ht := hTotal (word s) n
  let big := decide (d.natAbs > ht)
  if big then
    -- A grid unrelated to the frame phase takes the phase most recent now as its φ (R421).
    let o := if gridRelated s n then o else { o with phi := recentPhase s, alignAt := none, alignLeft := 0 }
    let s := setOut s n { o with remain := d, realign := true, aligned := false }
    takeRemain (outEvent s n 3 0 (lineByte d ht)) n
  else if o.realign then takeRemain (setOut s n { o with remain := d, aligned := true }) n
  else
    let s := setOut s n { o with remain := d, aligned := true }
    let s := if o.aligned then s else outEvent s n 2 0 0
    takeRemain s n

/-! ## Source-locked outputs (R425 to R428) -/

/-- The nominal rate of an output's source, none where the measured period gives none (R425). -/
def sourceRate (s : State) (n : Nat) : Option Rat :=
  let c := capAt s (outPipe s (word s) n)
  if c.period = 0 then none
  else
    let r := nominalOf frameRates (1000000000, c.period)
    if r.1 = 0 then none else some ((r.1 : Rat) / r.2)
/-- The source of a source-locked or following output is absent (R428). -/
def sourceAbsent (s : State) (n : Nat) : Bool :=
  let c := capAt s (outPipe s (word s) n)
  let f := frameRate (word s) n
  !capRunning c || (match sourceRate s n with
    | none => true
    | some r =>
      (findRatio (f / r) (if outKind s n = 2 then 1 / 2000 else 3 / 1000)).isNone ||
      match c.pulse with
      | none => true
      | some t => decide (((s.tb.ns - t).toNat : Rat) * r > 2000000000))
/-- Reports an absence once (R428). -/
def absenceCheck (s : State) (n : Nat) : State :=
  let o := out s n
  if outKind s n ≠ 2 ∧ !outFollows s n then s
  else if sourceAbsent s n && !o.absent then outEvent (setOut s n { o with absent := true, goodLocks := 0 }) n 11 0 0
  else s
/-- An in-place change of a synthesizer's word by steering (R426): the output is never gated and no event is raised. Log entry 38 (DEDUCED). -/
def steerWord (s : State) (syn : Nat) (w : Int) : State := setWord s 0 0x04 syn 0 (BitVec.ofInt 32 w)
/-- One lock point, with the error `e` in the output's pixel clocks (R426, R427, R428). Log entry 38 (DEDUCED). -/
def lockPoint (s : State) (n : Nat) (e : Int) : State :=
  let o := out s n
  let rd : Rd := word s
  let ht := hTotal rd n
  if outKind s n ≠ 2 ∨ o.forceFree ∨ !timingRuns o ∨ sourceAbsent s n then s
  else
    let ratio := match sourceRate s n with
      | some r => findRatio (frameRate rd n / r) (1 / 2000)
      | none => none
    match ratio with
    | none => s
    | some (m, d) =>
      if o.absent ∨ o.relock ∨ e.natAbs > 8 * ht then
        let s := setOut s n { o with absent := false, relock := false, ratio := some (m, d), remain := -e, realign := true, goodLocks := 0, aligned := false, prevErr := 0 }
        if o.aligned then outEvent s n 3 0 (lineByte e ht) else s
      else if o.remain ≠ 0 then s
      else
        let syn := clkSyn (outWord s n 3)
        let w : Int := (synFreq s syn).toNat
        let ns : Rat := (m * ht * vTotal rd n : Nat)
        let er : Rat := if ns = 0 then 0 else e / ns
        let ep : Rat := if ns = 0 then 0 else o.prevErr / ns
        let ch : Rat := w * (er / 4 + (er - ep) / 2)
        let lim : Rat := w / (1000 : Rat)
        let ch := if ch > lim then lim else if ch < -lim then -lim else ch
        let base : Rat := (o.baseWord.toNat : Rat)
        let t : Rat := w + ch
        let hi : Rat := base * 102 / 100
        let lo : Rat := base * 98 / 100
        let held := decide (t > hi) || decide (t < lo)
        let t := if t > hi then hi else if t < lo then lo else t
        let good := if e.natAbs ≤ ht then o.goodLocks + 1 else 0
        let locked := decide (4 ≤ good)
        let s := steerWord s syn (roundRat t)
        let s := setOut s n { o with prevErr := e, goodLocks := min good 4, aligned := o.aligned || locked, atLimit := held, ratio := some (m, d) }
        let s := if locked && !o.aligned then outEvent s n 2 0 0 else s
        if held && !o.atLimit then outEvent s n 12 0 0 else s
end Sys2Proof.Machine
end

