-- ==== Sys2Proof/Machine/Links.lean ====
section
/-! DEFINITION. Prenlink ports (chapters 09 and 10): bring-up, block alignment, power states, control messages,
capability exchange, test loops, eye scan and error windows. -/

namespace Sys2Proof.Machine
open Sys2Proof

/-! ## Lanes, words and spans of time -/

/-- A near-end test loop runs: the port receives its own forward lanes (R256). -/
def nearLoop (p : Plk) : Bool := decide (p.st = 13) && (decide (p.loop = 1) || decide (p.loop = 2))
/-- The port receives the forward lanes: as the sink end, or in a near-end loop (Tables 9-1 and 9-6). -/
def takesForward (p : Plk) : Bool := decide (p.role = 1) || nearLoop p
/-- Every data lane the port receives is locked: the direction is aligned (R231). -/
def ownLocked (p : Plk) : Bool := if takesForward p then p.lanes.d0 && p.lanes.d1 else p.lanes.back
/-- The lanes the port receives use the Reed–Solomon code: the forward lanes at a step with the code, never the back lane (R266). -/
def codeReceived (p : Plk) : Bool := p.rs && takesForward p
/-- The receiver yields packets: its lanes are locked, and locked to code frames where they use the code (R268). -/
def hears (p : Plk) : Bool := ownLocked p && (!codeReceived p || (p.rx0.framed && p.rx1.framed))
/-- PLK words 0x00 to 0x03 and 0x06 (Table 5-7). Log entry 11 (DEDUCED). -/
def plkStatusWord (s : State) (n w : Nat) : Word :=
  let p := plk s n
  match w with
  | 0 =>
    field 13 1 (b2n p.rs) ||| field 12 1 (b2n (ownLocked p)) ||| field 10 2 p.bck ||| field 8 2 p.fwd ||| field 4 4 p.st
      ||| field 3 1 (shownRole p) ||| field 0 3 p.step
  | 1 => field 16 16 (sat 16 p.counts.crc) ||| field 0 16 (sat 16 p.counts.hdr)
  | 2 => field 0 32 (sat 32 p.counts.corr)
  | 3 => field 16 16 (sat 16 p.counts.uncorr) ||| field 0 16 (sat 16 p.counts.retx)
  | 6 => p.remote
  | _ => 0#32
/-- A span in ns has passed since a clock value. -/
def passed (s : State) (start span : Nat) : Bool := decide (start + span ≤ s.clk)
/-- A port has been in its state for a span in ns. -/
def stayed (s : State) (n span : Nat) : Bool := passed s (plk s n).since span
/-- One bit of a forward lane at a step, in ps (Table 9-2). -/
def uiPs (step : Nat) : Nat := 640 / 2 ^ step
/-- A back-lane block at a step, in units of 10 ps (R171). -/
def backBlock (step : Nat) : Nat := 16512 * 2 ^ (4 - step)
/-- A code frame at a step, in ns, rounded up: 165 blocks of 258 UI (R267). -/
def codeFrameNs (step : Nat) : Nat := (42570 * uiPs step + 999) / 1000

/-! ## Transitions -/

/-- The states whose entry raises the event (R260). -/
def eventState (st : Nat) : Bool := [0, 7, 8, 9, 10, 11, 13].contains st
/-- Ends the eye scan of a port: its Placard answers BUSY with no data (R254). -/
def abandonScan (s : State) (n : Nat) : State :=
  match takeRun (fun r => match r.job with | .eyeScan k _ _ => decide (k = n) | _ => false) s.runs with
  | none => s
  | some (r, rest) => finishRun { s with runs := rest } r .busy []
/-- Ends the scan of a direction that leaves ACTIVE (R254). -/
def scanDirCheck (s : State) (n dir : Nat) : State :=
  let hit := s.runs.any fun r => match r.job with
    | .eyeScan k lane _ => decide (k = n) && decide ((if lane = 2 then 1 else 0) = dir) | _ => false
  if hit then abandonScan s n else s
/-- Releases the build buffer unchecked, with system event 7 (R106). -/
def releaseBuild (s : State) : State :=
  match s.modes.build with
  | none => s
  | some b => raise { s with modes := { s.modes with build := none } } 7 (det b.kind b.mode 0x20 (portCode b.port))
/-- What the CP2 port leaving RUNNING does: a packet partly received ends there and falls under R67, and a build that CP2 holds is
released (R66, R106). -/
def cp2Dropped (s : State) : State :=
  let c := s.ports.cp2
  let s := if c.rx = [] then s else arrive (setPort s .cp2 { c with rx := [] }) .cp2 c.rx
  match s.modes.build with
  | some b => if b.port = .cp2 then releaseBuild s else s
  | none => s
/-- Moves a port to a bring-up state with a cause, and raises the event where R260 asks for it. A direction reads OFF in DOWN and ACTIVE in
every other state but RUNNING and LOOP (R249). -/
def plkMove (s : State) (n st cause : Nat) : State :=
  let p := plk s n
  let leaves := decide (p.st = 8) && decide (st ≠ 8)
  let s := setPlk s n { p with st := st, since := s.clk, ownOk := false, farOk := false }
  let s := if eventState st ∨ cause = 10 ∨ cause = 12 then plkEvent s n cause 0 false else s
  let s := if st = 8 ∨ st = 13 then s else let v := if st = 0 then 3 else 0; setPwr (setPwr s n 0 v) n 1 v
  let s := if leaves then abandonScan (setPlk s n { plk s n with wakeFwd := none, wakeBck := none, request := none }) n else s
  let live (x : Nat) : Bool := decide (x = 8) || decide (x = 12)
  let s := if live p.st ∧ !live st ∧ p.role = 1 then portLost s 1 n 1 else s
  if leaves && decide (cp2Port s = some n) then cp2Dropped s else s
/-- The loop of a port that pairs with `n` ends: the paired port enters DOWN (R257). -/
def endPair (s : State) (n cause : Nat) : State :=
  (List.range 24).foldl (fun s k =>
    let p := plk s k
    if p.pairOf = some n ∧ p.st = 13 then
      plkMove (setPlk s k { ({} : Plk) with st := 13, role := p.role, counts := p.counts, fwd := p.fwd, bck := p.bck, tx := p.tx }) k 0 cause
    else s) s
/-- Moves a port to a bring-up state; a far-end loop ends as its port leaves RUNNING (R257). -/
def plkTo (s : State) (n st cause : Nat) : State :=
  let p := plk s n
  let s := plkMove s n st cause
  if p.st = 8 ∧ st ≠ 8 ∧ p.loop = 3 then endPair (setPlk s n { plk s n with loop := 0 }) n 0 else s
/-- Messages of a port no longer carry Placards of CP2, which are sent anew once the port is linked (R66). -/
def cp2Unsent (s : State) (n : Nat) : State :=
  if cp2Port s = some n then { s with ports := { s.ports with cp2Sent := 0 } } else s
/-- Entry into DOWN: counters stay until the port leaves DOWN, everything else rests (R242, R244, R249, R288). Log entry 43 (DEDUCED). -/
def plkDown (s : State) (n cause : Nat) : State :=
  let p := plk s n
  if p.st = 0 then s
  else
    let s := plkTo s n 0 cause
    let s := setPlk s n { ({} : Plk) with role := p.role, counts := p.counts, tx := (plk s n).tx, since := s.clk }
    endPair (cp2Unsent s n) n cause
/-- BACKOFF with a cause: the attempt's locks, settings in use, messages and sequence numbers end with it (Table 9-4). Log entry 43 (DEDUCED). -/
def plkBackoff (s : State) (n cause : Nat) : State :=
  let s := plkTo s n 10 cause
  let p := plk s n
  cp2Unsent (setPlk s n { p with
    lanes := {}, eq := {}, capIn := false, capAcked := false, unacked := [], waiting := [], txSeq := 0#8, rxSeq := 0xFF#8,
    ackDue := false, request := none, draining := [], forced := false, rx0 := {}, rx1 := {}, rxb := {}, rxs := {}, send := {} }) n
/-- Entry into RUNNING: the attempt count clears, a new error window starts, the Placards that wait on CP2 go out, and a step that is short of
the port's configured streams raises cause 10 (R66, R242, R243, R288). -/
def plkRunning (s : State) (n cause : Nat) : State :=
  let p := plk s n
  let s := setPlk s n { p with
    attempts := 0, counts := { p.counts with win := 0, rose := 0#4 }, cmdFwd := 0, cmdBck := 0, wakeFwd := none, wakeBck := none, winAt := s.clk, lastRx := s.clk, idleAt := s.clk }
  let s := if p.runStep = p.step then s else rateChanged (setPlk s n { plk s n with runStep := p.step }) 1 n
  let s := plkTo s n 8 cause
  let s := if portShort s n then plkEvent s n 10 0 false else s
  if cp2Port s = some n then cp2Flush s else s

/-- Counts packet failures, header errors, symbols corrected, uncorrectable codewords or retransmissions, in the counters and, while
RUNNING, in the window (R288). -/
def plkCount (s : State) (n : Nat) (crc hdr corr uncorr retx : Nat) : State :=
  let p := plk s n
  let c := p.counts
  let run := decide (p.st = 8)
  let m : BitVec 4 := (if crc > 0 then 1#4 else 0#4) ||| (if hdr > 0 then 2#4 else 0#4) ||| (if uncorr > 0 then 4#4 else 0#4)
    ||| (if retx > 0 then 8#4 else 0#4)
  setPlk s n { p with counts := { c with
    crc := sat 16 (c.crc + crc), hdr := sat 16 (c.hdr + hdr), corr := sat 32 (c.corr + corr),
    uncorr := sat 16 (c.uncorr + uncorr), retx := sat 16 (c.retx + retx),
    win := if run then c.win + crc + hdr + uncorr + retx else c.win, rose := if run then c.rose ||| m else c.rose } }

/-! ## The check of R240 -/

/-- The check of R240 begins at the Ontor's end. -/
def startCheck (s : State) (n : Nat) : State :=
  let p := plk s n
  setPlk s n { p with
    checkAt := s.clk
    counts := { p.counts with base := p.counts.crc + p.counts.hdr, baseUncorr := p.counts.uncorr, corr0 := 0, corr1 := 0, lost := false } }
/-- The Ontor's receiving lanes meet R240 over the last millisecond, in which each lane received `symbols` symbols. -/
def checkPassed (p : Plk) (symbols : Nat) : Bool :=
  let c := p.counts
  ownLocked p && !c.lost &&
    (if codeReceived p then decide (c.uncorr = c.baseUncorr) && decide (c.corr0 * 100000 ≤ symbols) && decide (c.corr1 * 100000 ≤ symbols)
     else decide (c.base = c.crc + c.hdr))
/-- The code is in use at L4, and at L3 where the LINK_UP, PLK_RS_L3 or the far end's block asked for it (R238). -/
def codeAt (step : Nat) (ask : Bool) : Bool := decide (step = 4) || (decide (step = 3) && ask)
/-- The code at a step on a port whose far end's block is in. -/
def codeIn (p : Plk) (step : Nat) : Bool := codeAt step (p.askRs || p.farRs)
/-- The settings a port returns to at a step: the default at L0, which is never trained, else those stored (R237, R239). -/
def settingsAt (p : Plk) (step : Nat) : Equal :=
  if step = 0 then {} else ((p.stored.find? fun x => decide (x.1 = step)).map (·.2)).getD {}
/-- A port's receiving lanes hunt anew: nothing is locked, trained or reported. -/
def unlocked (p : Plk) : Plk := { p with lanes := {}, rx0 := {}, rx1 := {}, rxb := {}, rxs := {} }
/-- Enters FALLBACK one step down, with the settings of that step (Table 9-4, R237). -/
def plkFallback (s : State) (n cause : Nat) : State :=
  let p := plk s n
  let st := p.step - 1
  plkTo (setPlk s n { unlocked p with step := st, rs := codeIn p st, eq := settingsAt p st }) n 7 cause
/-- A TRAINING message: request, step, preset, pre-cursor, post-cursor (Table 10-7). -/
def sendTraining (s : State) (n req step preset : Nat) (pre post : Byte) : State :=
  sendCtl s n 0x05 [BitVec.ofNat 8 req, BitVec.ofNat 8 step, BitVec.ofNat 8 preset, pre, post, 0#8, 0#8, 0#8]
/-- Enters STEP; the sink end leads with a request for the next step (R236, R239). -/
def toStep (s : State) (n : Nat) : State :=
  let p := plk s n
  let s := plkTo (setPlk s n (unlocked p)) n 4 1
  if p.role = 1 then sendTraining s n 0 (p.step + 1) 0 0#8 0#8 else s
/-- Enters TRAIN at the next step. The sink end chooses the source's preset and fine cursors and requests them; the spec gives no choice:
free values (R239). -/
def toTrain (s : State) (n : Nat) : State :=
  let p := plk s n
  let st := p.step + 1
  let s := plkTo (setPlk s n { p with step := st, rs := codeIn p st, lanes := { p.lanes with trained := false, far := false } }) n 5 1
  if p.role = 1 then
    let (a, s) := drawByte s
    let (b, s) := drawByte s
    let (c, s) := drawByte s
    let k := a.toNat % 16
    let s := setPlk s n { plk s n with eq := { preset := k, pre := b, post := c } }
    sendTraining (sendTraining s n 1 st k 0#8 0#8) n 2 st k b c
  else setPlk s n { plk s n with eq := {} }
/-- Both ends have passed R240: on to the next step or to RUNNING (Table 9-4). -/
def checkDone (s : State) (n : Nat) : State :=
  let p := plk s n
  if !p.ownOk || !p.farOk then s
  else
    match p.st with
    | 6 => if p.step < p.target then toStep s n else plkRunning s n 1
    | 7 => plkRunning (setPlk s n { p with target := p.step }) n 1
    | 9 => plkRunning s n 1
    | _ => s

/-! ## Packets and control messages -/

/-- The payload of a received packet that passes the checks of R272 for its type and Length maximum, with its stream. -/
def openPacket (b : List Byte) (ty maxLen : Nat) (streams : Bool) : Option (Nat × List Byte) :=
  let len := leAt b 2 2
  let st := byteAt b 1
  if crc8 (b.take 7) = b.getD 7 0#8 ∧ byteAt b 0 = ty ∧ len ≤ maxLen ∧ b.length = 12 + len
      ∧ (if streams then st ≤ 3 else st = 0)
      ∧ crc32c (slice b 8 len) = BitVec.ofNat 32 (leAt b (8 + len) 4) then
    some (st, slice b 8 len)
  else none
/-- Control messages run from ALIGN onwards (R277), on lanes that yield packets. -/
def takesCtl (p : Plk) : Bool := decide (2 ≤ p.st) && decide (p.st ≤ 12) && decide (p.st ≠ 10) && decide (p.st ≠ 11) && hears p
/-- The capability block of the Ontor's end (Table 10-8). -/
def ownCapability (s : State) (n : Nat) : List Byte :=
  let p := plk s n
  let spread := decide ((syn s 10).spread.1 ≠ 0) && decide (p.role = 0)
  let b1 := p.maxStep + 8 + 16 * b2n p.askRs + 32 * p.role + 64 * b2n spread
  let b3 := if p.role = 1 then 4 + 8 + 16 else 1
  sized ([0x01#8, BitVec.ofNat 8 b1, 0x01#8, BitVec.ofNat 8 b3, 32#8, 8#8, 0#8, 0#8] ++ leBytes 8 Config.deviceId.toNat) 64
/-- Sends the capability block. -/
def sendCapability (s : State) (n : Nat) : State := sendPacket s n 2 (plkPacket 0x16 0 0 (ownCapability s n))
/-- An ACK message (Table 10-7). -/
def sendAck (s : State) (n : Nat) : State :=
  let p := plk s n
  sendPacket (setPlk s n { p with ackDue := false }) n 1 (plkPacket 0x15 0 0 (ctlPayload 0#8 0#8 p.rxSeq 3#8 []))
/-- ALIGN ends when every receiving data lane of both ends is locked: the Ontor's by its own lanes, the far end's by a valid packet from
it (Table 9-4, R236). Log entry 42 (DEDUCED). -/
def alignDone (s : State) (n : Nat) : State :=
  let p := plk s n
  if p.st = 2 ∧ ownLocked p ∧ p.lanes.far then sendCapability (plkTo s n 3 1) n else s
/-- A valid packet has been received (R274); in ALIGN it reports that the far end's lanes are locked. -/
def validPacket (s : State) (n : Nat) : State :=
  let p := plk s n
  alignDone (setPlk s n { p with lastRx := s.clk, lanes := if p.st = 2 then { p.lanes with far := true } else p.lanes }) n
/-- A received control message: its acknowledgement acts, and it is delivered only in sequence order (R277). The
flag says whether it is delivered. -/
def receiveCtl (s : State) (n : Nat) (m : Ctl) : Bool × State :=
  if !takesCtl (plk s n) then (false, s)
  else
    let s := takeAck (validPacket s n) n m.ack
    let p := plk s n
    if m.seq = p.rxSeq + 1 then (true, setPlk s n { p with rxSeq := m.seq, ackDue := true, ackAt := s.clk })
    else if (p.rxSeq - m.seq).toNat < 128 then (false, setPlk s n { p with ackDue := true, ackAt := s.clk })
    else (false, s)
/-- The heartbeat time-out, or what counts as it: BACKOFF with cause 5 (Table 9-4, R278). -/
def heartbeatLost (s : State) (n : Nat) : State :=
  let st := (plk s n).st
  if st = 8 ∨ st = 9 then plkBackoff s n 5 else s

/-! ## Bring-up -/

/-- The target step of a far end's block: the lowest of the LINK_UP's step, PLK_RATE_MAX and what the far end offers, which is at most L2
without the code (R238). -/
def capTarget (p : Plk) (b1 : Nat) : Nat := min p.maxStep (if b1 / 8 % 2 = 0 then min (b1 % 8) 2 else b1 % 8)
/-- Leaves CAPABILITY once both blocks are in and acknowledged (Table 9-4). -/
def capDone (s : State) (n : Nat) : State :=
  let p := plk s n
  if p.st = 3 ∧ p.capIn ∧ p.capAcked then
    if p.target = 0 then plkRunning s n 1 else toStep s n
  else s
/-- Starts bring-up: the role is set, the counters clear, the pads wake (Table 9-4, R245, R288); with SYN10 gated a source end goes on to
BACKOFF at once. Log entry 43 (DEDUCED). -/
def linkUpNow (s : State) (n role step : Nat) (code : Bool) : State :=
  let w := plkCfg s n
  let o := plk s n
  let p : Plk := { role := role, fwd := o.fwd, bck := o.bck, maxStep := min step (bits w 2 0),
                   askRs := code || bit w 4, takesSpread := bit w 5, tx := o.tx }
  let s := plkTo (setPlk s n p) n 1 0
  if role = 0 ∧ (syn s 10).gated then plkBackoff s n 9 else s
/-- While CP2 is enabled its port is kept in service as the source end (R65). -/
def ensureCp2 (s : State) : State :=
  match cp2Port s with
  | some n => if (plk s n).st = 0 ∧ n < 24 then linkUpNow s n 0 (bits (plkCfg s n) 2 0) false else s
  | none => s
/-- Messages already given to the links carry no Placard that still waits (R90). -/
def disownCp2 (s : State) : State :=
  let f (m : CtlOut) : CtlOut := { m with cp2 := false }
  (List.range 24).foldl (fun s n =>
    let p := plk s n
    if p.unacked = [] ∧ p.waiting = [] then s else setPlk s n { p with unacked := p.unacked.map f, waiting := p.waiting.map f }) s
/-- PRS[0] word 0x01 has changed: a change of PRS_CP2_EN or PRS_CP2_PORT discards the Placards that wait on CP2, and the port CP2
names now is brought up (R65, R90). -/
def settleCp2 (s : State) (old : Word) : State :=
  let new := word s 0 0x26 0 1
  if bit old 0 = bit new 0 ∧ bits old 12 8 = bits new 12 8 then s
  else
    let s := disownCp2 (setPort s .cp2 { getPort s .cp2 with queue := [] })
    ensureCp2 { s with ports := { s.ports with cp2Sent := 0 } }
/-- 1 s after the CP2 port entered FAILED it is taken down and brought up again (R65). -/
def execCp2LinkRetry (s : State) : Host.Outcome State Fault Refusal :=
  match cp2Port s with
  | some n => if (plk s n).st = 11 ∧ stayed s n 1000000000 then .next (ensureCp2 (plkDown s n 0)) else .next s
  | none => .next s

/-- A lane that locks, or no longer is. -/
def markLane (r : LaneRx) (on : Bool) : LaneRx :=
  if on then { r with run := 64, recent := List.replicate 64 true }
  else { r with run := 0, recent := [], framed := false, count := none, missed := 0, frame := [] }
/-- Records the lock of a receiving lane; a lane the port does not receive on changes nothing (Table 9-1). Log entry 42 (DEDUCED). -/
def lockLane (p : Plk) (lane : Nat) (on : Bool) : Plk :=
  match takesForward p, lane with
  | true, 0 => { p with lanes := { p.lanes with d0 := on }, rx0 := markLane p.rx0 on }
  | true, 1 => { p with lanes := { p.lanes with d1 := on }, rx1 := markLane p.rx1 on }
  | false, 2 => { p with lanes := { p.lanes with back := on }, rxb := markLane p.rxb on }
  | _, _ => p
/-- A receiving lane of the port is locked. -/
def laneLocked (p : Plk) (lane : Nat) : Bool :=
  match takesForward p, lane with
  | true, 0 => p.lanes.d0
  | true, 1 => p.lanes.d1
  | false, 2 => p.lanes.back
  | _, _ => false
/-- The direction the Ontor's end receives. -/
def rxDir (p : Plk) : Nat := 1 - p.role

/-- 1,024 consecutive clock edges within tolerance move DETECT to ALIGN (Table 9-4). Log entry 4 (DESIGN CHOICE). -/
def execPlkDetectClock (port : Fin 24) (s : State) : Host.Outcome State Fault Refusal :=
  if (plk s port.val).st = 1 then .next (plkTo s port.val 2 1) else .next s

/-- What the lock of the last receiving lane does: ALIGN tells the far end with an acknowledgement, both directions run at the next step in
STEP, the check of R240 begins in FALLBACK, RECOVER and a wake (Table 9-4, R252). Log entry 42 (DEDUCED). -/
def lanesLocked (s : State) (n : Nat) : State :=
  let p := plk s n
  if !ownLocked p then s
  else
    match p.st with
    | 2 => alignDone (sendAck s n) n
    | 4 => toTrain s n
    | 7 | 9 => startCheck s n
    | 8 => if (wakeOf p (rxDir p)).isSome then startCheck s n else s
    | _ => s
/-- A receiving lane locks (R246). -/
def execPlkLaneLock (port : Fin 24) (lane : Fin 3) (s : State) : Host.Outcome State Fault Refusal :=
  let n := port.val
  let p := plk s n
  if p.st = 0 ∨ laneLocked p lane.val then .next s
  else
    let q := lockLane p lane.val true
    if q = p then .next s else .next (lanesLocked (setPlk s n q) n)

/-- A receiving lane has lost lock: a running port tells the far end and enters RECOVER (R247, Table 9-4). -/
def laneLost (s : State) (n lane hdr : Nat) : State :=
  let p := lockLane (plk s n) lane false
  let s := plkCount (setPlk s n { p with counts := { p.counts with lost := true } }) n 0 hdr 0 0 0
  if p.st = 8 then plkTo (sendCtl s n 0x08 [4#8]) n 9 4 else s
/-- Four code frames have passed on a lane without a MARKER (R268). -/
def framesLost (s : State) (p : Plk) (lane : Nat) : Bool :=
  let r := if lane = 0 then p.rx0 else p.rx1
  codeReceived p && r.framed && passed s r.markAt (4 * codeFrameNs p.step)
/-- A locked lane loses lock: with 16 of its last 64 headers invalid, or with the loss of code-frame lock, which no invalid header has
to go with. In STANDBY a lane keeps its lock and counts nothing (R247, R268). -/
def execPlkLaneLockLost (port : Fin 24) (lane : Fin 3) (invalid : Nat) (s : State) : Host.Outcome State Fault Refusal :=
  let n := port.val
  let p := plk s n
  if !laneLocked p lane.val ∨ (p.st = 8 ∧ powerOf p (rxDir p) ≠ 0) then .next s
  else .next (laneLost s n lane.val (if framesLost s p lane.val then invalid else max 16 invalid))

/-- 20 ms in ALIGN (Table 9-4). -/
def execPlkAlignTimeout (port : Fin 24) (s : State) : Host.Outcome State Fault Refusal :=
  if (plk s port.val).st = 2 ∧ stayed s port.val 20000000 then .next (plkBackoff s port.val 8) else .next s

/-- A far end's block is judged in CAPABILITY: what it gives is fixed for the link, and a block that is not compatible ends bring-up in
FAILED with a FAILURE message (R235, R238, R282). -/
def judgeCapability (s : State) (n : Nat) (b : List Byte) : State :=
  let p := plk s n
  let b1 := byteAt b 1
  let spread := decide (b1 / 64 % 2 = 1)
  let ok := decide (byteAt b 0 = 1) && decide (b1 / 32 % 2 ≠ p.role) && (decide (p.role = 0) || !spread || p.takesSpread)
  let s := setPlk s n { p with
    remote := BitVec.ofNat 32 (leAt b 0 4), capIn := true, target := capTarget p b1, farRs := decide (b1 / 16 % 2 = 1), farSpread := spread,
    window := max 1 (min 8 (byteAt b 5)) }
  if ok then capDone s n else plkTo (sendCtl s n 0x08 [6#8]) n 11 6
/-- A CAPABILITY packet is acknowledged and, in CAPABILITY, judged (R282). -/
def execCapability (port : Fin 24) (packet : List Byte) (s : State) : Host.Outcome State Fault Refusal :=
  let n := port.val
  if !takesCtl (plk s n) then .next s
  else
    match openPacket packet 0x16 64 false with
    | none => .next (plkCount s n 1 0 0 0 0)
    | some (_, b) =>
      let s := sendCtl (validPacket s n) n 0x07 (leBytes 4 (crc32c b).toNat)
      if (plk s n).st = 3 then .next (judgeCapability s n b) else .next s

/-- Each 100 µs in CAPABILITY the unacknowledged block goes out again (R282). -/
def execCapabilityResend (port : Fin 24) (s : State) : Host.Outcome State Fault Refusal :=
  let p := plk s port.val
  if p.st = 3 ∧ !p.capAcked then .next (sendCapability s port.val) else .next s
/-- A CAPABILITY_ACK that carries the block's CRC stops the resending (R282). -/
def execCapabilityAck (port : Fin 24) (m : Ctl) (s : State) : Host.Outcome State Fault Refusal :=
  let n := port.val
  let (d, s) := receiveCtl s n m
  if d ∧ (plk s n).st = 3 ∧ leAt m.data 0 4 = (crc32c (ownCapability s n)).toNat then
    .next (capDone (setPlk s n { plk s n with capAcked := true }) n)
  else .next s
/-- 5 ms in CAPABILITY (Table 9-4). -/
def execCapabilityTimeout (port : Fin 24) (s : State) : Host.Outcome State Fault Refusal :=
  if (plk s port.val).st = 3 ∧ stayed s port.val 5000000 then .next (plkBackoff s port.val 7) else .next s
/-- 100 µs in STEP: FALLBACK to the step below the one tried, which is the step in effect (Table 9-4). -/
def execPlkStepTimeout (port : Fin 24) (s : State) : Host.Outcome State Fault Refusal :=
  let n := port.val
  let p := plk s n
  if p.st = 4 ∧ stayed s n 100000 then .next (plkFallback (setPlk s n { p with step := p.step + 1 }) n 2) else .next s
/-- 10 ms in TRAIN: the far end is told (Table 9-4). -/
def execPlkTrainTimeout (port : Fin 24) (s : State) : Host.Outcome State Fault Refusal :=
  let n := port.val
  let p := plk s n
  if p.st = 5 ∧ stayed s n 10000000 then .next (plkFallback (sendTraining s n 4 p.step 0 0#8 0#8) n 2) else .next s

/-- TRAIN ends when every receiving lane of both ends is locked and trained: the settings are stored (Table 9-4, R239). -/
def trainDone (s : State) (n : Nat) : State :=
  let p := plk s n
  if p.st = 5 ∧ p.lanes.trained ∧ p.lanes.far then
    startCheck (plkTo (setPlk s n { p with
      stored := (p.step, p.eq) :: p.stored.filter (fun x => decide (x.1 ≠ p.step)) }) n 6 1) n
  else s
/-- Training of the Ontor's own receiving lanes finishes: the peaking and taps it adapted stand, which the spec does not give (free
values), and the far end is told (R239). In loop 1 it is the one training at the start (R256). -/
def execEqualiserTrainingDone (port : Fin 24) (s : State) : Host.Outcome State Fault Refusal :=
  let n := port.val
  let p := plk s n
  if (p.st = 5 ∧ ownLocked p) ∨ (p.st = 13 ∧ p.loop = 1) then
    let (f, s) := drawBytes s 9
    let s := setPlk s n { p with lanes := { p.lanes with trained := true }, eq := { p.eq with adapted := f } }
    .next (if p.st = 13 then s else trainDone (sendTraining s n 3 p.step 0 0#8 0#8) n)
  else .next s

/-- 1 ms of the check of R240 is over: the far end is told the result, and both results together decide, in VERIFY, FALLBACK, RECOVER
and after a wake (R240, R252, Table 9-4). -/
def execPlkVerifyEnd (port : Fin 24) (symbols : Nat) (s : State) : Host.Outcome State Fault Refusal :=
  let n := port.val
  let p := plk s n
  let ok := checkPassed p symbols
  let told := sendTraining (setPlk s n { p with ownOk := ok }) n (if ok then 5 else 6) p.step 0 0#8 0#8
  if !passed s p.checkAt 1000000 then .next s
  else
    match p.st with
    | 6 => .next (if ok then checkDone told n else plkFallback told n 3)
    | 7 | 9 => if ownLocked p then .next (if ok then checkDone told n else startCheck told n) else .next s
    | 8 => .next (if ok ∧ (wakeOf p (rxDir p)).isSome then setPlk s n (setWake p (rxDir p) none) else s)
    | _ => .next s

/-- A fallback restore fails within 10 ms: a further step down, or BACKOFF at L0 (Table 9-4). -/
def execPlkFallbackTimeout (port : Fin 24) (s : State) : Host.Outcome State Fault Refusal :=
  let n := port.val
  let p := plk s n
  if p.st ≠ 7 ∨ !stayed s n 10000000 then .next s
  else if p.step > 0 then .next (plkFallback s n 3) else .next (plkBackoff s n 3)
/-- 1 ms in RECOVER without relock (Table 9-4). -/
def execPlkRecoverTimeout (port : Fin 24) (s : State) : Host.Outcome State Fault Refusal :=
  let n := port.val
  let p := plk s n
  if p.st ≠ 9 ∨ ownLocked p ∨ !stayed s n 1000000 then .next s
  else if p.step > 0 then .next (plkFallback s n 4) else .next (plkBackoff s n 4)
/-- No activity on a receiving clock lane for 10 µs, which in SLEEP and OFF is no loss (Tables 9-4 and 9-5). -/
def execPlkClockLost (port : Fin 24) (s : State) : Host.Outcome State Fault Refusal :=
  let p := plk s port.val
  if p.st = 8 ∧ 2 ≤ powerOf p (rxDir p) then .next s else .next (heartbeatLost s port.val)
/-- No valid packet for 1 ms on a receiving direction that is ACTIVE (R274). -/
def execHeartbeatTimeout (port : Fin 24) (s : State) : Host.Outcome State Fault Refusal :=
  let p := plk s port.val
  if powerOf p (rxDir p) = 0 ∧ passed s p.lastRx 1000000 then .next (heartbeatLost s port.val) else .next s

/-- The BACKOFF wait: 10 ms, and 1 s after 8 consecutive attempts that ended there (R242). Log entry 43 (DEDUCED). -/
def backoffWait (p : Plk) : Nat := if p.attempts < 8 then 10000000 else 1000000000
/-- The BACKOFF wait ends; a source-end port waits on while SYN10 is gated. The new attempt starts at L0 with default equalisation
(R237, R242, Table 9-4). -/
def execBackoffEnd (port : Fin 24) (s : State) : Host.Outcome State Fault Refusal :=
  let n := port.val
  let p := plk s n
  if p.st ≠ 10 ∨ !stayed s n (backoffWait p) ∨ (p.role = 0 ∧ (syn s 10).gated) then .next s
  else .next (plkTo (setPlk s n { p with attempts := p.attempts + 1, step := 0, rs := false, eq := {} }) n 1 1)
/-- SYN10 gated: every source-end port that is up goes to BACKOFF with cause 9; FAILED is left only by LINK_DOWN (Tables 8-3 and 9-4, R242). -/
def syn10Gated (s : State) : State :=
  (List.range 24).foldl (fun s n =>
    let p := plk s n
    if p.role = 0 ∧ p.st ≠ 0 ∧ p.st ≠ 11 ∧ p.st ≠ 13 then plkBackoff s n 9 else s) s

/-! ## Going down (R244) -/

/-- The streams of a sink-end port with a frame in progress, as pipe numbers 40·bank + pipe. -/
def streamsBusy (s : State) (n : Nat) : List Nat := (pipesOfPort s 1 n).filter fun k => (capAt s k).inFrame
/-- The active outputs that a source-end port carries. -/
def outsOnPort (s : State) (n : Nat) : List Nat := outsOnPlk s n
/-- The frames a port that goes down still waits for. -/
def framesLeft (s : State) (p : Plk) : List (Nat × Option Nat) :=
  p.draining.filter fun x => (capAt s x.1).inFrame && decide ((capAt s x.1).curNum = x.2)
/-- Takes a port that goes down into DOWN once nothing on it is unfinished, with END_OF_LINK. -/
def drainCheck (s : State) (n : Nat) : State :=
  let p := plk s n
  if p.st ≠ 12 ∧ !p.forced then s
  else
    let s := setPlk s n { p with draining := framesLeft s p }
    if (p.role = 0 ∧ outsOnPort s n ≠ []) ∨ (p.role = 1 ∧ framesLeft s p ≠ []) then s
    else plkDown (sendCtl s n 0x06 [BitVec.ofNat 8 (b2n p.forced)]) n 0
/-- Checks every port that goes down, after an output or a captured frame has ended. -/
def drainAll (s : State) : State := (List.range 24).foldl drainCheck s
/-- A stream reaches a line boundary on a port that goes down with force: its pipe fills the rest of the frame (R244, R323). -/
def forcedLine (s : State) (n k : Nat) : State :=
  let p := plk s n
  if p.forced ∧ (p.draining.map (·.1)).contains k then
    capForceFill (setPlk s n { p with draining := p.draining.filter fun x => decide (x.1 ≠ k) }) k
  else s
/-- The longest frame period in ns among the streams of a port, 0 for none. -/
def longestFrame (s : State) (n : Nat) : Nat :=
  let p := plk s n
  let ps : List Nat := if p.role = 0 then (outsOnPort s n).map fun o => if frameRate (word s) o = 0 then 0 else (1000000000 / frameRate (word s) o).ceil.toNat
    else (streamsBusy s n).map fun k => (capAt s k).period
  ps.foldl max 0
/-- LINK_DOWN's effect (R244). -/
def linkDownNow (s : State) (n : Nat) (force : Bool) : State :=
  let p := plk s n
  if p.st = 0 then s
  else if p.st ≠ 8 then plkDown s n 0
  else
    let busy := if p.role = 1 then (streamsBusy s n).map fun k => (k, (capAt s k).curNum) else []
    if force then
      let s := setPlk s n { p with forced := true, draining := busy }
      let s := if p.role = 0 then (outsOnPort s n).foldl (fun s o => stopOutput s o true) s else s
      drainCheck s n
    else
      let l := longestFrame s n
      let s := plkTo (setPlk s n { p with draining := busy, drainBound := if l = 0 then 100000 else 2 * l }) n 12 0
      let s := if p.role = 0 then (outsOnPort s n).foldl (fun s o => stopOutput s o false) s else s
      drainCheck s n
/-- DRAIN reaches its bound: the port enters DOWN whatever is unfinished (R244). -/
def execPlkDrainTimeout (port : Fin 24) (s : State) : Host.Outcome State Fault Refusal :=
  let n := port.val
  if (plk s n).st = 12 ∧ stayed s n (plk s n).drainBound then .next (plkDown s n 0) else .next s

/-! ## Commands -/

/-- The enabled outputs and pipes that name a port, against a role (R284): outputs need the source end (0), pipes the
sink end (1). -/
def roleContradicted (s : State) (n role : Nat) : Bool :=
  (role = 1 && (List.range 20).any fun o => outEnabled s o && decide (bits (outWord s o 1) 1 0 = 0)
      && decide (bits (outWord s o 1) 12 8 = n))
  || (role = 0 && decide (pipesOfPort s 1 n ≠ []))

/-- LINK_UP (R115, R235, R284). -/
def opLinkUp (q : Req) (port role step code : Byte) : Op :=
  let n := port.toNat
  let a := mkAddr 0x08 n 0
  { opcode := 0x60
    sched := .yes
    check := fun s => firstRej [
      ownerRej s q.port 0 0x08 n 0,
      rejIf (decide (n > 23)) { status := .range, addr := a },
      rejIf (decide (role.toNat > 1)) { status := .badParam, addr := a },
      rejIf (decide (step.toNat > 4)) { status := .range, addr := a },
      rejIf (decide (cp2Port s = some n) && decide (role = 1#8)) { status := .badParam, addr := a },
      rejIf (decide (role = 0#8) && decide (decide ((syn s 10).spread.1 ≠ 0) ≠ bit (plkCfg s n) 5)) { status := .badParam, addr := a },
      rejIf (roleContradicted s n role.toNat) { status := .badParam, addr := a },
      rejIf (decide ((plk s n).st ≠ 0)) (rejSt .busy)]
    foot := fun _ => { touches := [ikey 0 0x08 n], reassigns := [ikey 0 0x08 n] }
    run := fun s => done (linkUpNow s n role.toNat step.toNat (code.getLsbD 0)) }

/-- LINK_DOWN (R115, R244). -/
def opLinkDown (q : Req) (port : Byte) (force : Bool) : Op :=
  let n := port.toNat
  { opcode := 0x61
    sched := .yes
    check := fun s => firstRej [
      ownerRej s q.port 0 0x08 n 0,
      rejIf (decide (n > 23)) { status := .range, addr := mkAddr 0x08 n 0 },
      rejIf (decide (cp2Port s = some n)) { status := .badParam, addr := mkAddr 0x08 n 0 }]
    foot := fun _ => { touches := [ikey 0 0x08 n], reassigns := [ikey 0 0x08 n] }
    run := fun s => done (linkDownNow s n force) }

/-! ## Power states (R248 to R252) -/

/-- A POWER message: direction, state, and 0 for a notice or 1 for a request (Table 10-7). -/
def sendPower (s : State) (n dir st kind : Nat) : State :=
  sendCtl s n 0x04 [BitVec.ofNat 8 dir, BitVec.ofNat 8 st, BitVec.ofNat 8 kind, 0#8]
/-- A direction changes its power state, with what goes with it: its eye scan ends as it leaves ACTIVE, a received direction loses its
alignment in SLEEP and OFF, and wakes until it is aligned and checked (R248, R252, R254). Log entry 41 (DEDUCED). -/
def setDir (s : State) (n dir st : Nat) : State :=
  let p := plk s n
  let old := powerOf p dir
  if old = st then s
  else
    let s := if st ≠ 0 then scanDirCheck s n dir else s
    let s := setPwr s n dir st
    let s := if dir = 0 ∧ p.role = 1 ∧ st ≠ 0 then portLost s 1 n 1 else s
    let p := plk s n
    if dir ≠ rxDir p then setPlk s n (setWake p dir none)
    else if st = 0 then
      let s := setPlk s n { setWake p dir (some (s.clk + wakeBound old)) with lastRx := s.clk }
      if old = 1 then startCheck s n else s
    else if 2 ≤ st then setPlk s n (setWake { p with lanes := { p.lanes with d0 := false, d1 := false, back := false }, rx0 := {}, rx1 := {}, rxb := {}, rxs := {} } dir none)
    else setPlk s n (setWake p dir none)
/-- The Ontor idles the direction it transmits, with a notice to the far end before (R250). -/
def idleTx (s : State) (n st : Nat) : State :=
  let d := txDir (plk s n)
  if powerOf (plk s n) d = st then s else setDir (sendPower s n d st 0) n d st
/-- A direction changes its power state. A sink-end Ontor's back direction goes to SLEEP with its forward direction, and wakes after it (R251). -/
def setPower (s : State) (n dir st : Nat) : State :=
  let s := setDir s n dir st
  let p := plk s n
  if dir = 0 ∧ p.role = 1 then
    if 2 ≤ st ∧ p.bck < 2 then idleTx s n 2
    else if st < 2 ∧ p.bck = 2 ∧ (p.cmdBck < 2 ∨ p.triggers ≠ [] ∨ p.unacked ≠ [] ∨ p.waiting ≠ []) then wakeTx s n
    else s
  else s
/-- The Ontor's end transmits the direction: forward as the source end, back as the sink end (R250). -/
def transmits (p : Plk) (dir : Nat) : Bool := decide (p.role = dir)
/-- A change of power state by command (R250, R251): made and noticed by the transmitting end; of a received direction asked for, by
message, or by a beacon on the opposite direction's clock lane where that direction sleeps and the request is a wake. Log entries 41 (DEDUCED), 44 (DEDUCED). -/
def changePower (s : State) (n dir st : Nat) : State :=
  let p := plk s n
  let s := setPlk s n (if dir = 0 then { p with cmdFwd := st } else { p with cmdBck := st })
  if powerOf p dir = st then s
  else if transmits p dir then
    if p.role = 1 ∧ 2 ≤ p.fwd ∧ st < 2 then s
    else if st = 0 then wakeTx s n else idleTx s n st
  else
    let s := setPlk s n { plk s n with request := some (dir, st, s.clk) }
    let opp := powerOf p (txDir p)
    if st = 0 ∧ opp = 2 then setPlk s n { plk s n with beacon := some (txDir p, s.clk) }
    else if opp = 3 then s
    else sendPower s n dir st 1
/-- LINK_POWER (R115, R248 to R250). Log entry 44 (DEDUCED). -/
def opLinkPower (q : Req) (port dir state : Byte) : Op :=
  let n := port.toNat
  let a := mkAddr 0x08 n 0
  { opcode := 0x62
    sched := .yes
    check := fun s => firstRej [
      ownerRej s q.port 0 0x08 n 0,
      rejIf (decide (n > 23)) { status := .range, addr := a },
      rejIf (decide (dir.toNat > 1) || decide (state.toNat > 3)) { status := .badParam, addr := a },
      rejIf (decide (cp2Port s = some n) && decide (state ≠ 0#8)) { status := .badParam, addr := a },
      rejIf (decide (dir = 0#8) && decide (state ≠ 0#8) && decide ((plk s n).st = 8)
        && (decide (outsOnPort s n ≠ []) || (List.range 80).any fun k => capFedBy s k n && capRunning (capAt s k))) { status := .badParam, addr := a },
      rejIf (decide ((plk s n).st ≠ 8)) (rejSt .busy)]
    foot := fun _ => { touches := [ikey 0 0x08 n] }
    run := fun s => done (changePower s n dir.toNat state.toNat) }

/-- LINK_STATUS: PLK words 0x00 to 0x03. -/
def opLinkStatus (port : Byte) : Op :=
  { opcode := 0x63
    hasData := true
    check := fun _ => rejIf (decide (port.toNat > 23)) { status := .range, addr := mkAddr 0x08 port.toNat 0 }
    run := fun s => answer s ((List.range 4).flatMap fun w => wordBytes (plkStatusWord s port.toNat w)) }

/-- EYE_SCAN (R116, R254). -/
def opEyeScan (q : Req) (port lane dwell : Byte) : Op :=
  let n := port.toNat
  { opcode := 0x64
    hasData := true
    check := fun s =>
      let p := plk s n
      let pw := if lane = 2#8 then p.bck else p.fwd
      firstRej [
        ownerRej s q.port 0 0x08 n 0,
        rejIf (decide (n > 23)) { status := .range, addr := mkAddr 0x08 n 0 },
        rejIf (decide (lane.toNat > 2)) { status := .badParam, addr := mkAddr 0x08 n 0 },
        rejIf (decide (dwell.toNat > 7)) { status := .range, addr := mkAddr 0x08 n 0 },
        rejIf (decide ((p.role = 1) ≠ (lane.toNat < 2))) { status := .badParam, addr := mkAddr 0x08 n 0 },
        rejIf (decide (p.st ≠ 8) || decide (pw ≠ 0)) (rejSt .busy),
        heldRej s fun r => match r.job with | .eyeScan k _ _ => decide (k = n) | _ => false]
    foot := fun _ => { touches := [ikey 0 0x08 n] }
    job := some (.eyeScan n lane.toNat dwell.toNat) }
/-- The scan finishes all its points: the counts, saturating at 255, in order of offset and phase (R253). -/
def execEyeScanComplete (port : Fin 24) (counts : List Byte) (s : State) : Host.Outcome State Fault Refusal :=
  match takeRun (fun r => match r.job with | .eyeScan k _ _ => decide (k = port.val) | _ => false) s.runs with
  | none => .next s
  | some (r, rest) => .next (finishRun { s with runs := rest } r .ok (sized counts 4096))

/-! ## Test loops (R255 to R257) -/

/-- Ends the test loop of a port (R257). -/
def endLoop (s : State) (n cause : Nat) : State :=
  let p := plk s n
  if p.st = 13 then plkDown s n cause
  else if p.loop = 3 then endPair (setPlk s n { p with loop := 0 }) n cause
  else s
/-- The end of M6 ends every loop (R257, Table 9-4). -/
def endLoops (s : State) : State := (List.range 24).foldl (fun s n => endLoop s n 11) s
/-- Starts a test loop (R256, R257). The stored role stays (R229); loop 2 needs no training. In the far-end loop the paired port drives its
forward lanes at the link's step, with its back lanes OFF (Table 9-6). -/
def startLoop (s : State) (n loop pair : Nat) : State :=
  if loop = 3 then
    let s := setPlk (setWord s 0 0x08 n 4 (merge (plkCfg s n) (maskOf 12 8) (field 8 5 pair))) n { plk s n with loop := 3 }
    let p := plk s n
    let o := plk s pair
    let s := plkTo (setPlk s pair { ({} : Plk) with role := o.role, pairOf := some n, step := p.step, rs := p.rs, tx := o.tx }) pair 13 0
    setPwr s pair 0 0
  else
    let o := plk s n
    let st := bits (plkCfg s n) 2 0
    let p : Plk := { role := o.role, loop := loop, step := st, rs := codeAt st (bit (plkCfg s n) 4), lanes := { trained := decide (loop = 2) }, tx := o.tx }
    let s := plkTo (setPlk s n p) n 13 0
    setPwr (setPwr s n 0 0) n 1 0
/-- LINK_LOOP (R116, R255, R257). -/
def opLinkLoop (q : Req) (port loop pair : Byte) : Op :=
  let n := port.toNat
  let a := mkAddr 0x08 n 0
  { opcode := 0x65
    check := fun s =>
      let p := plk s n
      firstRej [
        rejIf (decide (s.modes.cur ≠ 6)) (rejSt .modeForbids),
        ownerRej s q.port 0 0x08 n 0,
        rejIf (decide (n > 23)) { status := .range, addr := a },
        rejIf (decide (loop.toNat > 3)) { status := .badParam, addr := a },
        rejIf (decide (loop.toNat ≤ 2) && decide (pair ≠ 0#8)) { status := .badParam, addr := a },
        rejIf (decide (loop = 3#8) && (decide (p.role = 0) || decide (pair = port))) { status := .badParam, addr := a },
        rejIf (decide (loop = 3#8) && decide (pair.toNat > 23)) { status := .range, addr := a },
        rejIf ((decide (loop = 1#8) || decide (loop = 2#8)) && decide (p.st ≠ 0)) (rejSt .busy),
        rejIf (decide (loop = 3#8) && (decide (p.st ≠ 8) || decide ((plk s pair.toNat).st ≠ 0))) (rejSt .busy)]
    foot := fun _ => { touches := [ikey 0 0x08 n] }
    run := fun s => done (if loop = 0#8 then endLoop s n 0 else startLoop s n loop.toNat pair.toNat) }
/-- The next bits of the PRBS31 generator, x^31 + x^28 + 1 (R256). Log entry 125 (PRESUMED). -/
def prbsBits : Nat → BitVec 31 → BitVec 31 × List Bool
  | 0, r => (r, [])
  | n + 1, r =>
    let b := Bool.xor (r.getLsbD 30) (r.getLsbD 27)
    let x := prbsBits n ((r <<< 1) ||| (if b then 1#31 else 0#31))
    (x.1, b :: x.2)
/-- Received bits follow the PRBS31 sequence: each is the sum of the ones 28 and 31 before it (R256). Log entry 125 (PRESUMED). -/
def prbsHolds (b : List Bool) : Bool :=
  (List.zip (b.drop 31) (List.zip (b.drop 3) b)).all fun x => decide (x.1 = Bool.xor x.2.1 x.2.2)

/-! ## Traffic of the link itself -/

/-- A HEARTBEAT goes out; in a near-end loop its payload goes on with the PRBS31 sequence (Table 10-4, R256). -/
def sendHeartbeat (s : State) (n : Nat) : State :=
  let p := plk s n
  let x := prbsBits (8 * 253) p.prbs
  let rest := if nearLoop p then bytesOf 253 x.2 else List.replicate 5 0#8
  let s := setPlk s n { p with hbCount := p.hbCount + 1, ackDue := false, prbs := if nearLoop p then x.1 else p.prbs }
  sendPacket s n 3 (plkPacket 0x17 0 0 (leBytes 2 p.hbCount.toNat ++ [p.rxSeq] ++ rest))
/-- Every 100 µs a HEARTBEAT goes out on each ACTIVE direction the Ontor transmits, of a port in RUNNING; a port in a near-end loop sends
them too (R256, R274). -/
def execHeartbeatSend (port : Fin 24) (s : State) : Host.Outcome State Fault Refusal :=
  let n := port.val
  let p := plk s n
  if (p.st = 8 ∧ powerOf p (txDir p) = 0) ∨ nearLoop p then .next (sendHeartbeat s n) else .next s
/-- A HEARTBEAT is received: its acknowledgement acts; a failed one is counted, in a near-end loop also one that the PRBS31 sequence does not
run through (R256, R272, R277). -/
def execHeartbeat (port : Fin 24) (packet : List Byte) (s : State) : Host.Outcome State Fault Refusal :=
  let n := port.val
  let p := plk s n
  if !takesCtl p ∧ !(nearLoop p && hears p) then .next s
  else
    match openPacket packet 0x17 (if nearLoop p then 256 else 8) false with
    | none => .next (plkCount s n 1 0 0 0 0)
    | some (_, b) =>
      if nearLoop p then .next (if prbsHolds (bitsOf (b.drop 3)) then s else plkCount s n 1 0 0 0 0)
      else .next (takeAck (validPacket s n) n (b.getD 2 0#8))

/-- A MARKER comes in position on a receiving lane that uses the code: the lane's code-frame lock follows the frame counts; on a lane that
is locked to code frames the decoder's corrections are counted (R268, R269). -/
def execMarker (port : Fin 24) (lane : Fin 2) (count : Word) (corrected uncorrectable : Nat) (s : State) :
    Host.Outcome State Fault Refusal :=
  let n := port.val
  let p := plk s n
  if !codeReceived p ∨ !laneLocked p lane.val then .next s
  else
    let r := takeMarker (if lane.val = 0 then p.rx0 else p.rx1) count s.clk
    let corr := if r.framed then corrected else 0
    let p := if lane.val = 0 then { p with rx0 := r, counts := { p.counts with corr0 := p.counts.corr0 + corr } }
      else { p with rx1 := r, counts := { p.counts with corr1 := p.counts.corr1 + corr } }
    .next (plkCount (setPlk s n p) n 0 0 corr (if r.framed then uncorrectable else 0) 0)

/-- An acknowledgement (R277). -/
def execAck (port : Fin 24) (upTo : Byte) (s : State) : Host.Outcome State Fault Refusal :=
  if takesCtl (plk s port.val) then .next (takeAck (validPacket s port.val) port.val upTo) else .next s
/-- 20 µs after a delivery whose acknowledgement no packet has carried, an ACK goes out (R277). -/
def execAckTimer (port : Fin 24) (s : State) : Host.Outcome State Fault Refusal :=
  let p := plk s port.val
  if p.ackDue ∧ takesCtl p ∧ passed s p.ackAt 20000 then .next (sendAck s port.val) else .next s

/-- The data of a TRIGGER with a departure offset, which saturates (Table 10-7, R171). -/
def triggerData (t : Trig) (offset : Nat) : List Byte :=
  [BitVec.ofNat 8 t.cam] ++ leBytes 2 (sat 16 offset) ++ [0#8] ++ wordBytes t.word ++ leBytes 8 t.launch.toNat ++ List.replicate 8 0#8
/-- A message is sent again. A TRIGGER carries a departure offset of its own, to the next back-lane block; where in the block the lane
stands is not stated: a free value (R171, R278). -/
def resendCtl (s : State) (n : Nat) (m : CtlOut) : State :=
  let p := plk s n
  match m.trig with
  | none =>
    let m := { m with sends := m.sends + 1, sentAt := s.clk }
    transmitCtl (setPlk s n { p with unacked := p.unacked ++ [m] }) n 0 m
  | some t =>
    let (f, s) := drawWord s
    let m := { m with sends := m.sends + 1, sentAt := s.clk, data := triggerData t (s.clk - t.tick + f.toNat % (backBlock p.step / 100 + 1)) }
    transmitCtl (setPlk s n { p with unacked := p.unacked ++ [m] }) n 0 m
/-- 200 µs after its sending the oldest unacknowledged message and every later one are sent again; the eighth sending of one counts as the
heartbeat time-out (R278). A direction that sleeps sends nothing. -/
def execRetransmitTimeout (port : Fin 24) (s : State) : Host.Outcome State Fault Refusal :=
  let n := port.val
  let p := plk s n
  match p.unacked with
  | [] => .next s
  | m :: _ =>
    if !passed s m.sentAt 200000 ∨ powerOf p (txDir p) ≠ 0 then .next s
    else if m.sends ≥ 8 then .next (heartbeatLost s n)
    else .next (plkCount (p.unacked.foldl (fun s x => resendCtl s n x) (setPlk s n { p with unacked := [] })) n 0 0 0 0 p.unacked.length)

/-- A received URGENT block: the Ontor's ports only acknowledge it and discard its message (R279). -/
def execUrgent (port : Fin 24) (m : Ctl) (s : State) : Host.Outcome State Fault Refusal :=
  .next (receiveCtl s port.val m).2

/-- A POWER message: the far end's notice changes the direction it transmits; its request asks the Ontor to change one
the Ontor transmits (R250). -/
def execPower (port : Fin 24) (m : Ctl) (s : State) : Host.Outcome State Fault Refusal :=
  let n := port.val
  let (d, s) := receiveCtl s n m
  let dir := byteAt m.data 0 % 2
  let st := byteAt m.data 1 % 4
  let p := plk s n
  if !d ∨ p.st ≠ 8 then .next s
  else if byteAt m.data 2 = 0 then
    if transmits p dir then .next s
    else
      let s := setPlk s n { p with request := if p.request.map Prod.fst = some dir then none else p.request }
      .next (setPower s n dir st)
  else if transmits p dir then .next (changePower s n dir st) else .next s

/-- A TRAINING message (Table 10-7): the source end follows preset and cursor requests for its forward lanes while it trains, and its
step with the sink end's; either end takes reports of training and verification (R236, R239, R240). -/
def execTraining (port : Fin 24) (m : Ctl) (s : State) : Host.Outcome State Fault Refusal :=
  let n := port.val
  let (d, s) := receiveCtl s n m
  let p := plk s n
  let follows := decide (p.role = 0) && decide (p.st = 5)
  if !d then .next s
  else
    match byteAt m.data 0 with
    | 1 => .next (if follows then setPlk s n { p with eq := { p.eq with preset := byteAt m.data 2 % 16 } } else s)
    | 2 => .next (if follows then setPlk s n { p with eq := { p.eq with pre := m.data.getD 3 0#8, post := m.data.getD 4 0#8 } } else s)
    | 3 => .next (trainDone (setPlk s n { p with lanes := { p.lanes with far := p.lanes.far || decide (p.st = 5) } }) n)
    | 4 => .next (if p.st = 5 then plkFallback s n 12 else s)
    | 5 => .next (checkDone (setPlk s n { p with farOk := true }) n)
    | 6 => .next (if p.st = 6 then plkFallback s n 3 else setPlk s n { p with farOk := false })
    | _ => .next s

/-- END_OF_LINK: the far end has drained or forced its link down. The Ontor's own port follows by its own rules, as
the lanes stop. -/
def execEndOfLink (port : Fin 24) (m : Ctl) (s : State) : Host.Outcome State Fault Refusal :=
  .next (receiveCtl s port.val m).2
/-- FAILURE: what the far end found counts as found here: a capability conflict in CAPABILITY, and the loss of lock on one of its lanes in
RUNNING (R236, R282, Table 9-4). -/
def execFailure (port : Fin 24) (m : Ctl) (s : State) : Host.Outcome State Fault Refusal :=
  let n := port.val
  let (d, s) := receiveCtl s n m
  let cause := byteAt m.data 0
  if d ∧ (plk s n).st = 3 ∧ cause = 6 then .next (plkTo s n 11 6)
  else if d ∧ (plk s n).st = 8 ∧ cause = 4 then .next (startCheck (plkTo s n 9 4) n)
  else .next s

/-- A beacon on the clock lane of a direction the Ontor receives wakes that direction from STANDBY or SLEEP, and asks for the one the Ontor
transmits where that sleeps (R251). -/
def execBeacon (port : Fin 24) (dir : Fin 2) (s : State) : Host.Outcome State Fault Refusal :=
  let n := port.val
  let p := plk s n
  let pw := powerOf p dir.val
  if p.st ≠ 8 ∨ transmits p dir.val ∨ (pw ≠ 1 ∧ pw ≠ 2) then .next s
  else
    let s := setPower (setPlk s n { p with request := if p.request.map Prod.fst = some dir.val then none else p.request }) n dir.val 0
    let p := plk s n
    .next (if powerOf p (txDir p) = 2 then wakeTx s n else s)
/-- A power request unanswered for 1 ms: cause 12, the state unchanged (R250). -/
def execPowerRequestTimeout (port : Fin 24) (s : State) : Host.Outcome State Fault Refusal :=
  let n := port.val
  let p := plk s n
  match p.request with
  | none => .next s
  | some (_, _, t) => .next (if passed s t 1000000 then plkEvent (setPlk s n { p with request := none }) n 12 0 false else s)
/-- A wake that is not aligned and checked 1 ms after its bound puts the port into RECOVER (R252). -/
def execWakeTimeoutPlk (port : Fin 24) (s : State) : Host.Outcome State Fault Refusal :=
  let n := port.val
  let p := plk s n
  match wakeOf p (rxDir p) with
  | none => .next s
  | some b => .next (if p.st = 8 ∧ passed s b 1000000 then plkTo s n 9 4 else s)
/-- Nothing waits for the direction the port transmits. -/
def txIdle (p : Plk) : Bool := decide (p.triggers = []) && decide (p.unacked = []) && decide (p.waiting = [])
/-- A direction that the Ontor woke for traffic returns to its commanded state after 1 ms with nothing queued, with a notice (R250, R252). -/
def execTrafficIdleReturn (port : Fin 24) (dir : Fin 2) (s : State) : Host.Outcome State Fault Refusal :=
  let n := port.val
  let p := plk s n
  if p.st ≠ 8 ∨ !transmits p dir.val ∨ !txIdle p ∨ !passed s p.idleAt 1000000 then .next s
  else
    let c := if dir.val = 0 then p.cmdFwd else p.cmdBck
    .next (if c = 0 then s else idleTx s n c)

/-- A 1 s error window ends (R288, R289). -/
def execPlkErrorWindowEnd (port : Fin 24) (invalid : Nat) (s : State) : Host.Outcome State Fault Refusal :=
  let n := port.val
  if (plk s n).st ≠ 8 ∨ !passed s (plk s n).winAt 1000000000 then .next s
  else
    let s := if invalid = 0 then s else plkCount s n 0 invalid 0 0 0
    let p := plk s n
    let thr := (word s 0 0x08 n 5).toNat
    let c := p.counts
    let high := decide (thr ≠ 0) && decide (thr ≤ c.win)
    let s' := setPlk s n { p with winAt := p.winAt + 1000000000, counts := { c with win := 0, rose := 0#4, overThr := high } }
    let d (b2 : Nat) : Word := field 0 16 (sat 16 c.win) ||| field 16 8 b2 ||| field 24 8 c.rose.toNat
    if high then .next (raise s' (33 + 2 * n) (d 0))
    else if c.overThr ∧ thr ≠ 0 then .next (raise s' (33 + 2 * n) (d 1))
    else .next s'

/-! ## Triggers (R113, R170 to R172) and CP2 (R280) -/

/-- The latest departure offset of a trigger that joins `ahead` others: 64 ns after the end of the wake, if any, and one block more for each
that leaves before it; none where the full window or a sleeping forward direction holds it up (R171, R172). -/
def latestOffset (s : State) (p : Plk) (ahead : Nat) : Option Nat :=
  let wake := match p.wakeBck with
    | some b => b - s.clk
    | none => wakeBound p.bck
  if !windowOpen p ∨ 2 ≤ p.fwd then none else some ((6400 + (ahead + 1) * backBlock p.step) / 100 + wake)
/-- A trigger at its launch tick: discarded with event 200 where the port is not linked or its back direction is OFF, else
queued at the head of the back direction, which wakes (R170, R172). -/
def triggerNow (s : State) (n cam : Nat) (w : Word) (launch : W64) : State :=
  let p := plk s n
  if p.st ≠ 8 then raise s 200 (det n cam 0 0)
  else if p.bck = 3 then raise s 200 (det n cam 1 0)
  else wakeForTraffic (setPlk s n { p with triggers := p.triggers ++ [⟨cam, w, launch, s.clk, latestOffset s p p.triggers.length⟩], idleAt := s.clk }) n
/-- TRIGGER (R113). An immediate one carries the count at its tick as its launch value. Log entry 126 (DESIGN CHOICE). -/
def opTrigger (q : Req) (port camera : Byte) (w : Word) : Op :=
  let n := port.toNat
  { opcode := 0x44
    sched := .yes
    check := fun s => firstRej [
      rejIf (decide (n > 23) || decide (camera.toNat > 15)) { status := .range, addr := mkAddr 0x08 n 0 },
      rejIf (decide ((plk s n).st = 0) || decide ((plk s n).role = 0)) { status := .badParam, addr := mkAddr 0x08 n 0 }]
    foot := fun _ => { touches := [ikey 0 0x08 n] }
    run := fun s => done (triggerNow s n camera.toNat w (if q.sched then q.launch else s.tb.ns)) }
/-- The trigger at the head of the queue leaves, ahead of every message that waits, in the first block that starts at least 64 ns after the
launch tick, as an URGENT block with its departure offset (R170, R171, R279). An offset outside the rule's bounds, a full window or a
direction that is not ACTIVE lets nothing leave. -/
def execTriggerDeparture (port : Fin 24) (offset : Nat) (s : State) : Host.Outcome State Fault Refusal :=
  let n := port.val
  let p := plk s n
  match p.triggers with
  | [] => .next s
  | t :: r =>
    if p.st ≠ 8 ∨ p.bck ≠ 0 ∨ !windowOpen p ∨ offset < 64 ∨ offset > t.latest.getD offset then .next s
    else .next (launchCtl (setPlk s n { p with triggers := r }) n { sub := 0x03#8, data := triggerData t offset, trig := some t })

/-- A CP2_COMMAND message: on the CP2 port its bytes join the packet being put together, which arrives with its last
fragment; a first fragment ends a packet only partly received, which then falls under R67 (R280). -/
def cp2Bytes (s : State) (m : Ctl) : State :=
  let c := s.ports.cp2
  let s := if m.first ∧ c.rx ≠ [] then arrive (setPort s .cp2 { c with rx := [] }) .cp2 c.rx else s
  let c := s.ports.cp2
  let b := (if m.first then [] else c.rx) ++ m.data
  let s := { s with ports := { s.ports with cp2RxAt := if m.first then s.clk else s.ports.cp2RxAt } }
  if m.last then arrive (setPort s .cp2 { c with rx := [] }) .cp2 b else setPort s .cp2 { c with rx := b }

/-- Every message of the oldest CP2 Placard is acknowledged: it counts as delivered, and its credit returns (R66, R280). -/
def execCp2Placard (port : Fin 24) (s : State) : Host.Outcome State Fault Refusal :=
  if cp2Port s = some port.val then
    match (plk s port.val).unacked.find? endsPlacard with
    | some m => .next (takeAck s port.val m.seq)
    | none => .next s
  else .next s

end Sys2Proof.Machine
end

