-- ==== Sys2Proof/Machine/Audio.lean ====
section
/-! DEFINITION. Embedded audio (chapter 19): lanes, the crossbar, TDM ports, received streams, converters and the windows
that Prenlink ports send. -/

namespace Sys2Proof.Machine
open Sys2Proof

/-! ## Lanes and clocks -/

/-- One destination lane. -/
def dest (s : State) (d : Nat) : XDest := tget {} s.audio.dests d
/-- Sets it. -/
def setDest (s : State) (d : Nat) (x : XDest) : State := { s with audio := { s.audio with dests := tput {} s.audio.dests d x } }
/-- One converter. -/
def conv (s : State) (k : Nat) : Conv := tget {} s.audio.convs k
/-- Sets it. -/
def setConv (s : State) (k : Nat) (x : Conv) : State := { s with audio := { s.audio with convs := tput {} s.audio.convs k x } }
/-- One TDM port. -/
def tdm (s : State) (p : Nat) : Tdm := tget {} s.audio.tdms p
/-- Sets it. -/
def setTdm (s : State) (p : Nat) (x : Tdm) : State := { s with audio := { s.audio with tdms := tput {} s.audio.tdms p x } }
/-- One received stream: 0 to 23 a Prenlink port, 32 + 4q + v sub-stream v of DisplayPort port q. -/
def stream (s : State) (k : Nat) : Stream := tget {} s.audio.streams k
/-- Sets it. -/
def setStream (s : State) (k : Nat) (x : Stream) : State :=
  { s with audio := { s.audio with streams := tput {} s.audio.streams k x } }
/-- An audio synthesizer runs: enabled, locked and not gated. -/
def audioRuns (s : State) (n : Nat) : Bool := synOn s n && (syn s n).locked && !(syn s n).gated
/-- AUD[72] word d. -/
def xbarWord (s : State) (d : Nat) : Word :=
  let x := dest s d
  BitVec.ofNat 32 (x.src.toNat + 65536 * x.gain.toNat)

/-! ## Boundaries (R472) -/

/-- The boundaries of SYN8 or SYN9. -/
def audioClock (s : State) (n : Nat) : AudioClock := if n = 9 then s.audio.clock9 else s.audio.clock8
/-- Sets them. -/
def setAudioClock (s : State) (n : Nat) (c : AudioClock) : State :=
  if n = 9 then { s with audio := { s.audio with clock9 := c } } else { s with audio := { s.audio with clock8 := c } }
/-- The period of a rate's boundaries in ns: N_r edges of the synthesizer, N_r being 2,048, 1,024 and 512 (R472). -/
def boundaryNs (s : State) (n rate : Nat) : Rat :=
  let w := (synFreq s n).toNat
  if w = 0 then 0 else ((2048 / 2 ^ rate * 16777216 * 10 : Nat) : Rat) / w
/-- A tick of one audio clock: its boundaries are counted from its ungating, and every 96 and 192 kHz sequence contains the slower ones. Log entry 135
(DEDUCED). -/
def audioTick (s : State) (n : Nat) : State :=
  let c := audioClock s n
  let t := boundaryNs s n 2
  if !audioRuns s n then (if c.on then setAudioClock s n {} else s)
  else if !c.on then setAudioClock s n { on := true, at_ := s.clk, last := [(0, s.clk), (1, s.clk), (2, s.clk)] }
  else if t = 0 ∨ (s.clk : Rat) < c.at_ + t then s
  else
    let m := c.n + 1
    let now := c.at_ + t
    let rates := [2] ++ (if m % 2 = 0 then [1] else []) ++ (if m % 4 = 0 then [0] else [])
    setAudioClock s n { c with at_ := now, n := m, last := rates.foldl (fun l r => tput 0 l r now) c.last }
/-- A boundary of a rate has come at or after a value of the model's clock. -/
def boundarySince (s : State) (n rate t : Nat) : Bool :=
  let c := audioClock s n
  c.on && audioRuns s n && decide ((t : Rat) ≤ tget 0 c.last rate)
/-- A boundary of a rate has come that has not been told. -/
def boundaryUntold (s : State) (n rate : Nat) : Bool :=
  let c := audioClock s n
  c.on && audioRuns s n && decide (tget none c.done rate ≠ some (tget 0 c.last rate))

/-! ## TDM ports (R474 to R476) -/

/-- The AUD_TDM_CFG word of a port, and the synthesizer it names. -/
def tdmCfg (s : State) (p : Nat) : Word := word s 0 0x1A p 0
def tdmSyn (w : Word) : Nat := if bit w 12 then 9 else 8
/-- The slots of a port. -/
def tdmSlots (w : Word) : Nat := bits w 7 4 + 1
/-- Event 216 (Table 19-6). -/
def tdmEvent (s : State) (p cause : Nat) : State := raise s 216 (det p cause (tdmSyn (tdmCfg s p)) 0)
/-- The lanes as queued crossbar changes will leave them. -/
def queuedSrc (s : State) (more : List XbarEntry) (d : Nat) : Nat :=
  (s.audio.changes.flatMap (·.entries) ++ more).foldl (fun v e => if e.dst.toNat = d then e.src.toNat else v) (dest s d).src.toNat
/-- The lane rules hold with these TDM words for port `p` and these further crossbar entries (R467, R468). -/
def lanesStayAgreed (s : State) (p : Nat) (cfg base : Word) (more : List XbarEntry) : Bool :=
  let v := laneView s
  lanesAgree { v with
    cfg := fun i => if i = p then cfg else v.cfg i
    base := fun i => if i = p then bits base 7 0 else v.base i
    src := queuedSrc s more }
/-- The checks of Table 19-2 on a write that leaves AUD_TDM word `w` of port `p` at `v`. -/
def tdmRej (s : State) (p w : Nat) (old v : Word) : Option Rej :=
  let a := mkAddr 0x1A p w
  let rng : Rej := { status := .range, addr := a }
  let bad : Rej := { status := .badParam, addr := a }
  let was := tdmCfg s p
  let cfg := if w = 0 then v else was
  let base := if w = 1 then v else word s 0 0x1A p 1
  let n := tdmSlots cfg
  let b := bits base 7 0
  let on := bit cfg 0
  let input (i : Nat) : Bool := let c := tdmCfg s i; decide (i ≠ p) && bit c 0 && !bit c 1
  let overlap := on && !bit cfg 1 && (List.range 8).any fun i =>
    input i && !apart b n (bits (word s 0 0x1A i 1) 7 0) (tdmSlots (tdmCfg s i))
  firstRej [
    rejIf (!([2, 4, 8, 16].contains n)) bad,
    rejIf (!bit cfg 2 && decide (n ≠ 2)) bad,
    rejIf (decide (bits cfg 9 8 = 3)) rng,
    rejIf (decide (48 * 2 ^ bits cfg 9 8 * n > 1536)) rng,
    rejIf (decide (b + n > if bit cfg 1 then 256 else 128)) rng,
    rejIf overlap bad,
    rejIf (on && (!synOn s (tdmSyn cfg) || !audioBand (synFreq s (tdmSyn cfg)).toNat)) rng,
    rejIf (!lanesStayAgreed s p cfg base []) bad,
    rejIf (bit was 0 && (decide (w = 1) || decide (((old ^^^ v) &&& 0xFFFFFFFE#32) ≠ 0#32))) { status := .busy }]
/-- AUD_TDM_CFG is written: an enable starts at a 48 kHz boundary, a disable stops at a boundary of the port's rate (R476). -/
def tdmWritten (s : State) (p : Nat) (old new : Word) : State :=
  let t := tdm s p
  if bit new 0 && !bit old 0 then setTdm s p { t with starting := true, stopping := false, asked := s.clk }
  else if !bit new 0 && bit old 0 then
    setTdm s p (if t.running then { t with starting := false, stopping := true, asked := s.clk } else { t with starting := false })
  else s
/-- The first 48 kHz boundary of a port's clock at or after its enable, or after the ungating of a halted one, has come (R473, R476). -/
def tdmStarts (s : State) (p : Nat) : Bool :=
  let t := tdm s p
  let n := tdmSyn (tdmCfg s p)
  (t.starting && boundarySince s n 0 t.asked) || (t.halted && boundarySince s n 0 0)
/-- The next boundary of a disabled port's rate has come (R476). -/
def tdmStops (s : State) (p : Nat) : Bool :=
  let t := tdm s p
  let w := tdmCfg s p
  t.stopping && t.running && boundarySince s (tdmSyn w) (bits w 9 8) t.asked
/-- The first 48 kHz boundary of a port's clock: an enabled port starts, a halted one restarts (R473, R476). -/
def execTdmPortStart (p : Fin 8) (s : State) : Host.Outcome State Fault Refusal :=
  let t := tdm s p.val
  if !tdmStarts s p.val then .next s
  else if t.starting then .next (tdmEvent (setTdm s p.val { t with running := true, starting := false, halted := false, stopping := false }) p.val 0)
  else if t.halted then .next (tdmEvent (setTdm s p.val { t with halted := false }) p.val 3)
  else .next s
/-- The next boundary of a disabled port's rate: its clocks stop (R476). -/
def execTdmPortStop (p : Fin 8) (s : State) : Host.Outcome State Fault Refusal :=
  if tdmStops s p.val then .next (tdmEvent (setTdm s p.val {}) p.val 1) else .next s
/-- Ports on a gated synthesizer stop at the gate, and their input lanes read zero (R473). -/
def settleTdms (s : State) : State :=
  (List.range 8).foldl (fun s p =>
    let t := tdm s p
    let w := tdmCfg s p
    if t.running && !t.halted && !audioRuns s (tdmSyn w) then
      let s := setTdm s p { t with halted := true, sent := [] }
      let quiet := (List.range (tdmSlots w)).foldl (fun i n => tput 0#32 i (bits (word s 0 0x1A p 1) 7 0 + n) 0#32) s.audio.inputs
      let s := if bit w 1 then s else { s with audio := { s.audio with inputs := quiet } }
      tdmEvent s p 2
    else s) s

/-- TDMp_MCLK, TDMp_BCLK and TDMp_FS in Hz (R475). -/
def tdmClocks (s : State) (p : Nat) : Rat × Rat × Rat :=
  let w := tdmCfg s p
  let t := tdm s p
  let f : Rat := if t.running && !t.halted then 100000000 * (synFreq s (tdmSyn w)).toNat / 16777216 else 0
  let n := 2048 / 2 ^ bits w 9 8
  (f / 4, f / (n / (32 * tdmSlots w) : Nat), f / n)
/-- TDMp_FS and TDMp_SD of an output port over the BCLK periods of one frame, from its FS edge on: 32 bits a slot, most significant first. In I²S, FS is low
for slot 0 and high for slot 1 and each slot's first bit follows its FS edge by one period; in TDM, FS is high for the period that ends where the first bit
of slot 0 begins. `before` is the last bit of the frame before (R475). -/
def tdmWave (w : Word) (frame : List Word) (before : Bool) : List (Bool × Bool) :=
  let n := 32 * tdmSlots w
  let data (i : Nat) : Bool := (frame.getD (i / 32) 0#32).getMsbD (i % 32)
  (List.range n).map fun i => (if bit w 2 then decide (i = 0) else decide (32 ≤ i), if i = 0 then before else data (i - 1))

/-! ## The crossbar (R468 to R471) -/

/-- −96 dB, at and below which a destination is muted, in 1/65,536 dB (R470). -/
def muteGain : Int := -6291456
/-- A gain word in 1/65,536 dB, not below −96 dB. -/
def gainOf (g : Half) : Int := max muteGain (g.toInt * 256)
/-- The source and gain in effect on a destination at its next sample (R471). -/
def inEffect (x : XDest) : Half × Int :=
  let goal := gainOf x.gain
  let h := x.len / 2
  if x.len = 0 then (x.src, goal)
  else if x.oldSrc = x.src then (x.src, x.fromGain + (goal - x.fromGain) * x.done / (x.len : Int))
  else if x.done < h then (x.oldSrc, x.fromGain + (muteGain - x.fromGain) * x.done / (h : Int))
  else (x.src, muteGain + (goal - muteGain) * (x.done - h : Nat) / (h : Int))
/-- Saturates to 32 bits (R466, R470). -/
def sat32 (v : Int) : Word × Bool :=
  if v > 2147483647 then (0x7FFFFFFF#32, true) else if v < -2147483648 then (0x80000000#32, true) else (BitVec.ofInt 32 v, false)
/-- A sample under a gain (R470). Log entry 81 (DEDUCED). -/
def scaled (x : Word) (g : Int) : Word × Bool :=
  if g ≤ muteGain then (0#32, false) else if g = 0 then (x, false) else sat32 (Config.gainProduct g x.toInt)
/-- One entry takes effect on its destination, at once or as a ramp at the lane's rate code. -/
def takeEntry (s : State) (ramp : Bool) (rate : Nat) (e : XbarEntry) : State :=
  let d := e.dst.toNat
  let x := dest s d
  if ramp then
    let c := inEffect x
    setDest s d { x with src := e.src, gain := e.gain, oldSrc := c.1, fromGain := max muteGain c.2, done := 0, len := 1024 * 2 ^ rate }
  else setDest s d { x with src := e.src, gain := e.gain, done := 0, len := 0, oldSrc := 0xFFFF#16, fromGain := 0 }
/-- The rate code of a destination; 0 where nothing fixes it. -/
def destRate (v : LaneView) (d : Nat) : Nat := match laneClock v (dstNode d) with
  | some (_, some r) => r
  | _ => 0
/-- A destination has clock SYN9. -/
def onSyn9 (v : LaneView) (d : Nat) : Bool := match laneClock v (dstNode d) with
  | some (9, _) => true
  | _ => false
/-- Entries take effect, with the rates that the lanes have now. -/
def takeEntries (s : State) (ramp : Bool) (es : List XbarEntry) : State :=
  let v := laneView s
  es.foldl (fun s e => takeEntry s ramp (destRate v e.dst.toNat) e) s
/-- Event 220 (Table 19-6). -/
def xbarEvent (s : State) (c : XChange) : State :=
  raise s 220 (det (c.entries.length - 1) (b2n c.ramp) (portCode c.q.port) c.q.tag.toNat)
/-- A queued change reaches its boundary: entries on SYN9 wait for their own lane's (R469). -/
def reachBoundary (s : State) (c : XChange) : State × Option XChange :=
  if c.first || !boundarySince s 8 0 c.tick then (s, some c)
  else
    let s := xbarEvent s c
    let v := laneView s
    let late := c.entries.filter fun e => onSyn9 v e.dst.toNat
    let s := takeEntries s c.ramp (c.entries.filter fun e => !onSyn9 v e.dst.toNat)
    (s, if late = [] then none else some { c with entries := late, first := true })
/-- Every queued change reaches its boundary, in order. -/
def reachAll (s : State) : List XChange → State
  | [] => s
  | c :: r =>
    let (s, left) := reachBoundary s c
    reachAll { s with audio := { s.audio with changes := s.audio.changes ++ left.toList } } r
/-- A 48 kHz boundary of SYN8 (R469). -/
def execXbarChangeBoundary (s : State) : Host.Outcome State Fault Refusal :=
  .next (reachAll { s with audio := { s.audio with changes := [] } } s.audio.changes)
/-- A change of another port that waits for the same boundary, names a destination of this one differently and outranks
it (R469). -/
def xbarContest (s : State) (q : Req) (es : List XbarEntry) : Bool :=
  s.audio.changes.any fun c => decide (c.q.port ≠ q.port) && decide (rankOf c.q.port < rankOf q.port) && !c.first
    && c.entries.any fun e => es.any fun f => decide (e.dst = f.dst) && decide (e ≠ f)
/-- AUD_XBAR (R117, R468, R469). -/
def opAudXbar (q : Req) (ramp : Bool) (es : List XbarEntry) : Op :=
  let ds := es.map (·.dst)
  let at_ (f : XbarEntry → Bool) (st : Status) : Option Rej :=
    (es.find? f).map fun e => { status := st, addr := mkAddr 0x1A 72 (e.dst.toNat % 256) }
  { opcode := 0x70
    sched := .yes
    check := fun s => firstRej [
      ownerRej s q.port 0 0x1A 72 0,
      rejIf (decide (es.length = 0) || decide (es.length > 256)) (rejSt .range),
      at_ (fun e => decide (2 ≤ ds.count e.dst)) .badParam,
      at_ (fun e => decide (e.dst.toNat > 255) || (decide (e.src.toNat > 255) && decide (e.src ≠ 0xFFFF#16))) .range,
      at_ (fun e => decide (e.gain.toInt > 6144)) .range,
      rejIf (!lanesStayAgreed s 8 0#32 0#32 es) { status := .badParam, addr := mkAddr 0x1A 72 ((es.headD ⟨0, 0, 0⟩).dst.toNat % 256) },
      rejIf (xbarContest s q es) (rejSt .conflict)]
    foot := fun _ => { writes := es.map fun e =>
      (wkey 0 (mkAddr 0x1A 72 (e.dst.toNat % 256)), allOnes, BitVec.ofNat 32 (e.src.toNat + 65536 * e.gain.toNat))
                       touches := [ikey 0 0x1A 72] }
    run := fun s =>
      let c : XChange := { q := q, ramp := ramp, entries := es, tick := s.clk }
      if audioRuns s 8 then done { s with audio := { s.audio with changes := s.audio.changes ++ [c] } }
      else done (takeEntries (xbarEvent s c) ramp es) }

/-! ## Received streams (R477, R480 to R482) -/

/-- The port byte and sub-stream of a stream's events (Table 19-6). -/
def streamIds (k : Nat) : Nat × Nat := if k < 32 then (k, 0) else (128 + (k - 32) / 4, (k - 32) % 4)
/-- Event 217. -/
def streamEvent (s : State) (k cause channels : Nat) : State :=
  raise s 217 (det (streamIds k).1 (streamIds k).2 cause channels)
/-- The receive address of a stream's channel, read back: stream and channel (Table 19-3). -/
def receiveAddr (a : Nat) : Option (Nat × Nat) :=
  if 0x1000 ≤ a ∧ a < 0x1000 + 32 * 24 then some ((a - 0x1000) / 32, a % 32)
  else if 0x2000 ≤ a ∧ a < 0x2000 + 128 then some (32 + (a - 0x2000) / 8, a % 8)
  else none
/-- The converters that read a stream. -/
def convsOf (s : State) (k : Nat) : List Nat :=
  (List.range 64).filter fun c => decide ((receiveAddr (conv s c).src.toNat).map (·.1) = some k)
/-- A started pipe names the stream's port, and for DisplayPort its sub-stream (R477). -/
def streamAdmitted (s : State) (k : Nat) : Bool :=
  if k < 32 then decide (pipesOfPort s 1 k ≠ []) else decide (pipesOf s (2, (k - 32) / 4, (k - 32) % 4) ≠ [])
/-- The stream's port delivers it (R482). -/
def streamCarried (s : State) (k : Nat) : Bool :=
  if k < 32 then decide ((plk s k).st = 8) && decide ((plk s k).role = 1)
  else
    let d := dps s ((k - 32) / 4)
    d.trained && (!bit (word s 0 0x09 ((k - 32) / 4) 0) 4 || (tget none d.payload ((k - 32) % 4)).isSome)
/-- A stream stops: its converters fade out and hold zero (R482). -/
def stopStream (s : State) (k : Nat) : State :=
  let x := stream s k
  if !x.admitted then s
  else
    let s := streamEvent (setStream s k {}) k 2 x.channels
    (convsOf s k).foldl (fun s c =>
      let v := conv s c
      if v.locked then raise (setConv s c { v with locked := false, fadingOut := true, mode := 0 }) 219 (det c 2 0 0)
      else setConv s c { v with mode := 0 }) s
/-- Streams that are no longer admitted or carried stop. -/
def settleStreams (s : State) : State :=
  (tkeys s.audio.streams).foldl (fun s k => if streamAdmitted s k && streamCarried s k then s else stopStream s k) s
/-- Event 218: frames are missing from a stream that a converter reads (R481). Log entry 82 (DEDUCED). -/
def streamGap (s : State) (k missing why : Nat) : State :=
  if missing = 0 ∨ convsOf s k = [] then s
  else raise s 218 (det (streamIds k).1 (streamIds k).2 (sat 8 missing) why)
/-- The mode that a stream gives its converters: 2 presentation, 3 FIFO (R479, R480). Log entry 82 (DEDUCED). -/
def streamMode (x : Stream) (k : Nat) : Nat := if k < 32 ∧ x.pt ≠ 0#64 ∧ !x.fifo then 2 else 3
/-- Sample frames of a stream arrive: `seq` is the packet's sequence number where it has one, `pt` its presentation time or
0 (R477 to R481). -/
def audioArrives (s : State) (k channels rate : Nat) (seq : Option Nat) (frames : Nat) (pt : W64) (last : List Word) : State :=
  if !streamAdmitted s k || !streamCarried s k then s
  else
    let x := stream s k
    let s := if !x.admitted then streamEvent s k 0 channels
      else if x.channels ≠ channels ∨ x.rate ≠ rate then streamEvent s k 1 channels else s
    let skipped := match seq, x.seq with
      | some n, some e => (n + 65536 - e) % 65536
      | _, _ => 0
    let missing := if skipped = 0 ∨ !x.admitted then 0
      else if pt ≠ 0#64 ∧ x.pt ≠ 0#64 ∧ rate ≠ 0 then (pt - x.pt).toNat * rate / 1000000000 - x.frames
      else skipped * x.frames
    let s := streamGap s k missing 0
    let dist := min (pt - s.tb.ns).toNat (s.tb.ns - pt).toNat
    let far := decide (pt ≠ 0#64) && decide (dist > 1000000000)
    let s := if far && !x.fifo then streamEvent s k 3 channels else s
    -- The instant at which a converter needs a frame is not stated beyond its source instant and 32 output periods.
    let past := decide (pt ≠ 0#64) && !far && decide ((s.tb.ns - pt).toNat < 1000000000) && decide (s.tb.ns ≠ pt)
    let (b, s) := if past then drawByte s else (0#8, s)
    let s := if b.getLsbD 0 then streamGap s k frames 1 else s
    let y : Stream := { admitted := true, channels := channels, rate := rate, seq := seq.map fun n => (n + 1) % 65536, frames := frames,
                        pt := pt, last := last, fifo := far || (x.fifo && decide (pt = 0#64)) }
    let s := setStream s k y
    (convsOf s k).foldl (fun s c => setConv s c { conv s c with mode := streamMode y k }) s

/-! ## Converters (R478 to R482) -/

/-- AUD_SRC_IN (R478). -/
def srcInRej (s : State) (k : Nat) (v : Word) : Option Rej :=
  let a := mkAddr 0x1A (8 + k) 0
  let n := bits v 15 0
  -- The lane rules tie a converter's output to its readers, and its input has a rate of its own.
  firstRej [
    rejIf (decide (128 ≤ n) && decide (n ≤ 255)) { status := .badParam, addr := a },
    rejIf (decide (n ≠ 0xFFFF) && decide (n > 127) && (receiveAddr n).isNone) { status := .range, addr := a },
    rejIf (!lanesStayAgreed s 8 0#32 0#32 []) { status := .badParam, addr := a }]
/-- AUD_SRC_IN is written: the converter takes it at the next 48 kHz boundary of SYN8. -/
def srcInWritten (s : State) (k : Nat) : State := setConv s k { conv s k with waiting := true }
/-- A written AUD_SRC_IN takes effect: the converter starts afresh. -/
def convTake (s : State) (k : Nat) : State :=
  let c := conv s k
  if !c.waiting then s
  else
    let src := BitVec.ofNat 16 (bits (word s 0 0x1A (8 + k) 0) 15 0)
    let mode := if src.toNat ≤ 127 then 1 else match receiveAddr src.toNat with
      | none => 0
      | some (n, _) => if (stream s n).admitted then streamMode (stream s n) n else 0
    setConv s k { src := src, mode := mode }
/-- A converter locks on its input, and fades in (R479, R481). -/
def execConverterLock (k : Fin 64) (s : State) : Host.Outcome State Fault Refusal :=
  let c := conv s k.val
  if c.mode = 0 ∨ c.locked then .next s
  else .next (raise (setConv s k.val { c with locked := true, fade := 0, fadingOut := false, muted := false }) 219 (det k.val 0 0 0))
/-- A converter measures its input-to-output ratio, an unsigned 8.24 number (R478, R479). -/
def execConverterRatioMeasure (k : Fin 64) (ratio : Word) (s : State) : Host.Outcome State Fault Refusal :=
  let c := conv s k.val
  let soon : Bool := match c.ratioAt with | some t => decide (s.clk < t + 10000000) | none => false
  if c.mode = 0 ∨ soon then .next s
  else
    let r := ratio.toNat
    let wrong := decide (6 * r < 16777216) || decide (r > 67108864)
    let step := decide (c.ratio ≠ 0) && decide ((r - c.ratio + (c.ratio - r)) * 200 > c.ratio)
    let n := { c with ratio := r, muted := wrong, ratioAt := some s.clk }
    if wrong then .next (if c.muted then setConv s k.val n else raise (setConv s k.val n) 219 (det k.val 3 0 0))
    else if step ∧ c.locked then
      .next (raise (setConv s k.val { n with locked := false, fadingOut := true }) 219 (det k.val 1 0 0))
    else .next (setConv s k.val n)
/-- The sample a converter gives at a boundary: zero while it holds zero or is muted. The resampling itself is not stated,
so that sample is a free value. Log entry 81 (DEDUCED). -/
def convStep (s : State) (k : Nat) : Word × State :=
  let c := conv s k
  -- A channel above those that the stream carries reads as zero (R482).
  let beyond : Bool := match receiveAddr c.src.toNat with | some (n, ch) => decide ((stream s n).channels ≤ ch) | none => false
  if c.fadingOut then
    if c.fade = 0 then (0#32, setConv s k { c with fadingOut := false })
    else let (w, s) := drawWord s; (w, setConv s k { c with fade := c.fade - 1 })
  else if !c.locked ∨ c.muted ∨ beyond then (0#32, s)
  else let (w, s) := drawWord s; (w, setConv s k { c with fade := min 32 (c.fade + 1) })

/-! ## Windows (R483) -/

/-- The window of an output is sent: its Prenlink port carries it as the source end, a lane has a source and SYN8 runs. -/
def windowSends (s : State) (o : Nat) : Bool :=
  let w := outWord s o 1
  outActive s o && decide (bits w 1 0 = 0) && decide ((plk s (bits w 12 8)).role = 0) && (cannotCarry s o).isNone && windowUsed s o && audioRuns s 8
/-- Event 222 as windows start and stop sending. -/
def settleWindows (s : State) : State :=
  (List.range 20).foldl (fun s o =>
    let on := windowSends s o
    if on = tget false s.audio.sending o then s
    else raise { s with audio := { s.audio with sending := tput false s.audio.sending o on, gather := tput [] s.audio.gather o [],
                                                gatherAt := tput 0#64 s.audio.gatherAt o 0#64 } }
      222 (det o (b2n !on) (bits (outWord s o 1) 12 8) 0)) s
/-- A sample frame of a window is gathered; eight make an AUDIO packet. -/
def windowStep (s : State) (o rate : Nat) : State :=
  let g := tget [] s.audio.gather o
  let at_ := if g = [] then s.tb.ns else tget 0#64 s.audio.gatherAt o
  let g := g ++ (List.range 8).map fun i => (dest s (8 * o + i)).sample
  if g.length < 64 then
    { s with audio := { s.audio with gather := tput [] s.audio.gather o g, gatherAt := tput 0#64 s.audio.gatherAt o at_ } }
  else
    let seq := tget 0 s.audio.seqs o
    let pay := leBytes 8 (at_ + 1000000#64).toNat ++ [8#8, BitVec.ofNat 8 rate] ++ leBytes 2 8 ++ wordsBytes g
    let p := bits (outWord s o 1) 12 8
    sendPacket { s with audio := { s.audio with gather := tput [] s.audio.gather o [], gatherAt := tput 0#64 s.audio.gatherAt o 0#64,
                                                seqs := tput 0 s.audio.seqs o ((seq + 1) % 65536) } }
      p 5 (plkPacket 0x13 0 seq pay)

/-! ## Sample boundaries (R484) -/

/-- Event 221, once in each span of one second (R470). -/
def saturated (s : State) (lane bus : Nat) (told : Option W64) : State × Option W64 :=
  match told with
  | some t => if (s.tb.ns - t).toNat < 1000000000 then (s, told) else (raise s 221 (det lane bus 0 0), some s.tb.ns)
  | none => (raise s 221 (det lane bus 0 0), some s.tb.ns)
/-- A destination takes its sample from the input lanes as they stood (R470, R471). -/
def destStep (inputs : Tab Word) (s : State) (d : Nat) : State :=
  let x := dest s d
  let (src, g) := inEffect x
  let v := if src.toNat < 256 then tget 0#32 inputs src.toNat else 0#32
  let (y, ovf) := scaled v g
  let fin := decide (x.done + 1 ≥ x.len)
  let x := { x with sample := y, done := if x.len = 0 ∨ fin then 0 else x.done + 1, len := if fin then 0 else x.len
                    oldSrc := if fin then 0xFFFF#16 else x.oldSrc, fromGain := if fin then 0 else x.fromGain }
  if ovf then
    let (s, t) := saturated s d 0 x.told
    setDest s d { x with told := t }
  else setDest s d x
/-- A mix bus sums its destinations as they stood (R466). -/
def busStep (was : State) (s : State) (b : Nat) : State :=
  let (y, ovf) := sat32 ((dest was (128 + 2 * b)).sample.toInt + (dest was (129 + 2 * b)).sample.toInt)
  let s := { s with audio := { s.audio with inputs := tput 0#32 s.audio.inputs (192 + b) y } }
  if ovf then
    let (s, t) := saturated s b 1 (tget none s.audio.buses b)
    { s with audio := { s.audio with buses := tput none s.audio.buses b t } }
  else s
/-- The lanes whose clock and rate code these are; a lane of no stated rate passes at 48 kHz. -/
def laneAt (v : LaneView) (clk rate node : Nat) : Bool := match laneClock v node with
  | some (c, r) => decide (c = clk) && decide (r.getD 0 = rate)
  | none => false
/-- One boundary of a clock and rate code: every lane of that clock and rate passes one sample (Table 19-4). -/
def sampleBoundary (s : State) (clk rate : Nat) (frames : List (Nat × List Word)) : State :=
  if !boundaryUntold s clk rate then s
  else
    let c := audioClock s clk
    let s := setAudioClock s clk { c with done := tput none c.done rate (some (tget 0 c.last rate)) }
    let v := laneView s
    -- Crossbar entries on SYN9 that wait for their own lane's boundary.
    let mine (e : XbarEntry) : Bool := decide (clk = 9) && laneAt v 9 rate (dstNode e.dst.toNat)
    let s := s.audio.changes.foldl (fun s c => if c.first then (c.entries.filter mine).foldl (fun s e => takeEntry s c.ramp rate e) s else s) s
    let s := { s with audio := { s.audio with changes := (s.audio.changes.map fun c =>
      if c.first then { c with entries := c.entries.filter fun e => !mine e } else c).filter fun c => decide (c.entries ≠ []) } }
    let s := if clk = 8 ∧ rate = 0 then (List.range 64).foldl convTake s else s
    let was := s
    let live (p : Nat) : Bool := let w := tdmCfg s p; (tdm s p).running && !(tdm s p).halted && decide (tdmSyn w = clk) && decide (bits w 9 8 = rate)
    let ports := (List.range 8).filter live
    -- TDM transmit: the destinations as they stood.
    let s := ports.foldl (fun s p =>
      let w := tdmCfg s p
      if bit w 1 then setTdm s p { tdm s p with sent := (List.range (tdmSlots w)).map fun i => (dest was (bits (word s 0 0x1A p 1) 7 0 + i)).sample }
      else s) s
    -- Destinations: the input lanes as they stood.
    let s := ((List.range 256).filter fun d => laneAt v clk rate (dstNode d)).foldl (destStep was.audio.inputs) s
    -- TDM receive, mix buses and converters.
    let s := ports.foldl (fun s p =>
      let w := tdmCfg s p
      if bit w 1 then s
      else
        let f := ((frames.find? fun x => decide (x.1 = p)).map (·.2)).getD []
        { s with audio := { s.audio with inputs := (List.range (tdmSlots w)).foldl (fun t i =>
          tput 0#32 t (bits (word s 0 0x1A p 1) 7 0 + i) (f.getD i 0#32)) s.audio.inputs } }) s
    let s := ((List.range 64).filter fun b => laneAt v clk rate (192 + b)).foldl (busStep was) s
    let s := ((List.range 64).filter fun k => laneAt v clk rate (128 + k)).foldl (fun s k =>
      let (y, s) := convStep s k
      { s with audio := { s.audio with inputs := tput 0#32 s.audio.inputs (128 + k) y } }) s
    -- Windows.
    if clk = 8 then ((List.range 20).filter fun o => tget false s.audio.sending o && laneAt v 8 rate (dstNode (8 * o))).foldl
      (fun s o => windowStep s o rate) s
    else s
/-- A sample boundary of SYN8 or SYN9 at a rate code, with the frames that the running TDM input ports have received (R484). -/
def execSampleBoundary (syn9 : Bool) (rate : Fin 3) (frames : List (Nat × List Word)) (s : State) : Host.Outcome State Fault Refusal :=
  .next (sampleBoundary s (if syn9 then 9 else 8) rate.val frames)
/-- The happenings of the audio unit whose instant is this tick: a crossbar change's boundary, ports that start and stop. -/
def audioDue (s : State) : List Instr :=
  (if s.audio.changes.any fun c => !c.first && boundarySince s 8 0 c.tick then [.xbarChangeBoundary] else [])
  ++ (List.range 8).flatMap fun p => (if tdmStarts s p then [.tdmPortStart (Fin.ofNat 8 p)] else []) ++ (if tdmStops s p then [.tdmPortStop (Fin.ofNat 8 p)] else [])

end Sys2Proof.Machine
end

