-- ==== Sys2Proof/Machine/Interconnect.lean ====
section
/-! DEFINITION. The on-die interconnect (chapter 20): address maps, reach, bridge isolation, the bulk mover's transfers, and
transactions that time out. -/

namespace Sys2Proof.Machine
open Sys2Proof

/-! ## Address maps (Tables 20-2 and 20-4, R488, R489) -/

/-- An address lies in the `n` bytes from `b`. -/
def inWindow (a b n : Nat) : Bool := decide (b ≤ a) && decide (a < b + n)
/-- A word of an object window decodes: its class is assigned and its banking is the window's (R489). -/
def objectDecodes (banked : Bool) (off : Nat) : Bool := let c := off / 4 / 65536; classAssigned c && decide (isBanked c = banked)
/-- The target port of a Wing address, where the Wing's frame store has `size` bytes (Table 20-2). -/
def wingTarget (size a : Nat) : Nat :=
  if a < size then a / 4096 % 2
  else if inWindow a 0x800000000 (5 * 0x800000) then 2 + (a - 0x800000000) / 0x800000
  else if inWindow a 0x900000000 0x4000000 ∧ objectDecodes true (a - 0x900000000) then 7 else 8
/-- The target port of an Atrium address (Table 20-4, R488). -/
def atriumTarget (remap : Bool) (a : Nat) : Nat :=
  if a < 0x700000 then (if remap then 1 else if a < 0x10000 then 0 else 10)
  else if inWindow a 0x2100000 0x10000 then 0
  else if inWindow a 0x1000000 0x700000 then 1
  else if inWindow a 0x1700000 0x400000 then 2
  else if inWindow a 0x1C00000 0x400000 then 3
  else if inWindow a 0x2000000 0x100000 then 4
  else if inWindow a 0x3000000 0x41000 then 5
  else if inWindow a 0x3080000 0x1000 then 6
  else if inWindow a 0x10000000 0x4000000 ∧ objectDecodes false (a - 0x10000000) then 7
  else if inWindow a 0x1000000000 0x1000000000 then 8
  else if inWindow a 0x2000000000 0x1000000000 then 9 else 10

/-! ## Reach (Tables 20-1 and 20-3, R490 to R492) -/

/-- The Wing targets that a master of the slice reaches; the bridge is judged by its origin (R490). -/
def wingReach (m : Nat) : List Nat :=
  if m ≤ 1 then [0, 1, 2, 3, 4, 5, 6] else if m ≤ 5 ∨ m = 7 ∨ m = 8 then [0, 1, 3, 4, 5, 6] else if m = 6 then [0, 1, 2] else []
/-- The Atrium targets that a master of the slice reaches in a mode; `booting` while boot has not ended. -/
def atriumReach (mode : Nat) (booting : Bool) (m : Nat) : List Nat :=
  match m with
  | 0 | 1 => [0, 1, 2, 3, 4, 5, 6, 7, 8, 9]
  | 2 => [2, 3, 8, 9]
  | 3 => if booting then [1, 2] else [2]
  | 4 => [3, 8, 9]
  | 5 => [4]
  | 6 => if mode = 6 then [0, 1, 2, 3, 4, 7, 8, 9] else []
  | _ => []
/-- The Wing targets that a request through the bridge reaches, by its Atrium origin (R490, R492). -/
def bridgeReach (mode origin : Nat) : List Nat :=
  match origin with
  | 0 | 1 => [0, 1, 2, 3, 4, 5, 6, 7]
  | 2 => [2]
  | 4 => [0, 1]
  | 6 => if mode = 6 then [0, 1, 2, 3, 4, 5, 6, 7] else []
  | _ => []

/-! ## Isolated bridges and error responses (R493, R495, R506) -/

/-- A Wing's bridge is isolated (R495): the Wing is clamped, for a supply fault too (R10), powered down, waking and not ready, or its clock
has lost lock. Log entry 105 (DEDUCED). -/
def isolated (s : State) (w : Wing) : Bool :=
  let x := wing s w
  (decide (x.role = 0) && decide (x.step ≠ 3)) || (x.waking && !x.ready) || x.supplyBad || (match w with | .a => s.clocks.lostA | .b => s.clocks.lostB)
/-- An error response is delivered: BMX[0].ERR (R493). -/
def errorResponse (s : State) : State :=
  setWord s 0 0x20 0 1 (BitVec.ofNat 32 (sat 32 ((word s 0 0x20 0 1).toNat + 1)))
/-- Event 226, at most once in each span for one origin of one Wing's bridge (R506). -/
def bridgeAnswers (s : State) (w : Wing) (origin : Nat) : State :=
  let k := 16 * wingCode w + origin
  let due := match tget none s.bmx.told k with
    | some t => decide (1000000000 ≤ (s.tb.ns - t).toNat)
    | none => true
  if due then raise { s with bmx := { s.bmx with told := tput none s.bmx.told k (some s.tb.ns) } } 226 (det (wingCode w) origin 1 0) else s

/-! ## The bulk mover (R500) -/

/-- BMX[0] word 0. -/
def bmxWord (s : State) : Word := field 0 1 (b2n (decide (s.bmx.queue ≠ []))) ||| field 8 24 s.bmx.completed
/-- The transfer in progress ends; an isolated bridge ends it with an error (R500). -/
def bulkEnds (s : State) : State :=
  match s.bmx.queue with
  | [] => s
  | (opcode, port, tag, mask) :: rest =>
    let s := { s with bmx := { s.bmx with queue := rest, completed := (s.bmx.completed + 1) % 16777216 } }
    [Wing.a, Wing.b].foldl (fun s w =>
      if (mask / 2 ^ wingCode w) % 2 = 1 ∧ isolated s w then
        raise (bridgeAnswers (errorResponse s) w 2) 227 (det opcode.toNat (portCode port) tag.toNat (wingCode w))
      else s) s
/-- BULK_TRANSFER_COMPLETE. -/
def execBulkTransferComplete (s : State) : Host.Outcome State Fault Refusal := .next (bulkEnds s)

/-! ## Transactions that time out (R499) -/

/-- A master of a slice can have a transaction at a target: it reaches it. The default target answers in its own bound. -/
def canWait (s : State) (slice m t : Nat) : Bool :=
  if slice = 2 then (atriumReach s.modes.cur (decide (s.boot.phase ≠ .done)) m).contains t
  else if m = 9 then [0, 1, 2, 4, 6].any fun o => (bridgeReach s.modes.cur o).contains t
  else (wingReach m).contains t
end Sys2Proof.Machine
end

