-- ==== Sys2Proof/Machine/Scalers.lean ====
section
/-! DEFINITION. What the layers of a Wing need of its scalers and meshes, and the checks of Tables 14-1 and 16-3, made
against any reading of the object words. -/

namespace Sys2Proof.Machine
open Sys2Proof

/-- A word of a layer in a reading. -/
def rdLyr (rd : Rd) (b n w : Nat) : Word := rd b 0x13 n w
/-- LYR_PLACE bit 31 and the output in a reading. -/
def lyrOnIn (rd : Rd) (b n : Nat) : Bool := bit (rdLyr rd b n 1) 31
def lyrOutIn (rd : Rd) (b n : Nat) : Nat := bits (rdLyr rd b n 1) 4 0
/-- The route a layer reads in a reading. -/
def lyrRouteIn (rd : Rd) (b n : Nat) : Option Nat :=
  let w := rdLyr rd b n 2
  if bit w 0 then some (bits w 13 8) else none
/-- The output is line-locked in a reading, in a mode. -/
def lineLockedIn (rd : Rd) (mode o : Nat) : Bool := decide (mode = 3) && nominated rd o
/-- The mesh that LYR_UNITS names, and the explicit scaler. -/
def lyrMeshIn (rd : Rd) (b n : Nat) : Option Nat :=
  let m := bits (rdLyr rd b n 7) 15 8
  if m < 32 then some m else none
def lyrExplicit (rd : Rd) (b n : Nat) : Option Nat :=
  let x := bits (rdLyr rd b n 7) 7 0
  if x < 10 then some x else none
/-- A layer's destination width and height. -/
def lyrDst (rd : Rd) (b n : Nat) : Nat × Nat := let w := rdLyr rd b n 5; (bits w 15 0, bits w 31 16)
/-- The source size of a layer whose route, if it reads one, shows `src` (R331, R353); (0, 0) where there is none. -/
def lyrSrcSize (s : State) (rd : Rd) (b n : Nat) (src : Nat → Word) : Nat × Nat :=
  match lyrRouteIn rd b n with
  | none => let w := rdLyr rd b n 3; (bits w 15 0, bits w 31 16)
  | some r =>
    let w := src r
    if bit w 8 then (0, 0) else let c := capAt s (40 * b + bits w 7 0); (c.w, c.h)

/-- What one enabled layer needs: an explicit scaler, a scaler at all, and its stripes (R398, R401, R406, R408). -/
structure LayerNeed where
  n : Nat
  expl : Option Nat
  need : Bool
  stripes : Nat
  deriving DecidableEq, Repr

/-- The need of a layer with the given source size. -/
def layerNeed (rd : Rd) (mode b n : Nat) (size : Nat × Nat) : LayerNeed :=
  let dst := lyrDst rd b n
  let sized := decide (size.1 ≠ 0) && decide (size.2 ≠ 0) && decide (dst.1 ≠ 0) && decide (dst.2 ≠ 0)
  let line := lineLockedIn rd mode (lyrOutIn rd b n)
  let scaled := sized && decide (size ≠ dst)
  let warped := (lyrMeshIn rd b n).isSome
  let expl := lyrExplicit rd b n
  let need := if warped then (line || expl.isSome) && sized else scaled
  { n := n, expl := expl, need := need, stripes := if need && scaled && !(warped && !line) then (size.1 + 8191) / 8192 else 1 }
/-- The needs of every enabled layer of a Wing, in ascending order. -/
def layerNeeds (s : State) (rd : Rd) (mode b : Nat) (on : List Nat) (src : Nat → Nat → Word) : List LayerNeed :=
  on.map fun n => layerNeed rd mode b n (lyrSrcSize s rd b n (src n))

/-- The first scaler that may be given out: owned by no port, named by no enabled layer, serving none (R398). -/
def freeScaler (owned : Nat → Bool) (named : List Nat) (t : Tab Scl) : Option Nat :=
  (List.range 10).find? fun x => !owned x && !named.contains x && !(tkeys t).contains x
/-- The scalers as R398 and R401 assign them, from those held now. Log entry 64 (DEDUCED). -/
def assignScalers (owned : Nat → Bool) (held : Nat → Scl) (needs : List LayerNeed) : Tab Scl :=
  let named := needs.filterMap (·.expl)
  let entry (l : LayerNeed) (extra : Bool) : Scl := { layer := some l.n, stripes := l.stripes, extra := extra }
  -- Explicit names first; the lower layer where two name one scaler.
  let t := needs.foldl (fun t l => match l.expl with
    | some x => if l.need && !(tkeys t).contains x then tput {} t x (entry l false) else t
    | none => t) []
  -- Scalers that still serve their layer.
  let t := needs.foldl (fun t l =>
    if l.need && l.expl.isNone then
      match (List.range 10).find? fun x => decide ((held x).layer = some l.n) && !(held x).extra && !named.contains x with
      | some x => tput {} t x (entry l false)
      | none => t
    else t) t
  let has (t : Tab Scl) (n : Nat) : Bool := t.any fun e => decide (e.2.layer = some n) && !e.2.extra
  -- Automatic needs in ascending order.
  let t := needs.foldl (fun t l =>
    if l.need && l.expl.isNone && !has t l.n then
      match freeScaler owned named t with
      | some x => tput {} t x (entry l false)
      | none => t
    else t) t
  -- Stripes beyond the first, the scalers already held first.
  let want (t : Tab Scl) (l : LayerNeed) : Nat :=
    if l.need && has t l.n then l.stripes - 1 - (t.filter fun e => decide (e.2.layer = some l.n) && e.2.extra).length else 0
  let t := needs.foldl (fun t l => (List.range (want t l)).foldl (fun t _ =>
    match (List.range 10).find? fun x => decide ((held x).layer = some l.n) && (held x).extra && !named.contains x && !(tkeys t).contains x with
    | some x => tput {} t x (entry l true)
    | none => t) t) t
  needs.foldl (fun t l => (List.range (want t l)).foldl (fun t _ =>
    match freeScaler owned named t with
    | some x => tput {} t x (entry l true)
    | none => t) t) t
/-- The layer's first scaler in an assignment. -/
def firstScaler (t : Tab Scl) (n : Nat) : Option Nat := (t.find? fun e => decide (e.2.layer = some n) && !e.2.extra).map (·.1)
/-- The layer got every scaler it needs. -/
def servedBy (t : Tab Scl) (l : LayerNeed) : Bool :=
  !l.need || ((firstScaler t l.n).isSome && decide (l.stripes ≤ 1 + (t.filter fun e => decide (e.2.layer = some l.n) && e.2.extra).length))

/-- One scaler: number 10 × bank + instance. -/
def scl (s : State) (k : Nat) : Scl := tget {} s.scls k
/-- A scaler of a bank is owned. -/
def sclOwned (s : State) (b x : Nat) : Bool := (ownerOf s b 0x15 x).isSome
/-- SCL_STATE; in reset its reset value. Log entry 118 (DEDUCED). -/
def sclStateWord (s : State) (k : Nat) : Word :=
  let x := scl s k
  match x.layer with
  | none => if inReset s then 0#32 else 0xFF#32
  | some n => field 0 8 n ||| field 8 3 x.stripes

/-- A ratio of destination to source size is from 1/8 to 64 (R401). -/
def ratioOk (src dst : Nat) : Bool := decide (src ≤ 8 * dst) && decide (dst ≤ 64 * src)
/-- Both ratios are in range, where both sizes are known. -/
def ratiosOk (size dst : Nat × Nat) : Bool :=
  decide (size.1 = 0) || decide (size.2 = 0) || decide (dst.1 = 0) || decide (dst.2 = 0) || (ratioOk size.1 dst.1 && ratioOk size.2 dst.2)
/-- The mesh that a layer names covers its destination (R407). -/
def meshCovers (rd : Rd) (b n : Nat) : Bool :=
  match lyrMeshIn rd b n with
  | none => true
  | some m =>
    let dst := lyrDst rd b n
    decide (dst.1 = 0) || decide (dst.2 = 0) || gridCovers (rd b 0x16 m 2) (rdLyr rd b n 5)

/-- The step of Table 3-10 that a status belongs to. -/
def stepOf : Status → Nat
  | .modeForbids => 11 | .notOwner => 12 | .badParam | .range => 13 | _ => 14
/-- The refusal of the earliest step; the first of equal ones. -/
def byStep (l : List (Option Rej)) : Option Rej :=
  (l.filterMap id).foldl (fun m r => match m with
    | none => some r
    | some x => if stepOf r.status < stepOf x.status then some r else some x) none

/-- The members of a standing group in a reading: distinct instances in M2, where both Wings hold the same layers. -/
def groupMembers (rd : Rd) (mode g : Nat) : Nat :=
  let l := [0, 1].flatMap fun b => ((List.range 192).filter fun n => decide (bits (rdLyr rd b n 8) 7 0 = g)).map fun n =>
    if mode = 2 then n else 192 * b + n
  l.dedup.length

/-- The checks on a write of the words `ws` of layer `n`, against the words as they would stand (Tables 14-1 and 16-3, R28,
R30). `grouped` says the layer is a member of a pending GROUP_FLIP set. Log entry 64 (DEDUCED). -/
def lyrRej (s : State) (p : Port) (rd : Rd) (mode b n : Nat) (ws : List Nat) (grouped : Bool) : Option Rej :=
  let at_ (st : Status) (w : Nat) : Rej := { status := st, addr := mkAddr 0x13 n w }
  let on := lyrOnIn rd b n
  let o := lyrOutIn rd b n
  let line := lineLockedIn rd mode o
  let onAll := (List.range 192).filter fun m => lyrOnIn rd b m
  let same := (onAll.filter fun m => decide (lyrOutIn rd b m = o)).length
  let size := lyrSrcSize s rd b n (fun r => rd b 0x11 r 1)
  let units := rdLyr rd b n 7
  let need := layerNeed rd mode b n size
  let t := assignScalers (sclOwned s b) (fun x => scl s (10 * b + x)) (layerNeeds s rd mode b onAll fun _ r => rd b 0x11 r 1)
  let w (i : Nat) : Bool := ws.contains i
  byStep [
    rejIf (w 1 && decide (o > 19)) (at_ .range 1),
    rejIf (on && decide (same > 16)) (at_ .noResource 1),
    rejIf (on && line && decide (same > 4)) (at_ .modeForbids 1),
    rejIf (w 2 && (match lyrRouteIn rd b n with
      | some r => decide (r > 63)
      | none => decide (slotBytes (bits (rdLyr rd b n 2) 23 16) = 0))) (at_ .range 2),
    rejIf (w 3 && (decide (bits (rdLyr rd b n 3) 15 0 > 32768) || decide (bits (rdLyr rd b n 3) 31 16 > 32768))) (at_ .range 3),
    rejIf (w 6 && bit (rdLyr rd b n 6) 17 && decide (mode ≠ 4)) (at_ .modeForbids 6),
    rejIf (w 8 && decide (64 ≤ bits (rdLyr rd b n 8) 7 0) && decide (bits (rdLyr rd b n 8) 7 0 ≤ 254)) (at_ .range 8),
    rejIf (w 8 && decide (bits (rdLyr rd b n 8) 7 0 < 64) && decide (groupMembers rd mode (bits (rdLyr rd b n 8) 7 0) > 16)) (at_ .noResource 8),
    rejIf (w 8 && decide (bits (rdLyr rd b n 8) 7 0 < 64) && grouped) (at_ .badParam 8),
    (match lyrExplicit rd b n with
      | some x => if w 7 then (match ownerOf s b 0x15 x with
          | some q => rejIf (decide (rankPort p ≠ .cp1) && decide (rankPort p ≠ q))
              { status := .notOwner, addr := mkAddr 0x13 n 7, b3 := BitVec.ofNat 8 (portCode q) }
          | none => none) else none
      | none => none),
    rejIf (w 7 && ((decide (10 ≤ bits units 7 0) && decide (bits units 7 0 ≤ 254))
      || (decide (32 ≤ bits units 15 8) && decide (bits units 15 8 ≤ 254)))) (at_ .range 7),
    rejIf (on && !ratiosOk size (lyrDst rd b n)) (at_ .range 5),
    rejIf (on && !meshCovers rd b n) (at_ .badParam 7),
    rejIf (on && (match need.expl with
      | some x => onAll.any fun m => decide (m ≠ n) && decide (lyrExplicit rd b m = some x)
      | none => false)) (at_ .noResource 7),
    rejIf (on && need.need && need.expl.isNone && (firstScaler t n).isNone) (at_ .noResource 7),
    rejIf (on && line && decide (need.stripes > 1)) (at_ .linebufShort 5),
    rejIf (on && !line && !servedBy t need) (at_ .noResource 5)]

/-- The checks of Table 16-3 on a shown layer at a commit tick, with the scalers as assigned (R403). `size` is the size of
the frame or surface it reads. -/
def layerFits (rd : Rd) (mode b n : Nat) (size : Nat × Nat) (clash : Bool) (t : Tab Scl) : Bool :=
  let need := layerNeed rd mode b n size
  ratiosOk size (lyrDst rd b n) && meshCovers rd b n && !clash && servedBy t need
    && !(lineLockedIn rd mode (lyrOutIn rd b n) && decide (need.stripes > 1))

end Sys2Proof.Machine
end

