-- ==== Sys2Proof/Machine/Sets.lean ====
section
/-! DEFINITION. Pending changes of layers, sets, renderer fences and flips (R358 to R367, R452, R453). -/

namespace Sys2Proof.Machine
open Sys2Proof

/-- A layer by its number, 192 × bank + instance. -/
def lyrAt (s : State) (k : Nat) : Lyr := lyr s (k / 192) (k % 192)
/-- Sets it. -/
def setLyrAt (s : State) (k : Nat) (x : Lyr) : State := setLyr s (k / 192) (k % 192) x
/-- The layer is shown. -/
def shownAt (s : State) (k : Nat) : Bool := lyrShown s (k / 192) (k % 192)
/-- One set. -/
def fset (s : State) (i : Nat) : FSet := tget {} s.sets i
/-- Sets it. -/
def setFset (s : State) (i : Nat) (x : FSet) : State := { s with sets := tput {} s.sets i x }
/-- The set is an atomic group: a flip set or a standing group. -/
def atomicSet (x : FSet) : Bool := x.isGroup || x.group.isSome
/-- The fence of a member's flip is set, or it names none. -/
def memberReady (s : State) (k : Nat) : Bool :=
  match (lyrAt s k).flip with
  | none => true
  | some f => match f.fence with
    | none => true
    | some n => s.fences.getLsbD n
/-- Every flip of the set is free to be taken (R359). -/
def setReady (s : State) (x : FSet) : Bool := x.members.all (memberReady s)
/-- Event 158 for a layer. -/
def lyrEvent158 (s : State) (k cause : Nat) : State :=
  raiseBank s (k / 192) 158 (det (k % 192) (k / 192 + 16 * cause) (lyrOut s (k / 192) (k % 192)) 0)

/-- The layer leaves its set; a set with no members left ends (R365). -/
def leaveSet (s : State) (k : Nat) : State :=
  let x := lyrAt s k
  match x.set with
  | none => s
  | some i =>
    let t := fset s i
    let m := t.members.filter (· ≠ k)
    let s := setLyrAt s k { x with set := none }
    if m = [] then { s with sets := s.sets.filter fun e => e.1 ≠ i } else setFset s i { t with members := m }
/-- The set of the layer's pending change takes it in: its own, its standing group's pending set, or a new one (R359, R366). Log entry 63 (DEDUCED). -/
def joinSet (s : State) (k : Nat) (p : Port) : State :=
  let x := lyrAt s k
  match x.set with
  | some _ => s
  | none =>
    let g := bits (lyrWord s (k / 192) (k % 192) 8) 7 0
    match if g < 64 then s.sets.find? fun e => decide (e.2.group = some g) && !e.2.released else none with
    | some (i, t) => setFset (setLyrAt s k { x with set := some i }) i { t with members := t.members ++ [k] }
    | none =>
      let i := s.nextSet
      let s := { setLyrAt s k { x with set := some i } with nextSet := i + 1 }
      setFset s i { members := [k], group := if g < 64 then some g else none, port := p }

/-- The newest frame of a pipe whose address a flip carries (R452): the pipe's number where bits 63:56 are 0x80. -/
def addrPipe (a : W64) : Option Nat := if a.toNat / 2 ^ 56 = 0x80 then some (a.toNat / 65536 % 256) else none
/-- A layer takes its flip (R453). Log entry 66 (DEDUCED). -/
def takeFlip (s : State) (k : Nat) : State :=
  let x := lyrAt s k
  match x.flip with
  | none => s
  | some f =>
    let y := { x with flip := none, flipped := true, prev := x.surf }
    match addrPipe f.addr with
    | none => setLyrAt s k { y with surf := some f.addr, pin := none, now := none }
    | some p =>
      match (capAt s (40 * (k / 192) + p)).hist.head? with
      | some fr => setLyrAt s k { y with surf := some (BitVec.ofNat 64 fr.base), pin := some fr.base, now := some fr }
      | none =>
        raiseBank (setLyrAt s k { y with surf := none, pin := none, now := none }) (k / 192) 210 (det (k % 192) (k / 192) p 0)
/-- A layer takes its pending change and leaves its set (R358). -/
def takeLayer (s : State) (k : Nat) : State := leaveSet (takeUnit (takeFlip s k) (k / 192) 0x13 (k % 192)) k
/-- A waiting write clears LYR_PLACE bit 31 of an enabled layer (R361). -/
def clearing (s : State) (k : Nat) : Bool :=
  let e := waiting s (k / 192) 0x13 (k % 192) 1
  bit e.1 31 && !bit e.2 31 && lyrOn s (k / 192) (k % 192)
/-- Such a write is taken: the layer's other pending changes are discarded and it leaves its set (R361). -/
def takeClear (s : State) (k : Nat) : State :=
  let b := k / 192
  let n := k % 192
  let lost := (lyrAt s k).flip.isSome
  let o := lyrOut s b n
  let s := leaveSet s k
  let s := dropUnit (takeWs s b 0x13 n 1) b 0x13 n
  let s := setLyrAt s k { lyrAt s k with st := 0, misses := 0, flip := none, blank := true }
  if lost then raiseBank s b 158 (det n (b + 96) o 0) else s

/-- The 4 bytes of events 161 and 162 (Table 14-8). -/
def setDetail (x : FSet) (n : Nat) : Word := det (x.group.getD 255) (portCode x.port) (if x.isGroup then x.tag.toNat else 0) n
/-- The bank whose event an atomic set's is: that of its first member; in M2, where both Wings hold the set, the active Wing's (R376). -/
def setBank (s : State) (x : FSet) : Nat :=
  if s.modes.cur = 2 ∧ (wing s .b).role = 2 then 1 else if s.modes.cur = 2 then 0 else x.members.headD 0 / 192
/-- A set is released (R359, R364): its fences are consumed, and the members that are not shown are taken. -/
def releaseOne (s : State) (i : Nat) : State :=
  let x := fset s i
  let used := x.members.filterMap fun k => (lyrAt s k).flip.bind (·.fence)
  let s := { s with fences := used.foldl (fun m n => m &&& ~~~(1#1024 <<< n)) s.fences }
  let s := setFset s i { x with released := true, at_ := s.tb.ns, fences := [] }
  let s := if x.held then raiseBank s (setBank s x) 162 (setDetail x x.members.length) else s
  x.members.foldl (fun s k => if shownAt s k then s else takeLayer s k) s
/-- Every set that is ready is released. -/
def releaseSets (s : State) : State :=
  (tkeys s.sets).foldl (fun s i =>
    let x := fset s i
    if x.members ≠ [] ∧ !x.released ∧ setReady s x then releaseOne s i else s) s
/-- Members of released sets whose layers are not shown are taken (R359, R132). -/
def sweepSets (s : State) : State :=
  (tkeys s.sets).foldl (fun s i =>
    let x := fset s i
    if x.released then x.members.foldl (fun s k => if shownAt s k then s else takeLayer s k) s else s) s

/-- After a LYR word of layer `k` entered the flip table; `cleared` says the write cleared LYR_PLACE bit 31. -/
def lyrPlaced (s : State) (k : Nat) (p : Port) (cleared : Bool) : State :=
  if cleared && !shownAt s k then takeClear s k
  else if clearing s k then s
  else releaseSets (joinSet s k p)

/-! ## Fences -/

/-- A fence is signalled; event 163 where its latch is set. The signals of one fence within one tick count as one (R362). `by_`
is 0 for a command, 1 Prenlink, 2 DisplayPort. -/
def signalFence (s : State) (n by_ port : Nat) : State :=
  let seen := if s.signalTick = s.clk then s.signals else []
  let s' := { s with signals := n :: seen, signalTick := s.clk }
  if seen.contains n then s
  else if s.fences.getLsbD n then raise s' 163 (det (n % 256) (n / 256 + 16 * by_) port 0)
  else releaseSets { s' with fences := s.fences ||| (1#1024 <<< n) }
/-- FENCE_SIGNAL. -/
def opFenceSignal (q : Req) (f : Half) : Op :=
  { opcode := 0x33
    sched := .yes
    check := fun _ => rejIf (decide (f.toNat > 1023)) (rejSt .range)
    run := fun s => done (signalFence s f.toNat 0 (portCode q.port)) }

/-! ## FLIP and GROUP_FLIP -/

/-- The layers a unit reference names. -/
def layerKeys (r : UnitRef) : List Nat := (banksOf r.bank.toNat).map fun b => 192 * b + r.inst.toNat
/-- The refusal of a surface base address (R108, R452). -/
def surfRej (s : State) (r : UnitRef) (addr : W64) : Option Rej :=
  let a := mkAddr 0x13 r.inst.toNat 0
  match addrPipe addr with
  | some p =>
    firstRej [rejIf (decide (addr &&& 0x00FFFFFFFF00FFFF#64 ≠ 0#64)) { status := .badParam, addr := a },
      rejIf (decide (p > 39)) { status := .range, addr := a }]
  | none =>
    firstRej [rejIf (decide (addr.toNat % 4096 ≠ 0)) { status := .badParam, addr := a },
      rejIf ((banksOf r.bank.toNat).any fun b => decide (storeSize s (wingOf b) ≤ addr.toNat)) { status := .range, addr := a }]
/-- The fence a command names. -/
def fenceOf (f : Half) : Option Nat := if f = 0xFFFF#16 then none else some f.toNat
/-- The refusal of a fence value (R363). -/
def fenceRange (f : Half) : Option Rej := rejIf (decide (f ≠ 0xFFFF#16) && decide (f.toNat > 1023)) (rejSt .range)
/-- A fence is bound to an unreleased set other than `own` in a state. -/
def boundElsewhere (s : State) (f : Half) (own : Option Nat) : Bool :=
  decide (f ≠ 0xFFFF#16) && s.sets.any fun e => !e.2.released && e.2.fences.contains f.toNat && decide (own ≠ some e.1)
/-- The layers' flips are removed from the sets they stand in (R365). -/
def withdraw (s : State) (ks : List Nat) : State :=
  ks.foldl (fun s k => let s := leaveSet s k; setLyrAt s k { lyrAt s k with flip := none }) s
/-- The flip of a layer is placed, and its fence bound to the layer's set. Log entry 63 (DEDUCED). -/
def placeFlip (s : State) (k : Nat) (fence : Option Nat) (addr : W64) : State :=
  let s := setLyrAt s k { lyrAt s k with flip := some ⟨fence, addr, s.tb.ns⟩ }
  match (lyrAt s k).set, fence with
  | some i, some n => let x := fset s i; setFset s i { x with fences := (n :: x.fences).dedup }
  | _, _ => s
/-- A new set of its own for layers, formed by one command. -/
def formSet (s : State) (ks : List Nat) (x : FSet) : State :=
  let i := s.nextSet
  let s := ks.foldl (fun s k => setLyrAt s k { lyrAt s k with set := some i }) s
  setFset { s with nextSet := i + 1 } i { x with members := ks }
/-- The standing group of a layer, by LYR_GROUP in effect. -/
def standing (s : State) (k : Nat) : Option Nat :=
  let g := bits (lyrWord s (k / 192) (k % 192) 8) 7 0
  if g < 64 then some g else none
/-- FLIP acts: the layer's new flip leaves its old set and joins its standing group's pending set, or a set of its own. -/
def flipLayers (s : State) (q : Req) (ks : List Nat) (fence : Option Nat) (addr : W64) : State :=
  let s := withdraw s ks
  let own := ks.filter fun k => (standing s k).isNone
  let s := if own = [] then s else formSet s own { port := q.port, tag := q.tag }
  let s := ks.foldl (fun s k => joinSet s k q.port) s
  releaseSets (ks.foldl (fun s k => placeFlip s k fence addr) s)
/-- FLIP (R108, R363). -/
def opFlip (q : Req) (r : UnitRef) (f : Half) (addr : W64) : Op :=
  let ks := layerKeys r
  { opcode := 0x31
    sched := .yes
    check := fun s =>
      let s' := withdraw s ks
      let own := ks.findSome? fun k => match standing s k with
        | some g => (s'.sets.find? fun e => decide (e.2.group = some g) && !e.2.released).map (·.1)
        | none => none
      firstRej [unitMode s 0x13 r, unitOwner s q 0x13 r, unitParam 0x13 r, fenceRange f, surfRej s r addr,
        rejIf (boundElsewhere s' f own) (rejSt .badParam)]
    foot := fun _ => { touches := unitKeys 0x13 r, writes := ks.map fun k => (ikey (k / 192) 0x13 (k % 192) * 256 + 9, 0xFFFFFFFF#32, addr.setWidth 32) }
    run := fun s => done (flipLayers s q ks (fenceOf f) addr) }
/-- GROUP_FLIP (R108, R365). -/
def opGroupFlip (q : Req) (f : Half) (es : List FlipEntry) : Op :=
  let ks := es.flatMap fun e => layerKeys e.layer
  { opcode := 0x32
    sched := .yes
    check := fun s =>
      let s' := withdraw s ks
      firstRej (
        (es.map fun e => unitMode s 0x13 e.layer) ++ (es.map fun e => unitOwner s q 0x13 e.layer)
        ++ [rejIf (decide (es.length = 0) || decide (es.length > 16)) (rejSt .range)]
        ++ (es.map fun e => unitParam 0x13 e.layer) ++ [fenceRange f] ++ (es.map fun e => surfRej s e.layer e.surf)
        ++ [rejIf (decide (ks.dedup.length ≠ ks.length)) (rejSt .badParam)]
        ++ (es.map fun e => rejIf ((layerKeys e.layer).any fun k => (standing s k).isSome)
              { status := .badParam, addr := mkAddr 0x13 e.layer.inst.toNat 0 })
        ++ [rejIf (boundElsewhere s' f none) (rejSt .badParam)])
    foot := fun _ => {
      touches := es.flatMap fun e => unitKeys 0x13 e.layer
      writes := es.flatMap fun e => (layerKeys e.layer).map fun k =>
        (ikey (k / 192) 0x13 (k % 192) * 256 + 9, 0xFFFFFFFF#32, e.surf.setWidth 32) }
    run := fun s =>
      let s := withdraw s ks
      let s := formSet s ks { isGroup := true, port := q.port, tag := q.tag }
      done (releaseSets (es.foldl (fun s e => (layerKeys e.layer).foldl (fun s k => placeFlip s k (fenceOf f) e.surf) s) s)) }

end Sys2Proof.Machine
end

