-- ==== Sys2Proof/Machine/Routes.lean ====
section
/-! DEFINITION. Routes and clean switching (chapter 13). -/

namespace Sys2Proof.Machine
open Sys2Proof

/-- The switch state of route `r` of a bank on output `o`. -/
def rte (s : State) (b r o : Nat) : RteOut := tget {} s.rtes ((b * 64 + r) * 20 + o)
/-- Sets it. -/
def setRte (s : State) (b r o : Nat) (x : RteOut) : State := { s with rtes := tput {} s.rtes ((b * 64 + r) * 20 + o) x }
/-- The source an output shows through a route: RTE word 0x01. -/
def rteShown (s : State) (b r o : Nat) : Word := (rte s b r o).src.getD (word s b 0x11 r 1)
/-- A switch entry of the route waits in the flip table. -/
def rteWaits (s : State) (b r : Nat) : Bool := decide ((waiting s b 0x11 r 1).1 ≠ 0#32)
/-- The shown layers of an output that read a route. -/
def readersOn (s : State) (b r o : Nat) : List Nat :=
  (onLayers s b).filter fun n => decide (lyrRoute s b n = some r) && decide (lyrOut s b n = o) && lyrShown s b n
/-- The running outputs that show a layer reading the route. -/
def rteReaders (s : State) (b r : Nat) : List Nat :=
  (((onLayers s b).filter fun n => decide (lyrRoute s b n = some r) && lyrShown s b n).map (lyrOut s b)).dedup
/-- RTE_STATE (R342); in reset its reset value. Log entry 118 (DEDUCED). -/
def rteStateWord (s : State) (b r : Nat) : Word :=
  if inReset s then 0#32 else (word s b 0x11 r 1 &&& 0x1FF#32) ||| field 9 1 (b2n (rteWaits s b r))

/-- The published frames of a pipe that count at this tick, newest first. A frame whose end lies within the last 50 µs is
taken or not as the free value says (R338). -/
def countedFrames (s : State) (k : Nat) : List Frame :=
  match (capAt s k).hist with
  | [] => []
  | f :: r => if decide ((s.tb.ns - f.tick).toNat < 50000) && (Config.freeWord (s.freeCtr + k)).getLsbD 0 then r else f :: r
/-- The pipe of a bank offers the path of an output (R336). Log entry 57 (DEDUCED). -/
def offersPath (s : State) (k o : Nat) : Bool := if lineLocked s o then capFeeds s k else capStores s k
/-- A new source is ready on an output (Table 13-3). Log entry 57 (DEDUCED). -/
def sourceReady (s : State) (b o : Nat) (src : Word) : Bool :=
  bit src 8 ||
  let k := 40 * b + bits src 7 0
  let c := capAt s k
  capRunning c && offersPath s k o && (if lineLocked s o then c.locked else decide (countedFrames s k ≠ []))

/-- Once every reading output has taken the entry, the words change and the records of it end (R342). -/
def settleRoute (s : State) (b r : Nat) : State :=
  let rs := rteReaders s b r
  let target := projected s b 0x11 r 1
  let s := { s with rtes := s.rtes.filter fun e => !(decide (e.1 / 20 = b * 64 + r) && !rs.contains (e.1 % 20)) }
  if rteWaits s b r && rs.all fun o => decide (rteShown s b r o = target) then
    let s := takeWs s b 0x11 r 1
    rs.foldl (fun s o => setRte s b r o { rte s b r o with st := 0, src := none }) s
  else s
/-- A switch entry has entered the flip table: each reading output goes to PENDING, unless it shows the new source
(Table 13-2, R343). -/
def placeRoute (s : State) (b r : Nat) : State :=
  let target := projected s b 0x11 r 1
  let s := (rteReaders s b r).foldl (fun s o =>
    let x := rte s b r o
    let cur := rteShown s b r o
    setRte s b r o { x with src := some cur, st := if cur = target then 0 else 1, since := 0 }) s
  settleRoute s b r

/-- Event 156 or 157 (Table 13-4). -/
def rteEvent (s : State) (src b r o : Nat) (none_ : Bool) (cause : Nat) : State :=
  raiseBankCommit s b src (det r (b + 2 * b2n none_) o cause)
/-- An output takes a switch. -/
def takeSwitch (s : State) (b r o cause : Nat) : State :=
  let target := projected s b 0x11 r 1
  let s := setRte s b r o { rte s b r o with st := 0, src := some target, fresh := true, told := false }
  rteEvent s 156 b r o (bit target 8) cause
/-- A commit tick of an output for one route: Table 13-2, with the 500 ms bound. `bound` says the bound has come. -/
def routeTick (s : State) (b r o : Nat) (bound : Bool) : State :=
  let x := rte s b r o
  let s := setRte s b r o { x with fresh := false }
  if !rteWaits s b r then s
  else
    let target := projected s b 0x11 r 1
    if rteShown s b r o = target then settleRoute s b r
    else
      let ready := sourceReady s b o target
      let s :=
        if x.st = 2 then
          if ready then takeSwitch s b r o 1
          else if bound || decide (x.since + 500000000 ≤ s.clk) then takeSwitch s b r o 2
          else s
        else if ready then takeSwitch s b r o 0
        else
          rteEvent (setRte s b r o { rte s b r o with st := 2, since := s.clk, src := some (rteShown s b r o) }) 157 b r o false 0
      settleRoute s b r
/-- Every route that an output shows, at its commit tick. -/
def routesAt (s : State) (banks : List Nat) (o : Nat) : State :=
  banks.foldl (fun s b =>
    let rs := ((onLayers s b).filter fun n => decide (lyrOut s b n = o) && lyrShown s b n).filterMap (lyrRoute s b)
    rs.dedup.foldl (fun s r => routeTick s b r o false) s) s

/-- A reading with one word changed. -/
def rdWith (rd : Rd) (b c i w : Nat) (v : Word) : Rd := fun b' c' i' w' =>
  if b' = b ∧ c' = c ∧ i' = i ∧ w' = w then v else rd b' c' i' w'
/-- The refusal of an RTE word 0x01 that would stand at `v` (Table 13-1): the range of RTE_PIPE, and the scalers that the
layers reading the route on the frame-store path need at the new size. -/
def routeRej (s : State) (rd : Rd) (mode b r : Nat) : Option Rej :=
  let v := rd b 0x11 r 1
  let a := mkAddr 0x11 r 1
  let onAll := (List.range 192).filter fun m => lyrOnIn rd b m
  let needs := layerNeeds s rd mode b onAll fun _ x => rd b 0x11 x 1
  let t := assignScalers (sclOwned s b) (fun x => scl s (10 * b + x)) needs
  let here := needs.filter fun l => decide (lyrRouteIn rd b l.n = some r) && !lineLockedIn rd mode (lyrOutIn rd b l.n)
  byStep [
    rejIf (!bit v 8 && decide (bits v 7 0 > 39)) { status := .range, addr := a },
    rejIf (!bit v 8 && decide (bits v 7 0 ≤ 39) && here.any fun l => !servedBy t l) { status := .noResource, addr := a }]
/-- The RTE word a ROUTE_SWITCH writes (R332). -/
def switchWord (kind : Byte) (pipe : UnitRef) : Word := if kind = 1#8 then 0x100#32 else BitVec.ofNat 32 pipe.inst.toNat
/-- ROUTE_SWITCH (R332 to R334). -/
def opRouteSwitch (q : Req) (r : UnitRef) (kind : Byte) (pipe : UnitRef) : Op :=
  let v := switchWord kind pipe
  { opcode := 0x30
    sched := .yes
    check := fun s => firstRej ([
      unitMode s 0x11 r, unitOwner s q 0x11 r,
      rejIf (decide (kind.toNat > 1)) { status := .badParam, addr := mkAddr 0x11 r.inst.toNat 1 },
      rejIf (decide (kind = 1#8) && (decide (pipe.inst ≠ 0#8) || decide (pipe.bank ≠ 0#8))) { status := .badParam, addr := mkAddr 0x11 r.inst.toNat 1 },
      rejIf (decide (kind = 0#8) && decide (pipe.bank ≠ r.bank)) { status := .badParam, addr := mkAddr 0x10 pipe.inst.toNat 0 },
      unitParam 0x11 r,
      rejIf (decide (kind = 0#8) && decide (pipe.inst.toNat > 39)) { status := .range, addr := mkAddr 0x10 pipe.inst.toNat 0 }]
      ++ (banksOf r.bank.toNat).map fun b => routeRej s (rdWith (projected s) b 0x11 r.inst.toNat 1 v) s.modes.cur b r.inst.toNat)
    foot := fun _ => {
      writes := (banksOf r.bank.toNat).map fun b => (wkey b (mkAddr 0x11 r.inst.toNat 1), 0x1FF#32, v)
      touches := unitKeys 0x11 r ++ (if kind = 0#8 then unitKeys 0x10 pipe else [])
      reassigns := unitKeys 0x11 r ++ (if kind = 0#8 then unitKeys 0x10 pipe else []) }
    run := fun s => done ((banksOf r.bank.toNat).foldl (fun s b =>
      placeRoute (placeWs s b 0x11 r.inst.toNat 1 0x1FF#32 v) b r.inst.toNat) s) }

/-- SWITCH_WAIT_BOUND: a switch that has waited 500 ms on an output is taken at its commit tick, ready or not (R335). -/
def execSwitchWaitBound (bank : Fin 2) (route : Fin 64) (o : Fin 20) (s : State) : Host.Outcome State Fault Refusal :=
  if outRuns s o.val && (rteReaders s bank.val route.val).contains o.val && decide ((rte s bank.val route.val o.val).st = 2)
      && decide ((rte s bank.val route.val o.val).since + 500000000 ≤ s.clk) then
    .next (routeTick s bank.val route.val o.val true)
  else .next s

end Sys2Proof.Machine
end

