-- ==== Sys2Proof/Machine/StdPorts.lean ====
section
/-! DEFINITION. Standard ports (chapter 11): DisplayPort sinks, eDP sources and CSI-2 receivers. -/

namespace Sys2Proof.Machine
open Sys2Proof

/-! ## DisplayPort: AUX (R294, R295) -/

/-- The DPS_CFG word of a port, and its highest rate. -/
def dpsCfg (s : State) (p : Nat) : Word := word s 0 0x09 p 0
/-- DPS_STATE. Bits 7:6 show the configured streams, and rate and lanes keep the trained values after a loss of the link. Log entry 131 (DESIGN CHOICE). -/
def dpsStateWord (s : State) (p : Nat) : Word :=
  let d := dps s p
  field 0 3 d.rate ||| field 3 3 d.lanes ||| field 6 2 (bits (dpsCfg s p) 6 5) ||| field 8 1 (b2n d.hpd)
    ||| field 9 1 (b2n (decide (d.compressed ≠ 0#4)))
/-- A DPCD byte with some bits fixed and the rest open. Log entry 49 (PRESUMED). -/
def dpcdWith (a mask v : Nat) : Byte :=
  (Config.dpcdByte a &&& ~~~BitVec.ofNat 8 mask) ||| BitVec.ofNat 8 v
/-- The DSC capabilities at the DisplayPort standard's addresses, with the limits of Table 11-4: version 1.2, 1, 2, 4 or 8 slices, 11 bits of line buffer,
block prediction, 24.0 bits per pixel in steps of 1/16, RGB, 4:4:4 and native 4:2:2, 8, 10 and 12 bits, slices of 2,560 pixels. Log entry 49 (PRESUMED). -/
def dscCap (a : Nat) : Byte :=
  match a with
  | 0x61 => 0x21#8 | 0x64 => 0x2B#8 | 0x65 => 0x02#8 | 0x66 => 0x01#8 | 0x67 => 0x80#8 | 0x68 => 0x01#8 | 0x69 => 0x0B#8
  | 0x6A => 0x0E#8 | 0x6C => 0x08#8 | 0x6D => 0x00#8 | 0x6F => 0x00#8 | _ => Config.dpcdByte a
/-- A DPCD byte as a native AUX read gives it: the capabilities that R294 derives from the DPS words and the link status, at the
DisplayPort standard's addresses; else what the source wrote; else an open value. Log entry 49 (PRESUMED). -/
def dpcdRead (s : State) (p a : Nat) : Byte :=
  let d := dps s p
  let c := dpsCfg s p
  let r := bits c 2 0
  let lane (n : Nat) : Nat := if d.trained ∧ n < d.lanes then 7 else 0
  if a = 0x00001 then (match r with | 0 => 0x06#8 | 1 => 0x0A#8 | 2 => 0x14#8 | _ => 0x1E#8)
  else if a = 0x00002 then dpcdWith a 0x1F 4
  else if a = 0x00021 then dpcdWith a 0x01 (b2n (bit c 4))
  else if a = 0x00060 then dpcdWith a 0x01 (b2n (bit c 7))
  else if a = 0x00007 then dpcdWith a 0x40 0
  else if a = 0x00070 ∨ a = 0x000B0 ∨ a = 0x02214 ∨ a = 0x68028 ∨ a = 0x6921F then 0#8
  else if bit c 7 ∧ 0x00061 ≤ a ∧ a ≤ 0x0006F then dscCap a
  else if a = 0x02215 then dpcdWith a 0x07 (if r = 4 then 1 else if r = 5 then 5 else if r = 6 then 7 else 0)
  else if a = 0x00202 then BitVec.ofNat 8 (lane 0 + 16 * lane 1)
  else if a = 0x00203 then BitVec.ofNat 8 (lane 2 + 16 * lane 3)
  else if a = 0x00204 then dpcdWith a 0x01 (b2n d.trained)
  else match tget none d.dpcd a with
    | some v => v
    | none => Config.dpcdByte a
/-- A byte of the EDID served (R295). Log entry 50 (PRESUMED). -/
def edidByte (d : Dps) (i : Nat) : Byte := if d.builtin then Config.builtinEdid i else d.edid.getD i 0#8
/-- An AUX request is answered (R294). -/
def execAuxRequest (port : Fin 4) (kind : Fin 4) (addr off len : Nat) (data : List Byte) (s : State) : Host.Outcome State Fault Refusal :=
  let p := port.val
  let d := dps s p
  if !d.hpd then .next (setDps s p { d with reply := .none })
  else
    let range := List.range len
    match kind.val with
    | 0 => .next (setDps s p { d with reply := .ack (range.map fun i => dpcdRead s p (addr + i)) })
    | 1 =>
      let t := (data.zipIdx).foldl (fun t x => tput none t (addr + x.2) (some x.1)) d.dpcd
      .next (setDps s p { d with dpcd := t, reply := .ack [] })
    | 2 => .next (setDps s p { d with reply :=
        if addr = 0x50 ∨ addr = 0x30 then .ack (range.map fun i => edidByte d (off + i)) else .i2cNack })
    | _ => .next (setDps s p { d with reply := if addr = 0x50 ∨ addr = 0x30 then .ack [] else .i2cNack })

/-! ## DisplayPort: training and loss (R293, R296) -/

/-- Completes training as the sink, at any rate up to DPS_RATE_MAX (R296). -/
def execDpLinkTraining (port : Fin 4) (rate : Fin 7) (lanes : Fin 3) (s : State) : Host.Outcome State Fault Refusal :=
  let p := port.val
  let d := dps s p
  if !d.hpd ∨ rate.val > bits (dpsCfg s p) 2 0 then .next s
  else
    let old := d.rate
    let s := dpsEvent (setDps s p { d with rate := rate.val, lanes := 2 ^ lanes.val, trained := true }) p 2 0
    .next (if rate.val = old then s else rateChanged s 2 p)
/-- A link loss (R296). -/
def execDpLinkLoss (port : Fin 4) (s : State) : Host.Outcome State Fault Refusal :=
  let p := port.val
  let d := dps s p
  if !d.trained then .next s
  else
    let s := irqHpd (setDps s p { d with trained := false, msa := [], compressed := 0#4 }) p
    .next (settleStreams (portLost (dpsEvent s p 3 0) 2 p 2))

/-! ## DisplayPort: MST (R297) -/

/-- The pixel rates of a port's payloads: all, and the compressed ones. -/
def payloadSums (t : Tab (Option (Nat × Bool))) : Nat × Nat :=
  t.foldl (fun x e => match e.2 with
    | some (r, c) => (x.1 + r, if c then x.2 + r else x.2)
    | none => x) (0, 0)
/-- A sub-stream's payload ends: its pipes lose their source (R318, R482). -/
def dropPayload (s : State) (p sub : Nat) : State :=
  let d := dps s p
  let s := setDps s p { d with payload := tput none d.payload sub none, msa := tput none d.msa sub none,
                               compressed := d.compressed &&& ~~~(1#4 <<< sub) }
  settleStreams (sourceLost s (2, p, sub) 2)
/-- A logical sink port of the branch: 8 + s for sub-stream s (R297). -/
def logicalPort (s : State) (p n : Nat) : Bool := decide (8 ≤ n) && decide (n ≤ 8 + bits (dpsCfg s p) 6 5)
/-- An MST sideband request is answered. Log entry 53 (PRESUMED). -/
def execSidebandMessage (port : Fin 4) (m : SideReq) (s : State) : Host.Outcome State Fault Refusal :=
  let p := port.val
  let d := dps s p
  let say (s : State) (r : Sideband) : Host.Outcome State Fault Refusal := .next (setDps s p { dps s p with side := r })
  if !d.hpd ∨ !bit (dpsCfg s p) 4 then say s .none
  else match m with
    | .allocatePayload sub rate dsc =>
      if sub > bits (dpsCfg s p) 6 5 then say s .nakBadParam
      else if rate = 0 then say (dropPayload s p sub) .ack
      else
        let t := tput none d.payload sub (some (rate, dsc))
        let x := payloadSums t
        if x.1 > 2400000000 ∨ x.2 > 1200000000 ∨ (dsc ∧ !bit (dpsCfg s p) 7) then say (irqHpd (dpsEvent s p 4 sub) p) .nakResources
        else say (setDps s p { d with payload := t }) .ack
    | .clearPayloadIdTable => say ((tkeys d.payload).foldl (fun s sub => dropPayload s p sub) s) .ack
    | .powerUpPhy => say (setDps s p { d with powered := true }) .ack
    | .powerDownPhy => say (setDps s p { d with powered := false }) .ack
    | .linkAddress => say s (.ackPorts ((List.range (bits (dpsCfg s p) 6 5 + 1)).map (8 + ·)))
    | .enumPathResources n => if logicalPort s p n then say s (.ackPath 2400000000 (2400000000 - (payloadSums d.payload).1)) else say s .nakBadParam
    | .remoteDpcdRead n addr len => if logicalPort s p n then say s (.ackData ((List.range len).map fun i => dpcdRead s p (addr + i))) else say s .nakBadParam
    | .remoteI2cRead n dev off len =>
      if logicalPort s p n ∧ (dev = 0x50 ∨ dev = 0x30) then say s (.ackData ((List.range len).map fun i => edidByte d (off + i))) else say s .nakBadParam
    | .other => say s .nakBadParam

/-! ## DisplayPort: streams (R297 to R299) -/

/-- A stream of an SST port is beyond Table 11-3 or 11-4. -/
def beyondLimits (s : State) (p : Nat) (m : MsaData) : Bool :=
  let px := m.w * m.h * m.rate / 1000
  let dscBad := match m.dsc with
    | none => false
    | some (n, w, bpp) => !bit (dpsCfg s p) 7 || decide (px > 1200000000) || !([1, 2, 4, 8].contains n) || decide (w > 2560)
      || decide (bpp < 128) || decide (bpp > 384) || decide (m.fmt % 4 = 0)
  decide (m.w > 7680) || decide (m.h > 4320) || decide (px > 2400000000) || decide (m.rate < 24000) || decide (m.rate > 240000) || dscBad
/-- Main stream attributes give a stream's format and size; a change is a format change (R299, R317). Log entry 52 (DEDUCED). -/
def execMsa (port : Fin 4) (sub : Fin 4) (m : MsaData) (s : State) : Host.Outcome State Fault Refusal :=
  let p := port.val
  let k := sub.val
  let d := dps s p
  if !d.trained then .next s
  else
    let bad := !bit (dpsCfg s p) 4 && beyondLimits s p m
    let fmt := if bad ∨ !(decide (0x10 ≤ m.fmt) && decide (m.fmt ≤ 0x1B)) then 0xFF else m.fmt
    let new := (fmt, m.w, m.h, m.color)
    let old := tget none d.msa k
    if old = some new then .next s
    else
      let one := 1#4 <<< k
      let s := setDps s p { d with msa := tput none d.msa k (some new), clock := tput 0 d.clock k m.clock,
                                   compressed := if m.dsc.isSome then d.compressed ||| one else d.compressed &&& ~~~one }
      let s := if old.isSome ∨ bad then dpsEvent s p 6 k else s
      .next (if old.isNone then s
        else (pipesOf s (2, p, k)).foldl (fun s c => if (capAt s c).st = 2 then capChange s c else s) s)
/-- Audio stream SDPs (R299). -/
def execAudioSdp (port : Fin 4) (sub : Fin 4) (channels rate frames : Nat) (lpcm : Bool) (last : List Word) (s : State) :
    Host.Outcome State Fault Refusal :=
  let p := port.val
  let k := 32 + 4 * p + sub.val
  if !(dps s p).trained then .next s
  else if !lpcm then .next (stopStream (dpsEvent s p 8 sub.val) k)
  else .next (audioArrives s k channels rate none frames 0#64 last)
/-- A fence SDP; any other SDP that reaches this row is discarded without an event (R299). -/
def execFenceSdp (port : Fin 4) (hb1 : Byte) (data : List Byte) (s : State) : Host.Outcome State Fault Refusal :=
  let p := port.val
  let n := leAt data 4 2
  if !(dps s p).trained ∨ hb1 ≠ 0x81#8 ∨ slice data 1 3 ≠ [0xC1#8, 0xB2#8, 0x7A#8] then .next s
  else if n > 1023 then .next (dpsEvent s p 7 0)
  else .next (signalFence s n 2 p)
/-- The pixels of a run that no command carries: free values, `n` of them. -/
def drawSpan (s : State) (n : Nat) : SpanSrc × State := (.free s.freeCtr, { s with freeCtr := s.freeCtr + n })
/-- Vertical blanking of a stream ends, which is its frame pulse, or starts, which is its frame end (R175, R312). The frame's
pixels are the source's, which no command carries. -/
def execVbIdTransition (port : Fin 4) (sub : Fin 4) (starts : Bool) (drift : Int) (s : State) : Host.Outcome State Fault Refusal :=
  let src := (2, port.val, sub.val)
  if !(dps s port.val).trained then .next s
  else match tget none (dps s port.val).msa sub.val with
    | none => .next s
    | some (fmt, w, h, _) =>
      if !starts then
        .next ((pipesOf s src).foldl (fun s k => capKnow (capPulse s k fmt w none) k fmt w) (sourceRefPulse s src))
      else
        let (px, s) := drawSpan s (w * h)
        .next ((pipesOf s src).foldl (fun s k =>
          let c := capAt s k
          let s := if c.inFrame then setCap s k { c with curH := h, write := c.write.map fun f =>
              { f with spans := { y := 0, rows := h, x := 0, count := w, src := px } :: f.spans } } else s
          capFrameEnd s k drift) s)

/-! ## eDP (R300 to R304) -/

/-- The panel is there: capabilities are read, and training starts unless the panel cannot take the configured link (Table
11-5, steps 2 and 6). -/
def execEdpHpdSettled (port : Fin 4) (supports : Bool) (s : State) : Host.Outcome State Fault Refusal :=
  let p := port.val
  let e := edp s p
  let s := setEdp s p { e with hpd := true }
  if e.st ≠ 1 then .next s
  else if supports then .next (setEdp s p { e with hpd := true, st := 2 })
  else .next (edpEvent (setEdp s p { e with hpd := true, st := 4 }) p 2)
/-- A training attempt ends (Table 11-5, steps 4 and 6). -/
def execEdpTrainingDone (port : Fin 4) (good : Bool) (s : State) : Host.Outcome State Fault Refusal :=
  let p := port.val
  let e := edp s p
  if e.st ≠ 2 then .next s
  else if good then .next (edpEvent (setEdp s p { e with st := 3, fails := 0, blank := 0 }) p 0)
  else
    let s := edpEvent (setEdp s p { e with fails := e.fails + 1 }) p 1
    .next (if e.fails + 1 ≥ 3 then edpEvent (setEdp s p { edp s p with st := 4 }) p 2 else s)
/-- An IRQ_HPD of the panel: a lost link is retrained at once (R303). -/
def execEdpIrqHpd (port : Fin 4) (lost : Bool) (s : State) : Host.Outcome State Fault Refusal :=
  let p := port.val
  let e := edp s p
  if e.st = 3 ∧ lost then .next (edpEvent (setEdp s p { e with st := 2, fails := 0 }) p 4) else .next s
/-- Panel loss (R303). -/
def execEdpPanelLoss (port : Fin 4) (s : State) : Host.Outcome State Fault Refusal :=
  let p := port.val
  let e := edp s p
  if e.st = 0 then .next (setEdp s p { e with hpd := false })
  else
    let s := edpDark s p
    .next (edpEvent (setEdp s p { edp s p with st := 1, fails := 0, hpd := false }) p 3)
/-- The commit tick of the port's output, a vertical blanking: the second one after training turns the backlight on (Table
11-5, step 5). -/
def edpTick (s : State) (o : Nat) : State :=
  let (kind, p) := outPort s o
  let e := edp s p
  if kind = 1 ∧ e.st = 3 ∧ !e.light ∧ s.thermal.shut < 2 then
    if e.blank = 0 ∧ !s.boot.bootOuts.contains o then setEdp s p { e with blank := 1 } else edpEvent (setEdp s p { e with light := true, blank := 2 }) p 5
  else s
/-- A GPIO that a backlight drives, with its level: EDP_BL_USE and EDP_BL_GPIO (R304). -/
def backlightGpio (s : State) (p : Nat) : Option (Nat × Bool) :=
  let w := word s 0 0x0A p 1
  if bit w 4 then some (bits w 3 0, (edp s p).light) else none

/-! ## CSI-2 (R305, R306) -/

/-- One receiver. -/
def csi (s : State) (p : Nat) : Csi := tget {} s.csis p
/-- Sets it. -/
def setCsi (s : State) (p : Nat) (c : Csi) : State := { s with csis := tput {} s.csis p c }
/-- CSI_ERRS. -/
def csiErrsWord (s : State) (p : Nat) : Word := let c := csi s p; field 0 16 c.ecc ||| field 16 16 c.crc
/-- Event 88 + p. -/
def csiEvent (s : State) (p cause vc dt : Nat) : State := raise s (88 + p) (det cause 0 vc dt)
/-- The capture format code and the bits per pixel of an image data type (Tables 11-7 and 12-4a). -/
def imageType (dt : Nat) : Option (Nat × Nat) :=
  match dt with
  | 0x1E => some (0x20, 16) | 0x1F => some (0x21, 20) | 0x22 => some (0x22, 16) | 0x24 => some (0x23, 24)
  | 0x2A => some (0x24, 8) | 0x2B => some (0x25, 10) | 0x2C => some (0x26, 12) | 0x2D => some (0x27, 14)
  | 0x2E => some (0x28, 16) | 0x2F => some (0x29, 20) | _ => none
/-- A packet header is checked: corrected and counted, or discarded with cause 2 (R306). -/
def csiHeader (s : State) (p : Nat) (hdr : Fin 3) : Option State :=
  let c := { csi s p with ulps := false }
  match hdr.val with
  | 0 => some (setCsi s p c)
  | 1 => some (setCsi s p { c with ecc := sat 16 (c.ecc + 1) })
  | _ => none
/-- A header with more than one error bit. -/
def csiHeaderBad (s : State) (p vc : Nat) : State := csiEvent (setCsi s p { csi s p with ulps := false }) p 2 vc 0
/-- The frame on a channel ends. -/
def csiEnd (s : State) (p vc : Nat) (drift : Int) : State :=
  let c := csi s p
  let s := setCsi s p { c with busy := c.busy &&& ~~~(1#4 <<< vc) }
  (pipesOf s (3, p, vc)).foldl (fun s k => capFrameEnd s k drift) s
/-- A frame start: it ends a frame still open, and is the frame pulse (R175, R306). -/
def execCsiFrameStart (port : Fin 8) (vc : Fin 4) (hdr : Fin 3) (s : State) : Host.Outcome State Fault Refusal :=
  let p := port.val
  let v := vc.val
  if portOff s 3 p then .next s else
  match csiHeader s p hdr with
  | none => .next (csiHeaderBad s p v)
  | some s =>
    let s := if (csi s p).busy.getLsbD v then csiEnd (csiEvent s p 3 v 0) p v 0 else s
    let c := csi s p
    let ks := pipesOf s (3, p, v)
    let first := decide (ks ≠ []) && !c.told.getLsbD v
    let s := setCsi s p { c with busy := c.busy ||| (1#4 <<< v), dtype := tput 0 c.dtype v 0, lines := tput 0 c.lines v 0,
                                 told := if first then c.told ||| (1#4 <<< v) else c.told }
    let s := if first then csiEvent s p 0 v 0 else s
    .next (ks.foldl (fun s k => capPulse s k 0 0 none) (sourceRefPulse s (3, p, v)))
/-- A frame end. -/
def execCsiFrameEnd (port : Fin 8) (vc : Fin 4) (hdr : Fin 3) (drift : Int) (s : State) : Host.Outcome State Fault Refusal :=
  let p := port.val
  if portOff s 3 p then .next s else
  match csiHeader s p hdr with
  | none => .next (csiHeaderBad s p vc.val)
  | some s => .next (if (csi s p).busy.getLsbD vc.val then csiEnd s p vc.val drift else s)
/-- A line of a pipe is lost: it is concealed and counted (R287, R306). -/
def capLost (s : State) (k y : Nat) : State :=
  let c := capAt s k
  if c.inFrame then countConcealed (setCap s k { c with curH := max c.curH (y + 1) }) k 1 else s
/-- A long packet is a line of its channel's frame (R306). -/
def execCsiLongPacket (port : Fin 8) (vc : Fin 4) (hdr : Fin 3) (vcx : Bool) (dtype count : Nat) (good : Bool) (s : State) :
    Host.Outcome State Fault Refusal :=
  let p := port.val
  let v := vc.val
  if portOff s 3 p then .next s else
  match csiHeader s p hdr with
  | none => .next (csiHeaderBad s p v)
  | some s =>
    let c := csi s p
    if vcx then .next (csiEvent s p 4 v dtype) else
    let c := if good then c else { c with crc := sat 16 (c.crc + 1) }
    let s := setCsi s p c
    if dtype = 0x12 then .next s
    else match imageType dtype with
      | none => .next (csiEvent s p 1 v dtype)
      | some (fmt, bpp) =>
        if !c.busy.getLsbD v then .next s
        else
          let cur := tget 0 c.dtype v
          if cur ≠ 0 ∧ cur ≠ dtype then .next (csiEvent s p 1 v dtype)
          else
            let y := tget 0 c.lines v
            let s := setCsi s p { c with dtype := tput 0 c.dtype v dtype, lines := tput 0 c.lines v (y + 1) }
            let ks := pipesOf s (3, p, v)
            if !good then .next (ks.foldl (fun s k => capLost s k y) s)
            else
              let w := count * 8 / bpp
              let (px, s) := drawSpan s w
              .next (ks.foldl (fun s k => capPixels (capKnow s k fmt w) k y 0 w px) s)
/-- The lanes enter ULPS: the pipes' source is lost (R318). -/
def execCsiUlpsEntry (port : Fin 8) (s : State) : Host.Outcome State Fault Refusal :=
  let c := csi s port.val
  if portOff s 3 port.val then .next s else
  .next (portLost (setCsi s port.val { c with ulps := true, busy := 0#4 }) 3 port.val 3)
/-- A channel whose last started pipe has stopped will report its first frame start again (Table 11-9, cause 0). -/
def settleCsi (s : State) : State :=
  (List.range 8).foldl (fun s p =>
    let c := csi s p
    let told := (List.range 4).foldl (fun t v => if pipesOf s (3, p, v) = [] then t &&& ~~~(1#4 <<< v) else t) c.told
    if told = c.told then s else setCsi s p { c with told := told }) s

/-! ## Writes (R292, R300, R305, Table 5-7) -/

/-- A started pipe names the port of a kind. Log entry 45 (DEDUCED). -/
def portNamed (s : State) (kind p : Nat) : Bool := decide (pipesOfPort s kind p ≠ [])
/-- The refusals of a write that leaves word `w` of DPS[p], EDP[p] or CSI[p] at `v`. Log entry 45 (DEDUCED). -/
def stdPortRej (s : State) (cls p w : Nat) (v : Word) : Option Rej :=
  let a := mkAddr cls p w
  let rng : Rej := { status := .range, addr := a }
  match cls, w with
  | 0x09, 0 => firstRej [
      rejIf (decide (bits v 6 5 ≠ 0) && !bit v 4) { status := .badParam, addr := a },
      rejIf (decide (bits v 2 0 = 7)) rng,
      rejIf (dps s p).hpd { status := .busy, addr := a }]
  | 0x0A, _ =>
    let used := (activeOuts s).filter fun o => decide (outPort s o = (1, p))
    let rd : Rd := fun b c i x => if b = 0 ∧ c = 0x0A ∧ i = p ∧ x = w then v else projected s b c i x
    firstRej [
      rejIf (decide (w = 0) && !([1, 2, 4].contains (bits v 5 3))) rng,
      rejIf (decide (w = 0) && used.any fun o => (outBanks s s.modes.cur o).any fun b =>
        !edpCarries (pixelClock rd o) (panelBits (rd b 0x17 o 1)) (rd 0 0x0A p 0)) rng,
      rejIf (used.any fun o => timingRuns (out s o)) { status := .busy, addr := a }]
  | 0x0B, 0 => firstRej [
      rejIf (decide (bits v 2 0 = 0) || decide (bits v 2 0 > 4)) rng,
      rejIf (decide (bits v 31 16 < 80) || decide (bits v 31 16 > 4500)) rng,
      rejIf (portNamed s 3 p) { status := .busy, addr := a }]
  | _, _ => none
/-- CSI_RATE_MBPS is changed: kind-1 candidates that measure the receiver are disqualified (R179). -/
def stdPortWritten (s : State) (cls p w : Nat) (old new : Word) : State :=
  if cls = 0x0B ∧ w = 0 ∧ bits old 31 16 ≠ bits new 31 16 then rateChanged s 3 p else s

end Sys2Proof.Machine
end

