-- ==== Sys2Proof/Machine/Layers.lean ====
section
/-! DEFINITION. Layers at a commit tick (R351 to R377): scaler assignment, missed frames, the frames a route layer shows
(R435 to R439), and the surface descriptor check (R454). -/

namespace Sys2Proof.Machine
open Sys2Proof

/-- The readings of a layer's source on its output: the pipe it shows, none for a route with no pipe. -/
def layerPipe (s : State) (b n : Nat) : Option Nat :=
  match lyrRoute s b n with
  | none => none
  | some r =>
    let w := rteShown s b r (lyrOut s b n)
    if bit w 8 then none else some (40 * b + bits w 7 0)
/-- Assigns the scalers of a bank (R398). -/
def rescale (s : State) (b : Nat) : State :=
  let on := onLayers s b
  let needs := layerNeeds s (word s) s.modes.cur b on fun n r => rteShown s b r (lyrOut s b n)
  let t := assignScalers (sclOwned s b) (fun x => scl s (10 * b + x)) needs
  (List.range 10).foldl (fun s x => { s with scls := tput {} s.scls (10 * b + x) (tget {} t x) }) s
/-- The assignment in force in a bank, as `layerFits` reads it. -/
def assigned (s : State) (b : Nat) : Tab Scl := ((List.range 10).map fun x => (x, scl s (10 * b + x))).filter fun e => e.2.layer.isSome
/-- SCL_CFG words that wait for a commit tick of an output: those of the scalers that serve its layers (R399). -/
def scalersAt (s : State) (b o : Nat) : State :=
  (List.range 10).foldl (fun s x =>
    match (scl s (10 * b + x)).layer with
    | some n => if lyrOut s b n = o then takeUnit s b 0x15 x else s
    | none => s) s

/-- The weight of the newer frame in 64ths (R437). -/
def frcWeight (c eN eP : W64) : Nat :=
  let d := (eN - eP).toNat
  if d = 0 then 64 else min 64 ((128 * (c - eN).toNat + d) / (2 * d))

/-- A published frame at a base address of a bank. -/
def frameAtBase (s : State) (b base : Nat) : Option Frame :=
  s.caps.findSome? fun e => if e.1 / 40 = b then e.2.hist.find? fun f => decide (f.base = base) else none
/-- The descriptor of a surface agrees with LYR_SRC and LYR_SRC_SIZE (R454). -/
def descriptorOk (s : State) (b n : Nat) (f : Option Frame) : Bool :=
  match f with
  | none => false
  | some f => decide (f.fmt = bits (lyrWord s b n 2) 23 16) && decide (f.w = bits (lyrWord s b n 3) 15 0)
      && decide (f.h = bits (lyrWord s b n 3) 31 16)
/-- Adds to a W1C counter of a memory port (Table 5-10), saturating. -/
def countFst (s : State) (p w n : Nat) : State :=
  setWord s 0 0x19 p w (BitVec.ofNat 32 (sat 32 ((word s 0 0x19 p w).toNat + n)))
/-- Every tile of a surface is a failed source tile: FST_SRC_FAIL of the port that holds each slot (R444, R457). -/
def countSurfaceFail (s : State) (b base fmt tiles : Nat) : State :=
  let odd := ((List.range tiles).filter fun i => ((base + page4k (64 + 8 * tiles) + i * slotBytes fmt) / 4096) % 2 = 1).length
  countFst (countFst s (2 * b) 1 (tiles - odd)) (2 * b + 1) 1 odd

/-- What a layer finds at a commit tick: whether and why it misses, whether it shows nothing, and the frames it uses. -/
structure Judged where
  miss : Option Nat := none
  blank : Bool := false
  now : Option Frame := none
  before : Option Frame := none
  weight : Nat := 64

/-- The judging of Table 14-6. `absent` lists line-locked layers with an absent line in the frame that ends here. Log entry 65 (DEDUCED). -/
def judgeSource (s : State) (b n o : Nat) (absent : List Nat) : Judged :=
  let x := lyr s b n
  match lyrRoute s b n with
  | none =>
    let held := match x.flip, x.set with
      | some _, some i => some (if atomicSet (fset s i) then 1 else 0)
      | some _, none => some 0
      | none, _ => none
    let f := match x.pin with
      | some _ => x.now
      | none => match x.surf with
        | some a => frameAtBase s b a.toNat
        | none => none
    { miss := held, blank := x.surf.isNone, now := f }
  | some r =>
    match layerPipe s b n with
    | none => {}
    | some k =>
      let c := capAt s k
      if lineLocked s o then
        if !(capFeeds s k && capRunning c && c.locked) then { miss := some 4, blank := true }
        else if absent.contains (192 * b + n) then { miss := some 4 } else {}
      else
        let fs := countedFrames s k
        match fs with
        | [] => { miss := some 2, blank := true }
        | f :: rest =>
          if !(capRunning c || decide (c.st = 3)) then { miss := some 2, blank := true }
          else if c.st = 3 then { miss := some 3, now := some f }
          else
            let blend := bit (word s b 0x18 o 0) 0 && !(rte s b r o).fresh
            match blend, rest.head? with
            | true, some p => { now := some f, before := some p, weight := frcWeight s.tb.ns f.tick p.tick }
            | _, _ => { now := some f }

/-- Event 157 cause 1, once until the pipe has offered the path again (R350). -/
def pathCheck (s : State) (b n o : Nat) : State :=
  match lyrRoute s b n, layerPipe s b n with
  | some r, some k =>
    let x := rte s b r o
    if offersPath s k o then setRte s b r o { x with told := false }
    else if x.told then s
    else rteEvent (setRte s b r o { x with told := true }) 157 b r o false 1
  | _, _ => s
/-- Event 166, or event 157 cause 2 for a route layer that enters REFUSED (R377). -/
def refusedEvent (s : State) (b n o leaves : Nat) : State :=
  match lyrRoute s b n with
  | some r => if leaves = 1 then s else rteEvent s 157 b r o false 2
  | none => raiseBankCommit s b 166 (det n b o leaves)
/-- The missed-frame count and the state after judging (R369). -/
def judgeMiss (s : State) (b n o : Nat) (j : Judged) : State :=
  let x := lyr s b n
  let lim := bits (lyrWord s b n 8) 23 16
  match j.miss with
  | some cause =>
    let c := sat 8 (x.misses + 1)
    let clear := decide (lim ≠ 0) && decide (lim < c)
    let s := setLyr s b n { x with misses := c, st := if clear then 4 else 3, blank := j.blank || clear, now := j.now, before := j.before, weight := j.weight }
    let s := if x.st = 2 then raiseBankCommit s b 158 (det n (b + 16 * cause) o 0) else s
    if clear && decide (x.st ≠ 4) then raiseBankCommit s b 159 (det n b o lim) else s
  | none =>
    let s := setLyr s b n { x with misses := 0, st := 2, blank := j.blank, now := j.now, before := j.before, weight := j.weight }
    if x.st = 3 ∨ x.st = 4 then raiseBankCommit s b 160 (det n b o x.misses) else s
/-- A surface layer reads its surface's descriptor (R454, R457). -/
def descriptorCheck (s : State) (b n o : Nat) : State :=
  let x := lyr s b n
  match lyrRoute s b n, x.surf with
  | none, some a =>
    if x.blank || descriptorOk s b n x.now then s
    else
      let size := lyrWord s b n 3
      let tiles := tileCount (bits size 15 0) (bits size 31 16)
      let s := setLyr s b n { x with failed := tiles, toldFail := true }
      let s := countSurfaceFail s b a.toNat (bits (lyrWord s b n 2) 23 16) tiles
      raiseBankCommit s b 204 (det n (b + 32) o (sat 8 tiles))
  | _, _ => s
/-- The frame whose tiles stand in for failed ones of the frame in use (R457): for a route layer the one its pipe published before it, as long as its
buffer is not written into; for a surface layer its previous surface, where that has the same format and size. -/
def standIn (s : State) (b n : Nat) : Option Frame :=
  let x := lyr s b n
  match x.now, layerPipe s b n with
  | none, _ => none
  | some f, some k => (((capAt s k).hist.dropWhile fun g => decide (g.base ≠ f.base)).drop 1).head?
  | some f, none => if (lyrRoute s b n).isSome then none
    else (x.prev.bind fun a => frameAtBase s b a.toNat).filter fun g => decide (g.fmt = f.fmt) && decide (g.w = f.w) && decide (g.h = f.h)
/-- A source tile of a shown layer is found failed: it is counted at the memory port that holds its slot, and the co-located tile of the frame before
stands in where it passes (R457). -/
def failTile (s : State) (b n t : Nat) (ok : Bool) : State :=
  let x := lyr s b n
  match x.now with
  | none => s
  | some f =>
    if (x.bad.any fun e => decide (e.1 = t)) || decide (tileCount f.w f.h ≤ t) then s
    else
      let slot := f.base + page4k (64 + 8 * tileCount f.w f.h) + t * slotBytes f.fmt
      countFst (setLyr s b n { x with failed := x.failed + 1, bad := (t, ok && (standIn s b n).isSome) :: x.bad }) (2 * b + slot / 4096 % 2) 1 1
/-- Event 204, once for a layer and output frame (R457, Table 18-5). -/
def tellFails (s : State) (b o n : Nat) : State :=
  let x := lyr s b n
  match x.bad.getLast? with
  | none => s
  | some e => if x.toldFail then s
    else raiseBank (setLyr s b n { x with toldFail := true }) b 204 (det n (b + 16 * b2n !e.2) o (sat 8 x.failed))
/-- The source tiles that a job's fetches found failed. -/
def failTiles (s : State) (b o : Nat) (l : List (Nat × Nat × Bool)) : State :=
  let l := l.filter fun e => lyrShown s b e.1 && decide (lyrOut s b e.1 = o)
  let s := l.foldl (fun s e => failTile s b e.1 e.2.1 e.2.2) s
  (l.map (·.1)).dedup.foldl (fun s n => tellFails s b o n) s

/-- One shown layer at a commit tick (Table 14-3, R368 to R370, R403). -/
def judgeLayer (s : State) (b n o : Nat) (absent : List Nat) : State :=
  let s := setLyr s b n { lyr s b n with seenOn := some o, failed := 0, toldFail := false, bad := [] }
  let x := lyr s b n
  let j := judgeSource s b n o absent
  let size := match lyrRoute s b n with
    | none => let w := lyrWord s b n 3; (bits w 15 0, bits w 31 16)
    | some _ => match layerPipe s b n with
      | none => (0, 0)
      | some k => match j.now with
        | some f => (f.w, f.h)
        | none => ((capAt s k).w, (capAt s k).h)
  if !layerFits (word s) s.modes.cur b n size false (assigned s b) then
    let s := setLyr s b n { x with st := 5, blank := true, now := if x.pin.isSome then x.now else none, before := none }
    if x.st = 5 then s else refusedEvent s b n o 0
  else
    let s := if x.st = 5 then refusedEvent (setLyr s b n { x with st := 2, misses := 0 }) b n o 1 else s
    let x := lyr s b n
    let content := (lyrRoute s b n).isSome || x.flipped
    if x.st < 2 ∧ !content then setLyr s b n { x with st := 1, misses := 0, blank := true }
    else
      let s := if x.st < 2 then setLyr s b n { x with st := 2, misses := 0 } else s
      descriptorCheck (judgeMiss (pathCheck s b n o) b n o j) b n o

/-- The layers of an output that belong to released sets take their pending changes, and clearing writes are taken (Table
14-5, step 4). -/
def takeLayersAt (s : State) (banks : List Nat) (o : Nat) : State :=
  let ks := banks.flatMap fun b => ((onLayers s b).filter fun n => decide (lyrOut s b n = o)).map fun n => 192 * b + n
  ks.foldl (fun s k =>
    if clearing s k then takeClear s k
    else match (lyrAt s k).set with
      | some i => if (fset s i).released then takeLayer s k else s
      | none => s) s
/-- Event 161 for each atomic set that is not ready and holds a member this output would otherwise take (R367). Log entry 108 (DEDUCED). -/
def heldSets (s : State) (banks : List Nat) (o : Nat) : State :=
  (tkeys s.sets).foldl (fun s i =>
    let x := fset s i
    let here := x.members.any fun k => banks.contains (k / 192) && shownAt s k && decide (lyrOut s (k / 192) (k % 192) = o)
    if atomicSet x && !x.released && !x.held && here then
      let n := (x.members.filter fun k => !memberReady s k).length
      raiseBankCommit (setFset s i { x with held := true }) (setBank s x) 161 (setDetail x n)
    else s) s
/-- Steps 2 to 5 of Table 14-5 on one output, for the Wings that compose it. -/
def layersAt (s : State) (banks : List Nat) (o : Nat) (absent : List Nat) : State :=
  let s := releaseSets s
  let s := routesAt s banks o
  let s := takeLayersAt s banks o
  let s := heldSets s banks o
  let s := banks.foldl (fun s b => scalersAt (rescale s b) b o) s
  let s := banks.foldl (fun s b =>
    ((onLayers s b).filter fun n => decide (lyrOut s b n = o) && lyrShown s b n).foldl (fun s n => judgeLayer s b n o absent) s) s
  { s with freeCtr := s.freeCtr + 80 }

/-- The driving Wing's layers took a newly published frame at this commit tick (R439): `old` is the state before it. -/
def tookNew (old s : State) (b o : Nat) : Bool :=
  (onLayers s b).any fun n => decide (lyrOut s b n = o) && (lyrRoute s b n).isSome && lyrShown s b n && !lineLocked s o &&
    match (lyr s b n).now with
    | none => false
    | some f => match (lyr old b n).now with
      | none => true
      | some g => decide (g.tick ≠ f.tick) || decide (g.base ≠ f.base)
/-- FRC_STATE (R439). -/
def frcStateWord (s : State) (b o : Nat) : Word :=
  let served := (onLayers s b).any fun n => decide (lyrOut s b n = o) && (lyrRoute s b n).isSome && lyrShown s b n
  if served && outOfBank s o b then BitVec.ofNat 32 ((out s o).frcHist.filter id).length else 0#32
/-- LYR words 0x00, 0x09 and 0x0A. -/
def lyrStatusWord (s : State) (b n w : Nat) : Word :=
  let x := lyr s b n
  match w with
  | 0 => field 0 3 x.st ||| field 8 8 x.misses ||| field 16 1 (b2n x.flip.isSome)
  | 9 => (x.surf.getD 0#64).setWidth 32
  | 10 => ((x.surf.getD 0#64) >>> 32).setWidth 32
  | _ => 0#32
/-- A layer whose output has stopped or left its Wing, or that is enabled but not shown, rests (Table 14-3). -/
def restLayer (s : State) (b n : Nat) : State :=
  let x := lyr s b n
  let on := lyrOn s b n
  let o := lyrOut s b n
  let gone := decide (19 < o) || decide ((out s o).st = .stopped) || !outOfBank s o b
  let rest (st : Nat) : State :=
    setLyr s b n { x with st := st, misses := 0, blank := true, now := if x.pin.isSome then x.now else none, before := none }
  if !on then (if x.st = 0 then s else rest 0)
  else if x.st = 0 ∨ (2 ≤ x.st ∧ x.st ≤ 4 ∧ gone) then rest 1
  else s
/-- Every layer that has to. -/
def restLayers (s : State) : State :=
  let s := (tkeys s.lyrs).foldl (fun s k => restLayer s (k / 192) (k % 192)) s
  let s := (onLayers s 0).foldl (fun s n => restLayer s 0 n) s
  (onLayers s 1).foldl (fun s n => restLayer s 1 n) s

end Sys2Proof.Machine
end

