-- ==== Sys2Proof/Machine/Vitrine.lean ====
section
/-! DEFINITION. The Vitrine layer (chapter 15): slots, slot images, conditions, the expected frame CRC, VIT_DATA and
VIT_COMMIT. -/

namespace Sys2Proof.Machine
open Sys2Proof

/-! ## Slot images (Table 15-1) -/

/-- Format, width, height, palette entries of an image. -/
def imgFmt (b : List Byte) : Nat := byteAt b 2
def imgW (b : List Byte) : Nat := leAt b 4 2
def imgH (b : List Byte) : Nat := leAt b 6 2
def imgPal (b : List Byte) : Nat := leAt b 8 2
/-- Bytes of one row of an image. -/
def imgRow (b : List Byte) : Nat :=
  match imgFmt b with
  | 1 => 4 * imgW b | 2 => imgW b | _ => (imgW b + 1) / 2
/-- Magic, format, reserved fields, width, height, palette and length are as Table 15-1 gives. -/
def imgShapeOk (b : List Byte) (len : Nat) : Bool :=
  let n := imgPal b
  decide (leAt b 0 2 = 0x56A1) && decide (byteAt b 3 = 0) && (slice b 10 6).all (· = 0#8)
    && decide (1 ≤ imgW b) && decide (imgW b ≤ 2048) && decide (1 ≤ imgH b) && decide (imgH b ≤ 2048)
    && (match imgFmt b with
        | 1 => decide (n = 0)
        | 2 => decide (1 ≤ n) && decide (n ≤ 256)
        | 3 => decide (1 ≤ n) && decide (n ≤ 16)
        | _ => false)
    && decide (len = 16 + 4 * n + imgH b * imgRow b)
/-- The palette index of a pixel in formats 2 and 3. -/
def imgIndex (b : List Byte) (x y : Nat) : Nat :=
  let o := 16 + 4 * imgPal b + y * imgRow b
  if imgFmt b = 2 then byteAt b (o + x)
  else if x % 2 = 0 then byteAt b (o + x / 2) % 16 else byteAt b (o + x / 2) / 16
/-- Every pixel index is below n. -/
def imgIndexOk (b : List Byte) : Bool :=
  decide (imgFmt b = 1) || (List.range (imgH b)).all fun y => (List.range (imgW b)).all fun x => decide (imgIndex b x y < imgPal b)
/-- A pixel of an image, as the word of a palette entry. -/
def imgPixel (b : List Byte) (x y : Nat) : Word :=
  if imgFmt b = 1 then BitVec.ofNat 32 (leAt b (16 + y * imgRow b + 4 * x) 4)
  else BitVec.ofNat 32 (leAt b (16 + 4 * imgIndex b x y) 4)
/-- A factor of R383: `big` is 1 to 4 times `small`. -/
def factor (big small : Nat) : Bool := decide (0 < small) && decide (big % small = 0) && decide (1 ≤ big / small) && decide (big / small ≤ 4)
/-- An image fits a size of w × h (R383). -/
def imgFits (b : List Byte) (w h : Nat) : Bool := factor w (imgW b) && factor h (imgH b)

/-! ## Slots (R378) -/

/-- One slot. -/
def slot (s : State) (n : Nat) : Slot := tget {} s.slots n
/-- Sets it. -/
def setSlot (s : State) (n : Nat) (x : Slot) : State := { s with slots := tput {} s.slots n x }
/-- The verified image of a slot. -/
def slotImage (s : State) (n : Nat) : List Byte := sized (slot s n).verified (slot s n).len
/-- One Vitrine layer. -/
def vit (s : State) (o : Nat) : Vit := tget {} s.vits o
/-- Sets it. -/
def setVit (s : State) (o : Nat) (v : Vit) : State := { s with vits := tput {} s.vits o v }
/-- A VIT word of a reading; VIT is not banked. -/
def rdVit (rd : Rd) (o w : Nat) : Word := rd 0 0x14 o w
/-- The alpha in effect (R385). -/
def vitAlpha (w : Word) : Nat := max (bits w 9 0) (bits w 25 16)

/-! ## What a layer shows -/

/-- The settings of an output's Vitrine layer: those of the VIT words, or of the boot frame (R395). -/
structure VitView where
  on : Bool
  slot : Nat
  x : Int
  y : Int
  w : Nat
  h : Nat
  alpha : Nat
  safeFill : Bool
  safeSlot : Nat
  deriving DecidableEq, Repr

/-- A signed 16-bit coordinate pair is unsigned here: VIT_POS as LYR_POS. -/
def posOf (w : Word) : Int × Int := ((bits w 15 0 : Nat), (bits w 31 16 : Nat))
/-- The view of an output's layer. -/
def vitView (s : State) (o : Nat) : VitView :=
  if s.boot.bootOuts.contains o then
    let sl := bits (word s 0 0x26 0 2) 5 0
    let img := slotImage s sl
    let r := tget (0#32, 0#32) s.boot.bootRects o
    let w := bits r.2 15 0
    let h := bits r.2 31 16
    if imgFits img w h then
      { on := true, slot := sl, x := (posOf r.1).1, y := (posOf r.1).2, w := w, h := h, alpha := 1023, safeFill := true, safeSlot := 0 }
    else
      { on := true, slot := sl, x := ((hAct (word s) o : Int) - imgW img) / 2, y := ((vAct (word s) o : Int) - imgH img) / 2,
        w := imgW img, h := imgH img, alpha := 1023, safeFill := true, safeSlot := 0 }
  else
    let sl := rdVit (word s) o 1
    let p := posOf (rdVit (word s) o 2)
    let z := rdVit (word s) o 3
    let sf := rdVit (word s) o 5
    { on := bit sl 31, slot := bits sl 5 0, x := p.1, y := p.2, w := bits z 15 0, h := bits z 31 16,
      alpha := vitAlpha (rdVit (word s) o 4), safeFill := bit sf 8, safeSlot := bits sf 5 0 }

/-- The result of a Vitrine fetch: none where ready, else the cause of event 177 (R387). Log entry 65 (DEDUCED). -/
def fetchSlot (s : State) (n w h : Nat) (late : Bool) : Option Nat :=
  let x := slot s n
  if x.len = 0 then some 0
  else if crc32c (slotImage s n) ≠ x.crc then some 1
  else if !imgFits (slotImage s n) w h then some 2
  else if late then some 3
  else none

/-- One 8-bit component of an opaque Vitrine pixel at panel depth (R386). -/
def vitDepth (depth v : Nat) : Nat :=
  if depth = 10 then 4 * v + v / 64 else if depth = 8 then v else min 63 ((v + 2) / 4)
/-- The six bytes a checked pixel gives the frame CRC (R390). -/
def checkBytes (r g b : Nat) : List Byte := leBytes 2 r ++ leBytes 2 g ++ leBytes 2 b
/-- The checked bytes of an image's opaque pixels inside the active area, in raster order. -/
def imageCheck (s : State) (o : Nat) (v : VitView) (img : List Byte) : List Byte :=
  let depth := panelDepth s o
  let a := v.w / max 1 (imgW img)
  let b := v.h / max 1 (imgH img)
  (List.range v.h).flatMap fun (j : Nat) => (List.range v.w).flatMap fun (i : Nat) =>
    let px := v.x + (i : Int)
    let py := v.y + (j : Int)
    if px < 0 ∨ (hAct (word s) o : Int) ≤ px ∨ py < 0 ∨ (vAct (word s) o : Int) ≤ py then []
    else
      let p := imgPixel img (i / max 1 a) (j / max 1 b)
      if bits p 31 24 = 255 then checkBytes (vitDepth depth (bits p 23 16)) (vitDepth depth (bits p 15 8)) (vitDepth depth (bits p 7 0))
      else []
/-- The checked bytes of a fill pattern at depth 10: every pixel of the clipped rectangle. Log entry 71 (DEDUCED). -/
def fillCheck (s : State) (o : Nat) (v : VitView) : List Byte :=
  let f := outWord s o 10
  (List.range v.h).flatMap fun (j : Nat) => (List.range v.w).flatMap fun (i : Nat) =>
    let px := v.x + (i : Int)
    let py := v.y + (j : Int)
    if px < 0 ∨ (hAct (word s) o : Int) ≤ px ∨ py < 0 ∨ (vAct (word s) o : Int) ≤ py then []
    else checkBytes (bits f 29 20) (bits f 19 10) (bits f 9 0)
/-- Sets the expected CRC of the frame to come (R390). A fill pattern below depth 10 has components that R386 does not
reduce: its CRC is free. Log entry 71 (DEDUCED). -/
def expectFrame (s : State) (o : Nat) : State :=
  let v := vitView s o
  let x := vit s o
  let put (s : State) (l : List Byte) : State :=
    if l = [] then setVit s o { x with expect := 0#32, checked := false }
    else setVit s o { x with expect := crc32c l, checked := true }
  match x.cond with
  | .content | .stale => if v.alpha = 1023 then put s (imageCheck s o v (x.held.getD [])) else put s []
  | .safe =>
    match if v.safeFill then none else x.heldSafe with
    | some img => put s (imageCheck s o v img)
    | none =>
      let l := fillCheck s o v
      if l = [] ∨ panelDepth s o = 10 then put s l
      else let (w, s) := drawWord s; setVit s o { x with expect := w, checked := true }
  | _ => put s []

/-! ## Conditions (Table 15-5) -/

/-- The code of a condition in event 173. -/
def condCode : VitCond → Nat
  | .content => 0 | .stale => 1 | _ => 2
/-- VIT_STATE. -/
def vitStateWord (s : State) (o : Nat) : Word :=
  let x := vit s o
  let v := vitView s o
  let safe := decide (x.cond = .safe) || decide (x.cond = .overridden)
  let shown := if safe then (if v.safeFill then v.slot else v.safeSlot) else x.slot
  field 16 16 x.fails ||| field 12 1 (b2n safe) ||| field 8 4 x.stale ||| (if x.cond = .off then 0#32 else field 0 6 shown)
/-- Enters SAFE (event 174). -/
def enterSafe (s : State) (o cause : Nat) : State :=
  let v := vitView s o
  let x := vit s o
  let s := setVit s o { x with cond := .safe, cause := cause, bad := 0, good := 0, inSafe := 0, stale := if cause = 0 then 8 else x.stale }
  raiseCommit s 174 (det o v.slot (if v.safeFill then 0xFF else v.safeSlot) cause)
/-- Content is shown: the fetched copy is the held copy, with event 172 where the slot or its copy changed. -/
def showContent (s : State) (o : Nat) : State :=
  let v := vitView s o
  let x := vit s o
  let crc := (slot s v.slot).crc
  let new := decide (x.cond = .off) || decide (x.slot ≠ v.slot) || decide (x.shownCrc ≠ crc)
  let s := setVit s o { x with cond := .content, stale := 0, slot := v.slot, held := some (slotImage s v.slot), shownCrc := crc }
  if new && (x.cond = .off || x.cond = .content || x.cond = .stale) then raiseCommit s 172 (det o v.slot 0 0) else s
/-- The output check of the frame that ends at this commit tick, on the driving Wing (R391). -/
def vitCheck (s : State) (o : Nat) (seen : Option Word) : State :=
  let x := vit s o
  match seen with
  | none => s
  | some c =>
    if !x.checked || decide (x.cond = .off) || decide (x.cond = .overridden) || (out s o).gapInFrame then s
    else if c = x.expect then setVit s o { x with bad := 0, good := sat 8 (x.good + 1) }
    else
      let s := setVit s o { x with fails := sat 16 (x.fails + 1), bad := sat 8 (x.bad + 1), good := 0 }
      raiseCommit s 173 (det o (condCode x.cond) (sat 8 (x.bad + 1)) (wingCode (out s o).wing))
/-- Takes the output's waiting VIT words, with event 178 where CP1 disables the layer or lowers its floor. Log entry 70 (DEDUCED). -/
def vitTake (s : State) (o : Nat) : State :=
  if waitingWords s 0 0x14 o = [] then s
  else
    let was := waiting s 0 0x14 o 1
    let on0 := bit (word s 0 0x14 o 1) 31
    let fl0 := bits (word s 0 0x14 o 4) 25 16
    let s := takeUnit s 0 0x14 o
    let x := vit s o
    let fl1 := bits (word s 0 0x14 o 4) 25 16
    let s := setVit s o { x with byCp1 := false, fresh := x.fresh || decide (was.1 ≠ 0#32) }
    let s := if x.byCp1 && on0 && !bit (word s 0 0x14 o 1) 31 then raise s 178 (det o (fl0 / 4) (fl1 / 4) 0) else s
    if x.byCp1 && decide (fl1 < fl0) then raise s 178 (det o (fl0 / 4) (fl1 / 4) 1) else s
/-- The fetch and the change of condition at a commit tick (R387, R388). -/
def vitTick (s : State) (o : Nat) (late safeLate : Bool) : State :=
  let v := vitView s o
  let x := vit s o
  if !v.on then setVit s o { fails := x.fails }
  else
    let why := fetchSlot s v.slot v.w v.h late
    let s := setSlot s v.slot { slot s v.slot with fetched := some s.clk }
    let s := if v.safeFill then s else setSlot s v.safeSlot { slot s v.safeSlot with fetched := some s.clk }
    let s := if !v.safeFill && (fetchSlot s v.safeSlot v.w v.h safeLate).isNone then
        setVit s o { vit s o with heldSafe := some (slotImage s v.safeSlot) } else s
    let x := vit s o
    let s := match x.cond with
      | .off => if why.isNone then showContent s o else enterSafe (setVit s o { x with slot := v.slot }) o 0
      | .content | .stale =>
        if 2 ≤ x.bad then enterSafe s o 1
        else match why with
          | none => showContent s o
          | some c =>
            let n := x.stale + 1
            if n ≤ 8 ∧ x.held.isSome then
              let s := setVit s o { x with cond := .stale, stale := n }
              if n = 1 then raiseCommit s 177 (det o v.slot c 0) else s
            else enterSafe s o 0
      | .safe =>
        if 2 ≤ x.bad then raiseCommit (setVit s o { x with cond := .overridden, fresh := false }) 176 (det o v.slot 0 0)
        else if why.isNone ∧ (x.cause = 0 ∨ (x.cause = 1 ∧ 8 ≤ x.good)) then
          let s := showContent s o
          raiseCommit (setVit s o { vit s o with bad := 0 }) 175 (det o v.slot (sat 8 x.inSafe) 0)
        else setVit s o { x with inSafe := x.inSafe + 1 }
      | .overridden =>
        if x.fresh ∧ why.isNone then
          let s := showContent s o
          raiseCommit (setVit s o { vit s o with bad := 0 }) 176 (det o v.slot 0 1)
        else s
    let s := setVit s o { vit s o with fresh := false }
    expectFrame s o
/-- The layer's condition ends with its output (Table 15-5). -/
def vitEnd (s : State) (o : Nat) : State := setVit s o { fails := (vit s o).fails }
/-- A new driving Wing holds no copies (R394). -/
def vitMoved (s : State) (o : Nat) : State := setVit s o { vit s o with held := none, heldSafe := none }

/-! ## Writes and commands -/

/-- A slot that is not empty does not fit a size. -/
def slotMisfit (s : State) (n : Nat) (size : Word) : Bool :=
  decide ((slot s n).len ≠ 0) && !imgFits (slotImage s n) (bits size 15 0) (bits size 31 16)
/-- A write by a port other than CP1 that clears VIT_SLOT bit 31 or lowers the floor (Table 15-3). Log entry 72 (DEDUCED). -/
def vitAuthRej (p : Port) (w : Nat) (old new : Word) : Bool :=
  decide (p ≠ .cp1) && ((decide (w = 1) && bit old 31 && !bit new 31) || (decide (w = 4) && decide (bits new 25 16 < bits old 25 16)))
/-- The other rows of Table 15-3, against VIT words as they would stand; `ws` are the words written. Log entry 70 (DEDUCED). -/
def vitRej (s : State) (rd : Rd) (o : Nat) (ws : List Nat) : Option Rej :=
  let size := rdVit rd o 3
  let sl := bits (rdVit rd o 1) 5 0
  let sf := rdVit rd o 5
  firstRej [
    rejIf (ws.contains 4 && decide (bits (rdVit rd o 4) 25 16 < 256)) { status := .range, addr := mkAddr 0x14 o 4 },
    rejIf ((ws.contains 1 || ws.contains 3 || ws.contains 5)
      && (slotMisfit s sl size || (!bit sf 8 && slotMisfit s (bits sf 5 0) size)))
      { status := .badParam, addr := mkAddr 0x14 o (ws.headD 3) }]

/-- A slot is held by an unfinished VIT_COMMIT (R381). -/
def slotHeld (n : Nat) (r : Run) : Bool :=
  match r.job with
  | .vitCommit m _ => decide (m = n)
  | _ => false
/-- VIT_DATA (R121, R381). -/
def opVitData (q : Req) (n : Byte) (off : Word) (data : List Byte) : Op :=
  { opcode := 0x84
    auth := fun _ => .authenticated
    check := fun s => firstRej [
      rejIf (decide (n.toNat > 63) || decide (off.toNat + data.length > 32768)) (rejSt .range),
      heldRej s (slotHeld n.toNat), rejIf (decide (s.clk < (slot s n.toNat).readTo)) (rejSt .busy)]
    run := fun s =>
      let x := slot s n.toNat
      done (bulkPush (setSlot s n.toNat { x with staging := patch x.staging off.toNat data }) q 0x84 []) }
/-- An enabled layer names the slot and the image would not fit its VIT_SIZE. -/
def commitMisfit (s : State) (n : Nat) (img : List Byte) : Bool :=
  (List.range 20).any fun o =>
    let w := rdVit (word s) o 1
    let z := rdVit (word s) o 3
    bit w 31 && timingRuns (out s o) && (decide (bits w 5 0 = n) || decide (bits (rdVit (word s) o 5) 5 0 = n))
      && !imgFits img (bits z 15 0) (bits z 31 16)
/-- VIT_COMMIT (R380). -/
def opVitCommit (n : Byte) (len : Word) (crc : Word) : Op :=
  { opcode := 0x85
    auth := fun _ => .authenticated
    job := some (.vitCommit n.toNat len.toNat)
    check := fun s =>
      let img := sized (slot s n.toNat).staging len.toNat
      firstRej [
        rejIf (decide (n.toNat > 63) || decide (len.toNat = 0) || decide (len.toNat > 32768)) (rejSt .range),
        heldRej s (slotHeld n.toNat),
        rejIf (decide (crc32c img ≠ crc)) (rejSt .badCrc),
        rejIf (!imgShapeOk img len.toNat) (rejSt .badParam),
        rejIf (!imgIndexOk img) (rejSt .badParam),
        rejIf (commitMisfit s n.toNat img) (rejSt .badParam)] }
/-- The copies of a slot exchange roles (R378). A fetch that began at most 40 µs before may go on reading the copy that is
now the staging copy, for at most 40 µs; for how long is free (R381). -/
def exchange (s : State) (n len : Nat) : State :=
  let x := slot s n
  let (f, s) := drawWord s
  let busy := match x.fetched with
    | some t => if s.clk - t ≤ 40000 then s.clk + f.toNat % 40001 else 0
    | none => 0
  setSlot s n { x with verified := x.staging, staging := x.verified, len := len, crc := crc32c (sized x.staging len), readTo := busy }
/-- A VIT_COMMIT completes (R378, R380). -/
def execVitCommitComplete (n : Fin 64) (s : State) : Host.Outcome State Fault Refusal :=
  match takeRun (slotHeld n.val) s.runs with
  | none => .next s
  | some (r, rest) =>
    let len := match r.job with
      | .vitCommit _ l => l
      | _ => 0
    .next (finishRun (exchange { s with runs := rest } n.val len) r .ok [])

end Sys2Proof.Machine
end

