-- ==== Sys2Proof/Machine/Wings.lean ====
section
/-! DEFINITION. Wing redundancy and fail-over (chapter 21), and how a self-test ends (R125). -/

namespace Sys2Proof.Machine
open Sys2Proof

/-! ## Words and balls -/

/-- The cause byte (Table 21-2). -/
def causeByte (x : WingSt) : Nat := x.cause % 16 + 16 * b2n x.readmit + 32 * b2n x.heldOut
/-- WNG_STATE. -/
def wngStateWord (s : State) (w : Wing) : Word :=
  let x := wing s w
  field 0 2 x.role ||| field 4 1 (b2n x.armed) ||| field 8 8 (causeByte x)
/-- A self-test runs on a target: 0 Wing A, 1 Wing B, 2 Atrium. -/
def testOn (t : Nat) (r : Run) : Bool :=
  match r.job with
  | .selftest _ target _ => decide (target = t)
  | _ => false
/-- WNG_HEALTH (Table 21-10). -/
def wngHealthWord (s : State) (w : Wing) : Word :=
  let x := wing s w
  field 16 16 x.health.against ||| field 8 8 (sat 8 x.health.unresolved) ||| field 7 1 (b2n x.heldOut) ||| field 6 1 (b2n x.readmit)
    ||| field 5 1 (b2n (s.runs.any (testOn (wingCode w)))) ||| field 4 1 (b2n x.armed) ||| field 0 4 x.health.lastCause
/-- WA_ACT or WB_ACT is high (R509). -/
def actHigh (s : State) (w : Wing) : Bool := let r := (wing s w).role; decide (r = 1) || decide (r = 2)
/-- The Wings that compose an output and are on: their banks. -/
def composers (s : State) (o : Nat) : List Nat := [0, 1].filter fun b => outOfBank s o b
/-- Changes a Wing's health counters. -/
def setHealth (s : State) (w : Wing) (f : Health → Health) : State := let x := wing s w; setWing s w { x with health := f x.health }

/-! ## Self-tests (R125, R511) -/

/-- A self-test forms its Placard. What an aborted test gives as failing unit and detail is free. -/
def endTest (s : State) (t outcome unit : Nat) (detail : Word) : State :=
  match takeRun (testOn t) s.runs with
  | none => s
  | some (r, rest) =>
    let cls := match r.job with
      | .selftest c _ _ => c
      | _ => 0
    let s := { s with runs := rest }
    let (body, s) := if outcome = 2 then drawBytes s 6 else (leBytes 2 unit ++ wordBytes detail, s)
    raise (finishRun s r .ok ([BitVec.ofNat 8 outcome, 0#8] ++ body)) 254 (det cls t outcome (portCode r.req.port))

/-! ## Faults and give-up (R510, R511) -/

/-- A source of Table 21-3 with causes 1 to 5 fires in a Wing. -/
def wingFault (s : State) (w : Wing) (cause : Nat) : State :=
  -- A supply or clock warning breaks the span of clear monitors that re-admission asks for (R521).
  let s := if cause = 4 ∨ cause = 5 then setWing s w { wing s w with badAt := s.clk } else s
  let x := wing s w
  if x.role = 0 then s
  else
    let s := setHealth s w fun h => match cause with
      | 1 => { h with lockstep := sat 16 (h.lockstep + 1) }
      | 3 => { h with engine := sat 16 (h.engine + 1) }
      | 4 => { h with supply := sat 16 (h.supply + 1) }
      | 5 => { h with clock := sat 16 (h.clock + 1) }
      | _ => h
    if bit (word s 0 0x21 (wingCode w) 2) (cause - 1) then
      let x := wing s w
      setWing s w { x with asserted := x.asserted <|> some cause }
    else raise s 239 (det (wingCode w) cause 0 0)
/-- A Wing gives up whatever WNG_FAULT_EN holds: causes 6 to 8. -/
def mustGiveUp (s : State) (w : Wing) (cause : Nat) : State :=
  let x := wing s w
  if x.role = 0 then s else setWing s w { x with asserted := x.asserted <|> some cause }
/-- WING_FAULT: causes 1 to 5 of Table 21-3. -/
def execWingFault (w : Wing) (cause : Fin 5) (s : State) : Host.Outcome State Fault Refusal := .next (wingFault s w (cause.val + 1))
/-- A Wing's supply monitor reports its rail outside ±10 %: the Atrium clamps the Wing, which is its give-up (R10, R511). A
Wing that is off already is not a fault (R32, R609); one that is being woken or re-admitted is clamped all the same, and cannot become ready. -/
def execWingSupplyFault (w : Wing) (s : State) : Host.Outcome State Fault Refusal :=
  let s := setWing s w { wing s w with supplyBad := true, badAt := s.clk }
  .next (mustGiveUp s w 6)

/-- The outputs of a Wing that are running or idle on their link: those that can go to FILL. -/
def fillable (s : State) (w : Wing) : List Nat :=
  (List.range 20).filter fun n => decide ((out s n).wing = w) && (decide ((out s n).st = .running) || decide ((out s n).st = .linkIdle))
/-- The active Wing has given up and no takeover follows (R520). `why` is byte 2 of event 234. -/
def noTakeover (s : State) (w : Wing) (cause why : Nat) : State :=
  let n := (fillable s w).length
  let s := raise (fillOutputs s w) 234 (det (wingCode w) cause why n)
  let y := wing s (otherWing w)
  if why ≠ 2 ∧ y.role = 3 ∧ causeByte y = 0 then setWing s (otherWing w) { y with role := 2, armed := false } else s
/-- G: a give-up becomes visible in CLK_CTL (R511, R516, R520, R526). `both` says the other Wing's give-up becomes visible on
the same edge. Log entry 107 (DESIGN CHOICE). -/
def giveUp (s : State) (w : Wing) (cause : Nat) (both : Bool) : State :=
  let x := wing s w
  let wasStandby := decide (x.role = 3)
  let wasActive := decide (x.role = 2)
  let again := decide (cause ≠ 8) && match x.readmittedAt with
    | some t => decide (s.clk - t < 60000000000)
    | none => false
  let s := raise s 232 (det (wingCode w) cause x.role 0)
  let started := (List.range 40).filter fun n => decide ((capAt s (40 * wingCode w + n)).st ≠ 0)
  let s := endTest s (wingCode w) 2 0 0#32
  let s := if wasStandby then disarm s w 3 else s
  let s := capWingStops s (wingCode w)
  let x := wing s w
  let s := setWing s w { x with
    role := 0, cause := cause, readmit := !again, heldOut := again, step := if again then 0 else 1, armed := false, asserted := none,
    ready := false, gAt := s.clk, pipes := started, divPipes := [], divRoutes := [],
    health := { x.health with lastCause := cause, lastG := s.tb.ns, gaveUp := sat 16 (x.health.gaveUp + 1) } }
  let s := raise s 237 (det (wingCode w) (if again then 3 else 0) 0 0)
  if wasActive then
    let y := wing s (otherWing w)
    if y.role = 3 ∧ y.armed ∧ !both then
      let s := { s with failover := some { old := w, cause := cause, k := s.clk + 8192 } }
      (List.range 20).foldl (fun s n =>
        let o := out s n
        if timingRuns o then setOut s n { o with gap := true, gapTo := none, gapInFrame := true } else s) s
    else noTakeover s w cause (if both then 2 else 0)
  else if wasStandby then s
  else fillOutputs s w
/-- GIVE_UP: G of a Wing that has asserted its give-up. Log entry 107 (DESIGN CHOICE). -/
def execGiveUp (w : Wing) (both : Bool) (s : State) : Host.Outcome State Fault Refusal :=
  match (wing s w).asserted with
  | none => .next s
  | some c => .next (giveUp s w c both)

/-- K (R516, R518, R520): `checks` says the standby's queues and line counts agree with the hold stage's. -/
def takeover (s : State) (f : Failover) (checks : Bool) : State :=
  let w := otherWing f.old
  let y := wing s w
  let s := { s with failover := none }
  if y.role = 3 ∧ y.armed ∧ y.asserted.isNone ∧ checks then
    let s := setWing s w { y with role := 2, armed := false, health := { y.health with takeovers := sat 16 (y.health.takeovers + 1) } }
    let outs := (List.range 20).filter fun n => (out s n).gap
    let s := outs.foldl (fun s n => setOut s n { out s n with gapTo := some w }) s
    raise s 233 (det (wingCode w) (wingCode f.old) outs.length 0)
  else noTakeover s f.old f.cause 1
/-- TAKEOVER: K has come, 4,096 CLK_CTL cycles after G (R516). -/
def execTakeover (checks : Bool) (s : State) : Host.Outcome State Fault Refusal :=
  match s.failover with
  | none => .next s
  | some f => if s.clk < f.k then .next s else .next (takeover s f checks)

/-- FAILOVER_FORCE (R124). -/
def opFailoverForce : Op :=
  { opcode := 0xC4
    sched := .yes
    auth := fun _ => .privileged
    check := fun s => firstRej [
      rejIf (decide (s.modes.cur ≠ 2)) (rejSt .modeForbids),
      rejIf (!(wing s (otherWing (activeWing s))).armed) (rejSt .busy)]
    run := fun s => done (mustGiveUp s (activeWing s) 8) }

/-! ## Clean frames -/

/-- The Wing that is standby. -/
def standby (s : State) : Option Wing := if s.wingA.role = 3 then some .a else if s.wingB.role = 3 then some .b else none
/-- Conditions 4 and 5 of R515. -/
def framesReady (s : State) : Bool :=
  (activeOuts s).all fun o => (!(vitView s o).on || (vit s o).held.isSome) && decide (2 ≤ (out s o).goodFrames)
/-- Notes that the frame in progress of an output is no clean frame of the standby, which disarms it at once (R515). -/
def dirtyFrame (s : State) (o : Nat) : State :=
  let s := setOut s o { out s o with frameBad := true, goodFrames := 0 }
  match standby s with
  | some w => if (wing s w).armed && !framesReady s then disarm s w 5 else s
  | none => s

/-! ## Arming (R514, R515) -/

/-- Routes whose switch state differs between the Wings on an output. -/
def routesDiffer (s : State) (o : Nat) : List Nat :=
  (List.range 64).filter fun r => decide ((rte s 0 r o).st ≠ (rte s 1 r o).st)
/-- The divergence of routes at a commit tick (R514). Log entry 67 (DEDUCED). -/
def routeDivergence (s : State) (o : Nat) : State :=
  match standby s with
  | none => s
  | some w =>
    let now := routesDiffer s o
    let key (r : Nat) : Nat := 20 * r + o
    let x := wing s w
    let twice := now.find? fun r => x.divRoutes.contains (key r)
    let new := now.filter fun r => !x.divRoutes.contains (key r)
    let kept := x.divRoutes.filter fun k => decide (k % 20 ≠ o)
    let s := setWing s w { x with divRoutes := kept ++ now.map key,
                                  health := { x.health with diverged := sat 16 (x.health.diverged + new.length) } }
    match twice with
    | some r => if x.armed then disarm (raise s 238 (det (wingCode w) 1 r 0)) w 2 else s
    | none => s
/-- The conditions of R515 on a standby. -/
def armConditions (s : State) (w : Wing) : Bool :=
  let x := wing s w
  decide (x.role = 3) && decide (causeByte x = 0) && !s.runs.any (testOn (wingCode w))
    && ((List.range 40).all fun n => decide ((capAt s n).st = (capAt s (40 + n)).st))
    && ((activeOuts s).all fun o => decide (routesDiffer s o = [])) && framesReady s
/-- A frame of an output ends: the standby's clean frames are counted, and the standby arms where every condition holds. -/
def armAt (s : State) (o : Nat) : State :=
  match standby s with
  | none => s
  | some w =>
    let x := out s o
    let s := setOut s o { x with goodFrames := if x.frameBad then 0 else min 2 (x.goodFrames + 1), frameBad := false }
    let y := wing s w
    if y.armed then (if framesReady s then s else disarm s w 5)
    else if armConditions s w then raise (setWing s w { y with armed := true }) 235 (det (wingCode w) 0 0 0) else s

/-! ## Re-admission (R521, R526, R527) -/

/-- The Wing is held out (R527), with byte 1 of event 237. -/
def holdOut (s : State) (w : Wing) (why : Nat) : State :=
  let x := wing s w
  raise (setWing s w { x with role := 0, readmit := false, heldOut := true, step := 0 }) 237 (det (wingCode w) why 0 0)
/-- The core clock of a Wing has lost lock. -/
def clockLost (s : State) : Wing → Bool
  | .a => s.clocks.lostA
  | .b => s.clocks.lostB
/-- The monitors of a Wing have shown no warning or failure for 10 ms since G (R521). -/
def monitorsClear (s : State) (w : Wing) : Bool :=
  let x := wing s w
  decide (max x.gAt x.badAt + 10000000 ≤ s.clk) && !clockLost s w
/-- READMISSION_MONITOR_CLEAR: the Wing leaves reset and is readied; the rail of a clamped one is back in its range. -/
def execReadmissionMonitorClear (w : Wing) (s : State) : Host.Outcome State Fault Refusal :=
  let x := wing s w
  if x.readmit ∧ x.step = 1 ∧ monitorsClear s w then .next (setWing s w { x with step := 2, supplyBad := false }) else .next s
/-- A Wing in step 1 of re-admission has not had clear monitors within 1 s of G (R526). -/
def monitorsLate (s : State) (w : Wing) : Bool := let x := wing s w; x.readmit && decide (x.step = 1) && decide (x.gAt + 1000000000 ≤ s.clk)
/-- READMISSION_MONITOR_TIMEOUT. -/
def execReadmissionMonitorTimeout (w : Wing) (s : State) : Host.Outcome State Fault Refusal :=
  if monitorsLate s w then .next (holdOut s w 4) else .next s
/-- A readied Wing is loaded from the configuration shadow and tested: steps 3 and 4. The words of its bank are the
shadow, which went on taking writes (R495). Log entry 106 (DEDUCED). -/
def readmitReady (s : State) (w : Wing) : State := warpClear (setWing s w { wing s w with step := 3 }) (wingCode w)
/-- The re-admission test has ended; `failed` names the class that failed. Log entry 106 (DEDUCED). -/
def execReadmissionTestDone (w : Wing) (failed : Option Byte) (s : State) : Host.Outcome State Fault Refusal :=
  let x := wing s w
  if x.readmit ∧ x.step = 3 then
    -- A Wing that is clamped for its supply passes no test (R10).
    let failed := if x.supplyBad then some (failed.getD 3#8) else failed
    let tell (s : State) (c : Nat) : State := raise s 254 (det c (wingCode w) (b2n (decide (failed = some (BitVec.ofNat 8 c)))) 5)
    let s := tell s 3
    let s := if failed = some 3#8 then s else tell (tell s 1) 2
    match failed with
    | some _ => .next (holdOut (setWing s w { wing s w with cause := 9 }) w 2)
    | none =>
      let x := wing s w
      let role := if s.modes.cur = 2 then 3 else 1
      let s := setWing s w { x with role := role, cause := 0, readmit := false, step := 0, readmittedAt := some s.clk, pipes := [],
                                    health := { x.health with readmitted := sat 16 (x.health.readmitted + 1) } }
      let s := raise s 237 (det (wingCode w) 1 0 0)
      let ps := if s.modes.cur = 2 then (List.range 40).filter fun n => decide ((capAt s (40 * (1 - wingCode w) + n)).st ≠ 0) else x.pipes
      let s := ps.foldl (fun s n => setCap s (40 * wingCode w + n) { capAt s (40 * wingCode w + n) with st := 1, det := none }) s
      .next ((List.range 20).foldl dirtyFrame s)
  else .next s

/-! ## The health report (R525) -/

/-- The 64 bytes of HEALTH_REPORT (Table 21-9). -/
def healthBytes (s : State) (w : Wing) : List Byte :=
  let x := wing s w
  let h := x.health
  let b := [BitVec.ofNat 8 (wingCode w), BitVec.ofNat 8 (x.role + 16 * b2n x.armed), BitVec.ofNat 8 (causeByte x), BitVec.ofNat 8 h.lastCause]
    ++ leBytes 8 h.lastG.toNat ++ leBytes 2 h.gaveUp ++ leBytes 2 h.takeovers ++ leBytes 4 h.compared ++ leBytes 4 h.excluded
    ++ leBytes 2 h.against ++ leBytes 2 h.unresolved ++ leBytes 2 h.reruns ++ leBytes 2 h.lockstep ++ leBytes 2 h.engine
    ++ leBytes 2 h.supply ++ leBytes 2 h.clock ++ leBytes 2 h.diverged ++ leBytes 2 h.vitrine ++ leBytes 2 h.readmitted
    ++ List.replicate 16 0#8
  b ++ wordBytes (crc32c b)
/-- HEALTH_REPORT. -/
def opHealthReport (w : Byte) : Op :=
  { opcode := 0xC3
    exempt := true
    hasData := true
    check := fun _ => rejIf (decide (w.toNat > 1)) { status := .range, addr := mkAddr 0x21 w.toNat 0 }
    run := fun s => answer s (healthBytes s (wingOf w.toNat)) }

end Sys2Proof.Machine
end

