-- ==== Sys2Proof/Machine/Apply.lean ====
section
/-! DEFINITION. What a write of an object word does once it is accepted (R15, R102): RW bits change at once, WS bits enter the
flip table, W1C bits clear, and the unit that owns the word acts on it. Colour tables (R141, R411). -/

namespace Sys2Proof.Machine
open Sys2Proof

/-! ## Colour tables (R141, R411) -/

/-- One colour pipeline's tables. -/
def clr (s : State) (k : Nat) : ClrTab := tget {} s.clrs k
/-- Sets them. -/
def setClr (s : State) (k : Nat) (x : ClrTab) : State := { s with clrs := tput {} s.clrs k x }
/-- The Linear value of an entry: table 0 degamma, 1 regamma. -/
def linearEntry (t i : Nat) : Half := if t = 0 then BitVec.ofNat 16 ((2 * i * 65535 + 1023) / 2046) else BitVec.ofNat 16 (64 * i)
/-- An entry of a copy. -/
def tblEntry (c : Tab (Option Half)) (t i : Nat) : Half := (tget none c (t * 1024 + i)).getD (linearEntry t i)
/-- Sets an entry of a copy; an entry at its Linear value is not listed. -/
def tblPut (c : Tab (Option Half)) (t i : Nat) (v : Half) : Tab (Option Half) :=
  tput none c (t * 1024 + i) (if v = linearEntry t i then none else some v)
/-- The table and first entry that a CLR_TBL_WIN word reaches. -/
def tblPlace (ctl : Word) (w : Nat) : Nat × Nat := (bits ctl 0 0, 256 * bits ctl 9 8 + 2 * (w - 0x80))
/-- A CLR_TBL_WIN read: the front copy. -/
def clrTblRead (s : State) (bank i w : Nat) : Word :=
  let (t, e) := tblPlace (word s bank 0x17 i 0x10) w
  let c := (clr s (20 * bank + i)).front
  BitVec.ofNat 32 ((tblEntry c t e).toNat + 65536 * (tblEntry c t (e + 1)).toNat)
/-- A CLR_TBL_WIN write: the back copy. -/
def clrTblWrite (s : State) (bank i w : Nat) (mask v : Word) : State :=
  let (t, e) := tblPlace (word s bank 0x17 i 0x10) w
  let x := clr s (20 * bank + i)
  let old := BitVec.ofNat 32 ((tblEntry x.back t e).toNat + 65536 * (tblEntry x.back t (e + 1)).toNat)
  let new := merge old mask v
  let back := tblPut (tblPut x.back t e (BitVec.ofNat 16 (bits new 15 0))) t (e + 1) (BitVec.ofNat 16 (bits new 31 16))
  setClr s (20 * bank + i) { x with back := back, dirty := x.dirty ||| (1#2 <<< t) }
/-- The commit point: every table written since the last commit becomes the front copy. -/
def clrCommit (s : State) (k : Nat) : State :=
  let x := clr s k
  if x.dirty = 0#2 then s
  else
    let take (t : Nat) (f : Tab (Option Half)) : Tab (Option Half) :=
      if x.dirty.getLsbD t then
        x.back.foldl (fun f e => if e.1 / 1024 = t then tput none f e.1 e.2 else f) (f.filter fun e => decide (e.1 / 1024 ≠ t))
      else f
    setClr s k { x with front := take 1 (take 0 x.front), dirty := 0#2 }

/-! ## One word -/

/-- The RW bits of a word change, and its unit acts on the change. -/
def applyRw (s : State) (bank cls i w : Nat) (m v : Word) : State :=
  if m = 0#32 then s
  else
    let old := word s bank cls i w
    let new := merge old m v
    let s := setWord s bank cls i w new
    match cls with
    | 0x03 => refWritten s i w old new
    | 0x04 => synWritten s i w old new
    | 0x0B => stdPortWritten s cls i w old new
    | 0x1A => if i ≤ 7 then (if w = 0 then tdmWritten s i old new else s) else srcInWritten s (i - 8)
    | _ => s
/-- WS bits of a word enter the flip table, and its unit acts on the entry. `p` is the port of a host write, none for a mode
change. -/
def applyWs (s : State) (p : Option Port) (bank cls i w : Nat) (m v : Word) : State :=
  if m = 0#32 then s
  else
    let was := projected s bank cls i w
    let s := placeWs s bank cls i w m v
    let new := projected s bank cls i w
    match cls with
    | 0x10 => capPlaced s (40 * bank + i)
    | 0x11 => placeRoute s bank i
    | 0x13 => match p with
      | some p => lyrPlaced s (192 * bank + i) p (decide (w = 1) && bit was 31 && !bit new 31)
      | none => s
    | 0x14 => if p = some .cp1 ∧ (w = 1 ∨ w = 4) then setVit s i { vit s i with byCp1 := true } else s
    | _ => s
/-- An accepted write of one word of one instance. -/
def applyWord (s : State) (p : Option Port) (bank cls i w : Nat) (mask v : Word) : State :=
  if cls = 0x17 ∧ w ≥ 0x80 then clrTblWrite s bank i w mask v
  else
    let x := wordInfo cls i w
    let s := applyRw s bank cls i w (mask &&& x.rw) v
    let s := applyWs s p bank cls i w (mask &&& x.ws) v
    let c := mask &&& x.w1c &&& v
    if c = 0#32 then s else setWord s bank cls i w (word s bank cls i w &&& ~~~c)

/-- One word of a write: its instance, the bits written and their values. -/
structure WItem where
  bank : Nat
  cls : Nat
  inst : Nat
  w : Nat
  mask : Word
  v : Word
  deriving DecidableEq, Repr

/-- An accepted write: the words of one unit that are WS enter the flip table together (R131). -/
def applyItems (s : State) (p : Option Port) (l : List WItem) : State :=
  l.foldl (fun s x => applyWord s p x.bank x.cls x.inst x.w x.mask x.v) s
/-- The bits of a word that keep what a host writes; a write to any other bit has no effect (R3). -/
def keptBits (c i w : Nat) : Word :=
  let x := wordInfo c i w
  if c = 0x17 ∧ w ≥ 0x80 then allOnes else x.rw ||| x.ws ||| x.wp
/-- The object words as they would stand after a write, with every waiting entry taken (R664). -/
def rdAfter (s : State) (l : List WItem) : Rd := fun b c i w =>
  (l.filter fun x => decide (x.bank = b) && decide (x.cls = c) && decide (x.inst = i) && decide (x.w = w)).foldl
    (fun v x => merge v (x.mask &&& keptBits c i w) x.v) (projected s b c i w)

end Sys2Proof.Machine
end

