-- ==== Sys2Proof/Machine/System.lean ====
section
/-! DEFINITION. The system group (Table 4-3): NOP, IDENTIFY, CLAIM, RELEASE, OWNERS, SYS_RESET. -/

namespace Sys2Proof.Machine
open Sys2Proof

/-- The identifier of an image, 0 where there is none (Table 2-3). -/
def imageId (l : List Byte) : Nat := leAt l 12 4

/-- NOP. -/
def opNop : Op := { opcode := 0x00, sched := .yes }

/-- The 24-byte identity reply (Table 4-4). -/
def identityReply (s : State) : List Byte :=
  leBytes 8 Config.deviceId.toNat ++ leBytes 2 0x7624 ++ [Config.siliconStep, if Config.isG2 then 0x02#8 else 0x03#8]
    ++ wordBytes s.boot.fwVer ++ wordBytes Config.romVersion ++ leBytes 4 (imageId s.modes.base)
/-- IDENTIFY. -/
def opIdentify : Op := { opcode := 0x01, exempt := true, hasData := true, run := fun s => answer s (identityReply s) }

/-- The instances a CLAIM, RELEASE or OWNERS names: (bank, instance). -/
def namedInstances (first count bank : Byte) : List (Nat × Nat) :=
  (banksOf bank.toNat).flatMap fun b => (List.range count.toNat).map fun i => (b, first.toNat + i)
/-- Step 13 of the three: the class is ownable, the bank byte fits, the count is at least 1, every instance exists
(R98, Table 4-1). -/
def claimParams (cls first count bank : Byte) (topBank : Nat) : Option Rej :=
  let a := mkAddr cls.toNat first.toNat 0
  firstRej [
    rejIf (!isOwnable cls.toNat) { status := .badParam, addr := a },
    bankParam bank.toNat topBank a,
    rejIf (decide (count = 0#8)) { status := .range, addr := a },
    (((List.range count.toNat).find? fun i => !instExists cls.toNat (first.toNat + i)).map
      fun i => { status := .range, addr := mkAddr cls.toNat (first.toNat + i) 0 })]
/-- The first named instance that another port owns (R98, R99). -/
def firstForeign (s : State) (p : Port) (cls : Nat) : List (Nat × Nat) → Option (Nat × Nat × Port)
  | [] => none
  | (b, i) :: r =>
    match ownerOf s b cls i with
    | some o => if o = rankPort p then firstForeign s p cls r else some (b, i, o)
    | none => firstForeign s p cls r
/-- The refusal NOT_OWNER of a CLAIM or RELEASE that does not use force. -/
def foreignRej (s : State) (p : Port) (cls : Nat) (l : List (Nat × Nat)) : Option Rej :=
  (firstForeign s p cls l).map fun (_, i, o) =>
    { status := .notOwner, addr := mkAddr cls i 0, b3 := BitVec.ofNat 8 (portCode o) }
/-- Sets the owner of every named instance; a former owner that loses one raises its ownership event. -/
def setOwners (s : State) (p : Port) (cls : Nat) (new : Option Port) : List (Nat × Nat) → State
  | [] => s
  | (b, i) :: r =>
    let s1 := match ownerOf s b cls i with
      | some o => if o = p then s else raise s (19 + 4 * portCode o) 0#32
      | none => s
    setOwners (setOwner s1 b cls i new) p cls new r
/-- The footprint of an ownership command: the ownership of each named instance, as a word of its own that holds
the new owner's code. Two claims of one free instance on one tick give it different values and so contest. -/
def ownFoot (cls : Nat) (new : Nat) (l : List (Nat × Nat)) : Foot :=
  { writes := l.map fun x => (1073741824 + ikey x.1 cls x.2 * 256, 0xFF#32, BitVec.ofNat 32 new)
    touches := l.map fun x => ikey x.1 cls x.2 }

/-- CLAIM (R98). -/
def opClaim (q : Req) (cls first count bank : Byte) (force : Bool) : Op :=
  let l := namedInstances first count bank
  let forced := force && decide (q.port = .cp1)
  { opcode := 0x02
    check := fun s => firstRej [
      bankReadMode s bank.toNat (mkAddr cls.toNat first.toNat 0),
      if forced then none else foreignRej s q.port cls.toNat l,
      rejIf (force && !decide (q.port = .cp1)) { status := .badParam, addr := mkAddr cls.toNat first.toNat 0 },
      claimParams cls first count bank 2,
      firstRej (l.map fun x => instHeldRej s q.port cls.toNat x.1 x.2)]
    foot := fun _ => ownFoot cls.toNat (portCode q.port) l
    run := fun s => done (setOwners s q.port cls.toNat (some q.port) l) }
/-- RELEASE (R99). -/
def opRelease (q : Req) (cls first count bank : Byte) (force : Bool) : Op :=
  let l := namedInstances first count bank
  let forced := force && decide (q.port = .cp1)
  { opcode := 0x03
    check := fun s => firstRej [
      bankReadMode s bank.toNat (mkAddr cls.toNat first.toNat 0),
      if forced then none else foreignRej s q.port cls.toNat l,
      claimParams cls first count bank 2,
      firstRej (l.map fun x => instHeldRej s q.port cls.toNat x.1 x.2)]
    foot := fun _ => ownFoot cls.toNat 255 l
    run := fun s => done (setOwners s q.port cls.toNat none l) }
/-- OWNERS: one byte per instance, 0xFF where it is free. It reads one bank and is served in M5 (Table 4-1). -/
def opOwners (cls first count bank : Byte) : Op :=
  { opcode := 0x04
    hasData := true
    check := fun _ => claimParams cls first count bank 1
    run := fun s => answer s ((List.range count.toNat).map fun i =>
      match ownerOf s bank.toNat cls.toNat (first.toNat + i) with
      | none => 0xFF#8
      | some p => BitVec.ofNat 8 (portCode p)) }

/-- SYS_RESET: the warm reset starts exactly 1 ms later (R100). -/
def opSysReset (scope : Byte) (confirm : Word) : Op :=
  { opcode := 0x05
    sched := .yes
    auth := fun _ => .privileged
    exempt := true
    check := fun _ => rejIf (decide (scope ≠ 0x01#8) || decide (confirm ≠ 0x5E7A0C1D#32)) { status := .badParam }
    run := fun s => done { s with boot := { s.boot with armed := some (s.boot.armed.getD (s.clk + 1000000)) } } }

end Sys2Proof.Machine
end

