-- ==== Sys2Proof/Machine/Images.lean ====
section
/-! DEFINITION. Configuration images (chapter 02): their layout, the effective configuration, the checks of Table 2-5, the build
buffer and the IMAGE opcodes. -/

namespace Sys2Proof.Machine
open Sys2Proof

/-! ## Records (Tables 2-3 and 2-4) -/

/-- One word of a record: address, bank byte, mask, value. -/
structure RecWord where
  addr : Addr
  bank : Nat
  mask : Word
  v : Word
  deriving DecidableEq, Repr

/-- The bytes of the first `n` records, none where a record has no size. Log entry 83 (DEDUCED). -/
def walkRecords : Nat → List Byte → Option Nat
  | 0, _ => some 0
  | n + 1, l =>
    let t := byteAt l 0
    let c := byteAt l 1
    if l.length < 2 then some (4096 * 4096)
    else if !((decide (t = 1) && decide (c ≠ 0)) || (decide (t = 2) && decide (c = 1))) then none
    else
      let z := 8 + (if t = 1 then 4 * c else 8)
      (walkRecords n (l.drop z)).map (z + ·)
/-- The refusal of one word that a record addresses (R37). Log entry 83 (DEDUCED). -/
def recWordRej (a : Addr) : Option Rej :=
  let c := clsOf a
  if !classAssigned c ∨ [0x23, 0x24, 0x26].contains c then some { status := .badParam, addr := a }
  else if !instExists c (instOf a) then some { status := .range, addr := a }
  else if !imageMaySet a then some { status := .badParam, addr := a }
  else none
/-- The words of a record block, in order, and the first refusal (R37, R39). `n` bounds the number of records. -/
def readRecords : Nat → List Byte → List RecWord × Option Rej
  | 0, _ => ([], none)
  | n + 1, l =>
    if l = [] then ([], none)
    else
      let t := byteAt l 0
      let c := byteAt l 1
      let a : Addr := BitVec.ofNat 24 (leAt l 2 3)
      let b := byteAt l 5
      let bad : Rej := { status := .badParam, addr := a }
      let z := if t = 1 then 4 * c else 8
      let d := slice l 8 z
      if !((decide (t = 1) && decide (c ≠ 0)) || (decide (t = 2) && decide (c = 1))) ∨ d.length < z then ([], some bad)
      else if t = 1 ∧ wordOf a + c > 256 then ([], some bad)
      else if b > 2 ∨ (b ≠ 0 ∧ !isBanked (clsOf a)) then ([], some bad)
      else
        let ws : List RecWord := if t = 1 then (wordsOf d).zipIdx.map fun x => ⟨a + BitVec.ofNat 24 x.2, b, allOnes, x.1⟩
          else [⟨a, b, BitVec.ofNat 32 (leAt d 0 4), BitVec.ofNat 32 (leAt d 4 4)⟩]
        match ws.findSome? fun w => recWordRej w.addr with
        | some r => ([], some r)
        | none => let (r, e) := readRecords n (l.drop (8 + z)); (ws ++ r, e)
/-- An image's MAC flag and record bytes. -/
def imageMac (l : List Byte) : Nat := byteAt l 6 % 2
def imageBody (l : List Byte) : List Byte := slice l 32 (l.length - 36 - 16 * imageMac l)
/-- The words an image sets; a stored image has passed its checks. -/
def imageWords (l : List Byte) : List RecWord := (readRecords (leAt l 20 4) (imageBody l)).1
/-- The record CRC of an image. -/
def recordCrc (l : List Byte) : Nat := leAt l (l.length - 4 - 16 * imageMac l) 4

/-- Rows 1 to 3 of Table 2-5, for an image of a kind and mode whose announced length is `n`. An identifier of 0, and a base image whose base identifier is
not its own, break Table 2-3 and take row 3's status. Log entry 130 (DESIGN CHOICE). -/
def headRej (l : List Byte) (kind mode limit : Nat) : Option Rej :=
  let n := l.length
  let m := imageMac l
  let w := walkRecords (leAt l 20 4) (imageBody l)
  firstRej [
    rejIf (decide (n > limit) || decide (n < 36 + 16 * m) || decide (leAt l 8 4 ≠ n)
      || (match w with | some z => decide (z ≠ n - 36 - 16 * m) | none => false)) (rejSt .badLength),
    rejIf (decide (crc32c (l.take 28) ≠ BitVec.ofNat 32 (leAt l 28 4))
      || decide (crc32c (imageBody l) ≠ BitVec.ofNat 32 (recordCrc l))) (rejSt .badCrc),
    rejIf (decide (leAt l 0 2 ≠ 0xB7C3) || decide (byteAt l 2 ≠ kind) || decide (byteAt l 3 ≠ mode) || decide (leAt l 4 2 ≠ 1)) (rejSt .badParam),
    rejIf (decide (imageId l = 0) || (decide (kind = 1) && decide (leAt l 16 4 ≠ imageId l))) (rejSt .badParam)]
/-- The size limit of an image of a kind, sent by the host (R40). Log entry 58 (DEDUCED). -/
def imageLimit (kind : Nat) : Nat := if kind = 2 then 4096 else 1048576

/-! ## The effective configuration (R36, R48) -/

/-- What a list of record words sets, by word: bits set and their values. -/
def setWords (l : List RecWord) (t : Tab (Word × Word)) : Tab (Word × Word) :=
  l.foldl (fun t r => (if isBanked (clsOf r.addr) then banksOf r.bank else [0]).foldl (fun t b =>
    let k := wkey b r.addr
    let e := tget (0#32, 0#32) t k
    tput (0#32, 0#32) t k (e.1 ||| r.mask, merge e.2 r.mask r.v)) t) t
/-- The effective configuration of a base image and an overlay. -/
def effective (base overlay : List Byte) : Tab (Word × Word) := setWords (imageWords overlay) (setWords (imageWords base) [])
/-- The value that a word of the effective configuration starts from (R36): its reset value, which boot gives for SYN[10]
(Table 5-6, R205). -/
def startWord (c i w k : Nat) : Word :=
  if c = 0x04 ∧ i = 10 ∧ w = 0 then 0x01900000#32
  else if c = 0x04 ∧ i = 10 ∧ w = 2 then resetWord k ||| 1#32
  else resetWord k
/-- A word of an effective configuration. -/
def effWord (t : Tab (Word × Word)) (b c i w : Nat) : Word :=
  let k := wkey b (mkAddr c i w)
  let e := tget (0#32, 0#32) t k
  let start := if c = 0x17 ∧ w ≥ 0x80 then
      let ctl := wkey b (mkAddr c i 0x10)
      let x := tget (0#32, 0#32) t ctl
      let p := tblPlace (merge (resetWord ctl) x.1 x.2) w
      BitVec.ofNat 32 ((linearEntry p.1 p.2).toNat + 65536 * (linearEntry p.1 (p.2 + 1)).toNat)
    else startWord c i w k
  merge start (e.1 &&& keptBits c i w) e.2
/-- The bits of a word that images govern (R129). -/
def governed (c i w : Nat) : Word :=
  let x := wordInfo c i w
  if instExists c i && imageMaySet (mkAddr c i w) then x.rw ||| x.ws else 0#32
/-- The staged overlay of a mode. -/
def overlayOf (s : State) (mode : Nat) : List Byte := tget [] s.modes.overlays mode
/-- The base image that the next mode change applies (R36). -/
def nextBase (s : State) : List Byte := if s.modes.stagedBase = [] then s.modes.base else s.modes.stagedBase
/-- The bits of a word that a mode change to `mode` places in the flip table (R48). -/
def placedBits (s : State) (mode : Nat) : Nat → Nat → Nat → Nat → Word :=
  if s.modes.stagedBase ≠ [] then fun _ c i w => governed c i w
  else
    let t := setWords (imageWords (overlayOf s mode)) (setWords (imageWords s.modes.curOverlay) [])
    fun b c i w => (tget (0#32, 0#32) t (wkey b (mkAddr c i w))).1 &&& governed c i w
/-- The target state of a mode change over a reading of the words that it keeps (R45). -/
def targetRd (s : State) (mode : Nat) (kept : Rd) : Rd :=
  let t := effective (nextBase s) (overlayOf s mode)
  let m := placedBits s mode
  fun b c i w => merge (kept b c i w) (m b c i w) (effWord t b c i w)

/-! ## Limits of a mode (Table 2-1, rows 7 and 8 of Table 2-5) -/

/-- The Wings that drive an output placed in a mode (R621): both in M2, the one kept in M5, else the Wing whose bank alone holds
an enabled layer on it, or Wing A. -/
def wingsFor (rd : Rd) (mode o : Nat) : List Nat :=
  if mode = 2 then [0, 1]
  else if mode = 5 then [bits (rd 0 0x01 0 1) 8 8]
  else
    let has (b : Nat) : Bool := (List.range 192).any fun n => lyrOnIn rd b n && decide (lyrOutIn rd b n = o)
    if has 1 && !has 0 then [1] else [0]
/-- The outputs that a state has in a mode, with their Wings: those enabled by their words; one that runs keeps its Wing, but
for M5. -/
def outsIn (s : State) (rd : Rd) (mode : Nat) : List (Nat × List Nat) :=
  ((List.range 20).filter (outEnabledIn rd)).map fun o =>
    (o, if outActive s o && decide (mode ≠ 2) && decide (mode ≠ 5) then [wingCode (out s o).wing] else wingsFor rd mode o)
/-- The banked words that differ between the Wings in a reading: M2 forbids them (R39). Only a word some table lists can. -/
def unmirrored (s : State) (rd : Rd) (t : Tab (Word × Word)) : Option Addr :=
  let ks := (tkeys s.words ++ tkeys s.flip ++ tkeys t).map fun k => (BitVec.ofNat 24 (k % 16777216) : Addr)
  ks.find? fun a => isBanked (clsOf a) && decide (governed (clsOf a) (instOf a) (wordOf a) ≠ 0#32)
    && decide ((rd 0 (clsOf a) (instOf a) (wordOf a) ^^^ rd 1 (clsOf a) (instOf a) (wordOf a)) &&& governed (clsOf a) (instOf a) (wordOf a) ≠ 0#32)
/-- The layers of one bank against the mode's limits, the unit counts and the line buffers. -/
def bankLimits (s : State) (rd : Rd) (mode b : Nat) : List (Option Rej) :=
  let on := (List.range 192).filter fun n => lyrOnIn rd b n
  let src : Nat → Nat → Word := fun _ r => rd b 0x11 r 1
  let needs := layerNeeds s rd mode b on src
  let t := assignScalers (sclOwned s b) (fun x => scl s (10 * b + x)) needs
  let at_ (st : Status) (n w : Nat) : Rej := { status := st, addr := mkAddr 0x13 n w }
  -- The layers of an output are counted in rising order, so that the one named is the first beyond the limit.
  let count (n : Nat) : Nat := (on.filter fun m => decide (lyrOutIn rd b m = lyrOutIn rd b n) && decide (m ≤ n)).length
  ((List.range 192).map fun n => rejIf (bit (rdLyr rd b n 6) 17 && decide (mode ≠ 4)) (at_ .modeForbids n 6))
  ++ (on.map fun n => rejIf (lineLockedIn rd mode (lyrOutIn rd b n) && decide (count n > 4)) (at_ .modeForbids n 1))
  ++ (on.map fun n => rejIf (decide (count n > 16)) (at_ .noResource n 1))
  ++ (needs.map fun l => rejIf (lineLockedIn rd mode (lyrOutIn rd b l.n) && decide (l.stripes > 1)) (at_ .linebufShort l.n 5))
  ++ (needs.map fun l => rejIf (!servedBy t l) (at_ .noResource l.n 7))
/-- The layer fetch and the engine throughput of a mode, in pixels and operations a second (Table 2-1); M6 promises none. -/
def modeLoads (mode : Nat) : Option (Rat × Rat) :=
  match mode with
  | 1 | 3 => some (48000000000, 1024000000000)
  | 2 => some (24000000000, 512000000000)
  | 4 => some (28800000000, 512000000000)
  | 5 => some (16000000000, 512000000000)
  | _ => none
/-- What an enabled layer fetches and costs a second: its source's pixels, twice where frame-rate conversion weights two frames (R438), and the
operations of Table 16-7 for each destination pixel. Log entry 58 (DEDUCED). -/
def layerLoad (s : State) (rd : Rd) (mode b n : Nat) (taps : Nat) : Rat × Rat :=
  let o := lyrOutIn rd b n
  let size := lyrSrcSize s rd b n fun r => rd b 0x11 r 1
  let dst := lyrDst rd b n
  let f := frameRate rd o
  let two := bit (rd b 0x18 o 0) 0 && (lyrRouteIn rd b n).isSome && !lineLockedIn rd mode o
  let cost := 6 + (if (lyrMeshIn rd b n).isSome then (if lineLockedIn rd mode o then 12 else taps / 16 * (taps % 16) * 2 + 4)
      else if size = dst then 0 else 2 * (taps / 16 + taps % 16)) + (if two then 2 else 0)
  ((size.1 * size.2 * (if two then 2 else 1) : Nat) * f, (dst.1 * dst.2 * cost : Nat) * f)
/-- The first layer beyond the mode's layer fetch or engine throughput, counted over the outputs' Wings in rising order. In M2 both Wings do the
same work, and the figures are one Wing's. Log entry 58 (DEDUCED). -/
def loadRej (s : State) (rd : Rd) (mode : Nat) (outs : List (Nat × List Nat)) : Option Rej :=
  match modeLoads mode with
  | none => none
  | some (fetch, ops) =>
    let base : Rat := outs.foldl (fun t x => t + (hAct rd x.1 * vAct rd x.1 : Nat) * frameRate rd x.1) 0
    let banks := if mode = 2 then [0] else [0, 1]
    (banks.foldl (fun (t : (Rat × Rat) × Option Rej) b =>
      let on := (List.range 192).filter fun n => lyrOnIn rd b n && outs.any fun x => decide (x.1 = lyrOutIn rd b n) && x.2.contains b
      let a := assignScalers (sclOwned s b) (fun x => scl s (10 * b + x)) (layerNeeds s rd mode b on fun _ r => rd b 0x11 r 1)
      on.foldl (fun t n =>
        let taps := match firstScaler a n with | some x => bits (rd b 0x15 x 1) 7 0 | none => 0x11
        let l := layerLoad s rd mode b n taps
        let sum := (t.1.1 + l.1, t.1.2 + l.2)
        (sum, t.2 <|> rejIf (decide (sum.1 > fetch) || decide (sum.2 > ops)) { status := .modeForbids, addr := mkAddr 0x13 n 1 })) t)
      ((0, base), none)).2
/-- Rows 7 and 8 of Table 2-5 on a whole state of words: the mode's limits, then units and line buffers. Outputs are counted in
rising order, so that the one named is the first beyond a limit. -/
def stateRej (s : State) (rd : Rd) (mode : Nat) (t : Tab (Word × Word)) : Option Rej :=
  let outs := outsIn s rd mode
  let lim := modeOuts mode
  let upTo (x : Nat × List Nat) : List (Nat × List Nat) := outs.filter fun y => decide (y.1 ≤ x.1)
  let over_ := outs.find? fun x => decide ((upTo x).length > lim.1)
    || x.2.any fun b => decide (((upTo x).filter fun y => y.2.contains b).length > lim.2)
  byStep ([
    (if mode = 2 then (unmirrored s rd t).map fun a => { status := .modeForbids, addr := a } else none),
    (if mode = 6 then none else over_.map fun x => { status := .modeForbids, addr := mkAddr 0x12 x.1 5 }),
    rejIf (decide ((outs.filter fun x => nominated rd x.1).length > 8))
      { status := .modeForbids, addr := mkAddr 0x12 (((outs.filter fun x => nominated rd x.1).getD 8 (0, [])).1) 1 }]
    ++ (outs.map fun x => outModeRej rd mode x.1 x.2 true (outs.filter fun y => decide (y.1 < x.1)))
    ++ bankLimits s rd mode 0 ++ bankLimits s rd mode 1 ++ [loadRej s rd mode outs])

/-- Rows 7 and 8 of Table 2-5 on an effective configuration. -/
def effectiveRej (s : State) (mode : Nat) (base over_ : List Byte) : Option Rej :=
  let t := effective base over_
  stateRej s (fun b c i w => effWord t b c i w) mode t

/-! ## The checks of Table 2-5 -/

/-- An image sets a VIT word or a word of a safety-state object (R41). -/
def setsSafety (l : List RecWord) : Bool := l.any fun r => isSafety r.addr
/-- The MAC of an image verifies under the working key. -/
def imageMacOk (key : Option (List Byte)) (l : List Byte) : Bool := match key with
  | none => false
  | some k => decide (imageMac l = 1) && decide (mac16 k (l.take (l.length - 16)) = l.drop (l.length - 16))
/-- Every check of Table 2-5 on an image from a port, with the working key the command started with and the size limit
(R107); `port` none is boot. -/
def imageRej (s : State) (port : Option Port) (key : Option (List Byte)) (limit kind mode : Nat) (l : List Byte) : Option Rej :=
  let recs := readRecords (leAt l 20 4) (imageBody l)
  let base := if kind = 1 then l else nextBase s
  let m := if kind = 1 then s.modes.cur else mode
  let over_ := if kind = 1 then overlayOf s s.modes.cur else l
  firstRej [
    headRej l kind mode limit,
    rejIf (decide (kind = 2) && decide (leAt l 16 4 ≠ imageId base)) (rejSt .badParam),
    recs.2,
    (match port with
      | none => none
      | some p => if p ≠ .cp1 ∧ setsSafety recs.1 ∧ !imageMacOk key l then
          some { status := .authFail, addr := ((recs.1.find? fun r => isSafety r.addr).map (·.addr)).getD noAddr } else none),
    if m = 0 then none else effectiveRej s m base over_]

/-! ## The IMAGE opcodes (R106, R107) -/

/-- The number under which the build buffer contests (R106). -/
def buildKey : Nat := 2147483648
/-- A kind and mode pair matches Table 2-3. -/
def kindModeOk (kind mode : Nat) : Bool :=
  (decide (kind = 1) && decide (mode = 0)) || (decide (kind = 2) && decide (1 ≤ mode) && decide (mode ≤ 6))
/-- An unfinished IMAGE_CLOSE holds the build buffer (R79). -/
def closing (r : Run) : Bool := match r.job with | .imageClose .. => true | _ => false
/-- An LDG_MAINT runs: every other writing command returns BUSY (R546). -/
def maintaining (r : Run) : Bool := match r.job with | .ldgMaint .. => true | _ => false
/-- IMAGE_OPEN. -/
def opImageOpen (q : Req) (kind mode : Byte) (total : Word) : Op :=
  { opcode := 0x22
    check := fun s => firstRej [
      rejIf (!kindModeOk kind.toNat mode.toNat) (rejSt .badParam),
      rejIf (decide (total.toNat > imageLimit kind.toNat)) (rejSt .badLength),
      rejIf (match s.modes.build with | some b => decide (b.port ≠ q.port) | none => false) (rejSt .busy),
      heldRej s closing]
    foot := fun _ => { touches := [buildKey], reassigns := [buildKey] }
    run := fun s =>
      let b : Build := { port := q.port, kind := kind.toNat, mode := mode.toNat, total := total.toNat, bytes := [] }
      done { s with modes := { s.modes with build := some b } } }
/-- IMAGE_DATA. -/
def opImageData (q : Req) (off : Word) (data : List Byte) : Op :=
  { opcode := 0x23
    check := fun s => match s.modes.build with
      | some b => if b.port = q.port then firstRej [rejIf (decide (off.toNat + data.length > b.total)) (rejSt .range), heldRej s closing]
        else some (rejSt .badParam)
      | none => some (rejSt .badParam)
    run := fun s => match s.modes.build with
      | some b => done (bulkPush { s with modes := { s.modes with build := some { b with bytes := patch b.bytes off.toNat data } } } q 0x23#8 [])
      | none => done s }
/-- IMAGE_CLOSE: CP1 may discard another port's build; every other close comes from the holder. -/
def opImageClose (q : Req) (action : Byte) : Op :=
  { opcode := 0x24
    auth := fun _ => if action = 1#8 then .privileged else .plain
    check := fun s => firstRej [
      rejIf (decide (action.toNat > 2)) (rejSt .badParam),
      (match s.modes.build with
        | none => some (rejSt .badParam)
        | some b => rejIf (decide (b.port ≠ q.port) && !(decide (q.port = .cp1) && decide (action = 2#8))) (rejSt .badParam)),
      heldRej s closing,
      if action = 1#8 then heldRej s maintaining else none]
    run := fun s => match s.modes.build with
      | some b => if b.port = q.port then done s else done (releaseBuild s)
      | none => done s
    job := some (.imageClose action.toNat) }
/-- IMAGE_STATUS (Table 4-7); `copies` gives the identifier of the newer valid Ledger copy of an image. -/
def imageStatusReply (s : State) (copies : Nat → Nat) : List Byte :=
  let entry (eff staged i : Nat) : List Byte := leBytes 4 eff ++ leBytes 4 staged ++ leBytes 4 (copies i)
  entry (imageId s.modes.base) (imageId s.modes.stagedBase) 0
  ++ (List.range 6).flatMap fun i =>
    entry (if s.modes.cur = i + 1 then imageId s.modes.curOverlay else 0) (imageId (overlayOf s (i + 1))) (i + 1)
/-- 10 s without data: the build is released (R106). -/
def execBuildTimeout (s : State) : Host.Outcome State Fault Refusal := .next (releaseBuild s)
/-- An image is refused: MODE[0] word 0x03 and event 7 record it (R42). -/
def imageRefused (s : State) (port : Port) (kind mode : Nat) (r : Rej) : State :=
  raise { s with modes := { s.modes with errStatus := stCode r.status, lastErr := r.addr } } 7
    (det kind mode (stCode r.status).toNat (portCode port))
/-- An image that passed replaces the staged image of its kind and mode (R107). Log entry 86 (DEDUCED). -/
def stageImage (s : State) (kind mode : Nat) (l : List Byte) : State :=
  if kind = 1 then { s with modes := { s.modes with stagedBase := l } }
  else { s with modes := { s.modes with overlays := tput [] s.modes.overlays mode l } }
/-- The reply data of an IMAGE_CLOSE: the image's identifier and record CRC. -/
def closeReply (l : List Byte) : List Byte := leBytes 4 (imageId l) ++ leBytes 4 (recordCrc l)

end Sys2Proof.Machine
end

