-- ==== Sys2Proof/Machine/Throttle.lean ====
section
/-! DEFINITION. Temperature sensors and the throttle levels they give (R529, R533 to R535). -/

namespace Sys2Proof.Machine
open Sys2Proof

/-- Sensor `i`: 0 to 5 in Wing A, 6 to 11 in Wing B, 12 and 13 in the Atrium (R133). -/
def sensor (s : State) (i : Nat) : Sensor := tget {} s.thermal.sensors i
/-- Sets a sensor. -/
def setSensor (s : State) (i : Nat) (x : Sensor) : State := { s with thermal := { s.thermal with sensors := tput {} s.thermal.sensors i x } }
/-- The Wing a sensor lies in, none for the Atrium. -/
def sensorWing (i : Nat) : Option Wing := if i < 6 then some .a else if i < 12 then some .b else none
/-- The sensor's Wing is powered down, off or held out (R522, R531). Log entry 92 (DEDUCED). -/
def sensorOff (s : State) (i : Nat) : Bool := match sensorWing i with
  | some w => decide ((wing s w).role = 0)
  | none => false
/-- The sensors that decide a Wing's throttle level: its own powered ones and the two of the Atrium (R535). -/
def throttleSensors (s : State) (w : Wing) : List Nat :=
  (List.range 14).filter fun i => (decide (sensorWing i = some w) || decide (12 ≤ i)) && !sensorOff s i
/-- The throttle level of a Wing (R535). -/
def throttleLevel (s : State) (w : Wing) : Nat := (throttleSensors s w).foldl (fun m i => max m (sensor s i).thr) 0
/-- The level last reported. -/
def toldLevel (s : State) : Wing → Nat
  | .a => s.thermal.lvlA
  | .b => s.thermal.lvlB
/-- A change of a Wing's throttle level raises event 241 (Table 22-4). The deciding sensor is the first at the new level; where
the level is 0, it is `by_`, whose reading lowered it. Log entry 92 (DEDUCED). -/
def tellThrottle (s : State) (by_ : Nat) (w : Wing) : State :=
  let l := throttleLevel s w
  if l = toldLevel s w then s
  else
    let d := if l = 0 then by_ else ((throttleSensors s w).find? fun i => decide ((sensor s i).thr = l)).getD by_
    let x := sensor s d
    let limit := bits (word s 0 0x22 d 1) 15 8
    let cause := if x.bad then 2 else if x.rising ∧ (x.last.toInt < 16 * (limit : Int)) then 1 else 0
    let s := match w with
      | .a => { s with thermal := { s.thermal with lvlA := l } }
      | .b => { s with thermal := { s.thermal with lvlB := l } }
    raise s 241 (det (wingCode w) (l + 16 * d) cause 0)
/-- A Wing powers down: its sensors lose their references (R533) and count no longer. -/
def coolDown (s : State) (w : Wing) : State :=
  let own := (List.range 12).filter fun i => decide (sensorWing i = some w)
  let s := own.foldl (fun s i => setSensor s i { sensor s i with ref := none }) s
  tellThrottle s (own.headD 0) w

end Sys2Proof.Machine
end

