-- ==== Sys2Proof/Machine/Modes.lean ====
section
/-! DEFINITION. Mode changes (R43 to R51, Table 2-6): acceptance, the wake of a Wing, the launch instant, what each output
takes, and the power-down of a Wing in M5 (R32). -/

namespace Sys2Proof.Machine
open Sys2Proof

/-! ## The words a change places (R48, R96) -/

/-- Every word of every instance that images govern: bank, class, instance, word. -/
def allGoverned : List (Nat × Nat × Nat × Nat) :=
  ((List.range 0x27).filter classAssigned).flatMap fun c =>
    (if isBanked c then [0, 1] else [0]).flatMap fun b =>
      ((List.range 256).filter (instExists c)).flatMap fun i =>
        ((List.range 256).filter fun w => decide (governed c i w ≠ 0#32)).map fun w => (b, c, i, w)
/-- The words of a table of settings. -/
def tabWords (t : Tab (Word × Word)) : List (Nat × Nat × Nat × Nat) :=
  (tkeys t).map fun k => let a : Addr := BitVec.ofNat 24 (k % 16777216); (k / 16777216, clsOf a, instOf a, wordOf a)
/-- The words that a mode change to `mode` places. -/
def placedWords (s : State) (mode : Nat) : List (Nat × Nat × Nat × Nat) :=
  let m := placedBits s mode
  (if s.modes.stagedBase ≠ [] then allGoverned
    else tabWords (setWords (imageWords (overlayOf s mode)) (setWords (imageWords s.modes.curOverlay) []))).filter
    fun x => decide (m x.1 x.2.1 x.2.2.1 x.2.2.2 ≠ 0#32)
/-- The instances that a MODE_CHANGE reassigns: MODE[0] and those of the words it will place. -/
def placedUnits (s : State) (mode : Nat) : List Nat :=
  (ikey 0 0x01 0 :: (placedWords s mode).map fun x => ikey x.1 x.2.1 x.2.2.1).dedup
/-- Places words: RW bits change now, WS bits enter the flip table (R48). -/
def placeWords (s : State) (ws : List (Nat × Nat × Nat × Nat)) (m v : Rd) : State :=
  ws.foldl (fun s x => applyWord s none x.1 x.2.1 x.2.2.1 x.2.2.2 (m x.1 x.2.1 x.2.2.1 x.2.2.2) (v x.1 x.2.1 x.2.2.1 x.2.2.2)) s
/-- The layers among a list of words: 192 × bank + layer. -/
def layersAmong (ws : List (Nat × Nat × Nat × Nat)) : List Nat :=
  ((ws.filter fun x => decide (x.2.1 = 0x13)).map fun x => 192 * x.1 + x.2.2.1).dedup

/-! ## Wings (R29, R32, R508) -/

/-- The Wings that a mode needs: both, or the one kept in M5. -/
def needsWings (rd : Rd) (mode : Nat) : List Wing := if mode = 5 then [wingOf (bits (rd 0 0x01 0 1) 8 8)] else [.a, .b]
/-- A Wing has a reported fault (R507). -/
def wingFaulty (s : State) (w : Wing) : Bool := decide (causeByte (wing s w) ≠ 0)
/-- The first Wing of a list that has a reported fault, as a refusal. Log entry 85 (DEDUCED). -/
def faultyRej (s : State) (ws : List Wing) : Option Rej :=
  (ws.find? (wingFaulty s)).map fun w => { status := .modeForbids, addr := mkAddr 0x21 (wingCode w) 0 }
/-- A Wing takes its role as a mode is entered; one that is off with a cause stays off (R508). -/
def takeRole (s : State) (w : Wing) (role : Nat) : State :=
  let x := wing s w
  if x.role = 0 ∧ causeByte x ≠ 0 then s
  else
    let s := if x.role ≠ role then disarm s w 4 else s
    setWing s w { wing s w with role := role, armed := false, clocksOff := false, waking := false, divPipes := [], divRoutes := [] }
/-- The roles of a mode: in M2 the Wing of MODE_ACT_PREF is active and the other standby; elsewhere both are
independent. A Wing that M5 keeps down takes no role, and a change from M2 to M2 is no entry to it. -/
def takeRoles (s : State) (mode : Nat) (off : Option Wing) : State :=
  if mode = 2 ∧ s.modes.old = 2 then s
  else
  let pref := wingOf (bits (word s 0 0x01 0 1) 9 9)
  let role (w : Wing) : Nat := if mode = 2 then (if w = pref then 2 else 3) else 1
  [Wing.a, Wing.b].foldl (fun s w => if off = some w then s else takeRole s w (role w)) s
/-- A Wing's regulator-enable GPIO is driven high, where MODE[0] names one (R32, R47): it goes low with the power-down, once APPLYING has
ended (R50). -/
def wingEnabled (s : State) (w : Wing) : Bool :=
  decide (downWing s ≠ some w) || decide (s.modes.state = 3 ∧ (wing s w).role ≠ 0) || decide ((s.modes.pend.bind (·.wake)).map (·.1) = some w)
/-- Prenlink directions that no route or output uses go to SLEEP (R32). -/
def sleepUnused (s : State) : State :=
  (List.range 24).foldl (fun s n =>
    let p := plk s n
    let used := if p.role = 0 then decide (outsOnPlk s n ≠ []) else decide (pipesOfPort s 1 n ≠ [])
    if p.st = 8 ∧ !used ∧ cp2Port s ≠ some n then changePower (changePower s n 0 2) n 1 2 else s) s
/-- The memory devices on a Wing's two ports go to deep sleep, or wake (R32, R47). -/
def memSleep (s : State) (w : Wing) (on : Bool) : State :=
  let p := 2 * wingCode w
  let m (i : Nat) : MemPort := tget {} s.mem i
  { s with mem := tput {} (tput {} s.mem p { m p with asleep := on }) (p + 1) { m (p + 1) with asleep := on } }
/-- A Wing is powered down (R32): its pipes and outputs stop, its clocks stop, its memory and store contents are lost. -/
def powerDown (s : State) (w : Wing) : State :=
  let b := wingCode w
  let s := (List.range 20).foldl (fun s o => if (out s o).wing = w ∧ (out s o).st ≠ .stopped then finishStop s o 3 else s) s
  let s := memSleep (warpClear (capWingStops s b) b) w true
  let x := wing s w
  let s := setWing s w { x with role := 0, cause := 0, readmit := false, step := 0, armed := false, clocksOff := true, waking := false,
                                ready := false }
  coolDown (sleepUnused { s with modes := { s.modes with kept := otherWing w } }) w

/-! ## Dropping and refusing (R51, Table 2-6) -/

/-- Frees the schedule-table entry of a change. -/
def freeEntry (s : State) (t : ModeTrigger) : State :=
  match t with
  | .entry e => { s with tb := { s.tb with entries := tput none s.tb.entries e none } }
  | _ => s
/-- The change in progress is dropped, and a Wing woken for it goes down again in M5. -/
def dropChange (s : State) : State :=
  match s.modes.pend with
  | none => s
  | some p =>
    let s := freeEntry { s with modes := { s.modes with pend := none, state := 0, target := s.modes.cur } } p.trigger
    match p.wake with
    | some (w, _) => if s.modes.cur = 5 then memSleep (setWing s w { wing s w with waking := false, ready := false, clocksOff := true }) w true else s
    | none => s
/-- The change is refused: REFUSED, MODE[0] word 0x03 and event 5. Log entry 85 (DEDUCED). -/
def refuseChange (s : State) (why : Nat) (st : Status) (a : Addr) : State :=
  match s.modes.pend with
  | none => s
  | some p =>
    let s := dropChange s
    raise { s with modes := { s.modes with state := 4, errStatus := stCode st, lastErr := a } } 5 (det p.target (stCode st).toNat why 0)

/-! ## The checks (R45, R104) -/

/-- The images of the change, by every check of Table 2-5 that can still fail, and its target state, against the mode's limits, units and line
buffers (R45). -/
def targetRej (s : State) (mode : Nat) (kept : Rd) : Option Rej :=
  let base := nextBase s
  let over_ := overlayOf s mode
  firstRej [
    rejIf (decide (over_ ≠ []) && decide (leAt over_ 16 4 ≠ imageId base)) (rejSt .badParam),
    effectiveRej s mode base over_,
    stateRej s (targetRd s mode kept) mode (effective base over_)]
/-- The Wing that a target needs and that M5 keeps down. -/
def wakeFor (s : State) (mode : Nat) : Option Wing := match downWing s with
  | some w => if (needsWings (targetRd s mode (projected s)) mode).contains w then some w else none
  | none => none
/-- The device is at or above its throttle threshold (R45, R535). -/
def throttled (s : State) : Bool := decide (s.thermal.lvlA > 0) || decide (s.thermal.lvlB > 0)
/-- The checks of a MODE_CHANGE at acceptance, in their own order. -/
def modeRej (s : State) (mode trig o : Nat) : Option Rej :=
  firstRej [
    rejIf (decide (mode = 0) || decide (mode > 6)) (rejSt .range),
    rejIf (decide (trig = 1) && decide (o > 19)) { status := .range, addr := mkAddr 0x12 o 0 },
    rejIf (decide (trig = 1) && !outActive s o) { status := .badParam, addr := mkAddr 0x12 o 0 },
    rejIf ([1, 2, 3].contains s.modes.state) (rejSt .busy),
    faultyRej s (needsWings (targetRd s mode (projected s)) mode),
    rejIf ((wakeFor s mode).isSome && throttled s) (rejSt .thermalRefused),
    targetRej s mode (projected s)]
/-- A write from acceptance until T that would break the target state (R46). -/
def targetWriteRej (s : State) (l : List WItem) : Option Rej :=
  match s.modes.pend with
  | none => none
  | some p =>
    if s.modes.state ≠ 1 ∧ s.modes.state ≠ 2 then none
    else (targetRej s p.target (rdAfter s l)).map fun r =>
      let own := l.map fun x => mkAddr x.cls x.inst x.w
      { status := .modeForbids, addr := if own.contains r.addr then r.addr else own.headD noAddr }

/-! ## Acceptance and T (R44, R47, R48) -/

/-- A change is accepted: the wake of a Wing that it powers starts. -/
def beginChange (s : State) (q : Req) (mode : Nat) (t : ModeTrigger) : State :=
  let w := wakeFor s mode
  let s := { s with modes := { s.modes with state := if w.isSome then 1 else 2, target := mode,
                                            pend := some { req := q, target := mode, trigger := t, wake := w.map fun x => (x, false), askedAt := s.clk } } }
  match w with
  | none => s
  | some w => setWing s w { wing s w with waking := true, ready := false, supplyBad := false }
/-- The outputs as T leaves them (R49): those that the target enables start, those that it disables stop at their blanking, and
those of a Wing that M5 puts down move to the other. Log entry 84 (DEDUCED). -/
def modeOutputs (s : State) (rd : Rd) (mode : Nat) : State :=
  (List.range 20).foldl (fun s o =>
    let on := outEnabledIn rd o
    let x := out s o
    let ws := wingsFor rd mode o
    if x.st ≠ .stopped then
      if !on then (if timingRuns x then setOut s o { x with disableDue := true } else finishStop s o 3)
      else if mode = 2 then
        let s := (reserveRecords s o (recordBytes s rd mode o) [0, 1]).getD s
        let x := out s o
        if x.wing = activeWing s then s else setOut s o { x with assignTo := some (activeWing s) }
      else if mode = 5 ∧ !ws.contains (wingCode x.wing) then
        let s := (reserveRecords s o (recordBytes s rd mode o) ws).getD s
        setOut s o { out s o with assignTo := some (wingOf (ws.headD 0)) }
      else s
    else if on then
      let s := takeUnit s 0 0x12 o
      let s := (reserveRecords s o (recordBytes s rd mode o) ws).getD s
      startOutput s o (if mode = 2 then activeWing s else wingOf (ws.headD 0))
    else s) s
/-- T: the mode takes effect, the words are placed, and each running output has its entries to take (R48, R49). Log entry 84 (DEDUCED). -/
def applyMode (s : State) (mode : Nat) : State :=
  let ws := placedWords s mode
  let rd := targetRd s mode (projected s)
  let m := placedBits s mode
  let old := s.modes.cur
  let kept := wingOf (bits (rd 0 0x01 0 1) 8 8)
  let off := if mode = 5 ∧ kept = s.modes.kept then downWing s else none
  let s := { s with modes := { s.modes with
    cur := mode, old := old, target := mode, state := 3, pend := none, layers := layersAmong ws
    base := nextBase s, stagedBase := [], curOverlay := overlayOf s mode } }
  let s := if mode = 5 then { s with modes := { s.modes with kept := kept } } else s
  let s := placeWords s ws m rd
  let s := takeRoles s mode off
  let s := modeOutputs s rd mode
  let s := if old = 6 ∧ mode ≠ 6 then endLoops s else s
  { s with modes := { s.modes with awaiting := (List.range 20).filter (outRuns s) } }
/-- T has come for the change in progress (R44, R47, Table 2-6): it is refused where a Wing it needs has faulted, waits for a
Wing that wakes, else takes effect. -/
def launchChange (s : State) : State :=
  match s.modes.pend with
  | none => s
  | some p =>
    match faultyRej s (needsWings (targetRd s p.target (projected s)) p.target) with
    | some r => refuseChange s 1 r.status r.addr
    | none =>
      let waits := match p.wake with | some (_, false) => true | _ => false
      if waits then { s with modes := { s.modes with pend := some { p with dueAt := some (p.dueAt.getD s.tb.ns) } } }
      else
        let s := match p.dueAt with
          | some t => raise s 4 (det p.target 0 (sat 8 ((s.tb.ns - t).toNat / 100000)) 0)
          | none => s
        applyMode (freeEntry s p.trigger) p.target
/-- The Wing that a change waits for is ready: STATE shows PENDING, and a T that has come is now (R47). -/
def wakeDone (s : State) (w : Wing) : State :=
  match s.modes.pend with
  | none => s
  | some p =>
    if p.wake ≠ some (w, false) then s
    else
      let s := memSleep (warpClear (setWing s w { wing s w with waking := false, ready := true, clocksOff := false }) (wingCode w)) w false
      let s := { s with modes := { s.modes with state := 2, pend := some { p with wake := some (w, true) } } }
      match p.trigger with
      | .entry _ => s
      | _ => if p.dueAt.isSome then launchChange s else s
/-- MODE_WAKE_WAIT, in units of 0.5 ms, has passed since the acceptance of a change that wakes a Wing (R47). -/
def wakeWaited (s : State) (p : ModePend) : Bool :=
  p.waitedAt.isNone && decide (p.askedAt + 500000 * bits (word s 0 0x01 0 1) 3 0 ≤ s.clk)
/-- MODE_WAKE_WAIT_END: the Wing leaves reset, its clocks start and its memory devices wake (R47). -/
def execModeWakeWaitEnd (s : State) : Host.Outcome State Fault Refusal :=
  match s.modes.pend with
  | none => .next s
  | some p => match p.wake with
    | some (w, false) =>
      if !wakeWaited s p then .next s
      else .next (memSleep (setWing { s with modes := { s.modes with pend := some { p with waitedAt := some s.clk } } } w { wing s w with clocksOff := false }) w false)
    | _ => .next s
/-- APPLYING ends once every output still running has taken its entries (R50, R32). The configuration that boot applied is no mode
change: it counts in no MODE_SEQ and raises no event 3. -/
def settleMode (s : State) : State :=
  if s.modes.state ≠ 3 then
    match s.modes.pend with
    | some p => (match p.trigger with
      | .frame o => if (out s o).st = .stopped then launchChange s else s
      | _ => s)
    | none => s
  else
    let left := s.modes.awaiting.filter (outRuns s)
    if left ≠ [] then { s with modes := { s.modes with awaiting := left } }
    else
      let s := if s.modes.old = 0 then { s with modes := { s.modes with awaiting := [], state := 0 } }
        else
          let seq := s.modes.seq + 1
          raise { s with modes := { s.modes with awaiting := [], state := 0, seq := seq, target := s.modes.cur } } 3
            (det s.modes.cur s.modes.old seq.toNat 0)
      if s.modes.cur = 5 ∧ (wing s (otherWing s.modes.kept)).role ≠ 0 then powerDown s (otherWing s.modes.kept) else s
/-- An output takes its mode-change entries: a pending flip of a layer that the change rewrites is discarded, with event 158 cause
5 (R49, R371). -/
def takeModeEntries (s : State) (o : Nat) : State :=
  if !s.modes.awaiting.contains o then s
  else
    let mine := s.modes.layers.filter fun k => decide (lyrOut s (k / 192) (k % 192) = o)
    let s := { s with modes := { s.modes with awaiting := s.modes.awaiting.filter (· ≠ o), layers := s.modes.layers.filter fun k => !mine.contains k } }
    mine.foldl (fun s k =>
      let s := if (lyrAt s k).flip.isSome then lyrEvent158 (withdraw s [k]) k 5 else s
      takeLayer s k) s
/-- Layers that a change rewrites and no running output shows take their words at once. -/
def settleRewritten (s : State) : State :=
  let mine := s.modes.layers.filter fun k => !shownAt s k
  if mine = [] then s
  else
    let s := { s with modes := { s.modes with layers := s.modes.layers.filter fun k => !mine.contains k } }
    mine.foldl (fun s k =>
      let s := if (lyrAt s k).flip.isSome then lyrEvent158 (withdraw s [k]) k 5 else s
      takeLayer s k) s

/-! ## The opcodes -/

/-- MODE_CHANGE (R44 to R51, R104). -/
def opModeChange (q : Req) (target trigger o : Byte) : Op :=
  let mode := target.toNat
  let trig := trigger.toNat
  { opcode := 0x20
    sched := if trig = 0 then .must else if trig = 1 then .no else .bad
    auth := fun _ => if mode = 6 then .privileged else .authenticated
    check := fun s => modeRej s mode trig o.toNat
    refused := fun r s => { s with modes := { s.modes with errStatus := stCode r.status, lastErr := r.addr } }
    foot := fun s => { touches := placedUnits s mode, reassigns := placedUnits s mode }
    acceptFoot := { touches := [ikey 0 0x01 0], reassigns := [ikey 0 0x01 0] }
    run := fun s =>
      if trig = 1 then done (beginChange s q mode (.frame o.toNat))
      else done (launchChange (beginChange s q mode .atOnce))
    accept := fun e s => beginChange s q mode (.entry e)
    relaunch := some fun s => firstRej [faultyRej s (needsWings (targetRd s mode (projected s)) mode), targetRej s mode (projected s)]
    ready := fun s => match s.modes.pend.bind (·.wake) with | some (_, false) => false | _ => true
    waits := fun s => { s with modes := { s.modes with pend := s.modes.pend.map fun p => { p with dueAt := some (p.dueAt.getD s.tb.ns) } } }
    launchRun := some fun s => done (launchChange s)
    failed := fun r s =>
      let why := if r.status = .conflict then 3 else if (faultyRej s (needsWings (targetRd s mode (projected s)) mode)).isSome then 1 else 2
      refuseChange s why r.status r.addr }
/-- MODE_CANCEL (R105). -/
def opModeCancel : Op :=
  { opcode := 0x21
    auth := fun _ => .authenticated
    check := fun s => firstRej [
      rejIf (decide (s.modes.state = 3)) (rejSt .busy),
      rejIf (decide (s.modes.state ≠ 1) && decide (s.modes.state ≠ 2)) (rejSt .badParam)]
    foot := fun _ => { touches := [ikey 0 0x01 0] }
    run := fun s => done (dropChange s) }
/-- MODE[0] words 0x00 and 0x03. -/
def modeStatusWord (s : State) (w : Nat) : Word :=
  let m := s.modes
  if w = 0 then field 0 3 m.cur ||| field 4 3 (if [1, 2, 3].contains m.state then m.target else m.cur) ||| field 8 4 m.state ||| field 16 8 m.seq.toNat
  else field 0 24 m.lastErr.toNat ||| field 24 8 m.errStatus.toNat

end Sys2Proof.Machine
end

