-- ==== Sys2Proof/Machine/Ledger.lean ====
section
/-! DEFINITION. The Ledger at work (chapter 23): program operations and their queue, ring records, PRS writes, image copies,
maintenance, the fault log, and the Ledger commands. -/

namespace Sys2Proof.Machine
open Sys2Proof

/-! ## Small parts -/

/-- Changes the Ledger. -/
def setLedger (s : State) (f : Ledger → Ledger) : State := { s with ledger := f s.ledger }
/-- Stores bytes in the array. -/
def storeBytes (s : State) (a : Nat) (l : List Byte) : State :=
  setLedger s fun x => { x with bytes := l.zipIdx.foldl (fun t e => tput 0#8 t (a + e.2) e.1) x.bytes }
/-- Event 248 for a page. -/
def wearEvent (s : State) (p cause : Nat) : State := raise s 248 (det2 (regionOf p) cause p)
/-- A ring has no usable slot left: event 249 cause 0. -/
def noSlot (s : State) (r : Nat) : State := let p := ringBase r / 256; raise s 249 (det2 (regionOf p) 0 p)
/-- A page outside the persistent and Vault regions counts a program operation (R548). -/
def countPage (s : State) (p : Nat) : State :=
  if 20 ≤ p ∧ p ≤ 59 then s
  else
    let n := tget 0 s.ledger.wear p + 1
    let s := setLedger s fun x => { x with wear := tput 0 x.wear p n }
    if n = 100000 then wearEvent s p 0 else s
/-- A page is taken as worn after a second failed verification (R666). Log entry 88 (DEDUCED). -/
def wearOut (s : State) (p : Nat) : State := wearEvent (setLedger s fun x => { x with wear := tput 0 x.wear p 100000 }) p 0
/-- The ring and body of a step that writes a record. -/
def stepRecord : LdgStep → Option (Nat × List Byte)
  | .record r body => some (r, body)
  | .vault k st secret _ =>
    some (0x80 + k, [BitVec.ofNat 8 k, BitVec.ofNat 8 st, 0#8, 0#8] ++ List.replicate 4 0#8 ++ sized (if st = 1 then secret else []) 32
      ++ List.replicate 12 0#8)
  | _ => none
/-- A journal record's body (Table 23-6). -/
def journalBody (op phase first count item : Nat) (crc : Word) : List Byte :=
  [0x1D#8, 0x4A#8, BitVec.ofNat 8 op, BitVec.ofNat 8 phase] ++ leBytes 2 first ++ leBytes 2 count ++ [BitVec.ofNat 8 item, 0#8, 0#8, 0#8]
    ++ wordBytes crc ++ List.replicate 8 0#8
/-- An image directory record's body (Table 23-4). -/
def dirBody (image copy ident : Nat) : List Byte := [BitVec.ofNat 8 image, BitVec.ofNat 8 copy, 0#8, 0#8] ++ leBytes 4 ident
/-- A retirement map record's body (Table 23-5). -/
def mapBody (ring group : Nat) (mask : Word) : List Byte := [BitVec.ofNat 8 ring, BitVec.ofNat 8 group, 0#8, 0#8] ++ wordBytes mask

/-! ## Starting a program operation (R542, R544, R552) -/

/-- A program operation over part of a page: the groups it touches, with the page's own bytes around the data (R544). -/
def pageRun (s : State) (step : LdgStep) (p off : Nat) (data : List Byte) : LdgRun :=
  let g := off / 8
  let k := (off + data.length + 7) / 8 - g
  { step := step, addr := 256 * p + 8 * g, data := slice (patch (pageBytes s p) off data) (8 * g) (8 * k), groups := List.range k }
/-- A record write begins at a slot. -/
def recordRun (s : State) (step : LdgStep) (r i seq : Nat) (body : List Byte) (failed : List Nat) : State :=
  let c := slotWrites s r i + 1
  let p := slotPage r i
  let fresh := !pageWorn s p
  let b := makeRecord r body seq c
  let run : LdgRun := { step := step, addr := ringBase r + slotLen r * i, data := b, groups := List.range (slotLen r / 8), slot := i, seq := seq, failed := failed }
  let s := countPage (setLedger s fun x => { x with run := some run }) p
  if counted r ∧ c = 100000 then
    let s := wearEvent s p 2
    if fresh then wearEvent s p 0 else s
  else s
/-- The page of a step that is no record, its offset and its data. -/
def stepPage (s : State) : LdgStep → Nat × Nat × List Byte
  | .host p off d => (p, off, d)
  | .page p d => (p, 0, d)
  | .scrubCopy p b => (18 + b, 0, pageBytes s p)
  | .scrubBack p b => (p, 0, pageBytes s (18 + b))
  | .erase p => (p, 0, List.replicate 256 0#8)
  | _ => (0, 0, [])
/-- Starts a step; false where a record finds no usable slot. -/
def startStep (s : State) (step : LdgStep) : State × Bool :=
  match stepRecord step with
  | some (r, body) =>
    match nextSlot s r [] with
    | some i => (recordRun s step r i (nextSeq s r) body [], true)
    | none => (noSlot s r, false)
  | none =>
    let (p, off, d) := stepPage s step
    let run := pageRun s step p off d
    (countPage (setLedger s fun x => { x with run := some run }) p, true)

/-! ## Ties (R553) -/

/-- The tie of an item that still has to be reported. -/
def tieOf (s : State) (region ring : Nat) : Option Tie := s.ledger.open_.find? fun t => decide (t.region = region) && decide (t.ring = ring)
/-- The tie is reported: no later command returns it. -/
def dropTie (s : State) (region ring : Nat) : State :=
  setLedger s fun x => { x with open_ := x.open_.filter fun t => !(decide (t.region = region) && decide (t.ring = ring)) }
/-- The four bytes of Table 3-9. -/
def tieBytes (t : Tie) : List Byte := [BitVec.ofNat 8 t.region, BitVec.ofNat 8 t.ring, BitVec.ofNat 8 t.win, BitVec.ofNat 8 t.lose]
/-- A run has written an item: its own status where the item had a tie. -/
def markTie (s : State) (r : Run) (region ring : Nat) : State × Run :=
  match tieOf s region ring with
  | some t => (dropTie s region ring, if r.mark = 0 then { r with mark := 1, tie := tieBytes t } else r)
  | none => (s, r)

/-! ## The ends of steps -/

/-- Runs that write a PRS word, an LDG_WRITE, a Vault secret, that maintain, that close an image. -/
def prsRun (w : Nat) (r : Run) : Bool := match r.job with | .prs ws => ws.any fun x => decide (x.1 = w) | _ => false
def hostRun (r : Run) : Bool := match r.job with | .ldgWrite .. => true | _ => false
def secretRun (k : Nat) (r : Run) : Bool := match r.job with | .secretWrite n => decide (n = k) | _ => false
/-- A PRS word's record is verified, or has found no slot (R146 to R148). -/
def prsDone (s : State) (w : Nat) (ok : Bool) : State :=
  match takeRun (prsRun w) s.runs with
  | none => s
  | some (r, rest) =>
    let (s, r) := if ok then markTie s r 2 w else (s, { r with mark := 2 })
    let r := { r with phase := r.phase + 1 }
    let ws := match r.job with | .prs l => l | _ => []
    if r.phase < ws.length then { s with runs := r :: rest }
    else
      let s := { s with runs := rest }
      let old := word s 0 0x26 0 1
      let s := if r.mark = 2 then settleCp2 (ws.foldl (fun s x => setWord s 0 0x26 0 x.1 (prsStored s x.1)) s) old else s
      finishRun s r .ok []
/-- A Vault record is verified, or has found no slot (R562, R564, R565). -/
def vaultDone (s : State) (k st : Nat) (p : Port) (ok : Bool) : State :=
  let s := if ok then raise { s with vault := { s.vault with gone := s.vault.gone.filter (· ≠ k) } } 251 (det k st (portCode p) 0) else s
  if st ≠ 1 then s
  else match takeRun (secretRun k) s.runs with
    | none => s
    | some (r, rest) =>
      let (s, r) := if ok then markTie s r 3 (0x80 + k) else (s, { r with mark := 2 })
      finishRun { s with runs := rest } r .ok []
/-- The retirement map records for the slots that failed a record, with event 248 cause 1 for each (R552). -/
def retireSlots (s : State) (r : Nat) (failed : List Nat) : State :=
  let gs := (failed.map (· / 32)).dedup
  let recs := gs.map fun g => LdgStep.record mapRing (mapBody r g
    ((failed.filter fun i => i / 32 = g).foldl (fun m i => m ||| field (i % 32) 1 1) (outMask s r g)))
  failed.foldl (fun s i => wearEvent s (slotPage r i) 1) (setLedger s fun x => { x with retire := x.retire ++ recs })

/-! ## Image copies (R554) -/

/-- The first page of a copy of an image, and the pages of its area; image 0 is the base, 1 to 6 the overlays. -/
def copyPage (img c : Nat) : Nat := if img = 0 then 60 + 192 * c else 444 + 32 * (img - 1) + 16 * c
/-- The size limit of a stored image (R40). -/
def storeLimit (img : Nat) : Nat := if img = 0 then 49152 else 4096
/-- The newest directory record of a copy. -/
def dirOf (s : State) (img c : Nat) : Option (Nat × List Byte) :=
  newestItem s dirRing fun b => decide (byteAt b 0 = img) && decide (byteAt b 1 = c)
/-- The identifier a directory record names. -/
def dirIdent (b : List Byte) : Nat := leAt b 4 4
/-- The image of a valid copy. -/
def copyImage (s : State) (img c : Nat) : Option (List Byte) :=
  match dirOf s img c with
  | none => none
  | some e =>
    let a := 256 * copyPage img c
    let n := leNat (ledgerBytes s (a + 8) 4)
    if dirIdent e.2 = 0 ∨ n > storeLimit img then none
    else
      let b := ledgerBytes s a n
      if headRej b (if img = 0 then 1 else 2) img (storeLimit img) = none ∧ imageId b = dirIdent e.2 then some b else none
/-- The newer copy: its number and image. -/
def newerCopy (s : State) (img : Nat) : Option (Nat × List Byte) :=
  let at_ (c : Nat) : Nat := match dirOf s img c with | some e => recSeq dirRing e.2 | none => 0
  match copyImage s img 0, copyImage s img 1 with
  | some x, some y => if at_ 0 < at_ 1 then some (1, y) else some (0, x)
  | some x, none => some (0, x)
  | none, some y => some (1, y)
  | none, none => none
/-- The copy that the next write of an image goes to. -/
def olderCopy (s : State) (img : Nat) : Nat := match newerCopy s img with
  | some (c, _) => 1 - c
  | none => 1
/-- The pages an image of `n` bytes occupies in a copy. -/
def imagePages (img c n : Nat) : List Nat := (List.range ((n + 255) / 256)).map fun i => copyPage img c + i
/-- The image may be written to the copy: no page is worn, the journal has two usable slots and the directory one. -/
def storeFits (s : State) (img c n : Nat) : Bool :=
  ((imagePages img c n).all fun p => !pageWorn s p) && decide (2 ≤ usableSlots s journalRing) && decide (1 ≤ usableSlots s dirRing)
/-- The journal record of the task in progress, at a phase. -/
def journalStep (j : Nat × Nat × Nat × Nat) (phase : Nat) (crc : Word) : LdgStep :=
  .record journalRing (journalBody j.1 phase j.2.1 j.2.2.1 j.2.2.2 crc)
/-- An image copy write begins: journal, pages, directory, journal. -/
def beginCopy (s : State) (op img c : Nat) (l : List Byte) : State :=
  let ps := imagePages img c l.length
  let j := (op, copyPage img c, ps.length, 2 * img + c)
  let steps := [journalStep j 0 0#32] ++ (ps.zipIdx.map fun e => LdgStep.page e.1 (slice l (256 * e.2) 256))
    ++ [.record dirRing (dirBody img c (imageId l)), journalStep j 2 0#32]
  setLedger s fun x => { x with task := steps, journal := j, busy := true }

/-! ## Tasks (R554, R557, R666) -/

/-- The next rewrite of a compaction that can be written begins; one whose pages are worn is skipped with event 248 cause 3. -/
def beginRewrites (s : State) : List (Nat × Nat) → State
  | [] => setLedger s fun x => { x with rewrites := [], busy := false }
  | (img, c) :: rest =>
    let s := setLedger s fun x => { x with rewrites := rest }
    match newerCopy s img with
    | none => beginRewrites s rest
    | some (_, l) =>
      let worn := (imagePages img c l.length).filter (pageWorn s)
      if worn ≠ [] then beginRewrites (worn.foldl (fun s p => wearEvent s p 3) s) rest
      else if !storeFits s img c l.length then beginRewrites s rest
      else beginCopy s 2 img c l
/-- A task has no step left. -/
def taskEnd (s : State) : State := if s.ledger.task = [] then beginRewrites s s.ledger.rewrites else s
/-- The steps left of a task after one of them has failed. -/
def taskAfter (x : Ledger) : LdgStep → List LdgStep
  | .page .. => [.record dirRing (dirBody (x.journal.2.2.2 / 2) (x.journal.2.2.2 % 2) 0), journalStep x.journal 2 0#32]
  | .record r body =>
    if r = journalRing then
      (match byteAt body 3 with
        | 0 => []
        | 1 => [journalStep x.journal 2 0#32]
        | _ => if x.journal.1 ≤ 2 ∧ !x.taskBad then [.record dirRing (dirBody (x.journal.2.2.2 / 2) (x.journal.2.2.2 % 2) 0)] else [])
    else x.task
  | .scrubCopy .. => [journalStep x.journal 2 0#32]
  | _ => x.task
/-- A step of a task ends. -/
def taskStep (s : State) (step : LdgStep) (ok : Bool) : State :=
  if ok then taskEnd s
  else taskEnd (setLedger s fun x => { x with task := taskAfter x step, taskBad := true })
/-- A step has ended, with or without success. -/
def stepDone (s : State) (step : LdgStep) (ok : Bool) : State :=
  match step with
  | .host _ _ d =>
    (match takeRun hostRun s.runs with
      | none => s
      | some (r, rest) => if ok then finishRun { s with runs := rest } r .ok (leBytes 2 d.length) else finishRun { s with runs := rest } r .nvmWorn [])
  | .record r body =>
    if r < 16 then prsDone s r ok
    else if r = mapRing then s
    else if r = logRing then (if ok then s else post s 14 false (det (byteAt body 0) 0 0 0))
    else taskStep s step ok
  | .vault k st _ p => vaultDone s k st p ok
  | .erase p =>
    if s.ledger.erase.contains p then setLedger s fun x => { x with erase := x.erase.filter (· ≠ p) } else taskStep s step ok
  | _ => taskStep s step ok

/-! ## The queue (R546, R588) -/

/-- The step that writes the oldest staged fault-log record, or the time epoch it needs first (R587), and the state with that
done. -/
def logStep (s : State) : Option (LdgStep × State) :=
  match s.ev.staged with
  | [] => none
  | it :: rest =>
    let ms := it.ns.toNat / 1000000
    let popped := { s with ev := { s.ev with staged := rest } }
    let rec_ (b0 off : Nat) (d : Word) : LdgStep := .record logRing ([BitVec.ofNat 8 b0] ++ leBytes 3 off ++ wordBytes d)
    if it.kind = 1 then some (rec_ s.boot.cause 0xFFFFFF (BitVec.ofNat 32 s.ledger.bootCount), setLedger popped fun x => { x with epoch := 0 })
    else if it.kind = 2 then some (rec_ (ms / 4294967296) 0xFFFFFE (BitVec.ofNat 32 ms), setLedger popped fun x => { x with epoch := ms })
    else if ms < s.ledger.epoch ∨ ms - s.ledger.epoch > 0xFFFFFD then
      some (rec_ (ms / 4294967296) 0xFFFFFE (BitVec.ofNat 32 ms), setLedger s fun x => { x with epoch := ms })
    else some (rec_ it.source (ms - s.ledger.epoch) it.detail, popped)
/-- A fault-log record may be written: none while LDG_MAINT runs or the log's own region is being completed. -/
def logMay (s : State) : Bool :=
  decide (s.ev.staged ≠ []) && !s.runs.any maintaining && !s.ledger.erase.any fun p => decide (p ≤ 891)
/-- The next step to run, and the state in which it is out of its queue. Log entry 87 (DEDUCED). -/
def pickStep (s : State) : Option (LdgStep × State) :=
  let x := s.ledger
  match x.retire with
  | t :: rest => some (t, setLedger s fun x => { x with retire := rest })
  | [] =>
    if logMay s ∧ !x.hadLog then (logStep s).map fun e => (e.1, setLedger e.2 fun x => { x with hadLog := true })
    else match x.queue, x.task, x.erase with
      | w :: rest, [], _ => some (w.step, setLedger s fun x => { x with queue := rest, hadLog := false, hadPrs := true })
      | w :: rest, t :: more, _ =>
        if x.hadPrs then some (t, setLedger s fun x => { x with task := more, hadLog := false, hadPrs := false })
        else some (w.step, setLedger s fun x => { x with queue := rest, hadLog := false, hadPrs := true })
      | [], t :: more, _ => some (t, setLedger s fun x => { x with task := more, hadLog := false, hadPrs := false })
      | [], [], p :: _ => if s.boot.phase = .done then some (.erase p, setLedger s fun x => { x with hadLog := false, hadPrs := false })
        else if logMay s then logStep s else none
      | [], [], [] => if logMay s then logStep s else none
/-- Pages that a task leaves out because they are worn raise event 248 cause 3 (R549). Log entry 87 (DEDUCED). -/
def skips (s : State) : LdgStep → Bool
  | .erase p => pageWorn s p
  | _ => false
/-- While the controller is idle, the next step starts; at most `n` steps that end at once are passed. -/
def pumpN : Nat → State → State
  | 0, s => s
  | n + 1, s =>
    if s.ledger.run.isSome then s
    else match pickStep s with
      | none => s
      | some (t, s') =>
        if skips s' t then pumpN n (stepDone (wearEvent s' (stepPage s' t).1 3) t true)
        else match startStep s' t with
          | (s'', true) => s''
          | (s'', false) => pumpN n (stepDone s'' t false)
/-- The Ledger goes on to its next operation, where the management pair runs and nothing has closed the Ledger (R11). -/
def pump (s : State) : State :=
  if (s.boot.phase = .curator ∨ s.boot.phase = .done) ∧ mgmtPairUp s ∧ !s.ledger.closed then pumpN 1024 s else s
/-- PRS and Vault records go ahead of page writes that wait. -/
def aheadOfPages (l : List LdgWait) : List LdgWait → List LdgWait
  | [] => l
  | w :: r => (match w.step with | .host .. => l ++ w :: r | _ => w :: aheadOfPages l r)
/-- Two commands wait already. -/
def queueFull (s : State) : Bool := decide (2 ≤ (s.ledger.queue.filter (·.lead)).length)
/-- The refusal of an LDG_WRITE or a VLT_SECRET_WRITE (R546). -/
def writeBusy (s : State) : Bool := queueFull s || s.ledger.busy
/-- A PRS write's records join the queue: the first of them stands for the command. -/
def queuePrs (s : State) (ws : List (Nat × Word)) : State :=
  let steps : List LdgWait := ws.zipIdx.map fun e => { step := .record e.1.1 (wordBytes e.1.2), lead := decide (e.2 = 0) }
  pump (setLedger s fun x => { x with queue := aheadOfPages steps x.queue })
/-- A Vault record joins the queue. -/
def queueVault (s : State) (k st : Nat) (secret : List Byte) (p : Port) : State :=
  pump (setLedger s fun x => { x with queue := aheadOfPages [{ step := .vault k st secret p }] x.queue })

/-! ## LDG_PROGRAM_COMPLETE -/

/-- The bytes of an operation reach the array: programmed groups read the new bytes, each byte of a failed one reads old, new
or neither. -/
def programmed (s : State) (r : LdgRun) (bad : List Nat) : State :=
  (List.range (r.data.length / 8)).foldl (fun s g =>
    if bad.contains g then
      let (b, s) := drawBytes s 8
      storeBytes s (r.addr + 8 * g) b
    else storeBytes s (r.addr + 8 * g) (slice r.data (8 * g) 8)) s
/-- The running operation ends its verification (R552, R666). Log entry 88 (DEDUCED). -/
def programEnd (s : State) (r : LdgRun) (failed : List Nat) : State :=
  let bad := r.groups.filter failed.contains
  let s0 := setLedger s fun x => { x with run := none }
  match stepRecord r.step with
  | some (ring, body) =>
    let s1 := programmed s0 r bad
    if bad = [] then stepDone (retireSlots s1 ring r.failed) r.step true
    else
      let lost := r.slot :: r.failed
      (match usableFrom s1 ring (r.slot + 1) lost with
        | some i => recordRun s1 r.step ring i r.seq body lost
        | none => stepDone (retireSlots (noSlot s1 ring) ring lost) r.step false)
  | none =>
    if bad = [] then stepDone (programmed s0 r []) r.step true
    else if !r.again then countPage (setLedger s fun x => { x with run := some { r with groups := bad, again := true } }) (r.addr / 256)
    else stepDone (wearOut (programmed s0 r bad) (r.addr / 256)) r.step false
/-- LDG_PROGRAM_COMPLETE; the controller goes on to the next operation. -/
def execLdgProgramComplete (failed : List Nat) (s : State) : Host.Outcome State Fault Refusal :=
  match s.ledger.run with
  | none => .next s
  | some r => .next (pump (programEnd s r failed))

/-! ## The Ledger commands (R122, R544, R548, R557) -/

/-- LDG_READ. -/
def opLdgRead (page : Half) (off : Byte) (count : Half) : Op :=
  let a := 256 * page.toNat + off.toNat
  { opcode := 0x90
    hasData := true
    check := fun _ => rejIf (decide (page.toNat < 892) || decide (count.toNat = 0) || decide (count.toNat > 4096)
      || decide (a + count.toNat > 262144)) (rejSt .range)
    run := fun s => answer s (ledgerBytes s a count.toNat) }
/-- An LDG_WRITE of the same page that is not finished. -/
def writesPage (p : Nat) (r : Run) : Bool := match r.job with | .ldgWrite n _ => decide (n = p) | _ => false
/-- LDG_WRITE. -/
def opLdgWrite (page : Half) (off : Byte) (data : List Byte) : Op :=
  let p := page.toNat
  let d := data.take (256 - off.toNat)
  { opcode := 0x91
    auth := fun _ => .privileged
    check := fun s => firstRej [
      rejIf (decide (data.length = 0) || decide (data.length > 256)) (rejSt .badLength),
      rejIf (decide (p < 892) || decide (p > 1023)) (rejSt .range),
      rejIf (decide (off.toNat % 8 ≠ 0)) (rejSt .badParam),
      rejIf (pageWorn s p) (rejSt .nvmWorn),
      heldRej s (writesPage p),
      rejIf (writeBusy s || s.ledger.erase.any fun e => decide (892 ≤ e)) (rejSt .busy)]
    run := fun s => done (pump (setLedger s fun x => { x with queue := x.queue ++ [{ step := .host p off.toNat d }] }))
    job := some (.ldgWrite p d.length) }
/-- LDG_WEAR. -/
def opLdgWear (first count : Half) : Op :=
  { opcode := 0x93
    hasData := true
    check := fun _ => rejIf (decide (count.toNat = 0) || decide (first.toNat + count.toNat > 1024)) (rejSt .range)
    run := fun s => answer s ((List.range count.toNat).flatMap fun i => leBytes 4 (wearOf s (first.toNat + i))) }
/-- A maintenance action begins (Table 23-7). -/
def beginMaint (s : State) (action region page : Nat) : State :=
  let s := setLedger s fun x => { x with busy := true, taskBad := false }
  if action = 1 then
    let todo := (List.range 7).filter fun img => match copyImage s img 0, copyImage s img 1 with
      | some a, some b => decide (imageId a ≠ imageId b)
      | none, none => false
      | _, _ => true
    beginRewrites s (todo.map fun img => (img, olderCopy s img))
  else if action = 2 then
    if pageWorn s page then taskEnd (wearEvent s page 3)
    else
      let b := 1 - s.ledger.scrub
      let j := (3, page, 1, b)
      setLedger s fun x => { x with scrub := b, journal := j, task := [journalStep j 0 0#32, .scrubCopy page b,
        journalStep j 1 (crc32c (pageBytes s page)), .scrubBack page b, journalStep j 2 0#32] }
  else
    let ps := if region = 5 then (636, 256) else (892, 132)
    let j := (4, ps.1, ps.2, region)
    let steps := [journalStep j 0 0#32] ++ ((List.range ps.2).map fun i => LdgStep.erase (ps.1 + i)) ++ [journalStep j 2 0#32]
    setLedger s fun x => { x with journal := j, task := steps }
/-- LDG_MAINT. -/
def opLdgMaint (action region : Byte) (page : Half) : Op :=
  { opcode := 0x92
    auth := fun _ => .privileged
    check := fun s => firstRej [
      rejIf (decide (s.modes.cur ≠ 6)) (rejSt .modeForbids),
      (match action.toNat with
        | 1 => rejIf (decide (region.toNat ≠ 4) || decide (page.toNat ≠ 0)) (rejSt .badParam)
        | 2 => rejIf (decide (region.toNat ≠ 0)) (rejSt .badParam) <|> rejIf (decide (page.toNat > 1023)) (rejSt .range)
        | 3 => rejIf (decide (region.toNat > 6)) (rejSt .range) <|> rejIf (decide (region.toNat ≤ 4) || decide (page.toNat ≠ 0)) (rejSt .badParam)
        | _ => some (rejSt .badParam)),
      heldRej s maintaining,
      rejIf (s.ledger.busy || decide (s.ledger.erase ≠ [])) (rejSt .busy)]
    run := fun s => done (pump (beginMaint s action.toNat region.toNat page.toNat))
    job := some (.ldgMaint action.toNat region.toNat page.toNat) }
/-- LDG_MAINT_COMPLETE: the action has no step left, and its Placard is formed. -/
def execLdgMaintComplete (s : State) : Host.Outcome State Fault Refusal :=
  if s.ledger.busy then .next s
  else match takeRun maintaining s.runs with
    | none => .next s
    | some (r, rest) => .next (pump (finishRun { s with runs := rest } r .ok []))

/-! ## IMAGE_CLOSE and IMAGE_STATUS (R107, R554) -/

/-- IMAGE_STATUS. -/
def opImageStatus : Op :=
  { opcode := 0x25
    hasData := true
    run := fun s => answer s (imageStatusReply s fun img => match newerCopy s img with
      | some (_, l) => imageId l
      | none => 0) }
/-- The data of a refusal that a long-running command or a check of an image gives; AUTH_FAIL carries the port's counter
(Table 3-9). -/
def refusalData (s : State) (p : Port) (r : Rej) : List Byte :=
  if r.status = .authFail then leBytes 8 (getPort s p).counter.toNat else rejData r
/-- The checks of an IMAGE_CLOSE with action 0x00 or 0x01 end: the image is staged, and for action 0x01 its copy is begun. -/
def closeChecked (s : State) (r : Run) (rest : List Run) (store : Bool) (b : Build) : State :=
  let l := sized b.bytes b.total
  let img := if b.kind = 1 then 0 else b.mode
  let limit := if store then storeLimit img else imageLimit b.kind
  let s := { s with modes := { s.modes with build := none } }
  match imageRej s (some r.req.port) r.key limit b.kind b.mode l with
  | some e => finishRun (imageRefused { s with runs := rest } r.req.port b.kind b.mode e) r e.status (refusalData s r.req.port e)
  | none =>
    let s := stageImage s b.kind b.mode l
    if !store then finishRun { s with runs := rest } r .ok (closeReply l)
    else
      let c := olderCopy s img
      if !storeFits s img c l.length then finishRun { s with runs := rest } r .nvmWorn []
      else
        let s := beginCopy s 1 img c l
        let s := setLedger s fun x => { x with taskBad := false }
        pump { s with runs := { r with phase := 1 } :: rest }
/-- IMAGE_CLOSE_COMPLETE: the checks end, and for action 0x01 a second time when the copy is written. Log entry 86 (DEDUCED). -/
def execImageCloseComplete (s : State) : Host.Outcome State Fault Refusal :=
  match takeRun closing s.runs with
  | none => .next s
  | some (r, rest) =>
    let action := match r.job with | .imageClose a => a | _ => 0
    if r.phase = 1 then
      if s.ledger.busy then .next s
      else
        let item := s.ledger.journal.2.2.2
        let l := if item / 2 = 0 then s.modes.stagedBase else overlayOf s (item / 2)
        if s.ledger.taskBad then .next (finishRun { s with runs := rest } r .nvmWorn [])
        else
          let (s, r) := markTie s r 4 item
          .next (finishRun { s with runs := rest } r .ok (closeReply l))
    else match s.modes.build with
      | none =>
        let (d, s) := drawBytes s 8
        .next (finishRun { s with runs := rest } r .ok d)
      | some b =>
        if action = 2 then
          .next (finishRun { s with runs := rest, modes := { s.modes with build := none } } r .ok (closeReply (sized b.bytes b.total)))
        else .next (closeChecked s r rest (decide (action = 1)) b)

/-! ## The fault log (R589, R590) -/

/-- The kind of a fault-log record. Log entry 90 (DEDUCED). -/
def logKind (b : List Byte) : Nat := match leAt b 5 3 with
  | 0xFFFFFF => 1
  | 0xFFFFFE => 2
  | _ => 0
/-- The milliseconds an epoch record names. Log entry 90 (DEDUCED). -/
def epochMs (b : List Byte) : Nat := if logKind b = 1 then 0 else leAt b 4 1 * 4294967296 + leAt b 8 4
/-- The newest record of a kind older than a sequence. -/
def olderLog (l : List (Nat × List Byte)) (seq : Nat) (f : List Byte → Bool) : Option (List Byte) :=
  (newestOf logRing (l.filter fun e => decide (recSeq logRing e.2 < seq) && f e.2)).map (·.2)
/-- One record in the form of Table 25-6. -/
def logEntry (l : List (Nat × List Byte)) (slot : Nat) (b : List Byte) : List Byte :=
  let k := logKind b
  let seq := recSeq logRing b
  let time := if k = 0 then (olderLog l seq fun e => decide (logKind e ≠ 0)).map fun e => (epochMs e + leAt b 5 3) * 1000000
    else some (epochMs b * 1000000)
  let boots := if k = 1 then some (leAt b 8 4) else (olderLog l seq fun e => decide (logKind e = 1)).map fun e => leAt e 8 4
  let r := leBytes 4 seq ++ [BitVec.ofNat 8 k, if k = 0 then b.getD 4 0#8 else 0#8, BitVec.ofNat 8 (b2n time.isSome + 2 * b2n boots.isSome),
      if k = 1 then b.getD 4 0#8 else 0#8]
    ++ leBytes 8 (time.getD (2 ^ 64 - 1)) ++ (if k = 2 then List.replicate 4 0#8 else slice b 8 4) ++ leBytes 4 (boots.getD (2 ^ 32 - 1))
    ++ leBytes 2 slot ++ [0#8, 0#8]
  r ++ wordBytes (crc32c r)
/-- A position with no valid record. -/
def noLogEntry : List Byte := [0#8, 0#8, 0#8, 0#8, 0xFF#8] ++ List.replicate 27 0#8
/-- FAULT_LOG_READ: position 0 is the newest record, and each further position is the slot before. -/
def opFaultLogRead (first count : Half) : Op :=
  { opcode := 0xC2
    exempt := true
    hasData := true
    check := fun _ => rejIf (decide (count.toNat = 0) || decide (count.toNat > 128) || decide (first.toNat + count.toNat > 4096)) (rejSt .range)
    run := fun s =>
      let l := records s logRing
      answer s ((List.range count.toNat).flatMap fun i => match newestOf logRing l with
        | none => noLogEntry
        | some (top, _) =>
          let slot := (top + 4096 - (first.toNat + i)) % 4096
          match l.find? fun e => decide (e.1 = slot) with
          | some e => logEntry l slot e.2
          | none => noLogEntry) }

/-! ## LDG[0] -/

/-- LDG[0] words (Table 23-9). -/
def ldgWord (s : State) (w : Nat) : Word :=
  match w with
  | 0 => field 0 2 s.ledger.recovery ||| field 8 8 (sat 8 s.ledger.ties)
  | 1 => BitVec.ofNat 32 (maxWear s)
  | 2 => 0x0084037C#32
  | _ => 0#32

end Sys2Proof.Machine
end

