-- ==== Sys2Proof/Machine/Schedule.lean ====
section
/-! DEFINITION. The timebase and the schedule table (chapter 06): the opcode and request of a command, entries, TB_READ, TB_SET,
SCHED_CANCEL and SCHED_LIST, the TB words, and the pulse ball. -/

namespace Sys2Proof.Machine
open Sys2Proof

/-- The opcode and request of a command; an event has none. -/
def reqOf : Instr → Option (Byte × Req)
  | .nop q => some (0x00#8, q)
  | .identify q => some (0x01#8, q)
  | .claim q _ _ _ _ _ => some (0x02#8, q)
  | .release q _ _ _ _ _ => some (0x03#8, q)
  | .owners q _ _ _ _ => some (0x04#8, q)
  | .sysReset q _ _ => some (0x05#8, q)
  | .read q _ _ => some (0x10#8, q)
  | .write q _ _ _ => some (0x11#8, q)
  | .writeMasked q _ _ _ _ => some (0x12#8, q)
  | .blockRead q _ _ _ => some (0x13#8, q)
  | .blockWrite q _ _ _ => some (0x14#8, q)
  | .registerWrite q _ _ _ => some (0x11#8, q)
  | .prsWrite q _ _ => some (0x11#8, q)
  | .synEnWrite q _ _ => some (0x12#8, q)
  | .synFreqWrite q _ _ => some (0x11#8, q)
  | .synDitherSeedWrite q _ _ => some (0x11#8, q)
  | .synSpreadWrite q _ _ _ => some (0x12#8, q)
  | .refConfigWrite q _ _ => some (0x11#8, q)
  | .refRankWordWrite q _ _ => some (0x11#8, q)
  | .clrTblWinWrite q _ _ _ => some (0x11#8, q)
  | .w1cClear q _ _ _ => some (0x11#8, q)
  | .capModeWrite q _ _ => some (0x11#8, q)
  | .evtCfgWrite q _ _ => some (0x11#8, q)
  | .audTdmCfgWrite q _ _ => some (0x11#8, q)
  | .audSrcInWrite q _ _ => some (0x11#8, q)
  | .modeChange q _ _ _ => some (0x20#8, q)
  | .modeCancel q => some (0x21#8, q)
  | .imageOpen q _ _ _ => some (0x22#8, q)
  | .imageData q _ _ => some (0x23#8, q)
  | .imageClose q _ => some (0x24#8, q)
  | .imageStatus q => some (0x25#8, q)
  | .routeSwitch q _ _ _ => some (0x30#8, q)
  | .flip q _ _ _ => some (0x31#8, q)
  | .groupFlip q _ _ => some (0x32#8, q)
  | .fenceSignal q _ => some (0x33#8, q)
  | .outputStart q _ _ => some (0x34#8, q)
  | .outputStop q _ _ => some (0x35#8, q)
  | .outputAssign q _ _ => some (0x38#8, q)
  | .captureStart q _ => some (0x36#8, q)
  | .captureStop q _ _ => some (0x37#8, q)
  | .tbRead q => some (0x40#8, q)
  | .tbSet q _ _ => some (0x41#8, q)
  | .schedCancel q _ _ => some (0x42#8, q)
  | .schedList q _ _ => some (0x43#8, q)
  | .trigger q _ _ _ => some (0x44#8, q)
  | .refSelect q _ => some (0x50#8, q)
  | .refRank q _ => some (0x51#8, q)
  | .fsyncRealign q _ => some (0x52#8, q)
  | .synHop q _ _ _ => some (0x53#8, q)
  | .synBandStore q _ _ => some (0x54#8, q)
  | .synRampLoad q _ _ => some (0x55#8, q)
  | .synRampStart q _ => some (0x56#8, q)
  | .linkUp q _ _ _ _ => some (0x60#8, q)
  | .linkDown q _ _ => some (0x61#8, q)
  | .linkPower q _ _ _ => some (0x62#8, q)
  | .linkStatus q _ => some (0x63#8, q)
  | .eyeScan q _ _ _ => some (0x64#8, q)
  | .linkLoop q _ _ _ => some (0x65#8, q)
  | .audXbar q _ _ => some (0x70#8, q)
  | .meshData q _ _ _ => some (0x80#8, q)
  | .meshCommit q _ => some (0x81#8, q)
  | .meshFromCapture q _ _ _ _ _ _ => some (0x82#8, q)
  | .vitData q _ _ _ => some (0x84#8, q)
  | .vitCommit q _ _ _ => some (0x85#8, q)
  | .ldgRead q _ _ _ => some (0x90#8, q)
  | .ldgWrite q _ _ _ => some (0x91#8, q)
  | .ldgMaint q _ _ _ => some (0x92#8, q)
  | .ldgWear q _ _ => some (0x93#8, q)
  | .vltSecretWrite q _ _ => some (0xA0#8, q)
  | .vltDerive q _ _ => some (0xA1#8, q)
  | .vltChallenge q _ => some (0xA2#8, q)
  | .vltInvalidate q _ => some (0xA3#8, q)
  | .vltStatus q => some (0xA4#8, q)
  | .thmMeasure q _ => some (0xB0#8, q)
  | .selftest q _ _ _ => some (0xC0#8, q)
  | .selftestAbort q _ => some (0xC1#8, q)
  | .faultLogRead q _ _ => some (0xC2#8, q)
  | .healthReport q _ => some (0xC3#8, q)
  | .failoverForce q => some (0xC4#8, q)
  | .evtRead q _ => some (0xD0#8, q)
  | .evtAck q _ => some (0xD1#8, q)
  | .writePacket _ _ => none
  | .readPlacard _ _ => none
  | .readPortStatus _ _ => none
  | .unknownTransaction _ _ => none
  | .cp3SclTimeout _ => none
  | .cp2PacketTimeout => none
  | .cp2LinkRetry => none
  | .buildTimeout => none
  | .warmReset => none
  | .modeWakeWaitEnd => none
  | .wingReady _ => none
  | .wakeTimeout _ => none
  | .imageCloseComplete => none
  | .outputStartInstant _ => none
  | .launch => none
  | .triggerDeparture _ _ => none
  | .synBandStoreComplete _ => none
  | .rampStep _ => none
  | .synLockAcquired _ _ _ => none
  | .synUngate _ => none
  | .synSearchTimeout _ => none
  | .synLossOfLock _ => none
  | .coreClockLoss _ => none
  | .refPulse _ _ => none
  | .refFreqMeasurement _ _ => none
  | .refActivityLost _ => none
  | .refQualified _ => none
  | .dpllComparison _ => none
  | .holdoverIntervalRecord _ => none
  | .acquireAlarm => none
  | .fsyncPulse _ _ => none
  | .tbPpsPulse _ => none
  | .synHopLockTimeout _ => none
  | .eyeScanComplete _ _ => none
  | .plkDetectClock _ => none
  | .plkLaneLock _ _ => none
  | .plkLaneLockLost _ _ _ => none
  | .plkAlignTimeout _ => none
  | .capability _ _ => none
  | .capabilityResend _ => none
  | .capabilityTimeout _ => none
  | .plkStepTimeout _ => none
  | .plkTrainTimeout _ => none
  | .plkVerifyEnd _ _ => none
  | .plkFallbackTimeout _ => none
  | .plkRecoverTimeout _ => none
  | .plkClockLost _ => none
  | .heartbeatTimeout _ => none
  | .backoffEnd _ => none
  | .plkDrainTimeout _ => none
  | .heartbeatSend _ => none
  | .heartbeat _ _ => none
  | .videoLine _ _ _ => none
  | .tile _ _ _ => none
  | .audio _ _ => none
  | .fence _ _ => none
  | .marker _ _ _ _ _ => none
  | .cp2Command _ _ => none
  | .cp2Placard _ => none
  | .ack _ _ => none
  | .ackTimer _ => none
  | .retransmitTimeout _ => none
  | .urgent _ _ => none
  | .power _ _ => none
  | .training _ _ => none
  | .endOfLink _ _ => none
  | .capabilityAck _ _ => none
  | .failure _ _ => none
  | .beacon _ _ => none
  | .powerRequestTimeout _ => none
  | .wakeTimeoutPlk _ => none
  | .trafficIdleReturn _ _ => none
  | .plkErrorWindowEnd _ _ => none
  | .equaliserTrainingDone _ => none
  | .auxRequest _ _ _ _ _ _ => none
  | .dpLinkTraining _ _ _ => none
  | .dpLinkLoss _ => none
  | .sidebandMessage _ _ => none
  | .msa _ _ _ => none
  | .audioSdp _ _ _ _ _ _ _ => none
  | .fenceSdp _ _ _ => none
  | .edpHpdSettled _ _ => none
  | .edpTrainingDone _ _ => none
  | .edpIrqHpd _ _ => none
  | .edpPanelLoss _ => none
  | .csiFrameStart _ _ _ => none
  | .csiFrameEnd _ _ _ _ => none
  | .csiLongPacket _ _ _ _ _ _ _ => none
  | .csiUlpsEntry _ => none
  | .vbIdTransition _ _ _ _ => none
  | .sourceLossTimeout _ => none
  | .fillComplete _ => none
  | .lockPoint _ _ => none
  | .switchWaitBound _ _ _ => none
  | .xbarChangeBoundary => none
  | .tdmPortStart _ => none
  | .tdmPortStop _ => none
  | .converterLock _ => none
  | .converterRatioMeasure _ _ => none
  | .sampleBoundary _ _ _ => none
  | .commitTick _ _ => none
  | .jobComplete _ _ _ _ _ _ _ _ => none
  | .jobDeadlineMiss _ _ _ _ _ => none
  | .tileRowRead _ _ _ _ => none
  | .recomposedTileRead _ _ _ _ _ => none
  | .bulkTransferComplete => none
  | .transactionTimeout _ _ _ => none
  | .vitCommitComplete _ => none
  | .ldgMaintComplete => none
  | .ldgProgramComplete _ => none
  | .vltDeriveComplete => none
  | .vltChallengeComplete => none
  | .tamper => none
  | .thermalWatch => none
  | .measurementComplete _ => none
  | .shutdownStep2 _ => none
  | .shutdownStep4 => none
  | .thermalTrip => none
  | .selftestComplete _ _ => none
  | .wingFault _ _ => none
  | .wingSupplyFault _ => none
  | .giveUp _ _ => none
  | .takeover _ => none
  | .tileCompare _ _ _ _ => none
  | .arbitrationResult _ _ _ _ => none
  | .readmissionMonitorClear _ => none
  | .readmissionMonitorTimeout _ => none
  | .readmissionTestDone _ _ => none
  | .lockstepMismatch _ => none
  | .pairBackInService _ => none
  | .curatorWatchdog => none
  | .mr4RefreshPoll _ _ _ => none
  | .memoryTrainingComplete _ _ _ => none
  | .porstNAssert => none
  | .powerLoss _ => none
  | .atrSupplyFault => none
  | .bootStart _ _ _ => none
  | .flashLoadComplete _ _ => none
  | .flashLoadRetry => none
  | .bootModeApply => none
  | .outputLineBoundary _ _ => none
  | .coreClockRegained _ => none
/-- The request and opcode of an entry's command; every entry holds a command. -/
def entryReq (e : SchedEntry) : Byte × Req := (reqOf e.cmd).getD (0#8, { port := .cp0 })

/-! ## The schedule table (R158) -/

/-- Entry `e`. -/
def entry (s : State) (e : Nat) : Option SchedEntry := tget none s.tb.entries e
/-- The entries that wait, by number. -/
def waitingEntries (s : State) : List (Nat × SchedEntry) := s.tb.entries.filterMap fun x => x.2.map fun v => (x.1, v)
/-- TB_WAITING. -/
def waitingCount (s : State) : Nat := (waitingEntries s).length
/-- The lowest free entry. -/
def freeSlot (s : State) : Option Nat := (List.range 256).find? fun e => (entry s e).isNone
/-- Sets or frees an entry. -/
def setEntry (s : State) (e : Nat) (x : Option SchedEntry) : State := { s with tb := { s.tb with entries := tput none s.tb.entries e x } }
/-- The entry's MODE_CHANGE waits beyond its launch value for a Wing that is not ready (R47). -/
def wakesFirst (s : State) (e : Nat) : Bool :=
  match s.modes.pend with
  | some p => decide (p.trigger = .entry e) && p.dueAt.isSome && (match p.wake with | some (_, false) => true | _ => false)
  | none => false
/-- An entry is due: its launch value is at or before the count (Table 6-1). -/
def isDue (s : State) (e : Nat) (x : SchedEntry) : Bool := s.tb.running && decide (x.launch ≤ s.tb.ns) && !wakesFirst s e
/-- The due entries in acceptance order. -/
def dueEntries (s : State) : List (Nat × SchedEntry) :=
  ((waitingEntries s).filter fun x => isDue s x.1 x.2).mergeSort fun a b => decide (a.2.seq ≤ b.2.seq)
/-- An entry placed under the working key is discarded with its key (R163). -/
def dependsOnKey (x : SchedEntry) : Bool := let q := (entryReq x).2; q.auth && decide (q.port ≠ .cp1)
/-- Event 197. -/
def launchFailed (s : State) (e : Nat) (q : Req) (st : Status) : State := raise s 197 (det e q.tag.toNat (stCode st).toNat (portCode q.port))
/-- Every entry that depends on the working key is discarded: a launch Placard with KEY_REVOKED and event 197 each, and the change
of a MODE_CHANGE is dropped (R163). Log entry 109 (DEDUCED). -/
def discardKeyed (s : State) : State :=
  ((waitingEntries s).filter fun x => dependsOnKey x.2).foldl (fun s x =>
    let (op, q) := entryReq x.2
    let s := match x.2.cmd with
      | .modeChange .. => dropChange s
      | _ => s
    launchFailed (formLaunchPlacard (setEntry s x.1 none) q op .keyRevoked []) x.1 q .keyRevoked) s
/-- Event 196, and TB_LATE_CNT (R165). `e` is 65,535 for a launch at E. Log entry 24 (DEDUCED). -/
def lateLaunch (s : State) (e : Nat) (q : Req) (cause : Nat) : State :=
  raise { s with tb := { s.tb with lateCnt := s.tb.lateCnt + 1 } } 196 (det (e % 256) (e / 256) q.tag.toNat (portCode q.port + 16 * cause))

/-! ## The commands (Table 4-9) -/

/-- TB_READ. -/
def opTbRead : Op :=
  { opcode := 0x40
    exempt := true
    hasData := true
    run := fun s => answer s (leBytes 2 s.tb.frac.toNat ++ leBytes 8 s.tb.ns.toNat) }
/-- The number under which the timebase contests (R156). -/
def tbKey : Nat := 2147483649
/-- A new count passes over an entry that was still to come and is due now; an entry that an earlier count had passed over and that is to
come again is no longer late (R157). The launch values stay as they are. Log entry 109 (DEDUCED). -/
def passMark (old new : W64) (x : SchedEntry) : SchedEntry :=
  if old < x.launch ∧ x.launch ≤ new then { x with late := 1 }
  else if new < x.launch ∧ x.late = 1 then { x with late := 0 }
  else x
/-- The entries that a new count passes over are marked, so that they launch late; and how many they are. -/
def passOver (s : State) (new : W64) : State × Nat :=
  let old := s.tb.ns
  ({ s with tb := { s.tb with entries := s.tb.entries.map fun e => (e.1, e.2.map (passMark old new)) } },
    ((waitingEntries s).filter fun x => decide (old < x.2.launch) && decide (x.2.launch ≤ new)).length)
/-- The count is set at the tick (R156, R157): event 198, and a time epoch before the next event record (R587). -/
def setTimebase (s : State) (q : Req) (ns : W64) (frac : Half) : State :=
  let back := decide (ns < s.tb.ns)
  let (s, n) := passOver s ns
  let s := { s with tb := { s.tb with ns := ns, frac := frac }, ev := { s.ev with epochDue := true } }
  raise s 198 (det (n % 256) (n / 256) (b2n back) (portCode q.port))
/-- TB_SET. -/
def opTbSet (q : Req) (ns : W64) (frac : Half) : Op :=
  { opcode := 0x41
    sched := .yes
    auth := fun _ => .privileged
    foot := fun _ => { touches := [tbKey], reassigns := [tbKey] }
    run := fun s => done (setTimebase s q ns frac) }
/-- SCHED_CANCEL (R112, R166). An entry that is due has launched already. -/
def opSchedCancel (q : Req) (e : Half) (tag : Byte) : Op :=
  { opcode := 0x42
    check := fun s => firstRej [
      rejIf (decide (e.toNat > 255)) (rejSt .range),
      match entry s e.toNat with
      | none => some (rejSt .badParam)
      | some x =>
        let o := (entryReq x).2.port
        firstRej [
          rejIf (isDue s e.toNat x) (rejSt .badParam),
          rejIf (decide (o ≠ q.port) && decide (q.port ≠ .cp1)) { status := .notOwner, b3 := BitVec.ofNat 8 (portCode o) },
          rejIf (decide ((entryReq x).2.tag ≠ tag)) (rejSt .badParam)]]
    run := fun s => match entry s e.toNat with
      | some x => (match x.cmd with
        | .modeChange .. => done (dropChange (setEntry s e.toNat none))
        | _ => done (setEntry s e.toNat none))
      | none => done s }
/-- One 12-byte entry of SCHED_LIST. -/
def entryInfo (s : State) (e : Nat) : List Byte :=
  match entry s e with
  | none => List.replicate 12 0#8
  | some x =>
    let (op, q) := entryReq x
    leBytes 8 x.launch.toNat ++ [op, q.tag, BitVec.ofNat 8 (portCode q.port), 1#8]
/-- SCHED_LIST. -/
def opSchedList (first count : Byte) : Op :=
  { opcode := 0x43
    hasData := true
    check := fun _ => rejIf (decide (count.toNat = 0) || decide (first.toNat + count.toNat > 256)) (rejSt .range)
    run := fun s => answer s ((List.range count.toNat).flatMap fun i => entryInfo s (first.toNat + i)) }

/-! ## Words and pins -/

/-- TB[0] to TB[4] (Table 5-4). -/
def tbWord (s : State) (i w : Nat) : Word :=
  let ns := s.tb.ns.toNat
  if i = 0 then
    match w with
    | 0 => BitVec.ofNat 32 s.tb.frac.toNat
    | 1 => BitVec.ofNat 32 ns
    | 2 => BitVec.ofNat 32 (ns / 4294967296)
    | 3 => field 24 8 s.tb.lateCnt.toNat ||| field 0 9 (waitingCount s)
    | _ => 0#32
  else
    let e := 64 * (i - 1) + w / 4
    match entry s e with
    | none => 0#32
    | some x =>
      let (op, q) := entryReq x
      match w % 4 with
      | 0 => BitVec.ofNat 32 x.launch.toNat
      | 1 => BitVec.ofNat 32 (x.launch.toNat / 4294967296)
      | 2 => field 24 8 1 ||| field 16 8 (portCode q.port) ||| field 8 8 q.tag.toNat ||| field 0 8 op.toNat
      | _ => 0#32
/-- TB_PPS_OUT goes high at this tick: a whole second of the timebase. -/
def ppsRises (s : State) : Bool := s.tb.running && decide (s.tb.ns.toNat % 1000000000 = 0)
/-- It goes low at this tick, 4,096 ns after it went high. -/
def ppsFalls (s : State) : Bool := s.tb.pps && decide (s.tb.ppsRose + 4096 ≤ s.clk)
/-- The rows of TB_PPS_OUT that fall due at this tick. -/
def ppsDue (s : State) : List Instr := if ppsRises s then [.tbPpsPulse true] else if ppsFalls s then [.tbPpsPulse false] else []
/-- TB_PPS_OUT goes high at a whole second of the timebase and low 4,096 ns later. -/
def execTbPpsPulse (high : Bool) (s : State) : Host.Outcome State Fault Refusal :=
  if high then (if ppsRises s then .next { s with tb := { s.tb with pps := true, ppsRose := s.clk } } else .next s)
  else if ppsFalls s then .next { s with tb := { s.tb with pps := false } } else .next s

end Sys2Proof.Machine
end

