-- ==== Sys2Proof/Machine/Vault.lean ====
section
/-! DEFINITION. The Vault (chapter 24): secrets, the working key and its revocation, derivation and challenge, tamper. -/

namespace Sys2Proof.Machine
open Sys2Proof

/-! ## Keyed operations and revocation (R567, R568) -/

/-- A command in progress is a keyed operation: an authenticated one of CP0, CP2 or CP3, a challenge, or the close of an image
whose MAC has to be checked. -/
def keyedRun (s : State) (r : Run) : Bool :=
  (r.req.auth && decide (r.req.port ≠ .cp1)) || (match r.job with
    | .challenge _ => true
    | .imageClose a => decide (a ≠ 2) && decide (r.req.port ≠ .cp1) && (match s.modes.build with
      | some b => let l := sized b.bytes b.total; decide (imageMac l = 1) && setsSafety (imageWords l)
      | none => false)
    | _ => false)
/-- The keyed operations that started with the working key and still run are revoked. -/
def revokeRuns (s : State) : State :=
  { s with runs := s.runs.map fun r => if !r.revoked && !r.told && decide (r.key = s.vault.key) && keyedRun s r then { r with revoked := true } else r }
/-- The working key is revoked by a command of a port: no keyed operation starts with it, and scheduled entries that depend on
it are discarded. It is zeroised by `settleKey` once no keyed operation that started with it runs. -/
def revokeKey (s : State) (p : Port) : State :=
  match s.vault.key with
  | none => s
  | some _ =>
    let s := revokeRuns s
    let s := { s with vault := { s.vault with key := none, parent := none, dying := some (s.vault.parent.getD 0, p, 0) } }
    discardKeyed s
/-- A slot is invalidated or rewritten: its key is revoked, and a derivation from it that runs will load nothing (R568, R569). -/
def slotChanged (s : State) (k : Nat) (p : Port) : State :=
  let s := { s with runs := s.runs.map fun r => match r.job with
    | .derive n _ => if n = k then { r with phase := 1 } else r
    | _ => r }
  if s.vault.parent = some k then revokeKey s p else s

/-! ## Commands (Table 4-15) -/

/-- An unfinished Vault command names a slot (R563). -/
def slotBusy (k : Nat) (r : Run) : Bool :=
  match r.job with
  | .secretWrite n => decide (n = k)
  | .derive n _ => decide (n = k)
  | _ => false
/-- The number under which a Vault slot contests (R563). -/
def vaultKey (k : Nat) : Nat := 2147483904 + k
/-- VLT_SECRET_WRITE (R564). -/
def opVltSecretWrite (q : Req) (slot : Byte) (secret : List Byte) : Op :=
  let k := slot.toNat
  { opcode := 0xA0
    auth := fun _ => .privileged
    check := fun s => firstRej [
      rejIf (decide (k > 7)) (rejSt .range),
      rejIf (decide (secret.length ≠ 32)) (rejSt .badLength),
      rejIf (decide (nextSlot s (0x80 + k) [] = none)) (rejSt .nvmWorn),
      heldRej s (slotBusy k),
      rejIf (writeBusy s) (rejSt .busy)]
    refused := fun r s => if r.status = .nvmWorn then noSlot s (0x80 + k) else s
    foot := fun _ => { touches := [vaultKey k], reassigns := [vaultKey k] }
    run := fun s => done (queueVault (slotChanged s k q.port) k 1 secret q.port)
    job := some (.secretWrite k) }
/-- VLT_INVALIDATE (R565). A slot whose tie was still to be reported answers NVM_CONFLICT (R553). Log entry 25 (DEDUCED). -/
def opVltInvalidate (q : Req) (slot : Byte) : Op :=
  let k := slot.toNat
  { opcode := 0xA3
    auth := fun _ => .privileged
    check := fun s => firstRej [
      rejIf (decide (k > 7)) (rejSt .range),
      heldRej s (slotBusy k),
      heldRej s maintaining]
    foot := fun _ => { touches := [vaultKey k], reassigns := [vaultKey k] }
    run := fun s =>
      if vaultState s k ≠ 1 then done s
      else
        let s := { slotChanged s k q.port with vault := { (slotChanged s k q.port).vault with gone := k :: s.vault.gone } }
        let s := queueVault s k 2 [] q.port
        match tieOf s 3 (0x80 + k) with
        | some t => (dropTie s 3 (0x80 + k), { st := .nvmConflict, data := tieBytes t })
        | none => done s }
/-- A run that derives, or answers a challenge. Log entry 91 (DEDUCED). -/
def deriving_ (r : Run) : Bool := match r.job with | .derive .. => true | _ => false
def challenging (r : Run) : Bool := match r.job with | .challenge _ => true | _ => false
/-- VLT_DERIVE (R566). It holds its slot, and for its own port the working key register (R79). Log entry 91 (DEDUCED). -/
def opVltDerive (q : Req) (slot : Byte) (ctx : List Byte) : Op :=
  let k := slot.toNat
  { opcode := 0xA1
    auth := fun _ => .privileged
    check := fun s => firstRej [
      rejIf (decide (k > 7)) (rejSt .range),
      rejIf (decide (ctx.length ≠ 16)) (rejSt .badLength),
      rejIf (decide (vaultState s k ≠ 1)) (rejSt .badParam),
      heldRej s fun r => slotBusy k r || (deriving_ r && decide (r.req.port = q.port))]
    foot := fun _ => { touches := [vaultKey k], reassigns := [vaultKey k] }
    job := some (.derive k ctx) }
/-- The device identifier as IDENTIFY sends it. -/
def deviceBytes : List Byte := leBytes 8 Config.deviceId.toNat
/-- The key that a slot and a context derive (R566). -/
def derivedKey (secret ctx : List Byte) (k : Nat) : List Byte := hmac secret (ctx ++ deviceBytes ++ [BitVec.ofNat 8 k])
/-- The four authentication counters are set to 0 (R72). -/
def zeroCounters (s : State) : State :=
  { s with ports := { s.ports with cp0 := { s.ports.cp0 with counter := 0#64 }, cp1 := { s.ports.cp1 with counter := 0#64 },
                                   cp2 := { s.ports.cp2 with counter := 0#64 }, cp3 := { s.ports.cp3 with counter := 0#64 } } }
/-- VLT_DERIVE_COMPLETE: the new key loads, and revokes the one before it; a slot that changed meanwhile loads nothing (R566, R568,
R569). -/
def execVltDeriveComplete (s : State) : Host.Outcome State Fault Refusal :=
  match takeRun deriving_ s.runs with
  | none => .next s
  | some (r, rest) =>
    let (k, ctx) := match r.job with | .derive k c => (k, c) | _ => (0, [])
    let s := { s with runs := rest }
    if r.phase = 1 then .next (finishRun s r .keyRevoked [])
    else
      let s := if s.vault.key.isSome then discardKeyed (revokeRuns s) else s
      let s := zeroCounters { s with vault := { s.vault with key := some (derivedKey (vaultSecret s k) ctx k), parent := some k } }
      let s := raise s 250 (det 0 k (portCode r.req.port) 0)
      .next (finishRun s r .ok [])
/-- VLT_CHALLENGE (R570): the nonce is kept with the key that answers it. -/
def opVltChallenge (nonce : List Byte) : Op :=
  { opcode := 0xA2
    check := fun s => firstRej [
      rejIf (decide (nonce.length ≠ 16)) (rejSt .badLength),
      rejIf (s.vault.key.isNone) (rejSt .authFail)]
    job := some (.challenge nonce)
    hasData := true }
/-- The response to a nonce under a key (R570). -/
def response (key nonce : List Byte) : List Byte := (hmac key (nonce ++ deviceBytes)).take 16
/-- VLT_CHALLENGE_COMPLETE. -/
def execVltChallengeComplete (s : State) : Host.Outcome State Fault Refusal :=
  match takeRun challenging s.runs with
  | none => .next s
  | some (r, rest) =>
    let nonce := match r.job with | .challenge n => n | _ => []
    .next (finishRun { s with runs := rest } r .ok (response (r.key.getD []) nonce))
/-- VLT_STATUS. -/
def opVltStatus : Op :=
  { opcode := 0xA4
    hasData := true
    run := fun s => answer s (((List.range 8).map fun k => BitVec.ofNat 8 (vaultState s k)) ++ [if bit (vltWord s) 16 then 1#8 else 0#8]) }

end Sys2Proof.Machine
end

