-- ==== Sys2Proof/Machine/Thermal.lean ====
section
/-! DEFINITION. Measurements and what they lead to: levels, throttling, the orderly shutdown (chapter 22). -/

namespace Sys2Proof.Machine
open Sys2Proof

/-! ## Requests (R529 to R531) -/

/-- The sensors of a mask, in ascending order. -/
def maskSensors (m : Nat) : List Nat := (List.range 14).filter fun i => m.testBit i
/-- Changes the thermal manager's state. -/
def setThermal (s : State) (f : Thermal → Thermal) : State := { s with thermal := f s.thermal }
/-- A request for a measurement: it starts, or joins the conversion that follows (R530). `own` says a THM_MEASURE waits for it. -/
def requestMeasure (s : State) (mask : Nat) (own : Bool) : State :=
  setThermal s fun t => match t.now with
    | none => { t with now := some mask, nowAt := s.clk, served := b2n own }
    | some _ => { t with next := some (t.next.getD 0 ||| mask) }
/-- A THM_MEASURE in progress. -/
def measuring (r : Run) : Bool := match r.job with | .measure _ => true | _ => false
/-- THM_MEASURE (R124, R531). Mask bits 15:14 name no sensor and are refused, as R531 has it for THM_WATCH_MASK. Log entry 129 (DESIGN CHOICE). -/
def opThmMeasure (mask : Half) : Op :=
  let m := mask.toNat
  { opcode := 0xB0
    sched := .yes
    exempt := true
    hasData := true
    check := fun s => firstRej [
      ((maskSensors m).find? (sensorOff s)).map fun i => { status := .modeForbids, addr := mkAddr 0x22 i 0 },
      rejIf (decide (m = 0) || decide (m ≥ 16384)) (rejSt .badParam)]
    run := fun s => done (requestMeasure s m true)
    job := some (.measure m) }
/-- A watch instant that has not been served: the count is a whole multiple of THM_WATCH_MS × 1,000,000 (R531). -/
def watchDue (s : State) : Bool :=
  let ms := (word s 0 0x22 14 0).toNat
  decide (ms ≠ 0) && s.tb.running && decide (s.tb.ns.toNat % (ms * 1000000) = 0) && decide (s.thermal.watchAt ≠ some s.clk)
    && decide (s.boot.phase = .done) && mgmtPairUp s
/-- THERMAL_WATCH: a watch instant (R531). -/
def execThermalWatch (s : State) : Host.Outcome State Fault Refusal :=
  let m := bits (word s 0 0x22 14 1) 13 0
  let on := (maskSensors m).filter fun i => !sensorOff s i
  if !watchDue s then .next s
  else
    let s := setThermal s fun t => { t with watchAt := some s.clk }
    if on = [] then .next s else .next (requestMeasure s (on.foldl (fun a i => a + 2 ^ i) 0) false)

/-! ## Judging a reading (R532 to R534) -/

/-- The limits of a sensor in 1/16 °C: warn, throttle, critical. -/
def limitsOf (s : State) (i : Nat) : Int × Int × Int :=
  let w := word s 0 0x22 i 1
  (16 * (bits w 7 0 : Nat), 16 * (bits w 15 8 : Nat), 16 * (bits w 23 16 : Nat))
/-- The rate check of a good reading `v` (R533): the new reference, and the rate in 1/16 °C over a time in ns where one is formed. -/
def rateOf (x : Sensor) (v : Int) (now : Nat) : (Int × Nat) × Option (Int × Nat) :=
  match x.ref with
  | none => ((v, now), none)
  | some (r, t) =>
    let e := now - t
    if e < 1000000000 then ((r, t), none)
    else if e ≤ 10000000000 then ((v, now), some (v - r, e))
    else ((v, now), none)
/-- A rate is above a limit in °C/s. -/
def rateAbove (r : Int × Nat) (limit : Nat) : Bool := decide (16 * (limit : Int) * r.2 < r.1 * 1000000000)
/-- The throttle level after a reading (Table 22-1). -/
def newThrottle (old : Nat) (v t : Int) (rising : Bool) : Nat :=
  let low := decide (v ≤ t - 48) && !rising
  if v ≥ t + 80 then 2
  else if old = 2 then (if v > t + 32 then 2 else if low then 0 else 1)
  else if old = 1 then (if low then 0 else 1)
  else if v ≥ t ∨ rising then 1 else 0
/-- The levels of a sensor are judged by a value, with event 240 where the warn level changes (Table 22-1). -/
def judgeLevels (s : State) (i : Nat) (v : Int) : State :=
  let x := sensor s i
  let (w, t, _) := limitsOf s i
  let warn := if v ≥ w then true else if v ≤ w - 48 then false else x.warn
  let s := setSensor s i { x with warn := warn, thr := newThrottle x.thr v t x.rising }
  if warn = x.warn then s else raise s 240 (det2 i (b2n (!warn)) (BitVec.ofInt 16 v).toNat)
/-- A sensor's conversion ends: a failed one counts as a reading of exactly the throttle limit (R532). -/
def judge (s : State) (i : Nat) (r : Option Half) : State :=
  let x := sensor s i
  match r with
  | none => judgeLevels (raise (setSensor s i { x with last := 0x8000#16, bad := true }) 245 (det i 0 0 0)) i (limitsOf s i).2.1
  | some h =>
    let v := h.toInt
    let (ref, rate) := rateOf x v s.clk
    let limit := bits (word s 0 0x22 i 2) 7 0
    let rising := match rate with
      | none => x.rising
      | some q => decide (limit ≠ 0) && rateAbove q limit
    let s := setSensor s i { x with last := h, bad := false, ref := some ref, rising := rising }
    let s := match rate with
      | some q => if rising && !x.rising then raise s 242 (det2 i (sat 8 (q.1 * 1000000000 / (16 * (q.2 : Int))).toNat) h.toNat) else s
      | none => s
    judgeLevels s i v

/-! ## The orderly shutdown (R537, Table 22-2) -/

/-- The first critical reading: step 1. Log entry 93 (DEDUCED). -/
def shutdownStep1 (s : State) (i : Nat) (h : Half) : State :=
  let d := det2 i 0 h.toNat
  let s := post s 243 false d
  let s := setThermal s fun t => { t with shut := 1, shutAt := s.clk, shutNs := s.tb.ns, shutDetail := d }
  let s := if s.modes.state = 1 ∨ s.modes.state = 2 then dropChange s else s
  (activeOuts s).foldl (fun s o => setOut s o { out s o with safeDue := true }) s
/-- Every running output has scanned out one whole frame of its safe patterns. -/
def safeShown (s : State) : Bool := (List.range 20).all fun o => !outRuns s o || decide (2 ≤ (out s o).safeFrames)
/-- Event 244. -/
def stepEvent (s : State) (step : Nat) : State :=
  raise s 244 (det2 step (b2n s.thermal.shutLate) (sat 16 ((s.clk - s.thermal.shutAt) / 1000000)))
/-- Step 2: links and panels end, and the record of event 243 goes to the fault log first (R588). Log entry 93 (DEDUCED). -/
def shutdownStep2 (s : State) (bound : Bool) : State :=
  let s := setThermal s fun t => { t with shutLate := bound && !safeShown s, shut := 2 }
  let s := (List.range 24).foldl (fun s n =>
    let p := plk s n
    if p.role = 0 ∧ p.st = 8 then plkDown (sendCtl s n 0x06#8 [1#8]) n 0 else s) s
  let s := (List.range 4).foldl edpDark s
  let s := stepEvent s 2
  let it : LogItem := { kind := 0, source := 243, ns := s.thermal.shutNs, detail := s.thermal.shutDetail }
  pump { s with ev := { s.ev with staged := it :: s.ev.staged } }
/-- The bound of step 1 has passed: 100 ms, and what restarts of the management pair have added (Table 22-3). -/
def shutBound (s : State) : Bool := decide (s.thermal.shutAt + 100000000 + s.thermal.shutMore ≤ s.clk)
/-- SHUTDOWN_STEP_2: `bound` says that the bound of step 1 has passed. While the management pair is down the step waits (Table 22-3). -/
def execShutdownStep2 (bound : Bool) (s : State) : Host.Outcome State Fault Refusal :=
  let bound := bound && shutBound s
  if s.thermal.shut = 1 ∧ (bound || safeShown s) ∧ mgmtPairUp s then .next (shutdownStep2 s bound) else .next s
/-- The Ledger is at rest, and the record of event 243 is written: step 3 has ended. -/
def ledgerRests (s : State) : Bool :=
  let x := s.ledger
  x.run.isNone && x.queue.isEmpty && x.retire.isEmpty && x.task.isEmpty && !x.busy
    && !s.ev.staged.any fun it => decide (it.kind = 0) && decide (it.source = 243)
/-- Step 4: PWR_OFF_REQ_N is low, the Wings' clocks, outputs and pipes are stopped. -/
def shutdownStep4 (s : State) : State :=
  let s := setLedger s fun x => { x with closed := true }
  let s := { s with ev := { s.ev with staged := [] } }
  let s := setThermal s fun t => { t with powerOff := true, shut := 4 }
  let s := (activeOuts s).foldl (fun s o => finishStop s o 1) s
  let s := capWingStops (capWingStops s 0) 1
  let s := [Wing.a, Wing.b].foldl (fun s w => setWing s w { wing s w with role := 0, armed := false, clocksOff := true }) s
  stepEvent s 4
/-- SHUTDOWN_STEP_4. -/
def execShutdownStep4 (s : State) : Host.Outcome State Fault Refusal :=
  if s.thermal.shut = 2 ∧ ledgerRests s ∧ mgmtPairUp s then .next (shutdownStep4 s) else .next s

/-! ## MEASUREMENT_COMPLETE -/

/-- The Placards of the THM_MEASURE commands that the conversion served: the oldest `n` of them. -/
def serveMeasures : Nat → State → State
  | 0, s => s
  | n + 1, s =>
    match takeRun measuring s.runs with
    | none => s
    | some (r, rest) =>
      let m := match r.job with | .measure m => m | _ => 0
      serveMeasures n (finishRun { s with runs := rest } r .ok ((maskSensors m).flatMap fun i => leBytes 2 (sensor s i).last.toNat))
/-- The first good reading at the critical level. -/
def criticalReading (s : State) : List (Nat × Option Half) → Option (Nat × Half)
  | [] => none
  | (i, some h) :: l => if h.toInt ≥ (limitsOf s i).2.2 then some (i, h) else criticalReading s l
  | (_, none) :: l => criticalReading s l
/-- A conversion ends (R530, R532, R535): each reading is judged, the Wings' throttle levels follow, and the next conversion
begins. -/
def conversionEnds (s : State) (mask : Nat) (readings : List (Option Half)) : State :=
  let l := (maskSensors mask).zipIdx.map fun e => (e.1, readings.getD e.2 none)
  let old := s
  let s := l.foldl (fun s e => judge s e.1 e.2) s
  let by_ (w : Wing) : Nat := (((l.map Prod.fst).find? fun i => decide ((sensor s i).thr ≠ (sensor old i).thr)
    && (decide (sensorWing i = some w) || decide (12 ≤ i))).getD 12)
  let s := tellThrottle (tellThrottle s (by_ .a) .a) (by_ .b) .b
  let s := match criticalReading s l with
    | some (i, h) => if s.thermal.shut = 0 then shutdownStep1 s i h else s
    | none => s
  let s := serveMeasures s.thermal.served s
  setThermal s fun t => { t with now := t.next, next := none, nowAt := s.clk, served := if t.next.isSome then (s.runs.filter measuring).length else 0 }
/-- MEASUREMENT_COMPLETE: a conversion takes 20 µs (R529). The management pair runs the thermal manager, so that while it is down no reading is judged
(R11). -/
def execMeasurementComplete (readings : List (Option Half)) (s : State) : Host.Outcome State Fault Refusal :=
  match s.thermal.now with
  | none => .next s
  | some m => if !mgmtPairUp s ∨ s.clk < s.thermal.nowAt + 20000 then .next s else .next (conversionEnds s m readings)

/-- THM words that a conversion writes. -/
def thmLastWord (s : State) (i : Nat) : Word := field 0 16 (sensor s i).last.toNat

end Sys2Proof.Machine
end

