-- ==== Sys2Proof/Machine/Recovery.lean ====
section
/-! DEFINITION. Ledger recovery at boot (R553, R558, Table 23-8) and the load of the persistent registers (Table 27-7). -/

namespace Sys2Proof.Machine
open Sys2Proof

/-! ## Writes that recovery makes -/

/-- A record goes to the next usable slot of its ring at once. -/
def recoverRecord (s : State) (r : Nat) (body : List Byte) : State :=
  match nextSlot s r [] with
  | none => noSlot s r
  | some i =>
    let b := makeRecord r body (nextSeq s r) (slotWrites s r i + 1)
    storeBytes (countPage s (slotPage r i)) (ringBase r + slotLen r * i) b

/-! ## The open operation (Table 23-8) -/

/-- A journal record's fields: operation, phase, first page, page count, item. -/
def journalOf (b : List Byte) : Nat × Nat × Nat × Nat × Nat := (byteAt b 2, byteAt b 3, leAt b 8 2, leAt b 10 2, byteAt b 12)
/-- An open operation is completed or rolled back, the journal is closed, and event 246 raised. Log entry 89 (DEDUCED). -/
def recoverOpen (s : State) : State :=
  match newest s journalRing with
  | none => s
  | some e =>
    let (op, phase, first, count, item) := journalOf e.2
    if phase = 2 then s
    else
      let (s, out_) : State × Nat :=
        if op ≤ 2 then (recoverRecord s dirRing (dirBody (item / 2) (item % 2) 0), 2)
        else if op = 3 then
          (if phase = 1 then (storeBytes (countPage s first) (256 * first) (pageBytes s (18 + item)), 1) else (s, 2))
        else (setLedger s fun x => { x with erase := (List.range count).map (first + ·) }, 1)
      let s := recoverRecord s journalRing (journalBody op 2 first count item 0#32)
      raise (setLedger s fun x => { x with recovery := out_ }) 246 (det2 out_ op first)

/-! ## Ties (R553) -/

/-- The part of a record that says what it holds: no sequence, write count or check. -/
def contentOf (r : Nat) (b : List Byte) : List Byte :=
  if r < 16 then b.take 4 else if r = dirRing then slice b 4 4 else b.take 4 ++ slice b 12 48
/-- The records of an item that carry its newest sequence: two of them with differing content are a tie to report. -/
def tieIn (r : Nat) (l : List (Nat × List Byte)) : Option (Nat × Nat) :=
  match newestOf r l with
  | none => none
  | some w => (l.find? fun e => decide (e.1 ≠ w.1) && decide (recSeq r e.2 = recSeq r w.2)
      && decide (contentOf r e.2 ≠ contentOf r w.2)).map fun e => (w.1, e.1)
/-- A tie is settled: event 247, counted, and kept for the command that will report it. -/
def settleTie (s : State) (region ring : Nat) (t : Option (Nat × Nat)) : State :=
  match t with
  | none => s
  | some (win, lose) =>
    raise (setLedger s fun x => { x with ties := sat 8 (x.ties + 1), open_ := x.open_ ++ [⟨region, ring, win, lose⟩] }) 247
      (det region ring win 0x51)
/-- A ring with no valid record: event 249 cause 1. -/
def noRecord (s : State) (r : Nat) : State :=
  if (newest s r).isSome then s else let p := ringBase r / 256; raise s 249 (det2 (regionOf p) 1 p)
/-- The words of PRS[0] that are not RSV. -/
def prsWords : List Nat := (List.range 16).filter prsWord
/-- Every persistent and Vault ring is read. -/
def recoverRings (s : State) : State :=
  let s := prsWords.foldl (fun s w => noRecord (settleTie s 2 w (tieIn w (records s w))) w) s
  (List.range 8).foldl (fun s k => let r := 0x80 + k; noRecord (settleTie s 3 r (tieIn r (records s r))) r) s

/-! ## Image copies -/

/-- The directory records of a copy. -/
def dirRecords (s : State) (img c : Nat) : List (Nat × List Byte) :=
  (records s dirRing).filter fun e => decide (byteAt e.2 0 = img) && decide (byteAt e.2 1 = c)
/-- A copy's directory record names an image. -/
def copyNamed (s : State) (img c : Nat) : Bool := match dirOf s img c with
  | some e => decide (dirIdent e.2 ≠ 0)
  | none => false
/-- The image copies are judged (R554, R558). -/
def recoverImages (s : State) : State :=
  (List.range 14).foldl (fun s k =>
    let img := k / 2
    let c := k % 2
    let s := settleTie s 4 k (tieIn dirRing (dirRecords s img c))
    if copyNamed s img c && (copyImage s img c).isNone then raise s 249 (det2 4 2 (copyPage img c)) else s) s

/-! ## Recovery -/

/-- The boot count that the newest boot epoch names, plus 1 (R587). -/
def nextBootCount (s : State) : Nat :=
  match newestOf logRing ((records s logRing).filter fun e => decide (logKind e.2 = 1)) with
  | some e => leAt e.2 8 4 + 1
  | none => 1
/-- The scrub buffer that the newest scrub of the journal ring named. -/
def lastScrub (s : State) : Nat :=
  match newestOf journalRing ((records s journalRing).filter fun e => decide (byteAt e.2 2 = 3)) with
  | some e => byteAt e.2 12
  | none => 1
/-- Recovery (R558). The boot epoch is written before any event record of the boot (R587). -/
def recover (s : State) : State :=
  let n := nextBootCount s
  let s := setLedger s fun x => { x with bootCount := n, scrub := lastScrub s }
  let s := { s with ev := { s.ev with staged := { kind := 1, source := 0, ns := 0#64, detail := 0#32 } :: s.ev.staged } }
  recoverImages (recoverRings (recoverOpen s))
/-- The persistent registers load, and the port settings take effect (R90, R624). -/
def loadPrs (s : State) : State :=
  let s := prsWords.foldl (fun s w => setWord s 0 0x26 0 w (prsStored s w)) s
  { s with ports := { s.ports with cp3Addr := BitVec.ofNat 8 (bits (word s 0 0x26 0 1) 22 16) } }

end Sys2Proof.Machine
end

