-- ==== Sys2Proof/Machine/Reset.lean ====
section
/-! DEFINITION. What resets the Ontor and what survives (R610 to R615, Table 27-4, R539, R547, R573, R640). -/

namespace Sys2Proof.Machine
open Sys2Proof

/-! ## The Ledger in a reset (R547, R610, R614) -/

/-- The groups of a running operation that were programmed take the new bytes, a torn one reads old, new or neither byte by byte. Log entry 94 (DESIGN CHOICE). -/
def cutGroups (s : State) (r : LdgRun) : List Nat → Bool → State
  | [], _ => s
  | g :: _, true => let (b, s) := drawBytes s 8; storeBytes s (r.addr + 8 * g) b
  | g :: l, false => cutGroups (storeBytes s (r.addr + 8 * g) (slice r.data (8 * g) 8)) r l false
/-- The running program operation stops after `n` of its groups; `torn` says the next one was in progress. Log entry 94 (DESIGN CHOICE). -/
def cutRun (s : State) (n : Nat) (torn : Bool) : State :=
  match s.ledger.run with
  | none => s
  | some r =>
    let s := cutGroups s r (r.groups.take n) false
    if torn then cutGroups s r ((r.groups.drop n).take 1) true else s
/-- It stops at the end of the group it is programming: how many are done is not given, but one is at least (R610). -/
def cutWhole (s : State) : State :=
  let (f, s) := drawWord s
  cutRun s (1 + f.toNat) false
/-- What is left of the Ledger: its array, and the counts of program operations. Log entry 115 (DESIGN CHOICE). -/
def keptLedger (s : State) : Ledger := { bytes := s.ledger.bytes, wear := s.ledger.wear }

/-! ## Resets -/

/-- Everything takes its reset value, but the Ledger, the tamper latch, and what the reset's own kind keeps (R128, Table 27-4). The
pins, the clock the model counts by, and the commands that wait are no state of the Ontor's. Log entries 2 (DESIGN CHOICE), 115 (DESIGN CHOICE). -/
def resetAll (s : State) (boot : Boot) (thermal : Thermal) : State :=
  { State.reset with
    clk := s.clk, freeCtr := s.freeCtr, gpioIn := s.gpioIn, pending := s.pending
    ledger := keptLedger s, vault := { tamper := s.vault.tamper }, boot := boot, thermal := thermal }
/-- The transition of the DPLL to FREERUN that a reset makes is told once the event unit runs again (Table 7-6, Table 7-9). -/
def dpllReset (old s : State) : State := { s with dpll := { s.dpll with resetFrom := some (old.dpll.resetFrom.getD old.dpll.state) } }
/-- What a warm reset keeps of the thermal manager: the two balls and the trip latch. -/
def keptThermal (s : State) : Thermal :=
  { powerOff := s.thermal.powerOff, tripped := s.thermal.tripped, tripLatch := s.thermal.tripLatch }
/-- A warm reset with its cause of Table 27-3: 1 or 4 (R614). A watchdog reset made during boot counts one attempt (R615). -/
def warmReset (s : State) (cause : Nat) : State :=
  let n := if cause = 4 ∧ s.boot.phase ≠ .done then s.boot.attempts + 1 else s.boot.attempts
  let s := cutWhole s
  dpllReset s <| resetAll s { warm := true, asked := cause, strap := s.boot.strap, attempts := n, resetAt := s.clk } (keptThermal s)
/-- PORST_N is asserted (R610, R611). -/
def powerOnReset (s : State) (phase : BootPhase) : State :=
  let s := cutWhole s
  dpllReset s <| resetAll s { phase := phase } { tripLatch := s.thermal.tripLatch }
/-- The instant of the warm reset that SYS_RESET armed has come (R100). -/
def resetDue (s : State) : Bool := match s.boot.armed with | some t => decide (t ≤ s.clk) | none => false
/-- WARM_RESET: the warm reset that SYS_RESET armed starts (R100). -/
def execWarmReset (s : State) : Host.Outcome State Fault Refusal :=
  if resetDue s then .next (warmReset s 1) else .next s
/-- PORST_N_ASSERT. -/
def execPorstNAssert (s : State) : Host.Outcome State Fault Refusal := .next (powerOnReset s .held)
/-- ATR_SUPPLY_FAULT: the Ontor holds itself in reset as under PORST_N assertion (R640). Log entry 95 (DEDUCED). -/
def execAtrSupplyFault (s : State) : Host.Outcome State Fault Refusal := .next (powerOnReset s .noSupply)
/-- POWER_LOSS (R547). -/
def execPowerLoss (groups : Nat) (s : State) : Host.Outcome State Fault Refusal :=
  let s := cutRun s groups true
  .next (resetAll s {} { tripLatch := s.thermal.tripLatch })

/-- Event 0 has not been raised 1 s after the Curator started (R615). -/
def watchdogDue (s : State) : Bool := decide (s.boot.phase = .curator) && decide (s.boot.curatorAt + 1000000000 ≤ s.clk)
/-- CURATOR_WATCHDOG. -/
def execCuratorWatchdog (s : State) : Host.Outcome State Fault Refusal :=
  if watchdogDue s then .next (warmReset s 4) else .next s

/-! ## Trip and tamper -/

/-- THERMAL_TRIP (R539): everything stops, the trip latch is set; a Ledger operation is cut as by a power loss, after a number of
groups that nothing gives. -/
def execThermalTrip (s : State) : Host.Outcome State Fault Refusal :=
  let (f, s) := drawWord s
  let s := cutRun s f.toNat true
  .next (resetAll s { strap := s.boot.strap, attempts := s.boot.attempts }
    { powerOff := s.thermal.powerOff, tripped := true, tripLatch := true })
/-- The bytes of the Vault's pages are cleared (R573). -/
def clearVault (s : State) : State :=
  setLedger s fun x => { x with bytes := x.bytes.filter fun e => !(decide (52 ≤ e.1 / 256) && decide (e.1 / 256 ≤ 59)) }
/-- TAMPER (R573): the key is zeroised with the reset, and no keyed operation forms a Placard. While the Ontor is in reset already
the latch and the clear are all that changes. Log entry 95 (DEDUCED). -/
def execTamper (s : State) : Host.Outcome State Fault Refusal :=
  let latch (s : State) : State := clearVault { s with vault := { s.vault with tamper := true } }
  if s.boot.phase = .held ∨ s.boot.phase = .noSupply then .next (latch s) else .next (latch (warmReset s 0))

/-! ## Core clocks (Table 8-3, R227) -/

/-- The active outputs that a Wing drives. -/
def drivenOuts (s : State) (w : Wing) : List Nat := (activeOuts s).filter fun o => decide ((out s o).wing = w)
/-- CORE_CLOCK_LOSS: a Wing stops, the fabric goes over to its reserve, and the control clock's loss is a watchdog reset. -/
def execCoreClockLoss (g : CoreGen) (s : State) : Host.Outcome State Fault Refusal :=
  match g with
  | .wing .a =>
    if s.clocks.lostA then .next s
    else .next (mustGiveUp (raise (queuesLost { s with clocks := { s.clocks with lostA := true } } (drivenOuts s .a)) 195 (det 0 0 0 0)) .a 7)
  | .wing .b =>
    if s.clocks.lostB then .next s
    else .next (mustGiveUp (raise (queuesLost { s with clocks := { s.clocks with lostB := true } } (drivenOuts s .b)) 195 (det 1 0 0 0)) .b 7)
  | .fabric =>
    if s.clocks.reserve then .next s else .next (raise { s with clocks := { s.clocks with reserve := true } } 195 (det 2 0 0 0))
  | .control => if s.boot.phase = .held ∨ s.boot.phase = .noSupply then .next s else .next (warmReset s 4)
/-- The monitors of the Wing are clear from its clock's return at the earliest (R521). -/
def clockBack (s : State) (w : Wing) : State := setWing s w { wing s w with badAt := s.clk }
/-- CORE_CLOCK_REGAINED. The control clock's lock is part of boot. -/
def execCoreClockRegained (g : CoreGen) (s : State) : Host.Outcome State Fault Refusal :=
  match g with
  | .wing .a => if s.clocks.lostA then .next (raise (clockBack { s with clocks := { s.clocks with lostA := false } } .a) 195 (det 0 1 0 0)) else .next s
  | .wing .b => if s.clocks.lostB then .next (raise (clockBack { s with clocks := { s.clocks with lostB := false } } .b) 195 (det 1 1 0 0)) else .next s
  | .fabric => if s.clocks.reserve then .next (raise { s with clocks := { s.clocks with reserve := false } } 195 (det 2 1 0 0)) else .next s
  | .control => .next s

end Sys2Proof.Machine
end

