-- ==== Sys2Proof/Machine/SelfTest.lean ====
section
/-! DEFINITION. Self-tests (R125, R224, R522 to R524, Table 4-17). -/

namespace Sys2Proof.Machine
open Sys2Proof

/-- The classes that only M6 permits. -/
def m6Test (cls : Nat) : Bool := decide (cls = 5) || decide (cls = 6)
/-- The classes that can run in blanking slices. -/
def canSlice (cls : Nat) : Bool := decide (1 ≤ cls) && decide (cls ≤ 3)
/-- The units of a class: one more than the highest number; a class without units takes any value. -/
def testUnits (cls : Nat) : Option Nat :=
  match cls with
  | 1 => some 8 | 2 => some 10 | 4 => some 11 | 6 => some 4 | _ => none
/-- A Wing counts as powered down for a self-test (R522). -/
def testDown (s : State) (w : Wing) : Bool := let x := wing s w; x.heldOut || (decide (x.role = 0) && !x.readmit)
/-- A Wing drives an output that is not STOPPED. -/
def drivesOutput (s : State) (w : Wing) : Bool := (activeOuts s).any fun o => decide ((out s o).wing = w)
/-- A test on the Wing runs freely (R125). -/
def testFree (s : State) (w : Wing) : Bool := decide (s.modes.cur = 6) || decide ((wing s w).role = 3) || !drivesOutput s w
/-- The refusals of SELFTEST, in the order of R125 within steps 11 to 14. Log entry 102 (DEDUCED). -/
def selftestRej (s : State) (p : Port) (cls target unit : Nat) : Option Rej :=
  let w := wingOf target
  firstRej [
    rejIf (m6Test cls && decide (s.modes.cur ≠ 6)) (rejSt .modeForbids),
    rejIf (decide (target < 2) && testDown s w) { status := .modeForbids, addr := mkAddr 0x21 target 0 },
    rejIf (decide (cls = 0) || decide (cls > 6) || decide (target > 2) || decide ((cls = 4) ≠ (target = 2))) (rejSt .badParam),
    (match testUnits cls with
      | some n => rejIf (decide (unit ≥ n)) (rejSt .range)
      | none => none),
    rejIf (decide (cls = 6) && decide (unit / 2 ≠ target)) (rejSt .badParam),
    rejIf (s.runs.any (testOn target) || (decide (target < 2) && (wing s w).readmit)) (rejSt .busy),
    rejIf (decide (target = 2) && synBusy s unit) (rejSt .busy),
    (if target = 2 then synHeld s p unit else none),
    rejIf (decide (target < 2) && !testFree s w && !canSlice cls) (rejSt .busy)]
/-- The instance of the Mirror that a self-test names (Table 4-17). -/
def testedInst (cls target unit : Nat) : List Nat :=
  match cls with
  | 2 => [ikey target 0x15 unit]
  | 4 => [ikey 0 0x04 unit]
  | 6 => [ikey 0 0x19 unit]
  | _ => []
/-- SELFTEST (R125). A test on the standby disarms it (R524). Log entry 102 (DEDUCED). -/
def opSelftest (q : Req) (cls target : Byte) (unit : Half) : Op :=
  let w := wingOf target.toNat
  { opcode := 0xC0
    hasData := true
    check := fun s => selftestRej s q.port cls.toNat target.toNat unit.toNat
    foot := fun _ => { touches := testedInst cls.toNat target.toNat unit.toNat }
    run := fun s => done (if target.toNat < 2 ∧ (wing s w).role = 3 then disarm s w 1 else s)
    job := some (.selftest cls.toNat target.toNat unit.toNat) }
/-- SELFTEST_ABORT: the running test's Placard has outcome 2. -/
def opSelftestAbort (target : Byte) : Op :=
  { opcode := 0xC1
    check := fun s => rejIf (decide (target.toNat > 2) || !s.runs.any (testOn target.toNat)) (rejSt .badParam)
    run := fun s => done (endTest s target.toNat 2 0 0#32) }
/-- The class of the test running on a target. -/
def testClass (s : State) (t : Nat) : Nat :=
  match s.runs.find? (testOn t) with
  | some r => (match r.job with | .selftest c _ _ => c | _ => 0)
  | none => 0
/-- SELFTEST_COMPLETE. A failed test of class 0x01 or 0x02 on a Wing is cause 3 of Table 21-3, once its Placard is formed (R524). -/
def execSelftestComplete (target : Fin 3) (failed : Option (Half × Word)) (s : State) : Host.Outcome State Fault Refusal :=
  let t := target.val
  let c := testClass s t
  if !s.runs.any (testOn t) then .next s
  else match failed with
    | none => .next (endTest s t 0 0 0#32)
    | some (u, d) =>
      let s := endTest s t 1 u.toNat d
      .next (if t < 2 ∧ (c = 1 ∨ c = 2) then wingFault s (wingOf t) 3 else s)

end Sys2Proof.Machine
end

