-- ==== Sys2Proof/Machine/Dispatcher.lean ====
section
/-! DEFINITION. The dispatchers of the Wings (R372, R373, R375, R458, R523): which composition jobs are eligible, which goes to an engine next, and on
which engines; and the pauses of the throttle gate between jobs (R13, R17, R536). -/

namespace Sys2Proof.Machine
open Sys2Proof

/-! ## Jobs of an output -/

/-- The key of a composed tile of a Wing: row and column. -/
def tileKey (w : Wing) (row col : Nat) : Nat := 1048576 * wingCode w + 1024 * row + col
/-- A Wing composes an output. -/
def composes (s : State) (w : Wing) (o : Nat) : Bool := (composers s o).contains (wingCode w)
/-- A job covers the Vitrine rectangle of its output. -/
def coversVitrine (s : State) (o row col : Nat) (line : Bool) : Bool :=
  let v := vitView s o
  let meets (a n : Nat) (b : Int) (m : Nat) : Bool := decide ((a : Int) < b + m) && decide (b < (a : Int) + n)
  v.on && (if line then meets row 1 v.y v.h else meets (16 * row) 16 v.y v.h && meets (16 * col) 16 v.x v.w)
/-- A job runs on two engines (R375): every job of a safety output, and tile jobs covering a Vitrine layer. -/
def dualJob (s : State) (o row col : Nat) : Bool :=
  bit (outWord s o 0x0D) 0 || (!lineLocked s o && coversVitrine s o row col false)

/-- The genlocked queues: an entry is read on the 8th destination edge (R20, R592). -/
def queueClocks : Nat := 8
/-- Whether a layer's vertical ratio and its horizontal ratio differ from 1. -/
def scalesLines (s : State) (bank n : Nat) (f : Frame) : Bool × Bool :=
  let d := lyrDst (word s) bank n
  (decide (f.h ≠ d.2), decide (f.w ≠ d.1))
/-- The clocks of line-locked composition for a layer: C0 with its scaling or its warp terms (Table 26-1, R408). -/
def compositionClocks (s : State) (bank n o : Nat) (f : Frame) : Nat :=
  let h := hTotal (word s) o
  let taps := match firstScaler (assigned s bank) n with
    | some x => bits (word s bank 0x15 x 1) 7 4
    | none => 0
  let r := scalesLines s bank n f
  2 * h + 96 + (match lyrMesh s bank n with
    | some _ => h + 32
    | none => (if r.1 then (taps + 1) / 2 * h else 0) + (if r.2 then 24 else 0))
/-- A Wing's dispatcher. -/
def dispatcher (s : State) : Wing → Dispatcher
  | .a => s.dispA
  | .b => s.dispB
/-- Sets it. -/
def setDispatcher (s : State) (w : Wing) (d : Dispatcher) : State :=
  match w with
  | .a => { s with dispA := d }
  | .b => { s with dispB := d }
/-- So many output pixel clocks, in ps. -/
def clocksPs (s : State) (o : Nat) (n : Int) : Int :=
  let f := pixelClock (word s) o
  if f ≤ 0 then 0 else ((n : Rat) * 1000000000000 / f).floor
/-- The columns and rows of tiles of an output. -/
def tileCols (s : State) (o : Nat) : Nat := (hAct (word s) o + 15) / 16
def tileRows (s : State) (o : Nat) : Nat := (vAct (word s) o + 15) / 16
/-- The clocks of line-locked composition of an output's lines in a Wing: those of the layer that needs the most (Table 26-1, R597). -/
def lineClocks (s : State) (b o : Nat) : Nat :=
  ((onLayers s b).filter fun n => decide (lyrOut s b n = o) && lyrShown s b n).foldl (fun m n =>
    match layerPipe s b n with
    | some k => max m (compositionClocks s b n o { w := (capAt s k).w, h := (capAt s k).h })
    | none => m) (2 * hTotal (word s) o + 96)
/-- The line job of line `y` of a frame (R597): its deadline is its first pixel's entry into the hold-stage queue. -/
def lineJob (s : State) (f : FrameJobs) (y : Nat) : EJob :=
  { out := f.out, row := y, rank := 1, due := f.start + clocksPs s f.out ((y * hTotal (word s) f.out : Nat) - (queueClocks : Int))
    dual := dualJob s f.out y 0 }
/-- The instant from which that job is eligible, after its commit tick (R597). -/
def lineOpens (s : State) (b : Nat) (f : FrameJobs) (y : Nat) : Int :=
  f.start + clocksPs s f.out ((y * hTotal (word s) f.out : Nat) - (queueClocks : Int) - lineClocks s b f.out)
/-- A tile job has rank 2 (Table 14-7). -/
def tileFirst (s : State) (o row col : Nat) : Bool := bit (outWord s o 0x0D) 0 || coversVitrine s o row col false
/-- The job of tile `i` of a frame, in raster order: its deadline is the read of its row (R458). -/
def tileJob (s : State) (f : FrameJobs) (i : Nat) : EJob :=
  let row := i / tileCols s f.out
  let col := i % tileCols s f.out
  { out := f.out, row := row, col := col, rank := if tileFirst s f.out row col then 2 else 4
    due := f.start + clocksPs s f.out ((16 * (row : Int) - 16) * hTotal (word s) f.out), dual := dualJob s f.out row col }
/-- The recomposition of a tile (R459). -/
def recompJob (s : State) (f : FrameJobs) (row col : Nat) : EJob :=
  { out := f.out, row := row, col := col, rank := 3, due := f.start + clocksPs s f.out ((16 * (row : Int) - 2) * hTotal (word s) f.out)
    dual := coversVitrine s f.out row col false }

/-! ## What is eligible, and in which order -/

/-- The first tile of a frame at or after `i`, of rank 2 or not, whose row has its window slot: row r waits for the read of row r − 4 (R458). -/
def nextTile (s : State) (f : FrameJobs) (first : Bool) (i : Nat) : Option Nat :=
  let c := tileCols s f.out
  let lo := max i (f.read * c)
  let hi := min (tileRows s f.out) (f.read + 4) * c
  ((List.range (hi - lo)).map (lo + ·)).find? fun i => decide (tileFirst s f.out (i / c) (i % c) = first)
/-- The next job of rank 1 or 2 of a frame. -/
def nextUrgent (s : State) (b : Nat) (f : FrameJobs) : Option EJob :=
  if lineLocked s f.out then
    (if f.next < vAct (word s) f.out ∧ lineOpens s b f f.next ≤ (s.clk : Int) * 1000 then some (lineJob s f f.next) else none)
  else (nextTile s f true f.next).map (tileJob s f)
/-- The next job of rank 4 of a frame. -/
def nextPlain (s : State) (f : FrameJobs) : Option EJob :=
  if lineLocked s f.out then none else (nextTile s f false f.rest).map (tileJob s f)
/-- One job goes before another: by rank, deadline, output, raster order (Table 14-7). -/
def jobBefore (a b : EJob) : Bool :=
  let key (x : EJob) : List Int := [x.rank, x.due, x.out, x.row, x.col]
  decide (key a ≤ key b)
/-- The first of some jobs. -/
def firstJob (l : List EJob) : Option EJob := l.foldl (fun m x => match m with
  | some y => if jobBefore y x then m else some x
  | none => some x) none
/-- The jobs that head the frames and recompositions of a Wing. -/
def headJobs (s : State) (w : Wing) (d : Dispatcher) : List EJob :=
  let fs := d.frames.filter fun f => timingRuns (out s f.out) && composes s w f.out
  fs.filterMap (nextUrgent s (wingCode w)) ++ d.recomp ++ fs.filterMap (nextPlain s)
/-- The throttle gate acts on a job: a rank-4 tile job of an output with OUT_NONCRIT 1 (R17, R536). -/
def pausable (s : State) (j : EJob) : Bool := decide (j.rank = 4) && bit (outWord s j.out 0x0C) 0

/-! ## Engines -/

/-- The Gallery of an engine: 32 engines each. -/
def galleryOf (e : Nat) : Nat := e / 32
/-- The output with the longest frame period that a Wing drives. -/
def slowestOut (s : State) (w : Wing) : Option Nat :=
  ((activeOuts s).filter fun o => decide ((out s o).wing = w)).foldl (fun m o => match m with
    | some p => if frameRate (word s) p ≤ frameRate (word s) o then m else some o
    | none => some o) none
/-- A self-test has the Gallery: a test of it that runs freely, or in a blanking slice (R523). -/
def underTest (s : State) (w : Wing) (g : Nat) : Bool :=
  s.runs.any fun r => match r.job with
    | .selftest c t u => decide (c = 1) && decide (t = wingCode w) && decide (u = g) && (testFree s w || (match slowestOut s w with
        | some o => decide (vAct (word s) o ≤ (out s o).line)
        | none => true))
    | _ => false
/-- An engine takes a job now: it is idle, its Gallery is not under test, and it is in no pause that the job falls under (R373, R536). -/
def takesJob (s : State) (w : Wing) (d : Dispatcher) (j : EJob) (e : Nat) : Bool :=
  let x := tget {} d.engines e
  x.job.isNone && (!pausable s j || decide (x.restTo ≤ s.clk)) && !underTest s w (galleryOf e)
/-- The engines a job goes to: the first that takes it, and for a dual job the first of another Gallery (R373, R375). -/
def enginesFor (s : State) (w : Wing) (d : Dispatcher) (j : EJob) : Option (List Nat) :=
  let free (e : Nat) : Bool := decide (j.avoid ≠ some (galleryOf e)) && takesJob s w d j e
  match (List.range 256).find? free with
  | none => none
  | some e =>
    if !j.dual then some [e]
    else ((List.range 256).find? fun x => decide (galleryOf x ≠ galleryOf e) && free x).map fun x => [e, x]
/-- A frame's job is handed out. -/
def advance (s : State) (j : EJob) (f : FrameJobs) : FrameJobs :=
  let i := if j.rank = 1 then j.row else j.row * tileCols s f.out + j.col
  if f.out ≠ j.out then f
  else if j.rank = 3 then f
  else if j.rank = 4 then { f with rest := i + 1 } else { f with next := i + 1 }
/-- A job goes to its engines. -/
def hand (s : State) (d : Dispatcher) (j : EJob) (es : List Nat) : Dispatcher :=
  { frames := d.frames.map (advance s j)
    recomp := if j.rank = 3 then d.recomp.filter (· ≠ j) else d.recomp
    engines := es.foldl (fun t e => tput {} t e { tget {} t e with job := some j, since := s.clk }) d.engines }
/-- Jobs go out in order until no engine takes the next; one that waits for a pause lets those pass that the gate does not touch.
Log entry 132 (DEDUCED). -/
def handOut (s : State) (w : Wing) : Nat → Dispatcher → Dispatcher
  | 0, d => d
  | n + 1, d =>
    let js := headJobs s w d
    let go (l : List EJob) : Option Dispatcher := (firstJob l).bind fun j => (enginesFor s w d j).map (hand s d j)
    match go js with
    | some d' => handOut s w n d'
    | none => match go (js.filter fun j => !pausable s j) with
      | some d' => handOut s w n d'
      | none => d
/-- A Wing's dispatcher works; a Wing that is off has no jobs. -/
def dispatch (s : State) (w : Wing) : State :=
  let d := dispatcher s w
  if d = {} then s
  else if (wing s w).role = 0 then setDispatcher s w {}
  else setDispatcher s w (handOut s w 256 d)
/-- Both dispatchers work. -/
def dispatchAll (s : State) : State := dispatch (dispatch s .a) .b

/-! ## Frames, completions, reads -/

/-- A commit tick: the jobs of the frame it begins are eligible in every composing Wing, in place of the last frame's (R372). -/
def beginJobs (s : State) (o : Nat) : State :=
  let f : FrameJobs := { out := o, start := (frameStartNs s o * 1000).floor }
  (composers s o).foldl (fun s b =>
    let d := dispatcher s (wingOf b)
    setDispatcher s (wingOf b) { d with frames := f :: d.frames.filter fun g => decide (g.out ≠ o), recomp := d.recomp.filter fun j => decide (j.out ≠ o) }) s
/-- The frame is abandoned: no more of its jobs are handed out (R374). -/
def dropFrame (s : State) (w : Wing) (o : Nat) : State :=
  let d := dispatcher s w
  setDispatcher s w { d with frames := d.frames.filter fun f => decide (f.out ≠ o), recomp := d.recomp.filter fun j => decide (j.out ≠ o) }
/-- The engines that run a job. -/
def enginesOf (s : State) (w : Wing) (o row col : Nat) : List Nat :=
  ((dispatcher s w).engines.filter fun e => match e.2.job with
    | some j => decide (j.out = o) && decide (j.row = row) && decide (j.col = col)
    | none => false).map (·.1)
/-- How many run times the throttle gate pauses an engine that finishes a job it acts on (R536). -/
def pauseFactor (s : State) (w : Wing) : Nat := match throttleLevel s w with | 0 => 0 | 1 => 1 | _ => 3
/-- An engine finishes its job; the throttle gate's pause begins (R17, R536). -/
def finishEngine (s : State) (w : Wing) (e : Nat) : State :=
  let d := dispatcher s w
  let x := tget {} d.engines e
  let run := s.clk - x.since
  let rest := match x.job with
    | some j => if pausable s j then s.clk + pauseFactor s w * run else x.restTo
    | none => x.restTo
  setDispatcher s w { d with engines := tput {} d.engines e { restTo := if s.clk < rest then rest else 0 } }
/-- The key of a tile of an output. -/
def madeKey (o row col : Nat) : Nat := 1048576 * o + 1024 * row + col
/-- A job's engines finish it, the Gallery that composed the tile is kept, and the dispatcher hands out the next. -/
def finishJob (s : State) (w : Wing) (o row col : Nat) : State :=
  let es := enginesOf s w o row col
  let d := dispatcher s w
  let s := setDispatcher s w { d with made := tput 0 d.made (madeKey o row col) (galleryOf (es.headD 0) + 1) }
  dispatch (es.foldl (fun s e => finishEngine s w e) s) w
/-- A tile row has been read from the window: its slot is free for row r + 4, and the tiles of `bad` columns are composed again (R458, R459). -/
def rowRead (s : State) (w : Wing) (o row : Nat) (bad : List Nat) : State :=
  let d := dispatcher s w
  match d.frames.find? fun f => decide (f.out = o) with
  | none => s
  | some f =>
    let fs := d.frames.map fun g => if g.out = o then { g with read := max g.read (row + 1) } else g
    dispatch (setDispatcher s w { d with frames := fs, recomp := d.recomp ++ bad.map (recompJob s f row) }) w
/-- A recomposition that has not been handed out by its deadline is not wanted any more. -/
def dropRecomp (s : State) (w : Wing) (o row col : Nat) : State :=
  let d := dispatcher s w
  setDispatcher s w { d with recomp := d.recomp.filter fun j => !(decide (j.out = o) && decide (j.row = row) && decide (j.col = col)) }

end Sys2Proof.Machine
end

