-- ==== Sys2Proof/Machine/Compare.lean ====
section
/-! DEFINITION. The comparison of the two Wings' tiles in M2, and its arbitration (R512, R513). -/

namespace Sys2Proof.Machine
open Sys2Proof

/-- A tile is excluded because of a Wing. Log entry 80 (DEDUCED). -/
def excludeTile (s : State) (o : Nat) (w : Wing) : State :=
  let s := setHealth s w fun h => { h with excluded := sat 32 (h.excluded + 1) }
  if standby s = some w then dirtyFrame s o else s
/-- The recomputation that decides a disagreement: a rank-3 job in dual mode, whose result must be in at the next commit tick, on engines of two
Galleries other than the one that composed the tile (R513). -/
def recompose (s : State) (w : Wing) (o row col : Nat) : State :=
  let d := dispatcher s w
  match d.frames.find? fun f => decide (f.out = o) with
  | none => s
  | some f =>
    let due := f.start + clocksPs s o (vAct (word s) o * hTotal (word s) o : Nat)
    let g := tget 0 d.made (madeKey o row col)
    dispatch (setDispatcher s w { d with recomp := d.recomp ++
      [{ out := o, row := row, col := col, rank := 3, due := due, dual := true, avoid := if g = 0 then none else some (g - 1) }] }) w
/-- The comparator pairs two records (R512): each is the payload CRC with whether the tile is recomposed or concealed, none
where the record has not arrived when the row is read. -/
def compareTile (s : State) (o row col : Nat) (a b : Option (Word × Bool)) : State :=
  if s.modes.cur ≠ 2 ∨ s.wingA.role < 2 ∨ s.wingB.role < 2 ∨ lineLocked s o ∨ tileRows s o ≤ row ∨ tileCols s o ≤ col then s
  else
    let bad (r : Option (Word × Bool)) : Bool := match r with
      | none => true
      | some x => x.2
    if bad a || bad b then
      let s := if bad a then excludeTile s o .a else s
      if bad b then excludeTile s o .b else s
    else if bit (outWord s o 0x0C) 0 || (out s o).gapInFrame || (out s o).repeated then s
    else
      let s := setHealth s .a fun h => { h with compared := sat 32 (h.compared + 1) }
      let s := setHealth s .b fun h => { h with compared := sat 32 (h.compared + 1) }
      if a = b then s else recompose (recompose { s with arbs := s.arbs ++ [{ out := o, row := row, col := col }] } .a o row col) .b o row col
/-- TILE_COMPARE. -/
def execTileCompare (o : Fin 20) (tile : TileAt) (a b : Option (Word × Bool)) (s : State) : Host.Outcome State Fault Refusal :=
  .next (compareTile s o.val tile.row tile.col a b)

/-- Event 236, at most once per output frame. -/
def arbEvent (s : State) (o row outcome : Nat) : State :=
  let x := out s o
  if x.toldArb then s else raise (setOut s o { x with toldArb := true }) 236 (det o outcome (sat 8 row) 0)
/-- An unresolved disagreement counts in both reports (R513). -/
def unresolved (s : State) (o row : Nat) : State :=
  let s := setHealth s .a fun h => { h with unresolved := sat 16 (h.unresolved + 1) }
  let s := setHealth s .b fun h => { h with unresolved := sat 16 (h.unresolved + 1) }
  arbEvent (dirtyFrame s o) o row 3
/-- A Wing's recomputation of a disagreed tile has ended on its engines: confirmed, or against it (Table 21-5). -/
def arbitrate (s : State) (o row col : Nat) (w : Wing) (confirmed : Bool) : State :=
  match s.arbs.find? fun x => decide (x.out = o) && decide (x.row = row) && decide (x.col = col) && (if w = .a then x.a.isNone else x.b.isNone) with
  | none => s
  | some x =>
    if enginesOf s w o row col = [] then s
    else
    let s := finishJob s w o row col
    let y := if w = .a then { x with a := some confirmed } else { x with b := some confirmed }
    let rest := s.arbs.erase x
    let s := if confirmed then s else
      wingFault (setHealth s w fun h => { h with against := sat 16 (h.against + 1) }) w 2
    match y.a, y.b with
    | some p, some q =>
      let s := { s with arbs := rest }
      if p && q then unresolved s o row
      else arbEvent s o row (if !p && !q then 2 else if !p then 0 else 1)
    | _, _ => { s with arbs := rest ++ [y] }
/-- ARBITRATION_RESULT. -/
def execArbitrationResult (o : Fin 20) (tile : TileAt) (w : Wing) (confirmed : Bool) (s : State) : Host.Outcome State Fault Refusal :=
  .next (arbitrate s o.val tile.row tile.col w confirmed)
/-- The recomputations of an output that are not finished at its commit tick are unresolved (Table 21-5). -/
def flushArbs (s : State) (o : Nat) : State :=
  let mine := s.arbs.filter fun x => x.out = o
  let s := { s with arbs := s.arbs.filter fun x => decide (x.out ≠ o) }
  mine.foldl (fun s x => unresolved s o x.row) s

end Sys2Proof.Machine
end

