-- ==== Sys2Proof/Machine/LineLock.lean ====
section
/-! DEFINITION. Source-locked outputs in time (R425, R426, R432, R599): their lock points, the lock delay of a line-locked one, the error measured at a
lock point, and the instants at which any output starts. -/

namespace Sys2Proof.Machine
open Sys2Proof

/-! ## Sample positions (R400) -/

/-- The sample position of a destination pixel in 16.16 fixed point (R400). -/
def samplePos (src dst x : Nat) : Int :=
  let step := roundRat ((src * 65536 : Nat) / (max 1 dst : Nat))
  roundRat ((src * 65536 : Nat) / (2 * max 1 dst : Nat)) - 32768 + x * step
/-- One tap beyond an edge takes the edge pixel. -/
def atEdge (size : Nat) (i : Int) : Nat := min (size - 1) i.toNat
/-- A filter is the nearest pixel alone. -/
def isNearest (kind t : Nat) : Bool := decide (kind = 3) || decide (t ≤ 1)
/-- The first tap's place relative to the floor of the sample position, at a phase. -/
def firstTap (t phase : Nat) : Int :=
  if t % 2 = 0 then 1 - ((t / 2 : Nat) : Int) else (if 32 ≤ phase then 1 else 0) - (((t - 1) / 2 : Nat) : Int)
/-! ## The lines of a source -/

/-- The capture front end of a pipe in input pixel clocks; `inputLine` is the length of an input line, which counts where DSC is decoded. -/
def frontEnd (s : State) (k inputLine : Nat) : Nat :=
  match capSource s k with
  | (1, _, _) => 48
  | (2, p, sub) => if (dps s p).compressed.getLsbD sub then 64 + inputLine + 128 else 64
  | (3, _, _) => 40
  | _ => 0
/-- The lane rate of a Prenlink step in Hz (Table 9-2). -/
def laneRate (step : Nat) : Nat := 1562500000 * 2 ^ step
/-- The input pixel clock of a Prenlink stream in Hz: the forwarded clock of its port (R594). -/
def forwardClock (s : State) (p : Nat) : Rat := (laneRate (plk s p).step : Rat) / 16
/-- The input pixel clock of a CSI-2 stream in Hz, by the bits per pixel of its data type (R307). -/
def csiClock (s : State) (p bpp : Nat) : Rat :=
  let w := word s 0 0x0B p 0
  ((bits w 31 16 * 1000000 * bits w 2 0 : Nat) : Rat) / (max 1 bpp : Nat)
/-- The needed lines of row `y` of a layer's rectangle: those its vertical taps read, or its warp window (R408). -/
def neededLines (s : State) (bank n : Nat) (f : Frame) (y : Nat) : List Nat :=
  let d := lyrDst (word s) bank n
  let pos := samplePos f.h d.2 y
  let rows (first : Int) (count : Nat) : List Nat := ((List.range count).map fun i => atEdge f.h (first + i)).dedup
  match lyrMesh s bank n with
  | some _ => rows (pos / 65536 - 6) 8
  | none =>
    if f.h = d.2 then [y]
    else match firstScaler (assigned s bank) n with
      | none => [y]
      | some x =>
        let c := word s bank 0x15 x 1
        if isNearest (bits c 11 8) (bits c 7 4) then [atEdge f.h ((pos + 32768) / 65536)]
        else rows (pos / 65536 + firstTap (bits c 7 4) (pos % 65536 / 1024).toNat) (bits c 7 4)
/-- The last needed line is the highest of them. -/
def lastNeeded (s : State) (bank n : Nat) (f : Frame) (y : Nat) : Nat := (neededLines s bank n f y).foldl max 0
/-- The line-locked layers of an output that read its OUT_TIMING pipe, the anchor first: topmost line, then lower number (R599). -/
def anchorLayers (s : State) (bank o : Nat) : List Nat :=
  ((onLayers s bank).filter fun n => decide (lyrOut s bank n = o) && lyrShown s bank n
      && decide (layerPipe s bank n = some (outPipe s (word s) o))).mergeSort
    fun a b => decide (bits (lyrWord s bank a 4) 31 16 ≤ bits (lyrWord s bank b 4) 31 16)
/-- The lock delay D of a source-locked line-locked output, in output pixel clocks; `u` is the count from Q to the exit edge of the last
pixel of the anchor line's last needed line on the previous lock frame. It may be negative. On any other output it is 0 (R425, R599). -/
def lockDelay (s : State) (bank o : Nat) (f : Frame) (u : Int) : Int :=
  match anchorLayers s bank o with
  | n :: _ => if lineLocked s o ∧ outKind s o = 2 then
      u + queueClocks + compositionClocks s bank n o f + (outWord s o 0x0B).toNat
        - ((bits (lyrWord s bank n 4) 31 16 * hTotal (word s) o : Nat) : Int)
    else 0
  | [] => 0
/-! ## The lock delay in force -/

/-- Bits per pixel of a CSI-2 format code (Table 12-4a). -/
def csiBits (fmt : Nat) : Nat := [16, 20, 16, 24, 8, 10, 12, 14, 16, 20].getD (fmt - 0x20) 8
/-- The input pixel clock of a pipe in Hz (R307, R594): the forwarded clock, the stream's own, or the lanes' by the bits of the format. -/
def inputClock (s : State) (k : Nat) : Rat :=
  match capSource s k with
  | (1, p, _) => forwardClock s p
  | (2, p, sub) => (tget 0 (dps s p).clock sub : Nat)
  | (3, p, _) => csiClock s p (csiBits (capAt s k).fmt)
  | _ => 0
/-- u: output pixel clocks from the frame pulse to the exit of a source line's last pixel from the feed queue, on the last whole source frame (R593,
R599). The crossing phases, which the Ontor does not report, are taken as nothing. Log entry 134 (DEDUCED). -/
def exitClocks (s : State) (o k line : Nat) : Int :=
  let f := inputClock s k
  match tget none (capAt s k).lineTimesWas line with
  | none => 0
  | some t =>
    let ns : Rat := (t : Rat) + (if f ≤ 0 then 0 else frontEnd s k 0 * 1000000000 / f)
    if clockNs s o = 0 then 0 else (ns / clockNs s o).ceil + queueClocks
/-- The lock delay of a source-locked output in ns (R425, R599). -/
def lockDelayNs (s : State) (o : Nat) : Rat :=
  let b := wingCode (out s o).wing
  let k := outPipe s (word s) o
  let f : Frame := { w := (capAt s k).w, h := (capAt s k).h }
  match anchorLayers s b o with
  | [] => 0
  | n :: _ => (lockDelay s b o f (exitClocks s o k (lastNeeded s b n f 0)) : Rat) * clockNs s o

/-! ## Starts (R432) -/

/-- The output may start: its synthesizer is locked and ungated, a genlocked one has an anchor with a nominal period, and
a source-locked one a source (R421, R432). A boot-frame output starts free-running (R620). -/
def mayStart (s : State) (n : Nat) : Bool :=
  let x := syn s (clkSyn (outWord s n 3))
  x.locked && !x.gated && ((out s n).forceFree || match outKind s n with
    | 1 => (anchorRate s (outAnchor (word s) n)).isSome
    | 2 => !sourceAbsent s n
    | _ => true)

/-- The clock value from which an output may start: its start instant, or the lock of its synthesizer where that is later. -/
def startFrom (s : State) (o : Nat) : Nat := max (out s o).startAt (syn s (clkSyn (outWord s o 3))).lockedAt
/-- c0 is at this tick, and where exactly: for a free-running output the first tick at which it may start, for the others A − B (R432). Log entry 133
(DEDUCED). -/
def startNow (s : State) (o : Nat) : Option Rat :=
  let x := out s o
  if x.st ≠ .starting ∨ !mayStart s o then none
  else if x.forceFree then some s.clk
  else match outKind s o with
    | 1 => startOn s o (gridOrigin s o) (gridSpacing s o) (startFrom s o)
    | 2 =>
      let c := capAt s (outPipe s (word s) o)
      startOn s o ((c.pulseAt : Rat) + lockDelayNs s o) c.period x.startAt
    | _ => some s.clk

/-! ## Lock points (R425, R426) -/

/-- The error at a lock point: the output's own frame start nearest it less the lock point, in whole pixel clocks. -/
def lockError (s : State) (o : Nat) (at_ : Rat) : Int :=
  let x := out s o
  let a := x.frameAt - at_
  let b := nextStart s o - at_
  let near := if (if a < 0 then -a else a) ≤ (if b < 0 then -b else b) then a else b
  if clockNs s o = 0 then 0 else roundRat (near / clockNs s o)
/-- The n of a source-locked output's ratio m/n. -/
def lockEvery (s : State) (o : Nat) : Option Nat :=
  match sourceRate s o with
  | some r => (findRatio (frameRate (word s) o / r) (1 / 2000)).map (·.2)
  | none => none
/-- A source-locked output sees a new frame pulse of its source: every n-th one has a lock point, after the lock delay (R425). -/
def seePulse (s : State) (o : Nat) : State :=
  let x := out s o
  let c := capAt s (outPipe s (word s) o)
  if outKind s o ≠ 2 ∨ !timingRuns x ∨ c.pulse = none ∨ c.pulseAt = x.lockSeen then s
  else if 1 < x.lockLeft then setOut s o { x with lockSeen := c.pulseAt, lockLeft := x.lockLeft - 1 }
  else match lockEvery s o with
    | none => setOut s o { x with lockSeen := c.pulseAt }
    | some n => setOut s o { x with lockSeen := c.pulseAt, lockLeft := n, lockAt := some ((c.pulseAt : Rat) + lockDelayNs s o) }
/-- Every output. -/
def seePulses (s : State) : State := (activeOuts s).foldl seePulse s
/-- A lock point is due. -/
def lockDue (s : State) (o : Nat) : Bool := match (out s o).lockAt with | some t => decide (t ≤ s.clk) | none => false
/-- The error measured at a lock point, with the clocks that the crossing phases of R599 add to the lock delay of a line-locked output. -/
def measuredError (s : State) (o : Nat) (at_ : Rat) (phase : Int) : Int := lockError s o at_ - (if lineLocked s o then phase else 0)
/-- LOCK_POINT: a source-locked output's lock point, once it has come (R426). -/
def execLockPoint (o : Fin 20) (phase : Int) (s : State) : Host.Outcome State Fault Refusal :=
  match (out s o.val).lockAt with
  | some t => if t ≤ s.clk then .next (lockPoint (setOut s o.val { out s o.val with lockAt := none }) o.val (measuredError s o.val t phase)) else .next s
  | none => .next s
/-- The happenings of an output whose instant is this tick: its start, its line boundaries other than those after a commit tick that is still to be told,
and its lock points, with no phase told. Log entry 134 (DEDUCED). -/
def outDue (s : State) (n : Nat) : List Instr :=
  let k : Fin 20 := Fin.ofNat 20 n
  (if (startNow s n).isSome then [.outputStartInstant k] else [])
  ++ (match boundaryDue s n with | some l => [.outputLineBoundary k l] | none => [])
  ++ (if lockDue s n then [.lockPoint k 0] else [])

end Sys2Proof.Machine
end

