-- ==== Sys2Proof/Machine/Commit.lean ====
section
/-! DEFINITION. An output's commit tick and line boundary (R360, R417, R431 to R434, Tables 14-5 and 17-5), and its start
instant (R432). -/

namespace Sys2Proof.Machine
open Sys2Proof

/-! ## The words an output takes -/

/-- The OUT words whose committed change restarts the output (R434). -/
def restartWords : List Nat := [1, 3, 5, 8]
/-- The OUT words are taken: answers whether a change needs a restart (R434). A change of OUT_TIMING realigns a source-locked
output (R428); a change of port moves the eDP port's service. Log entry 77 (DEDUCED). -/
def takeOutWords (s : State) (o : Nat) : State × Bool :=
  let old := restartWords.map (outWord s o)
  let tim := outWord s o 2
  let p0 := outPort s o
  let s := takeUnit s 0 0x12 o
  let s := if outWord s o 2 ≠ tim then setOut s o { out s o with relock := decide (outKind s o = 2) } else s
  let p1 := outPort s o
  let s := if p0 = p1 then s
    else
      let s := if p0.1 = 1 then edpRest s p0.2 else s
      if p1.1 = 1 then edpStart s p1.2 o else s
  (s, decide (old ≠ restartWords.map (outWord s o)))
/-- FRC_MODE is taken. The ratio of a following output is found where following becomes enabled (R430). -/
def takeFrc (s : State) (banks : List Nat) (o : Nat) : State :=
  let was := outFollows s o
  let s := banks.foldl (fun s b => takeUnit s b 0x18 o) s
  let on := outFollows s o
  if on && !was then
    let c := capAt s (outPipe s (word s) o)
    let r := if c.period = 0 then none else findRatio (frameRate (word s) o * (c.period : Rat) / 1000000000) (3 / 1000)
    setOut s o { out s o with ratio := r }
  else if was && !on then setOut s o { out s o with ratio := none }
  else s
/-- The CLR words and colour tables are taken; a seed write loads the dither state (R416). -/
def takeClr (s : State) (banks : List Nat) (o : Nat) : State :=
  let seed := banks.any fun b => (waitingWords s b 0x17 o).contains 2
  let s := banks.foldl (fun s b => clrCommit (takeUnit s b 0x17 o) (20 * b + o)) s
  if seed then setOut s o { out s o with ditherLoad := true } else s
/-- A hop that waits for the commit tick of the one output its synthesizer feeds takes effect (R214). -/
def takeHop (s : State) (o : Nat) : State :=
  let n := clkSyn (outWord s o 3)
  match (syn s n).pendHop with
  | some (m, w) => hopNow s n m w
  | none => s
/-- One step of the dither state, x^32 + x^22 + x^2 + x + 1 (R416). Log entry 37 (DEDUCED). -/
def frameDither (x : Word) : Word :=
  let b := x.getLsbD 31 ^^ x.getLsbD 21 ^^ x.getLsbD 1 ^^ x.getLsbD 0
  (x <<< 1) ||| (if b then 1#32 else 0#32)
/-- The dither state at a commit tick (R416). -/
def ditherTick (s : State) (o : Nat) : State :=
  let x := out s o
  let d := if x.ditherLoad then word s (wingCode x.wing) 0x17 o 2 else Nat.repeat frameDither 4 x.dither
  setOut s o { x with dither := d, ditherLoad := false }

/-! ## The Vitrine layer at a commit tick -/

/-- The output check of every composing Wing (R391): mismatches are reported to the Docent, the driving Wing's also raise event
173 and are a fault of the Wing (Table 21-3). -/
def vitChecks (s : State) (o : Nat) (a b : Option Word) : State :=
  let x := vit s o
  let live := x.checked && decide (x.cond ≠ .off) && decide (x.cond ≠ .overridden) && !(out s o).gapInFrame
  let bad (c : Option Word) : Bool := live && match c with
    | some v => decide (v ≠ x.expect)
    | none => false
  let note (s : State) (w : Wing) (c : Option Word) : State :=
    if bad c && (composers s o).contains (wingCode w) then setHealth s w fun h => { h with vitrine := sat 16 (h.vitrine + 1) } else s
  let s := note (note s .a a) .b b
  let w := (out s o).wing
  let seen := if w = .a then a else b
  if !(composers s o).contains (wingCode w) then s
  else
    let s := vitCheck s o seen
    if bad seen then wingFault s w 2 else s
/-- In an orderly shutdown every Vitrine layer of the output goes to SAFE at its next commit tick, and its ordinary layers show
nothing (Table 22-2). -/
def safeTick (s : State) (banks : List Nat) (o : Nat) : State :=
  let x := out s o
  let s := if x.safeDue && (vitView s o).on then enterSafe s o 2 else s
  let s := setOut s o { out s o with safeDue := false, safeFrames := min 2 (x.safeFrames + 1) }
  banks.foldl (fun s b => ((onLayers s b).filter fun n => decide (lyrOut s b n = o)).foldl
    (fun s n => setLyr s b n { lyr s b n with blank := true }) s) s

/-! ## Alignment at a commit tick -/

/-- A genlocked output finds its ratio and adjusts its blanking where the following frame start should fall on an alignment instant; a remainder goes on
being taken, and a native phase step joins it at its first blanking (R196, R422, R423). -/
def alignTick (s : State) (o : Nat) : State :=
  if (out s o).forceFree then noStep s o
  else match outKind s o with
    | 1 =>
      let r := match anchorRate s (outAnchor (word s) o) with
        | some r => findRatio (frameRate (word s) o / r) (1 / 2000)
        | none => none
      let x := out s o
      let s := setOut s o { x with ratio := r, alignLeft := if r = x.ratio then x.alignLeft else 0 }
      let (x, d) := alignDue s o
      let s := setOut s o x
      match d with
      | some d => alignTo s o d
      | none => if x.stepNew then alignTo s o x.remain else takeRemain s o
    | 0 => noStep s o
    | _ => takeRemain s o
/-- An output that boot started free-running takes its timing kind at the first commit tick at which it can (R622). -/
def freeTick (s : State) (o : Nat) : State :=
  let x := out s o
  if !x.forceFree || s.boot.bootOuts.contains o then s
  else if decide (outKind s o = 1) && (anchorRate s (outAnchor (word s) o)).isNone then s
  else if decide (outKind s o = 2) && sourceAbsent s o then s
  else setOut s o { x with forceFree := false, relock := decide (outKind s o = 2) }

/-! ## A commit tick -/

/-- The frame in progress has ended: what is counted per frame starts again, and the next frame's jobs are eligible (R372). -/
def nextFrame (s : State) (o : Nat) : State :=
  let x := out s o
  let s := setOut s o { x with
    recomposed := 0, concealed := 0, late := 0, repeated := false, recomposing := [], toldLate := false, toldBw := false, toldArb := false, gapInFrame := x.gap }
  beginJobs s o
/-- The frame-rate conversion of the driving Wing: whether this tick took a newly published frame (R439). -/
def frcTick (old s : State) (o : Nat) : State :=
  let x := out s o
  setOut s o { x with frcHist := (tookNew old s (wingCode x.wing) o :: x.frcHist).take 256 }
/-- The mode change takes hold of a boot-frame output: the boot frame gives way (R395, R621). -/
def endBootFrame (s : State) (o : Nat) : State :=
  if s.boot.bootOuts.contains o ∧ s.boot.phase = .done then
    { s with boot := { s.boot with bootOuts := s.boot.bootOuts.filter (· ≠ o) } }
  else s
/-- The work of a commit tick, but for the output's own state: words, layers, mode entries, the Vitrine layer, alignment.
Answers whether the output restarts. Log entry 77 (DEDUCED). -/
def tickWork (s : State) (o : Nat) (obs : TickObs) : State × Bool :=
  let banks := composers s o
  let (s, restart) := takeOutWords s o
  let s := takeClr (takeFrc s banks o) banks o
  let s := meshTakeAt s o
  let old := s
  let x := out s o
  let s := if x.safeDue || decide (x.safeFrames ≠ 0) || (s.boot.bootOuts.contains o && decide (s.boot.phase ≠ .done)) then s
    else frcTick old (layersAt s banks o obs.absent) o
  let s := vitTake (endBootFrame (takeModeEntries s o) o) o
  let s := vitTick s o obs.vitLate obs.safeLate
  let x := out s o
  let s := if x.safeDue || decide (x.safeFrames ≠ 0) then expectFrame (safeTick s banks o) o else s
  let s := alignTick (freeTick s o) o
  let s := if (out s o).forceFree then s else gridCheck (absenceCheck s o) o
  (takeHop (ditherTick s o) o, restart)
/-- A mode change that waits for this output's frame boundary has its instant T here (R44). -/
def frameTrigger (s : State) (o : Nat) : State :=
  match s.modes.pend with
  | some p => if p.trigger = .frame o then launchChange s else s
  | none => s
/-- c0: the first commit tick of an output in STARTING (R432, Table 17-5). The frame it begins carries composed content, so the
output already counts as running where its layers are judged. -/
def firstTick (s : State) (o : Nat) (obs : TickObs) : State :=
  match startNow s o with
  | none => s
  | some c0 =>
  -- The start of its first vertical blanking is T of a mode change that waits for it (R44, R432).
  let s := frameTrigger s o
  if (out s o).st ≠ .starting then s
  else
    let (s, _) := takeOutWords (recentre s o) o
    let st : OutState := if (cannotCarry s o).isSome then .linkIdle else .running
    let s := outEvent (setOut s o { out s o with st := st, begun := true, line := vAct (word s) o, lineAt := c0, frameAt := 0, atLine := true }) o 0 0 0
    let (s, _) := tickWork s o obs
    edpTick (nextFrame s o) o
/-- The state of an output after a commit tick that does not end it (Table 17-5). Log entry 78 (DEDUCED). -/
def tickState (s : State) (o : Nat) (restart : Bool) : State :=
  let x := out s o
  match x.st with
  | .running | .linkIdle | .fill =>
    if restart then enterStarting (outEvent (outTo s o .starting) o 9 0 0) o
    else match x.st, cannotCarry s o with
      | .running, some why => outEvent (outTo s o .linkIdle) o 5 why 0
      | .linkIdle, none => outEvent (outTo s o .running) o 6 0 0
      | .fill, _ => if x.moved then outEvent (setOut s o { x with st := .running, moved := false }) o 0 0 0 else s
      | _, _ => s
  | _ => s
/-- A commit tick of an output whose timing runs. Log entry 78 (DEDUCED). -/
def runningTick (s : State) (o : Nat) (obs : TickObs) : State :=
  let s := recentre (frameTrigger s o) o
  let s := setOut s o { out s o with count := ((out s o).count + 1) % 16777216, line := vAct (word s) o, lineAt := lineEnd s o, atLine := true }
  let s := flushArbs (vitChecks s o obs.crcA obs.crcB) o
  let x := out s o
  if x.st = .draining ∨ x.st = .filling then vitEnd (finishStop s o x.stopWhy) o
  else if x.disableDue then vitEnd (finishStop s o 3) o
  else
    let (s, restart) := tickWork s o obs
    let s := armAt (routeDivergence s o) o
    edpTick (nextFrame (tickState s o restart) o) o
/-- COMMIT_TICK, at the end of line OUT_VACT − 1 (R167, R417). An output in STARTING takes its first one at c0. -/
def commitTick (s : State) (o : Nat) (obs : TickObs) : State :=
  if (out s o).st = .starting then firstTick s o obs
  else if commitDue s o then runningTick s o obs
  else s

/-! ## Line boundaries -/

/-- A fail-over gap ends at a line boundary: with the new driving Wing, or in FILL where no takeover followed (R517, R520). -/
def gapEnd (s : State) (o : Nat) : State :=
  let x := out s o
  if !x.gap then s
  else match x.gapTo with
    | some w =>
      let s := setOut s o { x with wing := w, gap := false, gapTo := none, queue := some 8, recentred := false }
      setVit s o { vit s o with fresh := true }
    | none => if s.failover.isSome then s else setOut s o { x with gap := false }
/-- OUTPUT_LINE_BOUNDARY: the first pixel clock of a line, at its instant (R417, R433, R9, R517, Table 17-5). -/
def lineBoundary (s : State) (o line : Nat) : State :=
  let x := out s o
  if boundaryDue s o ≠ some line then s
  else
    let at_ := if x.atLine then x.lineAt else lineEnd s o
    let s := setOut s o { x with line := line, lineAt := at_, frameAt := if line = 0 then at_ else x.frameAt, atLine := false
                                 recentred := x.recentred && decide (vAct (word s) o ≤ line) }
    if x.stopAtLine ∧ (x.st = .draining ∨ x.st = .filling) then vitEnd (finishStop s o x.stopWhy) o
    else
      let s := match x.assignTo with
        | some w => if w = x.wing then moveOutput s o w else vitMoved (moveOutput s o w) o
        | none => s
      let s := gapEnd s o
      let x := out s o
      if x.fillNext ∧ !x.gap then
        let s := setOut s o { x with fillNext := false }
        if x.st = .running ∨ x.st = .linkIdle then outEvent (outTo s o .fill) o 7 0 0 else s
      else s

end Sys2Proof.Machine
end

