-- ==== Sys2Proof/Machine/Jobs.lean ====
section
/-! DEFINITION. Composition jobs and composed tiles (R372 to R376, R458 to R462): dual computation, deadlines, the hold reader,
recomposition, concealment from the frame record. -/

namespace Sys2Proof.Machine
open Sys2Proof

/-! ## Tiles -/

/-- Raises an event of composition; in M2 only the active Wing raises it (R376, R463). -/
def raiseWing (s : State) (w : Wing) (src : Nat) (d : Word) : State := raiseBank s (wingCode w) src d
/-- The memory port that holds the slot of an output's record tile (R444, R446); where the Wing holds no record, the port is
open. -/
def recordPort (s : State) (w : Wing) (o row col : Nat) : Nat × State :=
  let cols := (hAct (word s) o + 15) / 16
  let tiles := tileCount (hAct (word s) o) (vAct (word s) o)
  match s.allocs.find? fun a => decide (a.wing = w) && decide (a.kind = 1) && decide (a.owner = o) with
  | some a => (2 * wingCode w + ((a.base + page4k (64 + 8 * tiles) + (row * cols + col) * 1024) / 4096) % 2, s)
  | none => let (f, s) := drawByte s; (2 * wingCode w + f.toNat % 2, s)
/-- A composed tile is concealed (R460): from the record where it holds the tile, else as OUT_FILL. Answers whether it was
OUT_FILL. -/
def concealTile (s : State) (w : Wing) (o row col : Nat) : State × Bool :=
  let (p, s) := recordPort s w o row col
  let s := countFst s p 3 1
  let x := out s o
  let has := (tget none x.record (tileKey w row col)).isSome
  ((if x.wing = w then setOut s o { x with concealed := x.concealed + 1 } else s), !has)
/-! ## Jobs -/

/-- The Galleries of the engines that run a job. -/
def jobGalleries (s : State) (w : Wing) (o row col : Nat) : Nat × Nat :=
  let l := (enginesOf s w o row col).map galleryOf
  (l.getD 0 0, l.getD 1 0)
/-- The results of a dual job are compared (R375). -/
def jobCompare (s : State) (w : Wing) (o row col g1 g2 : Nat) (agree : Bool) (rerun : Option Bool) : State :=
  if !timingRuns (out s o) || !composes s w o || agree || !dualJob s o row col then s
  else
    let tell (s : State) (b3 : Nat) : State := raiseWing s w 165 (det o (wingCode w + 16 * g1) g2 b3)
    if lineLocked s o then tell s 1
    else match rerun with
      | some true => tell (setHealth s w fun h => { h with reruns := sat 16 (h.reruns + 1) }) 0
      | some false => wingFault (tell (concealTile s w o row col).1 1) w 2
      | none => tell (concealTile s w o row col).1 1
/-- A job that its engines run completes: the failed source tiles are told, its results are compared, its engines are free, and the dispatcher hands out
the next (R373, R375, R457, R536). -/
def jobComplete (s : State) (w : Wing) (o row col : Nat) (agree : Bool) (rerun : Option Bool) (fails : List (Nat × Nat × Bool)) : State :=
  if enginesOf s w o row col = [] then s
  else
    let g := jobGalleries s w o row col
    finishJob (jobCompare (failTiles s (wingCode w) o fails) w o row col g.1 g.2 agree rerun) w o row col
/-- Failed source tiles with whether the tile that would replace each passes. -/
def sourceFails (fails lost : List (Nat × Nat)) : List (Nat × Nat × Bool) :=
  fails.map (fun t => (t.1, t.2, true)) ++ lost.map fun t => (t.1, t.2, false)
/-- JOB_COMPLETE. -/
def execJobComplete (w : Wing) (o : Fin 20) (row col : Nat) (fails lost : List (Nat × Nat)) (agree : Bool) (rerun : Option Bool) (s : State) :
    Host.Outcome State Fault Refusal := .next (jobComplete s w o.val row col agree rerun (sourceFails fails lost))

/-- The first bandwidth miss of an output frame (R462). Log entry 79 (DEDUCED). -/
def bandwidthMiss (s : State) (w : Wing) (o port : Nat) : State :=
  let x := out s o
  if x.wing = w ∧ x.toldBw then s
  else
    let s := countFst (if x.wing = w then setOut s o { x with toldBw := true } else s) port 4 1
    raiseWing s w 207 (det o (wingCode w) port (sat 8 x.late))
/-- A job of the frame in progress has not finished although its deadline has passed: it runs, or has not been handed out (R372, R374). -/
def jobLate (s : State) (w : Wing) (o row col : Nat) : Bool :=
  match (dispatcher s w).frames.find? fun f => decide (f.out = o) with
  | none => false
  | some f =>
    let line := lineLocked s o
    let j := if line then lineJob s f row else tileJob s f (row * tileCols s o + col)
    let at_ := if line then row else row * tileCols s o + col
    decide (j.due ≤ (s.clk : Int) * 1000)
      && (decide (enginesOf s w o row col ≠ []) || decide ((if j.rank = 4 then f.rest else f.next) ≤ at_))
/-- A job has missed its deadline (R374, R462). A non-critical output repeats its whole frame, once for the frame. Log entry 79 (DEDUCED). -/
def jobMiss (s : State) (w : Wing) (o row col : Nat) (late : Option Nat) : State :=
  if !timingRuns (out s o) || !composes s w o || !jobLate s w o row col then s
  else
    let line := lineLocked s o
    let s := if (out s o).wing = w then setOut s o { out s o with late := (out s o).late + 1 } else s
    let s := match late with
      | some p => if line then s else bandwidthMiss s w o (2 * wingCode w + p)
      | none => s
    let x := out s o
    let tell (b3 : Nat) (s : State) : State := raiseWing s w 164 (det o (wingCode w) (sat 8 x.late) b3)
    if line then tell 0 s
    else if bit (outWord s o 0x0C) 0 then
      (if x.repeated then s else tell 1 (dropFrame (setOut s o { x with repeated := true, toldLate := true }) w o))
    else
      let s := (concealTile s w o row col).1
      let y := out s o
      if x.toldLate then s else tell 0 (setOut s o { y with toldLate := true })
/-- JOB_DEADLINE_MISS. -/
def execJobDeadlineMiss (w : Wing) (o : Fin 20) (row col : Nat) (late : Option (Fin 2)) (s : State) :
    Host.Outcome State Fault Refusal := .next (jobMiss s w o.val row col (late.map (·.val)))

/-! ## The hold reader -/

/-- A tile that passed its check is sent, and the record takes it where it differs (R461). -/
def sendTile (s : State) (w : Wing) (o row col : Nat) (crc : Word) : State :=
  let x := out s o
  setOut s o { x with record := tput none x.record (tileKey w row col) (some crc) }
/-- The hold reader reaches tile row `row` of the frame in progress: the first pixel clock of line 16 × row − 16, of a row it has not read yet (R458). -/
def rowDue (s : State) (w : Wing) (o row : Nat) : Bool :=
  match (dispatcher s w).frames.find? fun f => decide (f.out = o) with
  | none => false
  | some f => decide (f.read ≤ row) && decide (row < tileRows s o)
      && decide (f.start + clocksPs s o ((16 * (row : Int) - 16) * hTotal (word s) o) ≤ (s.clk : Int) * 1000)
/-- The deadline of a recomposition has come: the first pixel clock of line 16 × row − 2 (R459). -/
def recompDue (s : State) (w : Wing) (o row : Nat) : Bool :=
  match (dispatcher s w).frames.find? fun f => decide (f.out = o) with
  | none => false
  | some f => decide (f.start + clocksPs s o ((16 * (row : Int) - 2) * hTotal (word s) o) ≤ (s.clk : Int) * 1000)
/-- TILE_ROW_READ: each tile of a row that fails its check is dispatched for recomposition (R458, R459). -/
def tileRow (s : State) (w : Wing) (o row : Nat) (tiles : List (Nat × Option Word)) : State :=
  if !timingRuns (out s o) || !composes s w o || lineLocked s o || !rowDue s w o row then s
  else
    let s := rowRead s w o row ((tiles.filter fun t => t.2.isNone).map (·.1))
    tiles.foldl (fun s t =>
    match t.2 with
    | some c => sendTile s w o row t.1 c
    | none => let x := out s o; setOut s o { x with recomposing := (tileKey w row t.1 :: x.recomposing).dedup }) s
/-- TILE_ROW_READ. -/
def execTileRowRead (w : Wing) (o : Fin 20) (row : Nat) (tiles : List (Nat × Option Word)) (s : State) :
    Host.Outcome State Fault Refusal := .next (tileRow s w o.val row tiles)
/-- RECOMPOSED_TILE_READ: the tile is used, or concealed (R459). Which of the Wing's two ports counts a recomposition is not
stated. -/
def recomposedTile (s : State) (w : Wing) (o row col : Nat) (crc : Option Word) : State :=
  let x := out s o
  let k := tileKey w row col
  if !x.recomposing.contains k || !recompDue s w o row then s
  else
    let s := dropRecomp (setOut s o { x with recomposing := x.recomposing.filter (· ≠ k) }) w o row col
    match crc with
    | some c =>
      let (f, s) := drawByte s
      let s := countFst (sendTile s w o row col c) (2 * wingCode w + f.toNat % 2) 2 1
      let x := out s o
      let n := x.recomposed + 1
      raiseWing (if x.wing = w then setOut s o { x with recomposed := n } else s) w 205 (det o (wingCode w) (sat 8 n) 0)
    | none =>
      let (s, fill) := concealTile s w o row col
      raiseWing s w 206 (det o (wingCode w) (sat 8 (out s o).concealed) (b2n fill))
/-- RECOMPOSED_TILE_READ. -/
def execRecomposedTileRead (w : Wing) (o : Fin 20) (row col : Nat) (crc : Option Word) (s : State) :
    Host.Outcome State Fault Refusal := .next (recomposedTile s w o.val row col crc)

/-! ## Error responses (R494, Table 20-5) -/

/-- A tile read from the scan-out window counts as failed: it is recomposed (R459). -/
def windowFails (s : State) (w : Wing) (o row col : Nat) : State :=
  if !timingRuns (out s o) || !composes s w o || lineLocked s o then s
  else
    let s := rowRead s w o row [col]
    let x := out s o
    setOut s o { x with recomposing := (tileKey w row col :: x.recomposing).dedup }
/-- What a master does with an error response (Table 20-5): a capture frame is abandoned and is not published, a source tile of a composer fails, a tile
of the hold reader fails its check, a packet of the command intake is discarded. A compressor's write-back, a line not held and a Vitrine slot that is not
ready show elsewhere: in the record's next write-back, in the fail-over gap, and in the commit tick's late fetch. -/
def errorOutcome (s : State) (slice m : Nat) (use : BusUse) : State :=
  match use with
  | .frame n => let k := 40 * slice + n.val
    if slice < 2 ∧ m = n.val / 20 then setCap s k { capAt s k with write := none } else s
  | .source o l t ok => if slice < 2 ∧ 2 ≤ m ∧ m ≤ 6 then failTiles s slice o.val [(l, t, ok)] else s
  | .window o row col => if slice < 2 ∧ m = 8 then windowFails s (wingOf slice) o.val row col else s
  | .packet p => if slice = 2 ∧ m = 3 then discard s p else s
  | .other => s
/-- TRANSACTION_TIMEOUT. Log entries 105 (DEDUCED), 117 (DESIGN CHOICE). -/
def execTransactionTimeout (slice : Fin 3) (m : Fin 16) (target : BusTarget) (s : State) : Host.Outcome State Fault Refusal :=
  if canWait s slice.val m.val target.port.val then
    .next (errorOutcome (raise (errorResponse s) 225 (det slice.val m.val target.port.val 0)) slice.val m.val target.use)
  else .next s

end Sys2Proof.Machine
end

