-- ==== Sys2Proof/Machine/Settle.lean ====
section
/-! DEFINITION. What follows from a change at once (R132, Table 5-2): waiting words of units that serve nothing that runs, stops
that complete, hot-plug levels, streams and windows that end. -/

namespace Sys2Proof.Machine
open Sys2Proof

/-- The waiting words of one unit commit at once where the unit serves no running output or source (Table 5-2, R132). -/
def settleUnit (s : State) (u : Nat) : State :=
  let b := u / 65536
  let i := u % 256
  match u / 256 % 256 with
  | 0x10 => if capSourceRuns s (40 * b + i) then s else capCommit s (40 * b + i)
  | 0x11 => settleRoute s b i
  | 0x12 => if timingRuns (out s i) then s else (takeOutWords s i).1
  | 0x13 => let k := 192 * b + i; if clearing s k && !shownAt s k then takeClear s k else s
  | 0x14 => if outRuns s i then s else vitTake s i
  | 0x15 => match (scl s (10 * b + i)).layer with
    | some n => if lyrShown s b n then s else takeUnit s b 0x15 i
    | none => takeUnit s b 0x15 i
  | 0x16 => if meshUsers s (32 * b + i) = [] then takeUnit s b 0x16 i else s
  | 0x17 => if outRuns s i && outOfBank s i b then s else takeUnit s b 0x17 i
  | 0x18 => if outRuns s i && outOfBank s i b then s else takeUnit s b 0x18 i
  | _ => s
/-- The units with waiting words. -/
def waitingUnits (s : State) : List Nat := (s.flip.map fun e => e.1 / 256).dedup
/-- The waiting words of every unit that serves nothing that runs. Log entry 110 (DEDUCED). -/
def settleFlips (s : State) : State := (waitingUnits s).foldl settleUnit s
/-- Colour tables written for an output that does not run commit at once. -/
def settleTables (s : State) : State :=
  (tkeys s.clrs).foldl (fun s k => if outRuns s (k % 20) && outOfBank s (k % 20) (k / 20) then s else clrCommit s k) s
/-- The Prenlink ports that go down are checked again (R244). -/
def settleDrains (s : State) : State := if s.plks.any fun e => decide (e.2.st = 12) || e.2.forced then drainAll s else s
/-- The video side: words, tables, layers, sets, the mode change. -/
def settleVideo (s : State) : State := sweepBuffers (restLayers (sweepSets (settleMode (settleRewritten (settleTables (settleFlips s))))))
/-- A hop that waits for its output is released at once when no output that holds counts is left on the synthesizer (R214). Log entry 110 (DEDUCED). -/
def settleHop (s : State) (n : Nat) : State :=
  match (syn s n).pendHop with
  | some (m, w) => if servedOuts s n = [] then hopNow s n m w else s
  | none => s
/-- Every hop that waits. -/
def settleHops (s : State) : State := (List.range 11).foldl settleHop s
/-- The ports and audio. -/
def settlePorts (s : State) : State := settleCsi (settleWindows (settleStreams (settleTdms (settleHpd (settleDrains (settleHops s))))))
/-- The references: absent candidates, FSYNC outputs without a source, a native phase step that has been taken whole. -/
def settleRefs (s : State) : State := settleStep (settleFsyncs (settleCands s))
/-- Everything that follows at once. Log entry 110 (DEDUCED). -/
def settle (s : State) : State := dispatchAll (seePulses (settleRefs (settlePorts (settleVideo s))))

/-- COMMIT_TICK. -/
def execCommitTick (o : Fin 20) (obs : TickObs) (s : State) : Host.Outcome State Fault Refusal := .next (settle (commitTick s o.val obs))
/-- OUTPUT_START_INSTANT: c0, with nothing late (R432). -/
def execOutputStartInstant (o : Fin 20) (s : State) : Host.Outcome State Fault Refusal := .next (settle (firstTick s o.val {}))
/-- OUTPUT_LINE_BOUNDARY. -/
def execOutputLineBoundary (o : Fin 20) (line : Nat) (s : State) : Host.Outcome State Fault Refusal := .next (settle (lineBoundary s o.val line))

end Sys2Proof.Machine
end

