-- ==== Sys2Proof/Machine/Boot.lean ====
section
/-! DEFINITION. The boot sequence (R616 to R625, Tables 27-5 to 27-8, R55), and the readying of Wings (R47, R521, R620). -/

namespace Sys2Proof.Machine
open Sys2Proof

/-! ## Steps 1 and 2 -/

/-- The cause of the reset (Table 27-3). -/
def resetCause (s : State) : Nat :=
  if s.vault.tamper then 3 else if s.thermal.tripLatch then 2 else if s.boot.warm then s.boot.asked else 0
/-- A synthesizer that boot starts (R205). Log entry 39 (PRESUMED). -/
def bootSyn (s : State) (n : Nat) (w : Word) : State := beginTask (setWord (setWord s 0 0x04 n 0 w) 0 0x04 n 2 (word s 0 0x04 n 2 ||| 1#32)) n .start
/-- Event 180 of the DPLL's transition to FREERUN, with cause 5 (Table 7-9). Log entry 120 (DEDUCED). -/
def tellDpllReset (s : State) : State :=
  match s.dpll.resetFrom with
  | none => s
  | some old => raise { s with dpll := { s.dpll with resetFrom := none } } 180 (det 0 old 0xFF 5)
/-- BOOT_START: reset ends. The latches are read and cleared, a tamper's clear is completed, SYN10 and SYN11 start. A warm reset holds the Ontor for 100 µs (R614). A trip holds the
Ontor until PORST_N is asserted (R539). Log entry 39 (PRESUMED). -/
def execBootStart (strap : BitVec 3) (railA railB : Bool) (s : State) : Host.Outcome State Fault Refusal :=
  if (s.boot.phase = .held ∨ s.boot.phase = .noSupply) ∧ !s.thermal.tripped ∧ (s.boot.warm → s.boot.resetAt + 100000 ≤ s.clk) then
    let c := resetCause s
    let s := if s.vault.tamper then { clearVault s with vault := { s.vault with tamper := false } } else s
    let s := setThermal s fun t => { t with tripLatch := false }
    let s := { s with boot := { s.boot with phase := .rom, cause := c, strap := if s.boot.warm then s.boot.strap else strap, warm := false,
                                            asked := 0, releasedAt := s.clk, railA := railA, railB := railB } }
    .next (bootSyn (bootSyn (tellDpllReset s) 10 0x01900000#32) 11 0x0A000000#32)
  else .next s

/-! ## Step 3: the flash (R616 to R618) -/

/-- A section entry of a directory: type, offset, length, CRC. -/
def sectionEntry (c : List Byte) (k : Nat) : Nat × Nat × Nat × Nat :=
  let e := slice c (16 + 16 * k) 16
  (byteAt e 0, leAt e 4 4, leAt e 8 4, leAt e 12 4)
/-- The sections that a directory lists. -/
def sectionsOf (c : List Byte) : List (Nat × Nat × Nat × Nat) := (List.range (byteAt c 3)).map (sectionEntry c)
/-- The bytes of a section. -/
def sectionBytes (c : List Byte) (e : Nat × Nat × Nat × Nat) : List Byte := sized (c.drop e.2.1) e.2.2.1
/-- The section of a type. -/
def sectionOf (c : List Byte) (ty : Nat) : Option (List Byte) := ((sectionsOf c).find? fun e => decide (e.1 = ty)).map (sectionBytes c)
/-- A section's length and content fit Table 27-6. Log entry 96 (DEDUCED). -/
def sectionOk (c : List Byte) (e : Nat × Nat × Nat × Nat) : Bool :=
  let b := sectionBytes c e
  let n := e.2.2.1
  decide (e.2.1 % 256 = 0) && decide (e.2.1 + n ≤ 16777216) && decide (crc32c b = BitVec.ofNat 32 e.2.2.2)
    && (match e.1 with
      | 1 => decide (4096 ≤ n) && decide (n ≤ 1048576)
      | 2 => decide (n ≤ 32768)
      | 3 => decide (n = 16) && decide (leAt b 0 2 = 0x3D11) && decide (byteAt b 2 ≤ 5)
      | 4 => decide (n = 372)
      | _ => false)
/-- A copy of the boot image is valid (R617). Log entry 96 (DEDUCED). -/
def flashValid (c : List Byte) : Bool :=
  let l := sectionsOf c
  let ts : List Nat := l.map (·.1)
  decide (leAt c 0 2 = 0xC1A5) && decide (2 ≤ byteAt c 3) && decide (byteAt c 3 ≤ 4)
    && decide (crc32c (sized c 80) = BitVec.ofNat 32 (leAt c 80 4)) && l.all (sectionOk c) && decide ts.Nodup && ts.contains 1 && ts.contains 3
    && decide (mac16 Config.firmwareKey (sized c 84 ++ l.flatMap (sectionBytes c)) = slice c 84 16)
/-- The image version of a copy. -/
def flashVersion (c : List Byte) : Nat := leAt c 4 4
/-- The copy that boot uses. -/
def flashChoice (c0 c1 : List Byte) : Option (List Byte) :=
  if flashValid c0 && (!flashValid c1 || decide (flashVersion c1 ≤ flashVersion c0)) then some c0
  else if flashValid c1 then some c1 else none
/-- The interconnect section is usable (R618). -/
def linkSectionOk (b : List Byte) : Bool :=
  decide (leAt b 0 2 = 0x1C0B) && decide (crc32c (b.take 368) = BitVec.ofNat 32 (leAt b 368 4))
/-- The interconnect section applies, or its defaults with event 228 at T (R505, R625). -/
def loadLinks (s : State) (c : List Byte) : State :=
  match (sectionOf c 4).filter linkSectionOk with
  | some b => { s with bmx := { s.bmx with priorities := slice b 8 360, sectionBad := false } }
  | none => { s with bmx := { s.bmx with priorities := [], sectionBad := true }, boot := { s.boot with deferred := s.boot.deferred ++ [(228, 0#32)] } }
/-- The Vitrine section becomes the verified copy of its slot; one that fails Table 15-2 leaves the slot empty, and the boot
frame is the fill pattern. -/
def loadVitrine (s : State) (c : List Byte) : State :=
  match sectionOf c 2 with
  | some b => if imgShapeOk b b.length && imgIndexOk b then
      setSlot s (bits (word s 0 0x26 0 2) 5 0) { verified := b, len := b.length, crc := crc32c b } else s
  | none => s

/-! ## Step 7: the base image and the boot-frame outputs (R620) -/

/-- The words of the base image are applied; they enter a device in which nothing runs. -/
def applyBase (s : State) (l : List Byte) : State :=
  (setWords (imageWords l) []).foldl (fun s e =>
    let a : Addr := BitVec.ofNat 24 (e.1 % 16777216)
    applyWord s none (e.1 / 16777216) (clsOf a) (instOf a) (wordOf a) (e.2.1 &&& governed (clsOf a) (instOf a) (wordOf a)) e.2.2)
    { s with modes := { s.modes with base := l } }
/-- The outputs that PRS_BOOT_VIT_OUT names and whose words pass Table 17-2, lowest first. Log entry 98 (DEDUCED). -/
def bootFrameOuts (s : State) : List Nat :=
  ((List.range 20).filter fun o => bit (word s 0 0x26 0 2) (6 + o)).foldl (fun l o =>
    if (outParamRej s (word s) 6 o [0] true true (l.map fun x => (x, [0]))).isNone then l ++ [o] else l) []
/-- The ports of the boot-frame outputs start (R620). -/
def bootPorts (s : State) (os : List Nat) : State :=
  os.foldl (fun s o =>
    let (kind, p) := outPort s o
    if kind = 1 then edpStart s p o
    else if (plk s p).st = 0 then linkUpNow s p 0 (bits (plkCfg s p) 2 0) false else s) s
/-- Step 7. -/
def bootBase (s : State) : State :=
  if 3 ≤ s.boot.attempts then s
  else match newerCopy s 0 with
    | none => s
    | some (_, l) =>
      let s := settle (applyBase s l)
      let os := bootFrameOuts s
      let rects := os.foldl (fun t o => tput (0#32, 0#32) t o (rdVit (word s) o 2, rdVit (word s) o 3)) []
      bootPorts { s with boot := { s.boot with bootOuts := os, bootRects := rects } } os
/-- The staged overlay of each mode is its newer usable copy (R36). -/
def loadOverlays (s : State) : State :=
  (List.range 6).foldl (fun s k => match newerCopy s (k + 1) with
    | some (_, l) => { s with modes := { s.modes with overlays := tput [] s.modes.overlays (k + 1) l } }
    | none => s) s
/-- FLASH_LOAD_COMPLETE: step 3 ends with a valid copy, and steps 4 to 7 follow; without one, boot stays in step 3. Log entry 97 (DEDUCED). -/
def execFlashLoadComplete (copy0 copy1 : List Byte) (s : State) : Host.Outcome State Fault Refusal :=
  if s.boot.phase ≠ .rom then .next s
  else match flashChoice copy0 copy1 with
    | none => .next { s with boot := { s.boot with phase := .noImage, loadedAt := s.clk } }
    | some c =>
      let s := { s with boot := { s.boot with phase := .curator, curatorAt := s.clk, remap := true, fwVer := BitVec.ofNat 32 (flashVersion c),
                                              memRate := byteAt ((sectionOf c 3).getD []) 2 } }
      let s := loadVitrine (ensureCp2 (loadPrs (recover (loadLinks s c)))) c
      .next (pump (settle (bootBase (loadOverlays s))))
/-- FLASH_LOAD_RETRY: the load is repeated every 1 s (Table 27-8). Log entry 97 (DEDUCED). -/
def execFlashLoadRetry (s : State) : Host.Outcome State Fault Refusal :=
  if s.boot.phase = .noImage ∧ s.boot.loadedAt + 1000000000 ≤ s.clk then .next { s with boot := { s.boot with phase := .rom } } else .next s

/-! ## Memory and Wings (R443 to R445, R47, R619) -/

/-- The data rates of Table 18-1 in MT/s. -/
def memRates : List Nat := [3200, 4266, 5500, 6400, 7500, 8533]
/-- Event 209. -/
def memEvent (s : State) (p cause : Nat) : State := raise s 209 (det p cause (tget {} s.mem p).mr4 0)
/-- Both ports of a Wing are trained. Log entry 101 (DEDUCED). -/
def memReady (s : State) (w : Wing) : Bool :=
  (tget {} s.mem (2 * wingCode w)).trained && (tget {} s.mem (2 * wingCode w + 1)).trained
/-- FST_PORT: capacity and rate. -/
def fstPortWord (s : State) (p : Nat) : Word := let m := tget {} s.mem p; field 0 5 m.gib ||| field 16 16 m.rate
/-- Both ports use the smaller capacity (R444). Log entry 101 (DEDUCED). -/
def evenCapacity (s : State) (w : Wing) : State :=
  let a := 2 * wingCode w
  let x := tget {} s.mem a
  let y := tget {} s.mem (a + 1)
  if !memReady s w ∨ x.gib = y.gib then s
  else
    let n := min x.gib y.gib
    memEvent { s with mem := tput {} (tput {} s.mem a { x with gib := n }) (a + 1) { y with gib := n } } (if x.gib < y.gib then a + 1 else a) 3
/-- Boot starts the boot-frame outputs that have not started, on a Wing that is ready (R620). Log entry 98 (DEDUCED). -/
def startBootOuts (s : State) (w : Wing) : State :=
  s.boot.bootOuts.foldl (fun s o =>
    if (out s o).st ≠ .stopped then s
    else
      let s := (reserveRecords s o (recordBytes s (word s) 1 o) [wingCode w]).getD s
      let s := startOutput s o w
      setOut s o { out s o with forceFree := true }) s
/-- Wing A will not drive the boot-frame outputs: Wing B does, at once where it is ready. -/
def bootOnB (s : State) : State :=
  let s := { s with boot := { s.boot with aLate := true } }
  if s.wingB.ready then startBootOuts s .b else s
/-- A memory port fails training during boot: its Wing is held out with cause 9, and event 237 follows at T (Table 27-8). -/
def memFailed (s : State) (w : Wing) : State :=
  let s := setWing s w { wing s w with role := 0, cause := 9, heldOut := true, ready := false, waking := false }
  let s := { s with boot := { s.boot with deferred := s.boot.deferred ++ [(237, det (wingCode w) 2 0 0)] } }
  if w = .a then bootOnB s else s
/-- The mode that the straps select, and whether the overlays and the fallback are left out (R53). -/
def selectedMode (s : State) : Nat × Bool :=
  let t := s.boot.strap.toNat
  let p := bits (word s 0 0x26 0 0) 2 0
  if t = 7 then (6, true) else if t = 0 then (if p = 0 ∨ p = 7 then 1 else p, false) else (t, false)
/-- The mode that boot selects needs a Wing. -/
def bootNeeds (s : State) (w : Wing) : Bool := let m := (selectedMode s).1; (needsWings (targetRd s m (word s)) m).contains w
/-- Boot readies a Wing: its rail was valid at the release of reset, or the boot mode needs it and its regulator has been enabled (R609, R619). -/
def bootReadies (s : State) (w : Wing) : Bool := (match w with | .a => s.boot.railA | .b => s.boot.railB) || bootNeeds s w
/-- MEMORY_TRAINING_COMPLETE: during boot on every Wing that it readies, and again when a Wing wakes or is re-admitted. A port takes at most 16 GiB (R23), so none trains with
more. -/
def execMemoryTrainingComplete (port : Fin 4) (trained : Bool) (gib : Nat) (s : State) : Host.Outcome State Fault Refusal :=
  let p := port.val
  let w := wingOf (p / 2)
  let boot := decide (s.boot.phase = .curator) && bootReadies s w && !(tget {} s.mem p).trained
  let again := (wing s w).waking || decide ((wing s w).step = 2)
  let m := tget {} s.mem p
  if !boot && !again then .next s
  else if !trained then
    let s := { s with mem := tput {} s.mem p { m with trained := false } }
    .next (if boot && !(wing s w).heldOut then settle (memFailed s w) else s)
  else if gib > 16 then .next s
  else
    let s := { s with mem := tput {} s.mem p { m with gib := gib, rate := memRates.getD s.boot.memRate 0, trained := true, trainedAt := s.clk } }
    .next (evenCapacity (memEvent s p (if boot then 0 else 2)) w)
/-- MR4_REFRESH_POLL (R445). -/
def execMr4RefreshPoll (port : Fin 4) (code : Byte) (hot : Bool) (s : State) : Host.Outcome State Fault Refusal :=
  let p := port.val
  let m := tget {} s.mem p
  if !m.trained ∨ m.asleep ∨ (m.mr4 = code.toNat ∧ !hot) then .next s
  else .next (memEvent { s with mem := tput {} s.mem p { m with mr4 := code.toNat } } p 1)
/-- A Wing is ready during boot: its store is cleared (R404) and it can drive the boot-frame outputs. -/
def bootReady (s : State) (w : Wing) : State :=
  let s := warpClear (setWing s w { wing s w with ready := true, role := 1, waking := false }) (wingCode w)
  if w = .a ∨ s.boot.aLate then startBootOuts s w else s
/-- WING_READY: of a Wing that a mode change wakes, that is re-admitted, or that boot readies. -/
def execWingReady (w : Wing) (s : State) : Host.Outcome State Fault Refusal :=
  let x := wing s w
  if x.supplyBad then .next s
  else if s.modes.pend.bind (·.wake) = some (w, false) then (if (s.modes.pend.bind (·.waitedAt)).isSome then .next (settle (wakeDone s w)) else .next s)
  else if x.readmit ∧ x.step = 2 then .next (readmitReady s w)
  else if s.boot.phase = .curator ∧ memReady s w ∧ !x.ready ∧ !x.heldOut then .next (settle (bootReady s w))
  else .next s
/-- The Wing that a mode change wakes is not ready 6 ms after MODE_WAKE_WAIT ended (R47). -/
def wakeLate (s : State) (w : Wing) : Bool :=
  decide (s.modes.pend.bind (·.wake) = some (w, false)) && (match s.modes.pend.bind (·.waitedAt) with
    | some t => decide (t + 6000000 ≤ s.clk)
    | none => false)
/-- Wing A is not ready during boot 6 ms after its training ended, or after the 10 ms that training may take from step 4 on (R619, R620). -/
def bootLate (s : State) : Bool :=
  let t := if memReady s .a then max (tget {} s.mem 0).trainedAt (tget {} s.mem 1).trainedAt else s.boot.curatorAt + 10010000
  decide (s.boot.phase = .curator) && !s.wingA.ready && !s.boot.aLate && decide (t + 6000000 ≤ s.clk)
/-- WAKE_TIMEOUT: the bound has passed and the Wing is not ready (R47, Table 27-8). -/
def execWakeTimeout (w : Wing) (s : State) : Host.Outcome State Fault Refusal :=
  if wakeLate s w then .next (settle (refuseChange s 0 .modeForbids (mkAddr 0x21 (wingCode w) 0)))
  else if w = .a ∧ bootLate s then .next (settle (bootOnB s))
  else .next s

/-! ## Step 8 (R55, R621, R622, R625) -/

/-- An event of boot: raised, and written to the fault log whatever its configuration (R56, R625). Log entry 100 (DEDUCED). -/
def bootEvent (s : State) (src : Nat) (d : Word) : State := logRaise (post s src false d) src d
/-- The newer stored copy of an image, valid or not: its bytes by its own length. -/
def storedCopy (s : State) (img : Nat) : Option (List Byte) :=
  let at_ (c : Nat) : Nat := match dirOf s img c with | some e => recSeq dirRing e.2 | none => 0
  let pick (c : Nat) : List Byte :=
    let a := 256 * copyPage img c
    ledgerBytes s a (min (leNat (ledgerBytes s (a + 8) 4)) (storeLimit img + 1))
  match copyNamed s img 0, copyNamed s img 1 with
  | false, false => none
  | true, false => some (pick 0)
  | false, true => some (pick 1)
  | true, true => some (pick (if at_ 0 < at_ 1 then 1 else 0))
/-- The status of an unusable stored image: that of its first failed check, BAD_LENGTH where none is stored. -/
def unusable (s : State) (img : Nat) : Rej :=
  match storedCopy s img with
  | none => rejSt .badLength
  | some l => (headRej l (if img = 0 then 1 else 2) img (storeLimit img)).getD (rejSt .badParam)
/-- The state in which a mode's effective configuration is judged and applied at boot: base and overlay staged. -/
def bootStaged (s : State) (base over_ : List Byte) (mode : Nat) : State :=
  { s with modes := { s.modes with stagedBase := base, overlays := tput [] s.modes.overlays mode over_ } }
/-- Why boot cannot apply a mode: the refusal, and byte 3 of event 6; none where it can. -/
def bootRej (s : State) (base : List Byte) (mode : Nat) : Option (Rej × Nat) :=
  let over_ := overlayOf s mode
  if (copyNamed s mode 0 || copyNamed s mode 1) && decide (over_ = []) then some (unusable s mode, 1)
  else
    let t := bootStaged s base over_ mode
    let rd := targetRd t mode (word t)
    (firstRej [
      imageRej t none none (storeLimit 0) 1 0 base,
      if over_ = [] then none else imageRej { t with modes := { t.modes with cur := 0 } } none none (storeLimit mode) 2 mode over_,
      ((needsWings rd mode).find? fun w => !(wing s w).ready).map fun w => { status := .modeForbids, addr := mkAddr 0x21 (wingCode w) 0 },
      stateRej t rd mode (effective base over_)]).map fun r => (r, 2)
/-- A refusal at boot: MODE[0] word 0x03 and event 6 with the mode that is entered in the end. -/
def bootRefused (s : State) (mode entered : Nat) (r : Rej × Nat) : State :=
  bootEvent { s with modes := { s.modes with errStatus := stCode r.1.status, lastErr := r.1.addr } } 6
    (det mode (stCode r.1.status).toNat entered r.2)
/-- The ports that the configuration names come up (R621): those of enabled outputs as source end, those of pipes as sink end. -/
def linkAll (s : State) : State :=
  let up (s : State) (p role : Nat) : State :=
    if p < 24 ∧ (plk s p).st = 0 then linkUpNow s p role (bits (plkCfg s p) 2 0) false else s
  let s := (List.range 20).foldl (fun s o => let (kind, p) := outPort s o; if outActive s o ∧ kind = 0 then up s p 0 else s) s
  (List.range 80).foldl (fun s k =>
    let w := projected s (k / 40) 0x10 (k % 40) 1
    if bits w 15 14 = 1 then up s (bits w 13 8) 1 else s) s
/-- The Wings that are not ready stay off (R609, Table 27-8). -/
def offUnready (s : State) (ready : List Wing) : State :=
  [Wing.a, Wing.b].foldl (fun s w => if ready.contains w then s else setWing s w { wing s w with role := 0, clocksOff := true }) s
/-- The Wings that boot has readied. -/
def readyWings (s : State) : List Wing := [Wing.a, Wing.b].filter fun w => (wing s w).ready
/-- The configuration takes effect at T (R621, R622): outputs that boot starts run free at first, and a Wing that is not ready stays
off. Log entry 100 (DEDUCED). -/
def bootApply (s : State) (base over_ : List Byte) (mode : Nat) : State :=
  let kept := s.modes.overlays
  let ready := readyWings s
  let s := applyMode (bootStaged s base over_ mode) mode
  let s := { s with modes := { s.modes with overlays := kept, old := 0 } }
  let s := offUnready s ready
  let s := (List.range 20).foldl (fun s o => if (out s o).st = .starting then setOut s o { out s o with forceFree := true } else s) s
  linkAll s
/-- No base image is usable: M6 with reset values and no output. -/
def bootBare (s : State) : State :=
  offUnready (takeRoles { s with modes := { s.modes with cur := 6, target := 6, state := 0 } } 6 none) (readyWings s)
/-- What boot enters: the mode, the overlay it applies, whether a fallback was used, and the modes refused on the way with their
reasons. Log entry 99 (DEDUCED). -/
def bootPlan (s : State) (base : List Byte) : Nat × List Byte × Bool × List (Nat × (Rej × Nat)) :=
  let (m, alone) := selectedMode s
  if alone then (6, [], false, [])
  else match bootRej s base m with
    | none => (m, overlayOf s m, false, [])
    | some r =>
      let f := bits (word s 0 0x26 0 0) 6 4
      if f = 0 ∨ f = 7 then (6, [], true, [(m, r)])
      else match bootRej s base f with
        | none => (f, overlayOf s f, true, [(m, r)])
        | some r' => (6, [], true, [(m, r), (f, r')])
/-- The mode is chosen and entered, with the refusals of boot recorded. Answers whether a fallback was used. Log entry 99 (DEDUCED). -/
def bootEnter (s : State) : State × Bool :=
  if 3 ≤ s.boot.attempts then (bootRefused (bootBare s) (selectedMode s).1 6 (rejSt .internal, 3), true)
  else match newerCopy s 0 with
    | none => (bootRefused (bootBare s) (selectedMode s).1 6 (unusable s 0, 0), true)
    | some (_, base) =>
      let (m, over_, fell, refused) := bootPlan s base
      let s := bootApply s base over_ m
      (refused.foldl (fun s e => bootRefused s e.1 m e.2) s, fell)
/-- A Wing that the boot mode needs is not ready and still has time to be: its regulator's wait, 10 ms of training and 6 ms (R47, R609, R619). -/
def wingsPending (s : State) : Bool :=
  [Wing.a, Wing.b].any fun w => bootNeeds s w && !(wing s w).ready && !(wing s w).heldOut
    && decide (s.clk < s.boot.curatorAt + 16010000 + 500000 * bits (word s 0 0x01 0 1) 3 0)
/-- BOOT_MODE_APPLY: T. It waits for the start instants of the boot-frame outputs, and for the Wings that the mode needs within their bound. Log entry
100 (DEDUCED). -/
def execBootModeApply (s : State) : Host.Outcome State Fault Refusal :=
  if s.boot.phase ≠ .curator ∨ s.boot.bootOuts.any (fun o => decide ((out s o).st = .starting)) ∨ wingsPending s then .next s
  else
    let late := s.boot.deferred
    let s := { s with boot := { s.boot with phase := .done, deferred := [], attempts := if s.boot.attempts < 3 then 0 else s.boot.attempts } }
    let (s, fell) := bootEnter s
    let s := late.foldl (fun s e => bootEvent s e.1 e.2) s
    let s := if s.boot.cause = 3 then raise s 252 0#32 else s
    let ms := sat 16 ((s.clk - s.boot.releasedAt) / 1000000)
    let s := raise s 0 (det2 s.modes.cur (b2n fell + 16 * s.boot.cause) ms)
    .next (pump (settle { s with boot := { s.boot with attempts := 0 } }))

end Sys2Proof.Machine
end

