-- ==== Sys2Proof/Machine/Eventing.lean ====
section
/-! DEFINITION. The event commands (chapter 25): EVT_READ, EVT_ACK, the EVT_CFG rules and the interrupt balls. -/

namespace Sys2Proof.Machine
open Sys2Proof

/-- The 16 bytes of a queue entry (Table 25-4). -/
def entryBytes (e : EvEntry) : List Byte :=
  leBytes 8 e.ns.toNat ++ [BitVec.ofNat 8 e.source, BitVec.ofNat 8 (b2n e.commit + 2 * b2n e.sat)]
    ++ leBytes 2 e.count ++ wordBytes e.detail

/-- EVT_READ returns and removes at most n of the oldest entries; the entry that reports a run of losses follows as
soon as the queue has room (R583, R584). Log entry 29 (DEDUCED). -/
def opEvtRead (n : Byte) : Op :=
  { opcode := 0xD0
    exempt := true
    hasData := true
    check := fun _ => rejIf (decide (n = 0#8)) { status := .badParam }
    run := fun s =>
      let k := min n.toNat 255
      ({ s with ev := settleLosses { s.ev with queue := s.ev.queue.drop k } },
        { data := (s.ev.queue.take k).flatMap entryBytes }) }

/-- The mask of EVT_ACK, bit s for source s (R585). -/
def ackMask (m : List Byte) : BitVec 256 := BitVec.ofNat 256 (leNat (m.take 32))
/-- The sources whose raises go to INT_N1 (EVT_CFG bit 2). -/
def safetyRouted (s : State) : BitVec 256 :=
  (List.range 256).foldl (fun m n => if bit (evtCfg s n) 2 then m ||| (1#256 <<< n) else m) 0#256
/-- EVT_ACK clears pending bits; a plain packet of CP0, CP2 or CP3 leaves the bits of sources routed to INT_N1
(R585). Whether the packet holds authenticated authority was settled at step 10. The ack of a packet acts before the raises of its
tick. -/
def opEvtAck (q : Req) (mask : List Byte) : Op :=
  { opcode := 0xD1
    sched := .yes
    exempt := true
    run := fun s =>
      let m := ackMask mask
      let m := if q.port = .cp1 ∨ q.auth = true then m else m &&& ~~~(safetyRouted s)
      let m := if q.tick.isSome ∧ s.ev.freshTick = s.clk then m &&& ~~~s.ev.fresh else m
      done { s with ev := { s.ev with pending := s.ev.pending &&& ~~~m } } }

/-- An interrupt ball is driven low while a pending source is routed to it, once boot has raised event 0 (R580). -/
def intLow (s : State) (ball : Nat) : Bool :=
  decide (s.boot.phase = .done) &&
    (List.range 256).any fun n => s.ev.pending.getLsbD n && bit (evtCfg s n) (1 + ball)
/-- INT_N0 is driven low. -/
def intN0Low (s : State) : Bool := intLow s 0
/-- INT_N1 is driven low. -/
def intN1Low (s : State) : Bool := intLow s 1

/-- The refusal of an EVT_CFG value with a bit above bit 3 set (R581). -/
def evtCfgRej (a : Addr) (v : Word) : Option Rej :=
  rejIf (decide (v &&& 0xFFFFFFF0#32 ≠ 0#32)) { status := .badParam, addr := a }
/-- Whether a new EVT_CFG value takes a source off INT_N1, which needs authenticated authority (R581). -/
def takesOffInt1 (old new : Word) : Bool := bit old 2 && !bit new 2

end Sys2Proof.Machine
end

