-- ==== Sys2Proof/Machine/Pins.lean ====
section
/-! DEFINITION. The levels at the balls: GPIO and the functions that drive them (R135), SYN_LOCK balls (R225), and the output balls of
Table 27-2. -/

namespace Sys2Proof.Machine
open Sys2Proof

/-! ## GPIO (Table 5-3, R135) -/

/-- The level a function of the Ontor drives on a GPIO; none where no function has it. MODE[0] word 0x02 goes before EDP. Log entry 104 (DEDUCED). -/
def gpioFunction (s : State) (g : Nat) : Option Bool :=
  let m := word s 0 0x01 0 2
  if bit m 7 ∧ bits m 3 0 = g then some (wingEnabled s .a)
  else if bit m 15 ∧ bits m 11 8 = g then some (wingEnabled s .b)
  else (List.range 4).findSome? fun p => match backlightGpio s p with
    | some (n, l) => if n = g then some l else none
    | none => none
/-- The GPIOs that functions drive. -/
def gpioTaken (s : State) : Word :=
  (List.range 16).foldl (fun m g => if (gpioFunction s g).isSome then m ||| field g 1 1 else m) 0#32
/-- SYS_GPIO_DIR and SYS_GPIO_OUT as they read: a function's GPIO is driven, at the function's level. -/
def gpioDirWord (s : State) : Word := word s 0 0x00 0 0x20 ||| gpioTaken s
def gpioOutWord (s : State) : Word :=
  (List.range 16).foldl (fun m g => match gpioFunction s g with
    | some l => merge m (field g 1 1) (if l then allOnes else 0#32)
    | none => m) (word s 0 0x00 0 0x21)
/-- SYS_GPIO_IN: what the Ontor drives on an output GPIO, what the board drives on an input one. -/
def gpioInWord (s : State) : Word := merge (s.gpioIn.setWidth 32) (gpioDirWord s) (gpioOutWord s) &&& 0xFFFF#32
/-- A GPIO is taken by MODE[0], or by an EDP instance other than `p`. -/
def gpioUsed (s : State) (p g : Nat) : Bool :=
  let m := word s 0 0x01 0 2
  (bit m 7 && decide (bits m 3 0 = g)) || (bit m 15 && decide (bits m 11 8 = g))
    || (List.range 4).any fun i => decide (i ≠ p) && (match backlightGpio s i with | some (n, _) => decide (n = g) | none => false)

/-! ## Balls -/

/-- The Curator has started. -/
def curatorStarted (s : State) : Bool := match s.boot.phase with | .curator | .done => true | _ => false
/-- A synthesizer is out of lock, or gated, for another reason than a commanded start, retune or hop within its bound. Log entry 40 (DEDUCED). -/
def synAmiss (s : State) (n : Nat) : Bool :=
  let x := syn s n
  let commanded := match x.task with
    | .start | .retune | .fallback _ => decide (s.clk ≤ x.since + 400000)
    | .hop _ => decide (s.clk ≤ x.since + 20000)
    | _ => false
  (!x.locked || x.gated) && !commanded
/-- What an open-drain SYN_LOCK ball does. -/
inductive LockBall where
  | low | released | pulsing
  deriving DecidableEq, Repr
/-- SYN_LOCKn (R225). Log entry 40 (DEDUCED). -/
def lockBall (s : State) (n : Nat) : LockBall :=
  if !curatorStarted s then .low
  else
    let on (k : Nat) : Bool := synOn s k || decide (k = 11)
    let bad : Bool := match bits (synWord s n 4) 1 0 with
      | 1 => !synOn s n || synAmiss s n
      | 2 => [n, n + 4, n + 8].any fun k => on k && synAmiss s k
      | _ => (List.range 12).any fun k => on k && synAmiss s k
    if bits (synWord s n 4) 1 0 = 0 then .low else if bad then .pulsing else .released
/-- RST_OUT_N is low until event 0 (Table 27-2). -/
def rstOutLow (s : State) : Bool := decide (s.boot.phase ≠ .done)
/-- DPLL_ST1 and DPLL_ST0 (R188, R191). -/
def dpllBalls (s : State) : Nat := if curatorStarted s then s.dpll.state else 0
/-- TB_PPS_OUT (R635). -/
def ppsBall (s : State) : Bool := s.tb.pps && s.tb.running
/-- AUD_MCLK8_OUT or AUD_MCLK9_OUT carries its clock (R635). -/
def mclkRuns (s : State) (n : Nat) : Bool := synOn s n && !(syn s n).gated
/-- PLK_REFOUT_P and PLK_REFOUT_N carry SYN10's clock (R233). -/
def plkRefoutRuns (s : State) : Bool := synOn s 10 && !(syn s 10).gated
/-- CS4 to CS7 of a memory port are driven low at all times (R630). -/
def memCsHigh (_port cs : Nat) : Option Bool := if 4 ≤ cs ∧ cs ≤ 7 then some false else none
/-- PWR_OFF_REQ_N and THERM_TRIP_N are low (R611). -/
def powerOffLow (s : State) : Bool := s.thermal.powerOff
def tripLow (s : State) : Bool := s.thermal.tripped
/-- DPSp_HPD is high: the port is in use, and no IRQ_HPD pulse of 750 µs is under way (R291, R293). -/
def hpdHigh (s : State) (p : Nat) : Bool :=
  let d : Dps := tget {} s.dpss p
  d.hpd && !(match d.irqAt with | some t => decide (s.clk < t + 750000) | none => false)

end Sys2Proof.Machine
end

