-- ==== Sys2Proof/Machine/Objects.lean ====
section
/-! DEFINITION. The object access group (Table 4-5): what every word reads as, the checks on a write, and its effect. -/

namespace Sys2Proof.Machine
open Sys2Proof

/-! ## Words that units keep (R4, R16) -/

/-- SYS[0] (Tables 5-3, 3-16 and 3-17). -/
def sysWord (s : State) (w : Nat) : Word :=
  let port (n : Nat) : Port := match n with | 0 => .cp0 | 1 => .cp1 | 2 => .cp2 | _ => .cp3
  match w with
  | 0x00 => field 16 16 0x7624 ||| field 8 8 Config.siliconStep.toNat ||| (if Config.isG2 then 0x02#32 else 0x03#32)
  | 0x01 => s.boot.fwVer
  | 0x02 => Config.romVersion
  | 0x03 => field 0 3 s.boot.cause
  | 0x04 => field 3 1 (b2n s.boot.remap) ||| field 0 3 s.boot.strap.toNat
  | 0x08 => Config.deviceId.setWidth 32
  | 0x09 => (Config.deviceId >>> 32).setWidth 32
  | 0x20 => gpioDirWord s
  | 0x21 => gpioOutWord s
  | 0x22 => gpioInWord s
  | _ =>
    if 0x14 ≤ w ∧ w ≤ 0x17 then
      let p := port (w - 0x14)
      let c := getPort s p
      field 24 8 c.discards.toNat ||| field 16 8 c.last.toNat ||| field 5 5 c.queue.length ||| field 0 5 (creditsFree s p)
    else if 0x18 ≤ w ∧ w ≤ 0x1F then
      let c := (getPort s (port ((w - 0x18) / 2))).counter
      if w % 2 = 0 then c.setWidth 32 else (c >>> 32).setWidth 32
    else word s 0 0x00 0 w
/-- REF word 0x03 of a candidate, and of the DPLL word 0x00 (Table 5-5). -/
def refStateWord (s : State) (i : Nat) : Word :=
  if i = 16 then field 0 2 s.dpll.state
  else
    let c := cand s i
    field 16 16 (off16 c.offset) ||| field 2 1 (b2n (decide (s.dpll.active = some i))) ||| field 1 1 (b2n c.qualified)
      ||| field 0 1 (b2n (candPresent s i))
/-- SYN word 0x03 (Table 5-6). -/
def synStateWord (s : State) (n : Nat) : Word :=
  let x := syn s n
  (x.bands.foldl (fun m e => if e.2.isSome then m ||| field (8 + e.1) 1 1 else m) 0#32) ||| field 3 1 (b2n x.ramping)
    ||| field 2 1 (b2n (decide (x.profile ≠ []))) ||| field 1 1 (b2n x.gated) ||| field 0 1 (b2n x.locked)
/-- VIT words that the unit keeps (Table 5-9). -/
def vitUnitWord (s : State) (i w : Nat) : Word :=
  if i < 64 then (if w = 0 then vitStateWord s i else (vit s i).expect)
  else let x := slot s (i - 64); if w = 0 then BitVec.ofNat 32 x.len else x.crc
/-- WRP_STATE. -/
def wrpStateWord (s : State) (k : Nat) : Word := let m := mesh s k; field 0 1 (b2n m.front) ||| field 8 24 m.accepted
/-- EVT[1] (Table 5-11). -/
def evtStateWord (s : State) (w : Nat) : Word :=
  if w < 8 then (s.ev.pending >>> (32 * w)).setWidth 32
  else field 0 8 s.ev.queue.length ||| field 16 16 s.ev.lost
/-- The value a READ of a word returns: what its unit keeps, or the stored word in effect (R4, R16, R136, R141). Log entry 11 (DEDUCED). -/
def readWord (s : State) (b cls i w : Nat) : Word :=
  let stored := word s b cls i w
  let x := wordInfo cls i w
  if cls = 0x17 ∧ w ≥ 0x80 then clrTblRead s b i w
  else if cls = 0x00 then sysWord s w
  else if x.ro = 0#32 then stored
  else match cls with
    | 0x01 => modeStatusWord s w
    | 0x02 => tbWord s i w
    | 0x03 => refStateWord s i
    | 0x04 => if w = 3 then synStateWord s i else stored
    | 0x08 => plkStatusWord s i w
    | 0x09 => dpsStateWord s i
    | 0x0B => csiErrsWord s i
    | 0x10 => capStatusWord s (40 * b + i) w
    | 0x11 => rteStateWord s b i
    | 0x12 => outStateWord s i
    | 0x13 => lyrStatusWord s b i w
    | 0x14 => vitUnitWord s i w
    | 0x15 => sclStateWord s (10 * b + i)
    | 0x16 => wrpStateWord s (32 * b + i)
    | 0x18 => frcStateWord s b i
    | 0x19 => fstPortWord s i
    | 0x1A => if i = 72 then xbarWord s w else BitVec.ofNat 32 (conv s (i - 8)).ratio
    | 0x20 => bmxWord s
    | 0x21 => if w = 0 then wngStateWord s (wingOf i) else wngHealthWord s (wingOf i)
    | 0x22 => thmLastWord s i
    | 0x23 => ldgWord s w
    | 0x24 => vltWord s
    | 0x25 => evtStateWord s w
    | 0x26 => prsLifeWord s w
    | _ => stored

/-! ## READ and BLOCK_READ -/

/-- Step 13 for a run of `n` words (R101, R102, R126, Table 4-1). Log entry 19 (DEDUCED). -/
def spanRej (addr : Addr) (bank top n : Nat) : Option Rej :=
  firstRej [
    rejIf (!classAssigned (clsOf addr)) { status := .badParam, addr := addr },
    rejIf (!instExists (clsOf addr) (instOf addr)) { status := .range, addr := addr },
    bankParam bank top addr,
    rejIf (decide (n = 0)) { status := .range, addr := addr },
    rejIf (decide (wordOf addr + n > 256)) { status := .badParam, addr := addr }]
/-- READ and BLOCK_READ. Log entry 19 (DEDUCED). -/
def opReadWords (opcode : Byte) (addr : Addr) (bank : Byte) (n : Nat) : Op :=
  { opcode := opcode
    exempt := true
    hasData := true
    check := fun s => firstRej [bankReadMode s bank.toNat addr, spanRej addr bank.toNat 1 n]
    run := fun s => answer s (wordsBytes ((List.range n).map fun i =>
      readWord s bank.toNat (clsOf addr) (instOf addr) (wordOf addr + i))) }

/-! ## The words of a write -/

/-- The words a write names, as (mask, value) from its address on, in each Wing that its bank names. -/
def writeItems (addr : Addr) (bank : Nat) (ws : List (Word × Word)) : List WItem :=
  (banksOf (if isBanked (clsOf addr) then bank else 0)).flatMap fun b => ws.zipIdx.map fun x =>
    { bank := b, cls := clsOf addr, inst := instOf addr, w := wordOf addr + x.2, mask := x.1.1, v := x.1.2 }
/-- The object address of an item. -/
def itemAddr (x : WItem) : Addr := mkAddr x.cls x.inst x.w
/-- The bits that a host can change in an item's word. -/
def itemBits (x : WItem) : Word :=
  let i := wordInfo x.cls x.inst x.w
  if x.cls = 0x17 ∧ x.w ≥ 0x80 then x.mask else x.mask &&& (i.rw ||| i.ws ||| i.w1c ||| i.wp)
/-- The words of persistent registers that a write names: each is one record of a ring. -/
def prsItems (l : List WItem) : List WItem := l.filter fun x => decide (x.cls = 0x26) && decide (x.inst = 0) && prsWord x.w
/-- The footprint of a write. -/
def writeFoot (l : List WItem) : Foot :=
  let f := (l.filter fun x => decide (x.cls = 0x04) && decide (x.w = 0)).map fun x => freqKey x.inst
  { writes := l.map fun x => (wkey x.bank (itemAddr x), itemBits x, x.v)
    touches := (l.map fun x => ikey x.bank x.cls x.inst).dedup ++ f
    reassigns := f }
/-- The authority a write needs: the highest of its words (R71, R103, R130, R581). Log entry 72 (DEDUCED). -/
def writeAuth (s : State) (l : List WItem) : Authority :=
  if l.any fun x => decide (x.cls = 0x26) then .privileged
  else if l.any fun x => isSafety (itemAddr x)
      || (decide (x.cls = 0x25) && decide (x.inst = 0) && takesOffInt1 (evtCfg s x.w) (merge (evtCfg s x.w) x.mask x.v)) then .authenticated
  else .plain

/-! ## The checks of a write -/

/-- Step 11 for a word (Table 2-2). -/
def itemMode (s : State) (x : WItem) : Option Rej :=
  rejIf (decide (x.cls = 0x21) && (match downWing s with | some w => decide (x.inst = wingCode w) | none => false))
    { status := .modeForbids, addr := itemAddr x }
/-- Step 12 for a word: safety-state words are no matter of ownership (R84). -/
def itemOwner (s : State) (p : Port) (x : WItem) : Option Rej :=
  if isOwnable x.cls ∧ !isSafety (itemAddr x) then ownerRej s p x.bank x.cls x.inst x.w else none
/-- A write that would change an RO field (R3, R102). -/
def itemRo (s : State) (x : WItem) : Option Rej :=
  let ro := (wordInfo x.cls x.inst x.w).ro &&& x.mask
  rejIf (decide ((x.v ^^^ readWord s x.bank x.cls x.inst x.w) &&& ro ≠ 0#32)) { status := .badParam, addr := itemAddr x }
/-- An unfinished command of the same port holds the word's unit (R79). -/
def itemHeld (s : State) (p : Port) (x : WItem) : Option Rej := instHeldRej s p x.cls x.bank x.inst
/-- THM words (Table 5-11, R531). -/
def thmRej (i w : Nat) (mask v new : Word) : Option Rej :=
  let a := mkAddr 0x22 i w
  let rng : Rej := { status := .range, addr := a }
  let bad : Rej := { status := .badParam, addr := a }
  if i < 14 then
    (if w = 1 then firstRej [
      rejIf (decide (bits new 7 0 > bits new 15 8) || decide (bits new 15 8 > bits new 23 16)) bad,
      rejIf (decide (bits new 23 16 > 130)) rng] else none)
  else match w with
    | 0 => rejIf (decide (new.toNat > 3600000)) rng
    | 1 => rejIf (decide (v &&& mask &&& 0xFFFFC000#32 ≠ 0#32)) bad
    | _ => none
/-- CLR words (chapter 16). Log entry 74 (DEDUCED). -/
def clrRej (s : State) (rd : Rd) (i w : Nat) (mask v new : Word) : Option Rej :=
  let a := mkAddr 0x17 i w
  let other := decide (v &&& mask &&& 0xFFFFFFEC#32 ≠ 0#32)
  match w with
  | 0 => firstRej [rejIf (decide (bits new 1 0 = 3)) { status := .range, addr := a }, rejIf other { status := .badParam, addr := a }]
  | 1 => firstRej [rejIf (decide (bits new 1 0 = 3)) { status := .range, addr := a }, rejIf other { status := .badParam, addr := a },
      rejIf (outActive s i && decide (bits (rdOut rd i 1) 1 0 = 1) && (outBanks s s.modes.cur i).any fun b =>
        !edpCarries (pixelClock rd i) (panelBits (rd b 0x17 i 1)) (rd 0 0x0A (bits (rdOut rd i 1) 12 8) 0)) { status := .range, addr := a }]
  | 2 => rejIf (decide (new = 0#32)) { status := .range, addr := a }
  | _ => none
/-- PRS words: the port that CP2 names (R64). Log entry 103 (DEDUCED). -/
def prsRej (s : State) (w : Nat) (new : Word) : Option Rej :=
  let p := bits new 12 8
  rejIf (decide (w = 1) && (decide (p > 23) || (decide ((plk s p).st ≠ 0) && decide ((plk s p).role = 1))))
    { status := .range, addr := mkAddr 0x26 0 w }
/-- The checks of a word's own class (steps 11 to 14). `rd` reads the words as they would stand. Log entry 73 (DEDUCED). -/
def itemClass (s : State) (rd : Rd) (x : WItem) : Option Rej :=
  let old := projected s x.bank x.cls x.inst x.w
  let new := rd x.bank x.cls x.inst x.w
  let a := itemAddr x
  let rng : Rej := { status := .range, addr := a }
  let mode := s.modes.cur
  let i := wordInfo x.cls x.inst x.w
  -- An RSV word takes no write and refuses none (R3).
  if i = wRsv then none else
  match x.cls with
  | 0x03 => refWriteRej x.inst x.w new (rd 0 0x03 16 3) (rd 0 0x03 16 4)
  | 0x04 => if x.inst = 11 then none else synWriteRej s x.inst x.w old new
  | 0x08 => rejIf (decide (x.w = 4) && (decide (bits new 2 0 > 4) || decide (bits new 12 8 > 23))) rng
  | 0x09 => stdPortRej s x.cls x.inst x.w new
  | 0x0A => byStep [stdPortRej s x.cls x.inst x.w new,
      rejIf (decide (x.w = 1) && bit new 4 && gpioUsed s x.inst (bits new 3 0)) { status := .badParam, addr := a }]
  | 0x0B => stdPortRej s x.cls x.inst x.w new
  | 0x10 => capWriteRej s (40 * x.bank + x.inst) x.w old new
  | 0x11 => if x.w = 1 then routeRej s rd mode x.bank x.inst else none
  | 0x15 => rejIf (decide (x.w = 1) && (decide (bits new 3 0 = 0) || decide (bits new 3 0 > 8) || decide (bits new 7 4 = 0)
      || decide (bits new 7 4 > 8) || decide (bits new 11 8 > 3))) rng
  | 0x16 => if x.w = 1 ∨ x.w = 2 then meshGeomRej a (rd x.bank 0x16 x.inst 1) (rd x.bank 0x16 x.inst 2)
        (((List.range 32).filter (· ≠ x.inst)).map fun m => (rd x.bank 0x16 m 1, rd x.bank 0x16 m 2)) else none
  | 0x17 => clrRej s rd x.inst x.w x.mask x.v new
  | 0x18 => if x.w = 0 then firstRej [
      rejIf (decide (mode = 3) && nominated rd x.inst && decide (new ≠ 0#32)) { status := .modeForbids, addr := a },
      rejIf (bit new 4 && decide (kindIn rd x.inst ≠ 0)) { status := .badParam, addr := a }] else none
  | 0x1A => if x.inst ≤ 7 then tdmRej s x.inst x.w old new else if x.inst ≤ 71 ∧ x.w = 0 then srcInRej s (x.inst - 8) new else none
  | 0x22 => thmRej x.inst x.w x.mask x.v new
  | 0x25 => if x.inst = 0 then evtCfgRej a new else none
  | 0x26 => if x.inst = 0 then prsRej s x.w new else none
  | _ => none
/-- The outputs whose words of Table 17-1 a write names, or whose FRC_MODE. -/
def writtenOuts (l : List WItem) : List Nat :=
  ((l.filter fun x => (decide (x.cls = 0x12) && ((decide (1 ≤ x.w) && decide (x.w ≤ 9)) || decide (x.w = 0x0B)))
    || (decide (x.cls = 0x18) && decide (x.w = 0))).map (·.inst)).dedup
/-- The checks of Table 17-2 on a written output (R419): the pixel rates count only outputs that are not STOPPED. Log entry 75 (DEDUCED). -/
def outWriteRej (s : State) (rd : Rd) (o : Nat) : Option Rej :=
  let mode := s.modes.cur
  let banks := outBanks s mode o
  let live := outActive s o
  let others := (liveOuts s mode).filter fun x => decide (x.1 ≠ o)
  byStep [outModeRej rd mode o banks live others, outParamRej s rd mode o banks live false others]
/-- An output's frame records are to be reserved anew: its size or its line-locked nomination changes while it holds them
(R455). -/
def recordMoves (s : State) (rd : Rd) (o : Nat) : Bool :=
  outActive s o && decide (recordBytes s (projected s) s.modes.cur o ≠ recordBytes s rd s.modes.cur o)
/-- The reservations of a write, none where one does not fit; the outputs in order. -/
def reserveMoved (s : State) (rd : Rd) : List Nat → Except Nat State
  | [] => .ok s
  | o :: r =>
    if recordMoves s rd o then
      match reserveRecords s o (recordBytes s rd s.modes.cur o) (outBanks s s.modes.cur o) with
      | some s => reserveMoved s rd r
      | none => .error o
    else reserveMoved s rd r
/-- The output whose frame record would not fit after a write. -/
def recordLacks (s : State) (rd : Rd) (os : List Nat) : Option Nat :=
  match reserveMoved s rd os with
  | .ok _ => none
  | .error o => some o
/-- The written layers with the words written: (bank, layer, words). -/
def writtenUnits (cls : Nat) (l : List WItem) : List (Nat × Nat × List Nat) :=
  let m := l.filter fun x => decide (x.cls = cls)
  ((m.map fun x => (x.bank, x.inst)).dedup).map fun u =>
    (u.1, u.2, (m.filter fun x => decide (x.bank = u.1) && decide (x.inst = u.2)).map (·.w))
/-- A layer is a member of a pending GROUP_FLIP set. -/
def inGroupFlip (s : State) (b n : Nat) : Bool := match (lyr s b n).set with
  | some k => (fset s k).isGroup
  | none => false
/-- The Ledger's part of a write of persistent registers (R147, R149, R546). -/
def prsLedgerRej (s : State) (l : List WItem) : Option Rej :=
  let ws := prsItems l
  if ws = [] then none
  else firstRej [
    rejIf (ws.any fun x => decide (prsLive s x.w = 0) || decide (prsLeft s x.w = 0)) (rejSt .nvmWorn),
    heldRej s fun r => ws.any fun x => prsRun x.w r,
    heldRej s maintaining,
    rejIf (queueFull s) (rejSt .busy)]
/-- The refusals of a write beyond step 10, in the order of Table 3-10. -/
def writeRej (s : State) (p : Port) (addr : Addr) (bank : Nat) (l : List WItem) (n : Nat) : Option Rej :=
  let rd := rdAfter s l
  match spanRej addr bank 2 n with
  | some r => firstRej [bankWriteMode s bank addr, some r]
  | none =>
    -- Only CP1 may clear VIT_SLOT bit 31 or lower the floor (Table 15-3).
    match l.find? fun x => decide (x.cls = 0x14) && vitAuthRej p x.w (projected s x.bank x.cls x.inst x.w) (rd x.bank x.cls x.inst x.w) with
    | some _ => some (rejSt .authFail)
    | none =>
      byStep ([bankWriteMode s bank addr, targetWriteRej s l] ++ l.map (itemMode s) ++ l.map (itemOwner s p) ++ l.map (itemRo s)
        ++ l.map (itemClass s rd) ++ (writtenOuts l).map (outWriteRej s rd)
        ++ (writtenUnits 0x13 l).map (fun u => lyrRej s p rd s.modes.cur u.1 u.2.1 u.2.2 (inGroupFlip s u.1 u.2.1))
        ++ (writtenUnits 0x14 l).map (fun u => if u.2.1 < 64 then vitRej s rd u.2.1 u.2.2 else none)
        ++ [(recordLacks s rd (writtenOuts l)).map fun o => { status := .noResource, addr := mkAddr 0x12 o 5 }, prsLedgerRej s l]
        ++ l.map (itemHeld s p))

/-! ## The effect of a write -/

/-- GPIO bits that a function drives are not written (R135). -/
def freeGpio (s : State) (x : WItem) : WItem :=
  if x.cls = 0x00 ∧ (x.w = 0x20 ∨ x.w = 0x21) then { x with mask := x.mask &&& ~~~(gpioTaken s) } else x
/-- Persistent registers change at E and their records join the Ledger queue (R148). -/
def prsWriteNow (s : State) (l : List WItem) : State :=
  let ws := prsItems l
  if ws = [] then s
  else
    let old := word s 0 0x26 0 1
    let s := ws.foldl (fun s x => setWord s 0 0x26 0 x.w (merge (word s 0 0x26 0 x.w) (itemBits x) x.v)) s
    queuePrs (settleCp2 s old) (ws.map fun x => (x.w, word s 0 0x26 0 x.w))
/-- An accepted write takes effect. -/
def writeNow (s : State) (p : Port) (l : List WItem) : State :=
  let rd := rdAfter s l
  let s := match reserveMoved s rd (writtenOuts l) with
    | .ok s => s
    | .error _ => s
  prsWriteNow (applyItems s (some p) (l.map (freeGpio s))) l
/-- What a refused write leaves behind: events 208 and 249. -/
def writeRefused (l : List WItem) (r : Rej) (s : State) : State :=
  let rd := rdAfter s l
  match r.status, recordLacks s rd (writtenOuts l) with
  | .noResource, some o => if r.addr = mkAddr 0x12 o 5 then recordShort s o (recordBytes s rd s.modes.cur o) (outBanks s s.modes.cur o) else s
  | .nvmWorn, _ => (match (prsItems l).find? fun x => decide (prsLive s x.w = 0) || decide (prsLeft s x.w = 0) with
    | some x => noSlot s x.w
    | none => s)
  | _, _ => s

/-- WRITE, WRITE_MASKED and BLOCK_WRITE: `ws` are the (mask, value) pairs from the address on. -/
def opWriteWords (opcode : Byte) (q : Req) (addr : Addr) (bank : Byte) (ws : List (Word × Word)) : Op :=
  let l := writeItems addr bank.toNat ws
  { opcode := opcode
    sched := if isPrs addr then .no else .yes
    auth := fun s => writeAuth s l
    check := fun s => writeRej s q.port addr bank.toNat l ws.length
    foot := fun _ => writeFoot l
    refused := writeRefused l
    run := fun s => done (writeNow s q.port l)
    job := if prsItems l = [] then none else some (.prs ((prsItems l).map fun x => (x.w, x.v))) }
/-- WRITE. -/
def opWrite (q : Req) (addr : Addr) (bank : Byte) (v : Word) : Op := opWriteWords 0x11 q addr bank [(allOnes, v)]
/-- WRITE_MASKED. -/
def opWriteMasked (q : Req) (addr : Addr) (bank : Byte) (mask v : Word) : Op := opWriteWords 0x12 q addr bank [(mask, v)]
/-- BLOCK_WRITE. -/
def opBlockWrite (q : Req) (addr : Addr) (bank : Byte) (vs : List Word) : Op :=
  opWriteWords 0x14 q addr bank (vs.map fun v => (allOnes, v))

end Sys2Proof.Machine
end

