-- ==== Sys2Proof/Machine/Pipeline.lean ====
section
/-! DEFINITION. The one pipeline of every command: steps 6 to 15 of Table 3-10, acceptance into the schedule table, late execution, the
order of work at one tick (Table 6-1), and launches (Table 6-2). -/

namespace Sys2Proof.Machine
open Sys2Proof

/-! ## What each command is -/

/-- SYN_HOP: beside its own checks, no genlocked output that it feeds may be left with no ratio (R422). -/
def opHop (q : Req) (n mem : Byte) (w : Word) : Op :=
  let k := n.toNat
  let o := opSynHop q n mem w
  { o with
    check := fun s =>
      let rd : Rd := fun b c i x => if c = 0x04 ∧ i = k ∧ x = 0 then w else projected s b c i x
      byStep [o.check s,
        rejIf ((fedOuts s k).any fun x => decide (outKind s x = 1) && (match anchorRate s (outAnchor rd x) with
          | some r => (findRatio (frameRate rd x / r) (1 / 2000)).isNone
          | none => false)) { status := .badParam, addr := mkAddr 0x04 k 0 }] }
/-- SYN_RAMP_START: beside its own checks, F of every output it feeds stays within 24 Hz to 240 Hz at every segment end (R429). -/
def opRampStart (q : Req) (n : Byte) : Op :=
  let k := n.toNat
  let o := opSynRampStart q n
  { o with
    check := fun s =>
      let w := (synFreq s k).toNat
      let ends := rampEnds ((w : Int) * 65536) (syn s k).profile
      byStep [o.check s,
        rejIf ((fedOuts s k).any fun x => ends.any fun e =>
          let f : Rat := frameRate (word s) x * (e : Rat) / (w * 65536 : Nat)
          decide (f < 24) || decide (f > 240)) { status := .range, addr := mkAddr 0x04 k 0 }] }

/-- What a command does; an event is no command. -/
def opOf : Instr → Option Op
  | .nop _ => some (opNop)
  | .identify _ => some (opIdentify)
  | .claim q c f n b force => some (opClaim q c f n b force)
  | .release q c f n b force => some (opRelease q c f n b force)
  | .owners _ c f n b => some (opOwners c f n b)
  | .sysReset _ sc conf => some (opSysReset sc conf)
  | .read _ a b => some (opReadWords 0x10 a b 1)
  | .write q a b v => some (opWrite q a b v)
  | .writeMasked q a b m v => some (opWriteMasked q a b m v)
  | .blockRead _ a b n => some (opReadWords 0x13 a b n.toNat)
  | .blockWrite q a b vs => some (opBlockWrite q a b vs)
  | .registerWrite q a b v => some (opWrite q a b v)
  | .prsWrite q w v => some (opWrite q (mkAddr 0x26 0 w.toNat) 0 v)
  | .synEnWrite q n on => some (opWriteMasked q (mkAddr 0x04 n.toNat 2) 0 1#32 (field 0 1 (b2n on)))
  | .synFreqWrite q n v => some (opWrite q (mkAddr 0x04 n.toNat 0) 0 v)
  | .synDitherSeedWrite q n v => some (opWrite q (mkAddr 0x04 n.toNat 1) 0 v)
  | .synSpreadWrite q n m d => some (opWriteMasked q (mkAddr 0x04 n.toNat 2) 0 (maskOf 11 2) (field 2 2 m.toNat ||| field 4 8 d.toNat))
  | .refConfigWrite q c v => some (opWrite q (mkAddr 0x03 c.toNat 0) 0 v)
  | .refRankWordWrite q hi v => some (opWrite q (mkAddr 0x03 16 (if hi then 4 else 3)) 0 v)
  | .clrTblWinWrite q u w v => some (opWrite q (mkAddr 0x17 u.inst.toNat w.toNat) u.bank v)
  | .w1cClear q a b v => some (opWrite q a b v)
  | .capModeWrite q u v => some (opWrite q (mkAddr 0x10 u.inst.toNat 2) u.bank v)
  | .evtCfgWrite q n v => some (opWrite q (mkAddr 0x25 0 n.toNat) 0 v)
  | .audTdmCfgWrite q p v => some (opWrite q (mkAddr 0x1A p.toNat 0) 0 v)
  | .audSrcInWrite q c v => some (opWrite q (mkAddr 0x1A (8 + c.toNat) 0) 0 v)
  | .modeChange q t tr o => some (opModeChange q t tr o)
  | .modeCancel _ => some (opModeCancel)
  | .imageOpen q k m n => some (opImageOpen q k m n)
  | .imageData q off d => some (opImageData q off d)
  | .imageClose q act => some (opImageClose q act)
  | .imageStatus _ => some (opImageStatus)
  | .routeSwitch q r k p => some (opRouteSwitch q r k p)
  | .flip q l f a => some (opFlip q l f a)
  | .groupFlip q f es => some (opGroupFlip q f es)
  | .fenceSignal q f => some (opFenceSignal q f)
  | .outputStart q o w => some (opOutputStart q o w)
  | .outputStop q o f => some (opOutputStop q o f)
  | .outputAssign q o w => some (opOutputAssign q o w)
  | .captureStart q p => some (opCaptureStart q p)
  | .captureStop q p f => some (opCaptureStop q p f)
  | .tbRead _ => some (opTbRead)
  | .tbSet q ns fr => some (opTbSet q ns fr)
  | .schedCancel q e t => some (opSchedCancel q e t)
  | .schedList _ f n => some (opSchedList f n)
  | .trigger q p c w => some (opTrigger q p c w)
  | .refSelect _ c => some (opRefSelect c)
  | .refRank _ cs => some (opRefRank cs)
  | .fsyncRealign _ m => some (opFsyncRealign m)
  | .synHop q n m w => some (opHop q n m w)
  | .synBandStore q n m => some (opSynBandStore q n m)
  | .synRampLoad q n g => some (opSynRampLoad q n g)
  | .synRampStart q n => some (opRampStart q n)
  | .linkUp q p r st c => some (opLinkUp q p r st c)
  | .linkDown q p f => some (opLinkDown q p f)
  | .linkPower q p d st => some (opLinkPower q p d st)
  | .linkStatus _ p => some (opLinkStatus p)
  | .eyeScan q p l d => some (opEyeScan q p l d)
  | .linkLoop q p l r => some (opLinkLoop q p l r)
  | .audXbar q ramp es => some (opAudXbar q ramp es)
  | .meshData q m f es => some (opMeshData q m f es)
  | .meshCommit q ms => some (opMeshCommit q ms)
  | .meshFromCapture q m p f n ev cm => some (opMeshFromCapture q m p f n ev cm)
  | .vitData q n off d => some (opVitData q n off d)
  | .vitCommit _ n l c => some (opVitCommit n l c)
  | .ldgRead _ p off n => some (opLdgRead p off n)
  | .ldgWrite _ p off d => some (opLdgWrite p off d)
  | .ldgMaint _ act r p => some (opLdgMaint act r p)
  | .ldgWear _ f n => some (opLdgWear f n)
  | .vltSecretWrite q k sec => some (opVltSecretWrite q k sec)
  | .vltDerive q k ctx => some (opVltDerive q k ctx)
  | .vltChallenge _ n => some (opVltChallenge n)
  | .vltInvalidate q k => some (opVltInvalidate q k)
  | .vltStatus _ => some (opVltStatus)
  | .thmMeasure _ m => some (opThmMeasure m)
  | .selftest q c t u => some (opSelftest q c t u)
  | .selftestAbort _ t => some (opSelftestAbort t)
  | .faultLogRead _ f n => some (opFaultLogRead f n)
  | .healthReport _ w => some (opHealthReport w)
  | .failoverForce _ => some (opFailoverForce)
  | .evtRead _ n => some (opEvtRead n)
  | .evtAck q m => some (opEvtAck q m)
  | .writePacket _ _ => none
  | .readPlacard _ _ => none
  | .readPortStatus _ _ => none
  | .unknownTransaction _ _ => none
  | .cp3SclTimeout _ => none
  | .cp2PacketTimeout => none
  | .cp2LinkRetry => none
  | .buildTimeout => none
  | .warmReset => none
  | .modeWakeWaitEnd => none
  | .wingReady _ => none
  | .wakeTimeout _ => none
  | .imageCloseComplete => none
  | .outputStartInstant _ => none
  | .launch => none
  | .triggerDeparture _ _ => none
  | .synBandStoreComplete _ => none
  | .rampStep _ => none
  | .synLockAcquired _ _ _ => none
  | .synUngate _ => none
  | .synSearchTimeout _ => none
  | .synLossOfLock _ => none
  | .coreClockLoss _ => none
  | .refPulse _ _ => none
  | .refFreqMeasurement _ _ => none
  | .refActivityLost _ => none
  | .refQualified _ => none
  | .dpllComparison _ => none
  | .holdoverIntervalRecord _ => none
  | .acquireAlarm => none
  | .fsyncPulse _ _ => none
  | .tbPpsPulse _ => none
  | .synHopLockTimeout _ => none
  | .eyeScanComplete _ _ => none
  | .plkDetectClock _ => none
  | .plkLaneLock _ _ => none
  | .plkLaneLockLost _ _ _ => none
  | .plkAlignTimeout _ => none
  | .capability _ _ => none
  | .capabilityResend _ => none
  | .capabilityTimeout _ => none
  | .plkStepTimeout _ => none
  | .plkTrainTimeout _ => none
  | .plkVerifyEnd _ _ => none
  | .plkFallbackTimeout _ => none
  | .plkRecoverTimeout _ => none
  | .plkClockLost _ => none
  | .heartbeatTimeout _ => none
  | .backoffEnd _ => none
  | .plkDrainTimeout _ => none
  | .heartbeatSend _ => none
  | .heartbeat _ _ => none
  | .videoLine _ _ _ => none
  | .tile _ _ _ => none
  | .audio _ _ => none
  | .fence _ _ => none
  | .marker _ _ _ _ _ => none
  | .cp2Command _ _ => none
  | .cp2Placard _ => none
  | .ack _ _ => none
  | .ackTimer _ => none
  | .retransmitTimeout _ => none
  | .urgent _ _ => none
  | .power _ _ => none
  | .training _ _ => none
  | .endOfLink _ _ => none
  | .capabilityAck _ _ => none
  | .failure _ _ => none
  | .beacon _ _ => none
  | .powerRequestTimeout _ => none
  | .wakeTimeoutPlk _ => none
  | .trafficIdleReturn _ _ => none
  | .plkErrorWindowEnd _ _ => none
  | .equaliserTrainingDone _ => none
  | .auxRequest _ _ _ _ _ _ => none
  | .dpLinkTraining _ _ _ => none
  | .dpLinkLoss _ => none
  | .sidebandMessage _ _ => none
  | .msa _ _ _ => none
  | .audioSdp _ _ _ _ _ _ _ => none
  | .fenceSdp _ _ _ => none
  | .edpHpdSettled _ _ => none
  | .edpTrainingDone _ _ => none
  | .edpIrqHpd _ _ => none
  | .edpPanelLoss _ => none
  | .csiFrameStart _ _ _ => none
  | .csiFrameEnd _ _ _ _ => none
  | .csiLongPacket _ _ _ _ _ _ _ => none
  | .csiUlpsEntry _ => none
  | .vbIdTransition _ _ _ _ => none
  | .sourceLossTimeout _ => none
  | .fillComplete _ => none
  | .lockPoint _ _ => none
  | .switchWaitBound _ _ _ => none
  | .xbarChangeBoundary => none
  | .tdmPortStart _ => none
  | .tdmPortStop _ => none
  | .converterLock _ => none
  | .converterRatioMeasure _ _ => none
  | .sampleBoundary _ _ _ => none
  | .commitTick _ _ => none
  | .jobComplete _ _ _ _ _ _ _ _ => none
  | .jobDeadlineMiss _ _ _ _ _ => none
  | .tileRowRead _ _ _ _ => none
  | .recomposedTileRead _ _ _ _ _ => none
  | .bulkTransferComplete => none
  | .transactionTimeout _ _ _ => none
  | .vitCommitComplete _ => none
  | .ldgMaintComplete => none
  | .ldgProgramComplete _ => none
  | .vltDeriveComplete => none
  | .vltChallengeComplete => none
  | .tamper => none
  | .thermalWatch => none
  | .measurementComplete _ => none
  | .shutdownStep2 _ => none
  | .shutdownStep4 => none
  | .thermalTrip => none
  | .selftestComplete _ _ => none
  | .wingFault _ _ => none
  | .wingSupplyFault _ => none
  | .giveUp _ _ => none
  | .takeover _ => none
  | .tileCompare _ _ _ _ => none
  | .arbitrationResult _ _ _ _ => none
  | .readmissionMonitorClear _ => none
  | .readmissionMonitorTimeout _ => none
  | .readmissionTestDone _ _ => none
  | .lockstepMismatch _ => none
  | .pairBackInService _ => none
  | .curatorWatchdog => none
  | .mr4RefreshPoll _ _ _ => none
  | .memoryTrainingComplete _ _ _ => none
  | .porstNAssert => none
  | .powerLoss _ => none
  | .atrSupplyFault => none
  | .bootStart _ _ _ => none
  | .flashLoadComplete _ _ => none
  | .flashLoadRetry => none
  | .bootModeApply => none
  | .outputLineBoundary _ _ => none
  | .coreClockRegained _ => none

/-! ## Steps 6 to 15 (Table 3-10) -/

/-- The opcodes that only CP0 and CP1 may send (R95). Log entry 16 (DEDUCED). -/
def portOk (opcode : Byte) (p : Port) : Bool :=
  !([0x05#8, 0xA0#8, 0xC4#8].contains opcode) || !([Port.cp2, Port.cp3].contains p)
/-- Scheduling is not permitted (step 9). -/
def schedBad (o : Op) (q : Req) : Bool :=
  match o.sched with
  | .yes => false
  | .no => q.sched
  | .must => !q.sched
  | .bad => true
/-- A level of authority as a number. -/
def authLevel : Authority → Nat
  | .plain => 0 | .authenticated => 1 | .privileged => 2
/-- Step 10 (R70 to R73): the MAC is verified under the working key, and a verified one counts; whether it fails. -/
def authStep (s : State) (q : Req) (o : Op) : State × Bool :=
  if !isHostPort q.port ∨ q.port = .cp1 then (s, false)
  else
    let c := getPort s q.port
    let need := authLevel (o.auth s)
    if !q.auth then (s, q.priv || decide (need > 0))
    else match s.vault.key with
      | none => (s, true)
      | some k =>
        if mac16 k (leBytes 8 c.counter.toNat ++ q.msg) = q.mac then
          (setPort s q.port { c with counter := c.counter + 1 }, decide (need > 1) && !q.priv)
        else (s, true)
/-- The management pair runs the command: the Ledger and Vault groups, persistent registers, THM_MEASURE, self-tests and what the Docent and the
fault log answer (R11). Log entry 27 (DESIGN CHOICE). -/
def mgmtOp (o : Op) : Bool :=
  [0x90#8, 0x91#8, 0x92#8, 0x93#8, 0xA0#8, 0xA1#8, 0xA2#8, 0xA3#8, 0xA4#8, 0xB0#8, 0xC0#8, 0xC1#8, 0xC2#8, 0xC3#8].contains o.opcode
    || (match o.job with | some (.prs _) => true | _ => false)
/-- Steps 6, 8, 9 and 10 of an immediate command. One for a pair that restarts or is held is answered with BUSY (R12). -/
def earlySteps (s : State) (q : Req) (o : Op) : State × Option Rej :=
  if !commandPairUp s || (mgmtOp o && !mgmtPairUp s) then (s, some (rejSt .busy))
  else if !portOk o.opcode q.port then (s, some (rejSt .badOpcode))
  else if schedBad o q then (s, some (rejSt .badParam))
  else match authStep s q o with
    | (s, true) => (s, some (rejSt .authFail))
    | (s, false) => (s, none)
/-- An orderly shutdown refuses every command that R538 does not exempt. Log entry 20 (DEDUCED). -/
def shutRej (s : State) (o : Op) : Option Rej := rejIf (decide (s.thermal.shut ≥ 1) && !o.exempt) (rejSt .thermalRefused)
/-- A scheduled command whose launch tick is at or before the tick (R80). -/
def isLate (s : State) (q : Req) : Bool := q.sched && decide (q.launch ≤ s.tb.ns)
/-- A scheduled command that the schedule table is to take. -/
def isFuture (s : State) (q : Req) : Bool := q.sched && !isLate s q

/-- One command of a tick's due set: its port and request, what it is, and the entry it launches from. -/
structure Due where
  cmd : Instr
  q : Req
  op : Op
  entry : Option Nat := none

/-- The refusal of a due command by the steps that apply to it: 6 to 14 for an immediate one, 11 to 14 for a launch (R161). -/
def dueRej (d : Due) (s : State) : State × Option Rej :=
  match d.entry with
  | some _ => (s, firstRej [(d.op.relaunch.getD d.op.check) s, shutRej s d.op])
  | none =>
    match earlySteps s d.q d.op with
    | (s, some r) => (s, some r)
    | (s, none) => (s, firstRej [d.op.check s, shutRej s d.op,
        rejIf (isFuture s d.q && (freeSlot s).isNone) (rejSt .noResource)])
/-- A long-running command starts (R97): it keeps the key that is loaded (R567). -/
def startRun (s : State) (d : Due) (launched : Bool) : State :=
  match d.op.job with
  | some j => { s with runs := s.runs ++ [{ req := d.q, opcode := d.op.opcode, job := j, launched := launched, key := s.vault.key }] }
  | none => s
/-- A scheduled command takes its entry (R80, R158). -/
def placeEntry (s : State) (d : Due) : State × Nat :=
  let e := (freeSlot s).getD 0
  let s := setEntry s e (some { launch := d.q.launch, cmd := d.cmd, seq := s.tb.seq })
  (d.op.accept e { s with tb := { s.tb with seq := s.tb.seq + 1 } }, e)
/-- The effect of a due command that passes. -/
def dueEffect (d : Due) (s : State) : State × Reply :=
  match d.entry with
  | some e => (d.op.launchRun.getD d.op.run) (startRun (setEntry s e none) d true)
  | none => if isFuture s d.q then ((placeEntry s d).1, {}) else d.op.run (startRun s d (isLate s d.q))

/-! ## One tick (Table 6-1) -/

/-- The state a command of port `p` sees after the commands before it on its tick: the effects of its own port's (R159, step 3). Log entry 21 (DEDUCED). -/
def viewAfter (p : Port) : List Due → State → State
  | [], s => s
  | d :: r, s =>
    if d.q.port = p then
      let (s', x) := dueRej d s
      viewAfter p r (if x.isNone then (dueEffect d s').1 else s')
    else viewAfter p r s
/-- The refusal and the footprint of every command of a tick, each judged on the state it sees. -/
def judgeDue (s : State) : List Due → List Due → List (Option Rej × Foot)
  | _, [] => []
  | seen, d :: r =>
    let (v, x) := dueRej d (viewAfter d.q.port seen s)
    let foot := if x.isSome then {} else if d.entry.isNone && isFuture v d.q then d.op.acceptFoot else d.op.foot v
    (x, foot) :: judgeDue s (seen ++ [d]) r
/-- The outcomes of a tick's due set: refused by a check, lost in the contest (R86, R87, R667), or none. Log entry 21 (DEDUCED). -/
def outcomes (s : State) (l : List Due) : List (Option Rej) :=
  let j := judgeDue s [] l
  let cs : List Contender := (l.zip j).map fun x => { port := x.1.q.port, foot := x.2.2, verdict := if x.2.1.isSome then some false else none }
  (j.zip (contest s cs)).map fun x => match x.1.1 with
    | some r => some r
    | none => x.2.lostTo.map fun w => { status := .conflict, addr := w.2, b3 := BitVec.ofNat 8 (portCode w.1) }
/-- A TB_SET: it acts in step 1 of Table 6-1. -/
def setsTime (c : Instr) : Bool := match c with | .tbSet .. => true | _ => false
/-- A command as a member of a due set. -/
def dueOf (c : Instr) : Option Due :=
  match reqOf c, opOf c with
  | some (_, q), some o => some { cmd := c, q := q, op := o }
  | _, _ => none
/-- An entry that one of the two rounds of a tick launches: step 1 of Table 6-1 (`time`) takes the due TB_SET entries alone, the due set of
step 2 every due entry, a TB_SET entry that step 1 has passed over with them (R157). -/
def inRound (time : Bool) (c : Instr) : Bool := !time || setsTime c
/-- The due entries as members of the due set, but for those whose launch has to wait. -/
def dueLaunches (s : State) (time : Bool) : List Due :=
  ((dueEntries s).filterMap fun x => (dueOf x.2.cmd).map fun d => { d with entry := some x.1 }).filter
    fun d => inRound time d.cmd && d.op.ready s
/-- The due set of tick `t`: the due entries where a LAUNCH is at hand, then the immediate commands of the tick. -/
def dueSet (s : State) (t : Nat) (now : Option Instr) (time : Bool) : List Due :=
  let launch := decide (t = s.clk) && (now.isNone || s.pending.contains .launch)
  let imm := ((now.toList ++ s.pending).filterMap dueOf).filter fun d => decide (d.q.tick = some t) && decide (setsTime d.cmd = time)
  (if launch then dueLaunches s time else []) ++ imm
/-- Takes the first decided command that `f` names. -/
def takeDecided (f : Decided → Bool) : List Decided → Option (Decided × List Decided)
  | [] => none
  | d :: r => if f d then some (d, r) else (takeDecided f r).map fun (x, l) => (x, d :: l)
/-- The outcome of a command of tick `t`: decided with its due set when the first of the set acts, and kept for the others. -/
def decideDue (s : State) (t : Nat) (now : Option Instr) (time : Bool) (p : Port) (entry : Option Nat) : State × Option Rej :=
  let known := if s.ports.decidedTick = t then s.ports.decided else []
  let mine (d : Decided) : Bool := decide (d.port = p) && decide (d.entry = entry) && decide (d.setsTime = time)
  let all := match takeDecided mine known with
    | some _ => known
    | none =>
      let l := dueSet s t now time
      known ++ (l.zip (outcomes s l)).map fun x => { port := x.1.q.port, entry := x.1.entry, setsTime := time, rej := x.2 }
  match takeDecided mine all with
  | some (d, rest) => ({ s with ports := { s.ports with decidedTick := t, decided := rest } }, d.rej)
  | none => (s, none)

/-! ## Answers -/

/-- Events of a refusal: AUTH_FAIL, and a lost contest (Table 3-12). Log entry 22 (DEDUCED). -/
def rejEvent (s : State) (p : Port) (r : Rej) : State :=
  if !isHostPort p then s
  else match r.status with
    | .authFail => raise s (18 + 4 * portCode p) 0#32
    | .conflict => raise s (19 + 4 * portCode p) 0#32
    | _ => s
/-- A port's credit is taken or returned by a command that executes. -/
def holdCredit (s : State) (p : Port) (on : Bool) : State :=
  let c := getPort s p
  setPort s p { c with used := if on then c.used + 1 else c.used - 1 }
/-- The data of a SCHEDULED Placard (Table 3-9). -/
def lateData : List Byte := [0xFF#8, 0xFF#8, 0x01#8, 0x00#8]
/-- A refused command: nothing changes but what its refusal records. One that a check of steps 11 to 15 refuses late still counts
as a late launch (R80, R165). Log entry 20 (DEDUCED). -/
def refuse (s : State) (d : Due) (late : Bool) (r : Rej) : State :=
  let s := rejEvent (d.op.refused r s) d.q.port r
  let s := if late then lateLaunch s 65535 d.q 0 else s
  let s := if decide (r = rejSt .noResource) && d.entry.isNone && isFuture s d.q && (freeSlot s).isNone then
      raise s 199 (det (portCode d.q.port) d.q.tag.toNat d.op.opcode.toNat 0)
    else s
  formPlacard (holdCredit s d.q.port false) d.q d.op.opcode r.status (refusalData s d.q.port r)
/-- A command that passes takes effect and forms its Placards. Log entry 24 (DEDUCED). -/
def perform (s : State) (d : Due) : State :=
  let q := d.q
  let late := isLate s q
  if isFuture s q then
    let (s, e) := placeEntry s d
    formPlacard (holdCredit s q.port false) q d.op.opcode .scheduled [BitVec.ofNat 8 e, 0#8, 0#8, 0#8]
  else
    let key := s.vault.key
    let (s, rep) := dueEffect d s
    let s := if late then lateLaunch s 65535 q 0 else s
    let s := holdCredit s q.port false
    let revoked := q.auth && decide (q.port ≠ .cp1) && key.isSome && decide (s.vault.key ≠ key)
    if d.op.job.isSome then
      settleKey (if late then formPlacard s q d.op.opcode .scheduled lateData else s)
    else if revoked then settleKey (formPlacard (tellRevoked s q d.op.opcode) q d.op.opcode .keyRevoked [])
    else if late then
      let s := formPlacard s q d.op.opcode .scheduled lateData
      settleKey (if d.op.hasData then formLaunchPlacard s q d.op.opcode rep.st rep.data else s)
    else settleKey (formPlacard s q d.op.opcode rep.st rep.data)
/-- A command acts at its effect instant. Of commands that several ports schedule on one tick, one that finds the schedule table full by
then returns NO_RESOURCE (R158). One that came in a packet holds its credit already; in reset nothing takes commands (R624). Log entries 5 (DESIGN CHOICE), 27 (DESIGN CHOICE), 28 (DEDUCED), 116 (DEDUCED). -/
def runCommand (c : Instr) (q : Req) (o : Op) (s : State) : State :=
  let d : Due := { cmd := c, q := q, op := o }
  if !portsAwake s then s
  else
  let s := if q.tick.isSome then s else holdCredit s q.port true
  let early := (earlySteps s q o).2.isSome
  let (s, x) := match q.tick with
    | none => dueRej d s
    | some t =>
      let (s, x) := decideDue s t (some c) (setsTime c) q.port none
      ((earlySteps s q o).1, x)
  settle (match x with
    | some r => refuse s d (isLate s q && !early) r
    | none => if isFuture s q && (freeSlot s).isNone then refuse s d false (rejSt .noResource) else perform s d)

/-! ## LAUNCH (Tables 6-1 and 6-2) -/

/-- One due entry launches. -/
def launchOne (s : State) (e : Nat) (x : SchedEntry) (d : Due) (rej : Option Rej) : State :=
  let q := d.q
  let s := if x.late = 0 then s else lateLaunch s e q x.late
  match rej with
  | some r =>
    let s := rejEvent (d.op.failed r (d.op.refused r (setEntry s e none))) q.port (if r.status = .conflict then r else rejSt .ok)
    formLaunchPlacard (launchFailed s e q r.status) q d.op.opcode r.status (refusalData s q.port r)
  | none =>
    let (s, rep) := dueEffect d s
    if d.op.job.isSome then s
    else if d.op.hasData ∨ d.op.opcode = 0x05#8 then formLaunchPlacard s q d.op.opcode rep.st rep.data
    else s
/-- Every due entry of a round launches, in acceptance order; one whose launch has to wait stays. -/
def launchDue (s : State) (time : Bool) : State :=
  let l := (dueEntries s).filter fun x => inRound time x.2.cmd
  l.foldl (fun s x => match dueOf x.2.cmd with
    | none => setEntry s x.1 none
    | some d =>
      let d := { d with entry := some x.1 }
      if !d.op.ready s then d.op.waits s
      else
        let (s, rej) := decideDue s s.clk none time d.q.port (some x.1)
        launchOne s x.1 x.2 d rej) s
/-- Steps 2 to 6 of Table 6-1, and once more for as long as a TB_SET of the due set has made further entries due at the tick (R157). -/
def launchRounds : Nat → State → State
  | 0, s => s
  | n + 1, s => let s := launchDue s false; if (dueLaunches s false).isEmpty then s else launchRounds n s
/-- A TB_SET of this tick has still to act. -/
def setWaits (s : State) : Bool := s.pending.any fun c => setsTime c && (match reqOf c with | some (_, q) => decide (q.tick = some s.clk) | none => false)
/-- Step 1 of Table 6-1 for the TB_SET entries that are due at the count the tick has without a TB_SET: once a tick. -/
def launchSets (s : State) : State :=
  if s.tb.setsDone = some s.clk then s else let s := launchDue s true; { s with tb := { s.tb with setsDone := some s.clk } }
/-- LAUNCH. Step 1 comes before the immediate TB_SETs of the tick, which entries were accepted before, and the rest after them. While the
command pair restarts, due entries wait (R164). Log entry 109 (DEDUCED). -/
def execLaunch (s : State) : Host.Outcome State Fault Refusal :=
  if !commandPairUp s then .next s
  else
    let s := launchSets s
    .next (settle (if setWaits s then s else launchRounds 257 s))

end Sys2Proof.Machine
end

