-- ==== Sys2Proof/Machine/Commands.lean ====
section
/-! DEFINITION. The meaning of every opcode row: each command goes through the pipeline as what it is. -/

namespace Sys2Proof.Machine
open Sys2Proof

/-- NOP. -/
def execNop (q : Req) (s : State) : Host.Outcome State Fault Refusal :=
  .next (runCommand (.nop q) q (opNop) s)
/-- IDENTIFY. -/
def execIdentify (q : Req) (s : State) : Host.Outcome State Fault Refusal :=
  .next (runCommand (.identify q) q (opIdentify) s)
/-- CLAIM. -/
def execClaim (q : Req) (cls first count bank : Byte) (force : Bool) (s : State) : Host.Outcome State Fault Refusal :=
  .next (runCommand (.claim q cls first count bank force) q (opClaim q cls first count bank force) s)
/-- RELEASE. -/
def execRelease (q : Req) (cls first count bank : Byte) (force : Bool) (s : State) : Host.Outcome State Fault Refusal :=
  .next (runCommand (.release q cls first count bank force) q (opRelease q cls first count bank force) s)
/-- OWNERS. -/
def execOwners (q : Req) (cls first count bank : Byte) (s : State) : Host.Outcome State Fault Refusal :=
  .next (runCommand (.owners q cls first count bank) q (opOwners cls first count bank) s)
/-- SYS_RESET. -/
def execSysReset (q : Req) (scope : Byte) (confirm : Word) (s : State) : Host.Outcome State Fault Refusal :=
  .next (runCommand (.sysReset q scope confirm) q (opSysReset scope confirm) s)
/-- READ. -/
def execRead (q : Req) (addr : Addr) (bank : Byte) (s : State) : Host.Outcome State Fault Refusal :=
  .next (runCommand (.read q addr bank) q (opReadWords 0x10 addr bank 1) s)
/-- WRITE. -/
def execWrite (q : Req) (addr : Addr) (bank : Byte) (value : Word) (s : State) : Host.Outcome State Fault Refusal :=
  .next (runCommand (.write q addr bank value) q (opWrite q addr bank value) s)
/-- WRITE_MASKED. -/
def execWriteMasked (q : Req) (addr : Addr) (bank : Byte) (mask value : Word) (s : State) : Host.Outcome State Fault Refusal :=
  .next (runCommand (.writeMasked q addr bank mask value) q (opWriteMasked q addr bank mask value) s)
/-- BLOCK_READ. -/
def execBlockRead (q : Req) (addr : Addr) (bank count : Byte) (s : State) : Host.Outcome State Fault Refusal :=
  .next (runCommand (.blockRead q addr bank count) q (opReadWords 0x13 addr bank count.toNat) s)
/-- BLOCK_WRITE. -/
def execBlockWrite (q : Req) (addr : Addr) (bank : Byte) (values : List Word) (s : State) : Host.Outcome State Fault Refusal :=
  .next (runCommand (.blockWrite q addr bank values) q (opBlockWrite q addr bank values) s)
/-- REGISTER_WRITE. -/
def execRegisterWrite (q : Req) (addr : Addr) (bank : Byte) (value : Word) (s : State) : Host.Outcome State Fault Refusal :=
  .next (runCommand (.registerWrite q addr bank value) q (opWrite q addr bank value) s)
/-- PRS_WRITE. -/
def execPrsWrite (q : Req) (word : Byte) (value : Word) (s : State) : Host.Outcome State Fault Refusal :=
  .next (runCommand (.prsWrite q word value) q (opWrite q (mkAddr 0x26 0 word.toNat) 0 value) s)
/-- SYN_EN_WRITE. -/
def execSynEnWrite (q : Req) (syn : Byte) (en : Bool) (s : State) : Host.Outcome State Fault Refusal :=
  .next (runCommand (.synEnWrite q syn en) q (opWriteMasked q (mkAddr 0x04 syn.toNat 2) 0 1#32 (field 0 1 (b2n en))) s)
/-- SYN_FREQ_WRITE. -/
def execSynFreqWrite (q : Req) (syn : Byte) (value : Word) (s : State) : Host.Outcome State Fault Refusal :=
  .next (runCommand (.synFreqWrite q syn value) q (opWrite q (mkAddr 0x04 syn.toNat 0) 0 value) s)
/-- SYN_DITHER_SEED_WRITE. -/
def execSynDitherSeedWrite (q : Req) (syn : Byte) (seed : Word) (s : State) : Host.Outcome State Fault Refusal :=
  .next (runCommand (.synDitherSeedWrite q syn seed) q (opWrite q (mkAddr 0x04 syn.toNat 1) 0 seed) s)
/-- SYN_SPREAD_WRITE. -/
def execSynSpreadWrite (q : Req) (syn : Byte) (mode : BitVec 2) (depth : Byte) (s : State) : Host.Outcome State Fault Refusal :=
  .next (runCommand (.synSpreadWrite q syn mode depth) q (opWriteMasked q (mkAddr 0x04 syn.toNat 2) 0 (maskOf 11 2) (field 2 2 mode.toNat ||| field 4 8 depth.toNat)) s)
/-- REF_CONFIG_WRITE. -/
def execRefConfigWrite (q : Req) (cand : Byte) (value : Word) (s : State) : Host.Outcome State Fault Refusal :=
  .next (runCommand (.refConfigWrite q cand value) q (opWrite q (mkAddr 0x03 cand.toNat 0) 0 value) s)
/-- REF_RANK_WORD_WRITE. -/
def execRefRankWordWrite (q : Req) (hi : Bool) (value : Word) (s : State) : Host.Outcome State Fault Refusal :=
  .next (runCommand (.refRankWordWrite q hi value) q (opWrite q (mkAddr 0x03 16 (if hi then 4 else 3)) 0 value) s)
/-- CLR_TBL_WIN_WRITE. -/
def execClrTblWinWrite (q : Req) (unit : UnitRef) (word : Byte) (value : Word) (s : State) : Host.Outcome State Fault Refusal :=
  .next (runCommand (.clrTblWinWrite q unit word value) q (opWrite q (mkAddr 0x17 unit.inst.toNat word.toNat) unit.bank value) s)
/-- W1C_CLEAR. -/
def execW1cClear (q : Req) (addr : Addr) (bank : Byte) (ones : Word) (s : State) : Host.Outcome State Fault Refusal :=
  .next (runCommand (.w1cClear q addr bank ones) q (opWrite q addr bank ones) s)
/-- CAP_MODE_WRITE. -/
def execCapModeWrite (q : Req) (pipe : UnitRef) (value : Word) (s : State) : Host.Outcome State Fault Refusal :=
  .next (runCommand (.capModeWrite q pipe value) q (opWrite q (mkAddr 0x10 pipe.inst.toNat 2) pipe.bank value) s)
/-- EVT_CFG_WRITE. -/
def execEvtCfgWrite (q : Req) (source : Byte) (value : Word) (s : State) : Host.Outcome State Fault Refusal :=
  .next (runCommand (.evtCfgWrite q source value) q (opWrite q (mkAddr 0x25 0 source.toNat) 0 value) s)
/-- AUD_TDM_CFG_WRITE. -/
def execAudTdmCfgWrite (q : Req) (port : Byte) (value : Word) (s : State) : Host.Outcome State Fault Refusal :=
  .next (runCommand (.audTdmCfgWrite q port value) q (opWrite q (mkAddr 0x1A port.toNat 0) 0 value) s)
/-- AUD_SRC_IN_WRITE. -/
def execAudSrcInWrite (q : Req) (conv : Byte) (value : Word) (s : State) : Host.Outcome State Fault Refusal :=
  .next (runCommand (.audSrcInWrite q conv value) q (opWrite q (mkAddr 0x1A (8 + conv.toNat) 0) 0 value) s)
/-- MODE_CHANGE. -/
def execModeChange (q : Req) (target trigger output : Byte) (s : State) : Host.Outcome State Fault Refusal :=
  .next (runCommand (.modeChange q target trigger output) q (opModeChange q target trigger output) s)
/-- MODE_CANCEL. -/
def execModeCancel (q : Req) (s : State) : Host.Outcome State Fault Refusal :=
  .next (runCommand (.modeCancel q) q (opModeCancel) s)
/-- IMAGE_OPEN. -/
def execImageOpen (q : Req) (kind mode : Byte) (total : Word) (s : State) : Host.Outcome State Fault Refusal :=
  .next (runCommand (.imageOpen q kind mode total) q (opImageOpen q kind mode total) s)
/-- IMAGE_DATA. -/
def execImageData (q : Req) (offset : Word) (data : List Byte) (s : State) : Host.Outcome State Fault Refusal :=
  .next (runCommand (.imageData q offset data) q (opImageData q offset data) s)
/-- IMAGE_CLOSE. -/
def execImageClose (q : Req) (action : Byte) (s : State) : Host.Outcome State Fault Refusal :=
  .next (runCommand (.imageClose q action) q (opImageClose q action) s)
/-- IMAGE_STATUS. -/
def execImageStatus (q : Req) (s : State) : Host.Outcome State Fault Refusal :=
  .next (runCommand (.imageStatus q) q (opImageStatus) s)
/-- ROUTE_SWITCH. -/
def execRouteSwitch (q : Req) (route : UnitRef) (kind : Byte) (pipe : UnitRef) (s : State) : Host.Outcome State Fault Refusal :=
  .next (runCommand (.routeSwitch q route kind pipe) q (opRouteSwitch q route kind pipe) s)
/-- FLIP. -/
def execFlip (q : Req) (layer : UnitRef) (fence : Half) (surf : W64) (s : State) : Host.Outcome State Fault Refusal :=
  .next (runCommand (.flip q layer fence surf) q (opFlip q layer fence surf) s)
/-- GROUP_FLIP. -/
def execGroupFlip (q : Req) (fence : Half) (entries : List FlipEntry) (s : State) : Host.Outcome State Fault Refusal :=
  .next (runCommand (.groupFlip q fence entries) q (opGroupFlip q fence entries) s)
/-- FENCE_SIGNAL. -/
def execFenceSignal (q : Req) (fence : Half) (s : State) : Host.Outcome State Fault Refusal :=
  .next (runCommand (.fenceSignal q fence) q (opFenceSignal q fence) s)
/-- OUTPUT_START. -/
def execOutputStart (q : Req) (output wing : Byte) (s : State) : Host.Outcome State Fault Refusal :=
  .next (runCommand (.outputStart q output wing) q (opOutputStart q output wing) s)
/-- OUTPUT_STOP. -/
def execOutputStop (q : Req) (output : Byte) (force : Bool) (s : State) : Host.Outcome State Fault Refusal :=
  .next (runCommand (.outputStop q output force) q (opOutputStop q output force) s)
/-- OUTPUT_ASSIGN. -/
def execOutputAssign (q : Req) (output wing : Byte) (s : State) : Host.Outcome State Fault Refusal :=
  .next (runCommand (.outputAssign q output wing) q (opOutputAssign q output wing) s)
/-- CAPTURE_START. -/
def execCaptureStart (q : Req) (pipe : UnitRef) (s : State) : Host.Outcome State Fault Refusal :=
  .next (runCommand (.captureStart q pipe) q (opCaptureStart q pipe) s)
/-- CAPTURE_STOP. -/
def execCaptureStop (q : Req) (pipe : UnitRef) (force : Bool) (s : State) : Host.Outcome State Fault Refusal :=
  .next (runCommand (.captureStop q pipe force) q (opCaptureStop q pipe force) s)
/-- TB_READ. -/
def execTbRead (q : Req) (s : State) : Host.Outcome State Fault Refusal :=
  .next (runCommand (.tbRead q) q (opTbRead) s)
/-- TB_SET. -/
def execTbSet (q : Req) (ns : W64) (frac : Half) (s : State) : Host.Outcome State Fault Refusal :=
  .next (runCommand (.tbSet q ns frac) q (opTbSet q ns frac) s)
/-- SCHED_CANCEL. -/
def execSchedCancel (q : Req) (entry : Half) (tag : Byte) (s : State) : Host.Outcome State Fault Refusal :=
  .next (runCommand (.schedCancel q entry tag) q (opSchedCancel q entry tag) s)
/-- SCHED_LIST. -/
def execSchedList (q : Req) (first count : Byte) (s : State) : Host.Outcome State Fault Refusal :=
  .next (runCommand (.schedList q first count) q (opSchedList first count) s)
/-- TRIGGER. -/
def execTrigger (q : Req) (port camera : Byte) (word : Word) (s : State) : Host.Outcome State Fault Refusal :=
  .next (runCommand (.trigger q port camera word) q (opTrigger q port camera word) s)
/-- REF_SELECT. -/
def execRefSelect (q : Req) (cand : Byte) (s : State) : Host.Outcome State Fault Refusal :=
  .next (runCommand (.refSelect q cand) q (opRefSelect cand) s)
/-- REF_RANK. -/
def execRefRank (q : Req) (cands : List Byte) (s : State) : Host.Outcome State Fault Refusal :=
  .next (runCommand (.refRank q cands) q (opRefRank cands) s)
/-- FSYNC_REALIGN. -/
def execFsyncRealign (q : Req) (mask : Byte) (s : State) : Host.Outcome State Fault Refusal :=
  .next (runCommand (.fsyncRealign q mask) q (opFsyncRealign mask) s)
/-- SYN_HOP. -/
def execSynHop (q : Req) (syn mem : Byte) (word : Word) (s : State) : Host.Outcome State Fault Refusal :=
  .next (runCommand (.synHop q syn mem word) q (opHop q syn mem word) s)
/-- SYN_BAND_STORE. -/
def execSynBandStore (q : Req) (syn mem : Byte) (s : State) : Host.Outcome State Fault Refusal :=
  .next (runCommand (.synBandStore q syn mem) q (opSynBandStore q syn mem) s)
/-- SYN_RAMP_LOAD. -/
def execSynRampLoad (q : Req) (syn : Byte) (segs : List Seg) (s : State) : Host.Outcome State Fault Refusal :=
  .next (runCommand (.synRampLoad q syn segs) q (opSynRampLoad q syn segs) s)
/-- SYN_RAMP_START. -/
def execSynRampStart (q : Req) (syn : Byte) (s : State) : Host.Outcome State Fault Refusal :=
  .next (runCommand (.synRampStart q syn) q (opRampStart q syn) s)
/-- LINK_UP. -/
def execLinkUp (q : Req) (port role step code : Byte) (s : State) : Host.Outcome State Fault Refusal :=
  .next (runCommand (.linkUp q port role step code) q (opLinkUp q port role step code) s)
/-- LINK_DOWN. -/
def execLinkDown (q : Req) (port : Byte) (force : Bool) (s : State) : Host.Outcome State Fault Refusal :=
  .next (runCommand (.linkDown q port force) q (opLinkDown q port force) s)
/-- LINK_POWER. -/
def execLinkPower (q : Req) (port dir state : Byte) (s : State) : Host.Outcome State Fault Refusal :=
  .next (runCommand (.linkPower q port dir state) q (opLinkPower q port dir state) s)
/-- LINK_STATUS. -/
def execLinkStatus (q : Req) (port : Byte) (s : State) : Host.Outcome State Fault Refusal :=
  .next (runCommand (.linkStatus q port) q (opLinkStatus port) s)
/-- EYE_SCAN. -/
def execEyeScan (q : Req) (port lane dwell : Byte) (s : State) : Host.Outcome State Fault Refusal :=
  .next (runCommand (.eyeScan q port lane dwell) q (opEyeScan q port lane dwell) s)
/-- LINK_LOOP. -/
def execLinkLoop (q : Req) (port loop pair : Byte) (s : State) : Host.Outcome State Fault Refusal :=
  .next (runCommand (.linkLoop q port loop pair) q (opLinkLoop q port loop pair) s)
/-- AUD_XBAR. -/
def execAudXbar (q : Req) (ramp : Bool) (entries : List XbarEntry) (s : State) : Host.Outcome State Fault Refusal :=
  .next (runCommand (.audXbar q ramp entries) q (opAudXbar q ramp entries) s)
/-- MESH_DATA. -/
def execMeshData (q : Req) (mesh : UnitRef) (first : Word) (entries : List Word) (s : State) : Host.Outcome State Fault Refusal :=
  .next (runCommand (.meshData q mesh first entries) q (opMeshData q mesh first entries) s)
/-- MESH_COMMIT. -/
def execMeshCommit (q : Req) (meshes : List UnitRef) (s : State) : Host.Outcome State Fault Refusal :=
  .next (runCommand (.meshCommit q meshes) q (opMeshCommit q meshes) s)
/-- MESH_FROM_CAPTURE. -/
def execMeshFromCapture (q : Req) (mesh pipe : UnitRef) (first count : Word) (every commit : Bool) (s : State) : Host.Outcome State Fault Refusal :=
  .next (runCommand (.meshFromCapture q mesh pipe first count every commit) q (opMeshFromCapture q mesh pipe first count every commit) s)
/-- VIT_DATA. -/
def execVitData (q : Req) (slot : Byte) (offset : Word) (data : List Byte) (s : State) : Host.Outcome State Fault Refusal :=
  .next (runCommand (.vitData q slot offset data) q (opVitData q slot offset data) s)
/-- VIT_COMMIT. -/
def execVitCommit (q : Req) (slot : Byte) (len crc : Word) (s : State) : Host.Outcome State Fault Refusal :=
  .next (runCommand (.vitCommit q slot len crc) q (opVitCommit slot len crc) s)
/-- LDG_READ. -/
def execLdgRead (q : Req) (page : Half) (offset : Byte) (count : Half) (s : State) : Host.Outcome State Fault Refusal :=
  .next (runCommand (.ldgRead q page offset count) q (opLdgRead page offset count) s)
/-- LDG_WRITE. -/
def execLdgWrite (q : Req) (page : Half) (offset : Byte) (data : List Byte) (s : State) : Host.Outcome State Fault Refusal :=
  .next (runCommand (.ldgWrite q page offset data) q (opLdgWrite page offset data) s)
/-- LDG_MAINT. -/
def execLdgMaint (q : Req) (action region : Byte) (page : Half) (s : State) : Host.Outcome State Fault Refusal :=
  .next (runCommand (.ldgMaint q action region page) q (opLdgMaint action region page) s)
/-- LDG_WEAR. -/
def execLdgWear (q : Req) (first count : Half) (s : State) : Host.Outcome State Fault Refusal :=
  .next (runCommand (.ldgWear q first count) q (opLdgWear first count) s)
/-- VLT_SECRET_WRITE. -/
def execVltSecretWrite (q : Req) (slot : Byte) (secret : List Byte) (s : State) : Host.Outcome State Fault Refusal :=
  .next (runCommand (.vltSecretWrite q slot secret) q (opVltSecretWrite q slot secret) s)
/-- VLT_DERIVE. -/
def execVltDerive (q : Req) (slot : Byte) (ctx : List Byte) (s : State) : Host.Outcome State Fault Refusal :=
  .next (runCommand (.vltDerive q slot ctx) q (opVltDerive q slot ctx) s)
/-- VLT_CHALLENGE. -/
def execVltChallenge (q : Req) (nonce : List Byte) (s : State) : Host.Outcome State Fault Refusal :=
  .next (runCommand (.vltChallenge q nonce) q (opVltChallenge nonce) s)
/-- VLT_INVALIDATE. -/
def execVltInvalidate (q : Req) (slot : Byte) (s : State) : Host.Outcome State Fault Refusal :=
  .next (runCommand (.vltInvalidate q slot) q (opVltInvalidate q slot) s)
/-- VLT_STATUS. -/
def execVltStatus (q : Req) (s : State) : Host.Outcome State Fault Refusal :=
  .next (runCommand (.vltStatus q) q (opVltStatus) s)
/-- THM_MEASURE. -/
def execThmMeasure (q : Req) (mask : Half) (s : State) : Host.Outcome State Fault Refusal :=
  .next (runCommand (.thmMeasure q mask) q (opThmMeasure mask) s)
/-- SELFTEST. -/
def execSelftest (q : Req) (cls target : Byte) (unit : Half) (s : State) : Host.Outcome State Fault Refusal :=
  .next (runCommand (.selftest q cls target unit) q (opSelftest q cls target unit) s)
/-- SELFTEST_ABORT. -/
def execSelftestAbort (q : Req) (target : Byte) (s : State) : Host.Outcome State Fault Refusal :=
  .next (runCommand (.selftestAbort q target) q (opSelftestAbort target) s)
/-- FAULT_LOG_READ. -/
def execFaultLogRead (q : Req) (first count : Half) (s : State) : Host.Outcome State Fault Refusal :=
  .next (runCommand (.faultLogRead q first count) q (opFaultLogRead first count) s)
/-- HEALTH_REPORT. -/
def execHealthReport (q : Req) (wing : Byte) (s : State) : Host.Outcome State Fault Refusal :=
  .next (runCommand (.healthReport q wing) q (opHealthReport wing) s)
/-- FAILOVER_FORCE. -/
def execFailoverForce (q : Req) (s : State) : Host.Outcome State Fault Refusal :=
  .next (runCommand (.failoverForce q) q (opFailoverForce) s)
/-- EVT_READ. -/
def execEvtRead (q : Req) (count : Byte) (s : State) : Host.Outcome State Fault Refusal :=
  .next (runCommand (.evtRead q count) q (opEvtRead count) s)
/-- EVT_ACK. -/
def execEvtAck (q : Req) (mask : List Byte) (s : State) : Host.Outcome State Fault Refusal :=
  .next (runCommand (.evtAck q mask) q (opEvtAck q mask) s)

end Sys2Proof.Machine
end

