-- ==== Sys2Proof/Machine/Parse.lean ====
section
/-! DEFINITION. From the bytes of a packet to its command (Table 3-4, R91, chapter 04's parameter columns), and what an arrived packet
meets at its effect instant before its command acts (steps 6 to 9 of Table 3-10). -/

namespace Sys2Proof.Machine
open Sys2Proof

/-! ## Parameters -/

/-- A byte, a 16-bit number and a word at an offset of the parameters. -/
def pByte (p : List Byte) (o : Nat) : Byte := p.getD o 0#8
def pHalf (p : List Byte) (o : Nat) : Half := BitVec.ofNat 16 (leAt p o 2)
def pWord (p : List Byte) (o : Nat) : Word := BitVec.ofNat 32 (leAt p o 4)
def pLong (p : List Byte) (o : Nat) : W64 := BitVec.ofNat 64 (leAt p o 8)
/-- An object address. -/
def pAddr (p : List Byte) (o : Nat) : Addr := BitVec.ofNat 24 (leAt p o 3)
/-- A unit reference (R94). -/
def pUnit (p : List Byte) (o : Nat) : UnitRef := { inst := pByte p o, bank := pByte p (o + 1) }
/-- Bit 0 of a byte. -/
def pFlag (p : List Byte) (o : Nat) : Bool := (pByte p o).getLsbD 0
/-- The offsets of `n` entries of `each` bytes from `head`. -/
def offsets (n head each : Nat) : List Nat := (List.range n).map fun i => head + each * i

/-- Whether the parameters have the size of their opcode, by the count they carry where the size varies (R91); none where the opcode is
not assigned. Log entry 17 (DEDUCED). -/
def lengthOk (op : Byte) (p : List Byte) : Option Bool :=
  let n := p.length
  let fixed (k : Nat) : Option Bool := some (decide (n = k))
  let counted (head each count : Nat) : Option Bool := some (decide (n = head + each * count))
  let rest (head : Nat) (ok : Nat → Bool) : Option Bool := some (decide (head ≤ n) && ok (n - head))
  match op.toNat with
  | 0x00 | 0x01 | 0x21 | 0x25 | 0x40 | 0xA4 | 0xC4 => fixed 0
  | 0x02 | 0x03 | 0x05 => fixed 8
  | 0x04 | 0x10 => fixed 4
  | 0x11 => fixed 8
  | 0x12 => fixed 12
  | 0x13 => fixed 8
  | 0x14 => counted 8 4 (pByte p 4).toNat
  | 0x20 | 0x24 => fixed 4
  | 0x22 => fixed 8
  | 0x23 => rest 4 fun k => decide (1 ≤ k)
  | 0x30 => fixed 6
  | 0x31 => fixed 12
  | 0x32 => counted 4 12 (pByte p 0).toNat
  | 0x33 | 0x34 | 0x35 | 0x36 | 0x37 | 0x38 => fixed 4
  | 0x41 => fixed 12
  | 0x42 | 0x43 => fixed 4
  | 0x44 => fixed 8
  | 0x50 | 0x52 | 0x54 | 0x56 => fixed 4
  | 0x51 => counted 4 1 (pByte p 0).toNat
  | 0x53 => fixed 8
  | 0x55 => counted 4 8 (pByte p 1).toNat
  | 0x60 | 0x61 | 0x62 | 0x63 | 0x64 | 0x65 => fixed 4
  | 0x70 => counted 4 8 (leAt p 0 2)
  | 0x80 => rest 8 fun k => decide (k % 4 = 0)
  | 0x81 => counted 4 2 (pByte p 0).toNat
  | 0x82 => fixed 16
  | 0x84 => rest 8 fun _ => true
  | 0x85 => fixed 12
  | 0x90 => fixed 8
  | 0x91 => rest 4 fun k => decide (1 ≤ k) && decide (k ≤ 256)
  | 0x92 | 0x93 => fixed 4
  | 0xA0 => fixed 36
  | 0xA1 => fixed 20
  | 0xA2 => fixed 16
  | 0xA3 => fixed 4
  | 0xB0 | 0xC1 | 0xC2 | 0xC3 | 0xD0 => fixed 4
  | 0xC0 => fixed 8
  | 0xD1 => fixed 32
  | _ => none

/-- The command of an opcode and its parameters (chapter 04). -/
def commandOf (op : Byte) (q : Req) (p : List Byte) : Option Instr :=
  let b := pByte p
  match op.toNat with
  | 0x00 => some (.nop q)
  | 0x01 => some (.identify q)
  | 0x02 => some (.claim q (b 0) (b 1) (b 2) (b 3) (pFlag p 4))
  | 0x03 => some (.release q (b 0) (b 1) (b 2) (b 3) (pFlag p 4))
  | 0x04 => some (.owners q (b 0) (b 1) (b 2) (b 3))
  | 0x05 => some (.sysReset q (b 0) (pWord p 4))
  | 0x10 => some (.read q (pAddr p 0) (b 3))
  | 0x11 => some (.write q (pAddr p 0) (b 3) (pWord p 4))
  | 0x12 => some (.writeMasked q (pAddr p 0) (b 3) (pWord p 4) (pWord p 8))
  | 0x13 => some (.blockRead q (pAddr p 0) (b 3) (b 4))
  | 0x14 => some (.blockWrite q (pAddr p 0) (b 3) (wordsOf (p.drop 8)))
  | 0x20 => some (.modeChange q (b 0) (b 1) (b 2))
  | 0x21 => some (.modeCancel q)
  | 0x22 => some (.imageOpen q (b 0) (b 1) (pWord p 4))
  | 0x23 => some (.imageData q (pWord p 0) (p.drop 4))
  | 0x24 => some (.imageClose q (b 0))
  | 0x25 => some (.imageStatus q)
  | 0x30 => some (.routeSwitch q (pUnit p 0) (b 2) (pUnit p 4))
  | 0x31 => some (.flip q (pUnit p 0) (pHalf p 2) (pLong p 4))
  | 0x32 => some (.groupFlip q (pHalf p 2) ((offsets (b 0).toNat 4 12).map fun o => { layer := pUnit p o, surf := pLong p (o + 4) }))
  | 0x33 => some (.fenceSignal q (pHalf p 0))
  | 0x34 => some (.outputStart q (b 0) (b 1))
  | 0x35 => some (.outputStop q (b 0) (pFlag p 1))
  | 0x36 => some (.captureStart q (pUnit p 0))
  | 0x37 => some (.captureStop q (pUnit p 0) (pFlag p 2))
  | 0x38 => some (.outputAssign q (b 0) (b 1))
  | 0x40 => some (.tbRead q)
  | 0x41 => some (.tbSet q (pLong p 0) (pHalf p 8))
  | 0x42 => some (.schedCancel q (pHalf p 0) (b 2))
  | 0x43 => some (.schedList q (b 0) (b 1))
  | 0x44 => some (.trigger q (b 0) (b 1) (pWord p 4))
  | 0x50 => some (.refSelect q (b 0))
  | 0x51 => some (.refRank q (p.drop 4))
  | 0x52 => some (.fsyncRealign q (b 0))
  | 0x53 => some (.synHop q (b 0) (b 1) (pWord p 4))
  | 0x54 => some (.synBandStore q (b 0) (b 1))
  | 0x55 => some (.synRampLoad q (b 0) ((offsets (b 1).toNat 4 8).map fun o => { slope := pWord p o, dur := pWord p (o + 4) }))
  | 0x56 => some (.synRampStart q (b 0))
  | 0x60 => some (.linkUp q (b 0) (b 1) (b 2) (b 3))
  | 0x61 => some (.linkDown q (b 0) (pFlag p 1))
  | 0x62 => some (.linkPower q (b 0) (b 1) (b 2))
  | 0x63 => some (.linkStatus q (b 0))
  | 0x64 => some (.eyeScan q (b 0) (b 1) (b 2))
  | 0x65 => some (.linkLoop q (b 0) (b 1) (b 2))
  | 0x70 => some (.audXbar q (pFlag p 2) ((offsets (leAt p 0 2) 4 8).map fun o => { dst := pHalf p o, src := pHalf p (o + 2), gain := pHalf p (o + 4) }))
  | 0x80 => some (.meshData q (pUnit p 0) (pWord p 4) (wordsOf (p.drop 8)))
  | 0x81 => some (.meshCommit q ((offsets (b 0).toNat 4 2).map (pUnit p)))
  | 0x82 => some (.meshFromCapture q (pUnit p 0) (pUnit p 2) (pWord p 4) (pWord p 8) (pFlag p 12) ((b 12).getLsbD 1))
  | 0x84 => some (.vitData q (b 0) (pWord p 4) (p.drop 8))
  | 0x85 => some (.vitCommit q (b 0) (pWord p 4) (pWord p 8))
  | 0x90 => some (.ldgRead q (pHalf p 0) (b 2) (pHalf p 4))
  | 0x91 => some (.ldgWrite q (pHalf p 0) (b 2) (p.drop 4))
  | 0x92 => some (.ldgMaint q (b 0) (b 1) (pHalf p 2))
  | 0x93 => some (.ldgWear q (pHalf p 0) (pHalf p 2))
  | 0xA0 => some (.vltSecretWrite q (b 0) (p.drop 4))
  | 0xA1 => some (.vltDerive q (b 0) (p.drop 4))
  | 0xA2 => some (.vltChallenge q p)
  | 0xA3 => some (.vltInvalidate q (b 0))
  | 0xA4 => some (.vltStatus q)
  | 0xB0 => some (.thmMeasure q (pHalf p 0))
  | 0xC0 => some (.selftest q (b 0) (b 1) (pHalf p 2))
  | 0xC1 => some (.selftestAbort q (b 0))
  | 0xC2 => some (.faultLogRead q (pHalf p 0) (pHalf p 2))
  | 0xC3 => some (.healthReport q (b 0))
  | 0xC4 => some (.failoverForce q)
  | 0xD0 => some (.evtRead q (b 0))
  | 0xD1 => some (.evtAck q p)
  | _ => none

/-! ## Packets (Table 3-4) -/

/-- The length of the payload. -/
def payloadLen (b : List Byte) : Nat := leAt b 4 2
/-- A flag bit (Table 3-5). -/
def packetFlag (b : List Byte) (i : Nat) : Bool := (pByte b 3).getLsbD i
/-- The payload bytes that a launch value and a MAC take. -/
def launchLen (b : List Byte) : Nat := if packetFlag b 0 then 8 else 0
def macLen (b : List Byte) : Nat := if packetFlag b 3 then 16 else 0
/-- The parameters: what lies between the two. -/
def packetParams (b : List Byte) : List Byte := slice b (8 + launchLen b) (payloadLen b - launchLen b - macLen b)
/-- The request of a packet whose command takes effect at a tick. -/
def packetReq (p : Port) (tick : Option Nat) (b : List Byte) : Req :=
  let n := payloadLen b
  { port := p, tag := pByte b 2, sched := packetFlag b 0, priv := packetFlag b 1, reply := packetFlag b 2, auth := packetFlag b 3
    launch := if packetFlag b 0 then BitVec.ofNat 64 (leAt b 8 8) else 0#64
    msg := b.take (8 + n - macLen b)
    mac := if packetFlag b 3 then slice b (8 + n - 16) 16 else []
    tick := tick }
/-- What a packet comes to at its effect instant: its command, or the refusal of step 8 or of the length check of step 9 (R73, R91, R95). Log entry 16 (DEDUCED). -/
def readPacket (p : Port) (tick : Option Nat) (b : List Byte) : Except Status Instr :=
  let op := pByte b 1
  let need := launchLen b + macLen b
  match lengthOk op (packetParams b) with
  | none => .error .badOpcode
  | some fits =>
    if !portOk op p then .error .badOpcode
    else if payloadLen b < need then .error (if packetFlag b 3 ∧ p ≠ .cp1 then .authFail else .badLength)
    else if !fits then .error .badLength
    else match commandOf op (packetReq p tick b) (packetParams b) with
      | some c => .ok c
      | none => .error .badOpcode

/-! ## The effect instant -/

/-- R78: at most 16 packets in any 2,048 CLK_CTL cycles, by their counting edges. -/
def admits (s : State) (f : Flight) : Bool := decide ((s.ports.admitted.filter fun e => decide (f.edge < e + 4096)).length < 16)
/-- A flight lands: it is refused by steps 6 to 9, or its command waits for its turn on this tick. Log entry 5 (DESIGN CHOICE). -/
def land (s : State) (f : Flight) : State × Option Instr :=
  let q := packetReq f.port (some f.eTick) f.bytes
  let no (s : State) (st : Status) : State × Option Instr :=
    (formPlacard (rejEvent s f.port (rejSt st)) q (pByte f.bytes 1) st (refusalData s f.port (rejSt st)), none)
  if !commandPairUp s then no s .busy
  else if !admits s f then no s .busy
  else
    let s := { s with ports := { s.ports with admitted := (s.ports.admitted.filter fun e => decide (f.edge < e + 4096)) ++ [f.edge] } }
    match readPacket f.port (some f.eTick) f.bytes with
    | .error st => no s st
    | .ok c => (holdCredit s f.port true, some c)

end Sys2Proof.Machine
end

