-- ==== Sys2Proof/Machine/Faults.lean ====
section
/-! DEFINITION. Lockstep mismatches of the Curator and the return of a pair (R12, R164, R393, R615). -/

namespace Sys2Proof.Machine
open Sys2Proof

/-- One of the Curator's pairs. -/
def pairOf (s : State) (mgmt : Bool) : Pair := if mgmt then s.boot.mgmtPair else s.boot.cmdPair
/-- Sets one of the Curator's pairs. -/
def setPair (s : State) (mgmt : Bool) (p : Pair) : State :=
  { s with boot := if mgmt then { s.boot with mgmtPair := p } else { s.boot with cmdPair := p } }

/-! ## Commands that a pair held -/

/-- Nothing says whether a command that completes with INTERNAL took effect (Table 3-13): a free bit decides. -/
def drawBool (s : State) : Bool × State := let (f, s) := drawByte s; (f.getLsbD 0, s)
/-- The effect of a command that the pair held, where its checks pass. Log entry 26 (DESIGN CHOICE). -/
def heldEffect (s : State) (c : Instr) : State :=
  match dueOf c with
  | none => s
  | some d => match dueRej d s with
    | (s, none) => (dueEffect d s).1
    | (s, some _) => s
/-- A packet between its arrival and its effect instant completes with INTERNAL. -/
def dropFlight (s : State) (f : Flight) : State :=
  let (happened, s) := drawBool s
  let s := match readPacket f.port none f.bytes with
    | .ok c => if happened then heldEffect s c else s
    | .error _ => s
  formPlacard s (packetReq f.port none f.bytes) (pByte f.bytes 1) .internal []
/-- A long-running command completes with INTERNAL. Log entry 26 (DESIGN CHOICE). -/
def tellInternal (s : State) (r : Run) : State :=
  if r.told then s
  else if r.launched then formLaunchPlacard s r.req r.opcode .internal [] else formPlacard s r.req r.opcode .internal []
/-- A long-running command that the command pair held: an exchange has happened whole or not at all (R393); what another unit does
for any other command stops, or goes on with no one told. -/
def dropRun (s : State) (r : Run) : State :=
  let (happened, s) := drawBool s
  let s := match r.job with
    | .vitCommit n len => if happened then exchange s n len else s
    | .derive .. | .challenge .. => s
    | .measure _ => { s with runs := s.runs ++ [{ r with told := true, revoked := false }] }
    | _ => if happened then { s with runs := s.runs ++ [{ r with told := true, revoked := false }] } else s
  tellInternal s r
/-- Every command that the command pair held completes with INTERNAL (R12). The schedule table keeps its entries. -/
def dropCommands (s : State) : State :=
  let flights := s.ports.flights
  let s := flights.foldl dropFlight { s with ports := { s.ports with flights := [] } }
  let runs := s.runs
  settleKey (runs.foldl dropRun { s with runs := [] })
/-- The commands that the management pair runs: its Ledger and Vault services, the thermal manager and the Docent's self-tests (R11). -/
def mgmtRun (r : Run) : Bool :=
  match r.job with
  | .prs _ | .ldgWrite .. | .ldgMaint .. | .secretWrite _ | .derive .. | .challenge _ | .measure _ | .selftest .. => true
  | _ => false
/-- Every command that the management pair held completes with INTERNAL (R12); a derivation or challenge ends with it, and the working key is
kept (Table 24-2). -/
def dropMgmtRuns (s : State) : State :=
  let gone := s.runs.filter mgmtRun
  settleKey (gone.foldl dropRun { s with runs := s.runs.filter fun r => !mgmtRun r })

/-! ## The two rows -/

/-- A mismatch comes within 1 s of the pair's last one (R12). -/
def secondMismatch (s : State) (p : Pair) : Bool :=
  match p.last with
  | some t => decide (s.clk - t < 1000000000)
  | none => false
/-- LOCKSTEP_MISMATCH: the pair restarts, or is held after a second mismatch; with both pairs held the watchdog resets the Ontor. Log entry 27 (DESIGN CHOICE). -/
def execLockstepMismatch (mgmt : Bool) (s : State) : Host.Outcome State Fault Refusal :=
  let p := pairOf s mgmt
  if !(decide (s.boot.phase = .curator) || decide (s.boot.phase = .done)) || p.held || p.restarting then .next s
  else
    let second := secondMismatch s p
    let s := setPair s mgmt { restarting := !second, held := second, last := some s.clk }
    let s := if second then raise s 2 (det (b2n mgmt) 0 0 0) else s
    let s := if mgmt then dropMgmtRuns s else dropCommands s
    .next (if s.boot.cmdPair.held ∧ s.boot.mgmtPair.held then warmReset s 4 else settle s)
/-- The entries that came due while the command pair restarted launch late with cause 2 (R164); one that TB_SET passed over keeps its own. -/
def delayDue (s : State) : State :=
  (dueEntries s).foldl (fun s e => if e.2.late = 0 then setEntry s e.1 (some { e.2 with late := 2 }) else s) s
/-- PAIR_BACK_IN_SERVICE (event 1). -/
def execPairBackInService (mgmt : Bool) (s : State) : Host.Outcome State Fault Refusal :=
  let p := pairOf s mgmt
  if !p.restarting then .next s
  else
    let us := sat 16 ((s.clk - p.last.getD s.clk) / 1000)
    let s := setPair s mgmt { p with restarting := false }
    let s := raise s 1 (det (b2n mgmt) 0 (us % 256) (us / 256))
    -- The bound of the shutdown step in progress is extended by the restart of the management pair (Table 22-3).
    let s := if mgmt ∧ s.thermal.shut = 1 then setThermal s fun t => { t with shutMore := t.shutMore + (s.clk - p.last.getD s.clk) } else s
    .next (if mgmt then pump s else delayDue s)

end Sys2Proof.Machine
end

