-- ==== Sys2Proof/Machine/LinkData.lean ====
section
/-! DEFINITION. Data packets of a sink-end Prenlink port (R270 to R275, R285, R287, R451), CP2 commands (R280), and the loss of
lock of a synthesizer (R222, Table 8-3). -/

namespace Sys2Proof.Machine
open Sys2Proof

/-! ## Packets (R272) -/

/-- A port takes forward data packets: it is the sink end, carries traffic, and its lanes yield packets. Log entry 46 (DEDUCED). -/
def takesData (p : Plk) : Bool := decide (p.role = 1) && (decide (p.st = 8) || decide (p.st = 12)) && hears p
/-- A port's receiver runs, so that it counts what it discards. Log entry 46 (DEDUCED). -/
def receives (p : Plk) : Bool := takesCtl p
/-- A packet whose header passes, with its stream, sequence and Length. -/
def openHeader (b : List Byte) (ty maxLen : Nat) (streams : Bool) : Option (Nat × Nat × Nat) :=
  let len := leAt b 2 2
  let st := byteAt b 1
  if crc8 (b.take 7) = b.getD 7 0#8 ∧ byteAt b 0 = ty ∧ len ≤ maxLen ∧ (if streams then st ≤ 3 else st = 0) then
    some (st, leAt b 4 2, len)
  else none
/-- A packet is discarded and counted (R272). -/
def packetFailed (s : State) (n : Nat) : State := if receives (plk s n) then plkCount s n 1 0 0 0 0 else s

/-! ## Frames of a stream -/

/-- Packets lost before this one show in the sequence (R287); answers the state with the sequence taken. -/
def streamSeq (s : State) (k seq : Nat) : State :=
  let c := capAt s k
  let lost := match c.seqNext with
    | some e => (seq + 65536 - e) % 65536
    | none => 0
  let s := setCap s k { c with seqNext := some ((seq + 1) % 65536) }
  if lost ≠ 0 ∧ c.inFrame then countConcealed s k lost else s
/-- A loss notice for a packet whose header passed (R287). -/
def lossNotice (s : State) (k seq : Nat) : State :=
  let s := streamSeq s k seq
  if (capAt s k).inFrame then countConcealed s k 1 else s
/-- The first packet of a new frame number is the frame pulse (R175, R287, R451). `w` is what it says of the width. -/
def streamPulse (s : State) (k num fmt w : Nat) : State :=
  if (capAt s k).curNum = some num then s
  else capPulse s k fmt w (some num)
/-- The first packet of a new frame on a stream of a port is the frame pulse of its candidates, whatever the Wings' pipes do (R175). -/
def streamCand (s : State) (p st : Nat) (num : Nat) : State :=
  let x := plk s p
  if tget none x.frameNums st = some num then s
  else sourceRefPulse (setPlk s p { x with frameNums := tput none x.frameNums st (some num) }) (1, p, st)

/-- A VIDEO_LINE that passed its checks, for one pipe. -/
def lineForPipe (s : State) (src : Nat × Nat × Nat) (k : Nat) (seq : Nat) (b : List Byte) (drift : Int) : State :=
  let num := leAt b 0 2
  let y := leAt b 2 2
  let x := leAt b 4 2
  let n := leAt b 6 2
  let fmt := byteAt b 8
  let flags := byteAt b 9
  let last := decide (flags / 4 % 2 = 1)
  let s := streamPulse (streamSeq s k seq) k num fmt 0
  if capSource s k ≠ src then s
  else
  let s := setCap s k { capAt s k with carries := 1, curNum := some num }
  let s := capKnow s k fmt (if last then x + n else 0)
  let s := capPixels s k y x n (.bytes fmt (b.drop 12))
  if last ∧ flags / 2 % 2 = 1 then capFrameEnd s k drift else s
/-- VIDEO_LINE (R271, R272, R285, R287). -/
def execVideoLine (port : Fin 24) (packet : List Byte) (drift : Int) (s : State) : Host.Outcome State Fault Refusal :=
  let n := port.val
  if !takesData (plk s n) then .next (packetFailed s n)
  else match openHeader packet 0x11 8192 true with
    | none => .next (packetFailed s n)
    | some (st, seq, len) =>
      let ks := pipesOf s (1, n, st)
      match openPacket packet 0x11 8192 true with
      | none => .next (packetFailed (ks.foldl (fun s k => lossNotice s k seq) s) n)
      | some (_, b) =>
        if len < 12 ∨ pixelBytes (byteAt b 8) (leAt b 6 2) ≠ some (len - 12) then
          .next (packetFailed (ks.foldl (fun s k => lossNotice s k seq) s) n)
        else
          let s := streamCand (validPacket s n) n st (leAt b 0 2)
          let s := ks.foldl (fun s k => lineForPipe s (1, n, st) k seq b drift) s
          .next (settleDrains (if byteAt b 9 / 4 % 2 = 1 then ks.foldl (fun s k => forcedLine s n k) s else s))

/-! ## Tiles (R451, R456) -/

/-- The planes of a format: bits and values in a row (Table 18-4). -/
def tilePlanes (fmt : Nat) : List (Nat × Nat) :=
  match fmt with
  | 0x01 => [(8, 16), (8, 16), (8, 16)]
  | 0x02 => [(10, 16), (10, 16), (10, 16)]
  | 0x03 => [(8, 16), (8, 16), (8, 16), (8, 16)]
  | 0x04 => [(8, 16), (8, 8), (8, 8)]
  | 0x05 => [(10, 16), (10, 8), (10, 8)]
  | 0x06 => [(8, 16)] | 0x07 => [(10, 16)] | 0x08 => [(12, 16)] | 0x09 => [(16, 16)]
  | 0x0A => [(16, 16), (16, 16)]
  | 0x20 | 0x24 => [(10, 16), (10, 16), (10, 16)]
  | 0x21 | 0x25 => [(12, 16), (12, 16), (12, 16)]
  | _ => []
/-- The end of `rows` coded rows of a plane from a bit position, none where a width exceeds the plane's bits (R449). -/
def planeEnd (d : List Byte) (plane : Nat × Nat) : Nat → Nat → Option Nat
  | 0, pos => some pos
  | rows + 1, pos =>
    let w := bitsAt d pos 5
    if w > plane.1 then none else planeEnd d plane rows (pos + 5 + w * plane.2)
/-- A compressed payload is well coded and ends within its units (R456, step 6). -/
def codedOk (fmt : Nat) (d : List Byte) : Bool :=
  match (tilePlanes fmt).foldl (fun p plane => p.bind (planeEnd d plane 16)) (some 0) with
  | some e => decide (e ≤ 8 * d.length)
  | none => false
/-- A tile record: its 8-byte header and payload pass the checks of R456 for a format. -/
def tileOk (r : List Byte) (fmt : Nat) : Bool :=
  let kind := byteAt r 4 / 32
  let units := byteAt r 4 % 32
  let slot := slotBytes fmt / 64
  let pay := slice r 8 (64 * units)
  decide (8 ≤ r.length) && decide (crc8 (r.take 7) = r.getD 7 0#8)
    && (decide (kind = 1) || decide (kind = 2) || decide (kind = 3)) && decide (byteAt r 5 = fmt)
    && (match kind with
        | 1 => decide (units = slot)
        | 2 => decide (1 ≤ units) && decide (units ≤ slot)
        | _ => decide (units = 1))
    && decide (r.length = 8 + 64 * units) && decide (crc32c pay = BitVec.ofNat 32 (leAt r 0 4))
    && (decide (kind ≠ 2) || codedOk fmt pay)
/-- CAP_FORMAT of a record's format code (R451). -/
def tileFormat (r : List Byte) : Nat := let f := byteAt r 5; if 1 ≤ f ∧ f ≤ 0x0A then f else 0xFF
/-- A TILE that passed its packet checks, for one pipe. -/
def tileForPipe (s : State) (src : Nat × Nat × Nat) (k : Nat) (seq : Nat) (b : List Byte) (drift : Int) : State :=
  let num := leAt b 0 2
  let col := leAt b 2 2
  let row := leAt b 4 2
  let r := b.drop 8
  let c := capAt s k
  if c.carries = 1 then s
  else
    let size := if c.st = 2 ∨ c.st = 3 ∨ c.st = 4 then c.w else 0
    let s := streamPulse (streamSeq s k seq) k num (tileFormat r) size
    if capSource s k ≠ src then s
    else
    let s := setCap s k { capAt s k with carries := 2, curNum := some num }
    let c := capAt s k
    let good := tileOk r (byteAt r 5) && (decide (c.st = 1) || decide (c.st = 5) || decide (tileFormat r = c.fmt))
    let s := if good then capTile (if c.curFmt = 0 then capKnow s k (tileFormat r) size else s) k col row r
      else if c.inFrame then countConcealed s k 1 else s
    let c := capAt s k
    if (c.st = 2 ∨ c.st = 4) ∧ (col, row) = c.tileDet then capFrameEnd s k drift else s
/-- TILE (R271, R272, R451). Log entry 80 (DEDUCED). -/
def execTile (port : Fin 24) (packet : List Byte) (drift : Int) (s : State) : Host.Outcome State Fault Refusal :=
  let n := port.val
  if !takesData (plk s n) then .next (packetFailed s n)
  else match openHeader packet 0x12 2048 true with
    | none => .next (packetFailed s n)
    | some (st, seq, _) =>
      let ks := (pipesOf s (1, n, st)).filter fun k => decide ((capAt s k).carries ≠ 1)
      match openPacket packet 0x12 2048 true with
      | none => .next (packetFailed (ks.foldl (fun s k => lossNotice s k seq) s) n)
      | some (_, b) =>
        let s := streamCand (validPacket s n) n st (leAt b 0 2)
        let s := ks.foldl (fun s k => tileForPipe s (1, n, st) k seq b drift) s
        .next (settleDrains (ks.foldl (fun s k => forcedLine s n k) s))

/-! ## Audio, fences, CP2 -/

/-- AUDIO (Table 10-4, R477). A packet whose fields lie outside Table 10-4 is discarded. Log entry 47 (DEDUCED). -/
def execAudio (port : Fin 24) (packet : List Byte) (s : State) : Host.Outcome State Fault Refusal :=
  let n := port.val
  if !takesData (plk s n) then .next (packetFailed s n)
  else match openPacket packet 0x13 4108 false with
    | none => .next (packetFailed s n)
    | some (_, b) =>
      let ch := byteAt b 8
      let rate := byteAt b 9
      let fr := leAt b 10 2
      if 1 ≤ ch ∧ ch ≤ 32 ∧ rate ≤ 2 ∧ 1 ≤ fr ∧ fr ≤ 32 ∧ b.length = 12 + 4 * ch * fr then
        .next (audioArrives (validPacket s n) n ch (sampleRate rate) (some (leAt packet 4 2)) fr (BitVec.ofNat 64 (leAt b 0 8))
          (wordsOf (slice b (12 + 4 * ch * (fr - 1)) (4 * ch))))
      else .next s
/-- FENCE: delivered in sequence with control messages, it signals its fence (R275, R277). -/
def execFence (port : Fin 24) (packet : List Byte) (s : State) : Host.Outcome State Fault Refusal :=
  let n := port.val
  if (plk s n).role ≠ 1 then .next (packetFailed s n)
  else match openPacket packet 0x14 8 false with
    | none => .next (packetFailed s n)
    | some (_, b) =>
      let (ok, s) := receiveCtl s n { seq := b.getD 1 0#8, ack := b.getD 2 0#8 }
      let f := leAt b 4 2
      if ok && decide (f < 1024) then .next (signalFence s f 1 n) else .next s
/-- CP2_COMMAND (R280). -/
def execCp2Command (port : Fin 24) (m : Ctl) (s : State) : Host.Outcome State Fault Refusal :=
  let (ok, s) := receiveCtl s port.val m
  if !ok then .next s
  else if cp2Port s = some port.val ∧ (plk s port.val).role = 0 then .next (cp2Bytes s m)
  else .next (intakeError s .cp2)

/-! ## Loss of lock (R222, R223, R153) -/

/-- 4 comparisons beyond ±500 ps: the output is gated and a relock begins. SYN11 is not gated (R153). Log entry 48 (DEDUCED). -/
def synLost (s : State) (n : Nat) : State :=
  let x := syn s n
  let how := if x.ramping then 1 else if x.pendHop.isSome then 2 else 0
  let lost := { x with locked := false, task := .relock, holding := false, since := s.clk, searchAt := s.clk, fails := 0, ramping := false }
  if !x.locked then s
  else if n = 11 then raise (raise (setSyn s n lost) 188 (det n how 0 0)) 201 0#32
  else
    let s := setSyn s n { lost with gated := true, gatedAt := if x.gated then x.gatedAt else s.clk }
    let s := raise s 188 (det n how 0 0)
    let s := if x.ramping then raise s 193 (det2 n 1 x.segIdx) else s
    let s := queuesLost (haltOutputs s n) (fedOuts s n)
    let s := if n = 10 then syn10Gated s else s
    settleTdms s
/-- SYN_LOSS_OF_LOCK. Log entry 48 (DEDUCED). -/
def execSynLossOfLock (n : Fin 12) (s : State) : Host.Outcome State Fault Refusal := .next (synLost s n.val)
/-- SYN_UNGATE: lock has held for 100 µs after a relock, and the halted outputs start again. -/
def execSynUngate (n : Fin 12) (s : State) : Host.Outcome State Fault Refusal :=
  let k := n.val
  let x := syn s k
  if x.holding && x.locked && decide (x.lockedAt + 100000 ≤ s.clk) then
    let s := setSyn s k { x with gated := false, holding := false, task := .idle }
    let s := raise s 189 (det2 k 0 (sat 16 ((s.clk - x.gatedAt) / 1000)))
    .next (settle (restartHalted s k))
  else .next s

end Sys2Proof.Machine
end

