-- ==== Sys2Proof/Machine/Dispatch.lean ====
section
/-! DEFINITION. One arm per command: each calls the command's own meaning. -/

namespace Sys2Proof.Machine
open Sys2Proof

def exec (i : Instr) (s : State) : Host.Outcome State Fault Refusal :=
  match i with
  | .writePacket port bytes => Sys2Proof.Machine.execWritePacket port bytes s
  | .readPlacard port n => Sys2Proof.Machine.execReadPlacard port n s
  | .readPortStatus port n => Sys2Proof.Machine.execReadPortStatus port n s
  | .unknownTransaction port code => Sys2Proof.Machine.execUnknownTransaction port code s
  | .cp3SclTimeout got => Sys2Proof.Machine.execCp3SclTimeout got s
  | .cp2PacketTimeout => Sys2Proof.Machine.execCp2PacketTimeout s
  | .cp2LinkRetry => Sys2Proof.Machine.execCp2LinkRetry s
  | .buildTimeout => Sys2Proof.Machine.execBuildTimeout s
  | .nop q => Sys2Proof.Machine.execNop q s
  | .identify q => Sys2Proof.Machine.execIdentify q s
  | .claim q cls first count bank force => Sys2Proof.Machine.execClaim q cls first count bank force s
  | .release q cls first count bank force => Sys2Proof.Machine.execRelease q cls first count bank force s
  | .owners q cls first count bank => Sys2Proof.Machine.execOwners q cls first count bank s
  | .sysReset q scope confirm => Sys2Proof.Machine.execSysReset q scope confirm s
  | .warmReset => Sys2Proof.Machine.execWarmReset s
  | .read q addr bank => Sys2Proof.Machine.execRead q addr bank s
  | .write q addr bank value => Sys2Proof.Machine.execWrite q addr bank value s
  | .writeMasked q addr bank mask value => Sys2Proof.Machine.execWriteMasked q addr bank mask value s
  | .blockRead q addr bank count => Sys2Proof.Machine.execBlockRead q addr bank count s
  | .blockWrite q addr bank values => Sys2Proof.Machine.execBlockWrite q addr bank values s
  | .registerWrite q addr bank value => Sys2Proof.Machine.execRegisterWrite q addr bank value s
  | .prsWrite q word value => Sys2Proof.Machine.execPrsWrite q word value s
  | .synEnWrite q syn en => Sys2Proof.Machine.execSynEnWrite q syn en s
  | .synFreqWrite q syn value => Sys2Proof.Machine.execSynFreqWrite q syn value s
  | .synDitherSeedWrite q syn seed => Sys2Proof.Machine.execSynDitherSeedWrite q syn seed s
  | .synSpreadWrite q syn mode depth => Sys2Proof.Machine.execSynSpreadWrite q syn mode depth s
  | .refConfigWrite q cand value => Sys2Proof.Machine.execRefConfigWrite q cand value s
  | .refRankWordWrite q hi value => Sys2Proof.Machine.execRefRankWordWrite q hi value s
  | .clrTblWinWrite q unit word value => Sys2Proof.Machine.execClrTblWinWrite q unit word value s
  | .w1cClear q addr bank ones => Sys2Proof.Machine.execW1cClear q addr bank ones s
  | .capModeWrite q pipe value => Sys2Proof.Machine.execCapModeWrite q pipe value s
  | .evtCfgWrite q source value => Sys2Proof.Machine.execEvtCfgWrite q source value s
  | .audTdmCfgWrite q port value => Sys2Proof.Machine.execAudTdmCfgWrite q port value s
  | .audSrcInWrite q conv value => Sys2Proof.Machine.execAudSrcInWrite q conv value s
  | .modeChange q target trigger output => Sys2Proof.Machine.execModeChange q target trigger output s
  | .modeCancel q => Sys2Proof.Machine.execModeCancel q s
  | .modeWakeWaitEnd => Sys2Proof.Machine.execModeWakeWaitEnd s
  | .wingReady w => Sys2Proof.Machine.execWingReady w s
  | .wakeTimeout w => Sys2Proof.Machine.execWakeTimeout w s
  | .imageOpen q kind mode total => Sys2Proof.Machine.execImageOpen q kind mode total s
  | .imageData q offset data => Sys2Proof.Machine.execImageData q offset data s
  | .imageClose q action => Sys2Proof.Machine.execImageClose q action s
  | .imageCloseComplete => Sys2Proof.Machine.execImageCloseComplete s
  | .imageStatus q => Sys2Proof.Machine.execImageStatus q s
  | .routeSwitch q route kind pipe => Sys2Proof.Machine.execRouteSwitch q route kind pipe s
  | .flip q layer fence surf => Sys2Proof.Machine.execFlip q layer fence surf s
  | .groupFlip q fence entries => Sys2Proof.Machine.execGroupFlip q fence entries s
  | .fenceSignal q fence => Sys2Proof.Machine.execFenceSignal q fence s
  | .outputStart q output wing => Sys2Proof.Machine.execOutputStart q output wing s
  | .outputStartInstant out => Sys2Proof.Machine.execOutputStartInstant out s
  | .outputStop q output force => Sys2Proof.Machine.execOutputStop q output force s
  | .outputAssign q output wing => Sys2Proof.Machine.execOutputAssign q output wing s
  | .captureStart q pipe => Sys2Proof.Machine.execCaptureStart q pipe s
  | .captureStop q pipe force => Sys2Proof.Machine.execCaptureStop q pipe force s
  | .tbRead q => Sys2Proof.Machine.execTbRead q s
  | .tbSet q ns frac => Sys2Proof.Machine.execTbSet q ns frac s
  | .schedCancel q entry tag => Sys2Proof.Machine.execSchedCancel q entry tag s
  | .schedList q first count => Sys2Proof.Machine.execSchedList q first count s
  | .trigger q port camera word => Sys2Proof.Machine.execTrigger q port camera word s
  | .launch => Sys2Proof.Machine.execLaunch s
  | .triggerDeparture port offset => Sys2Proof.Machine.execTriggerDeparture port offset s
  | .refSelect q cand => Sys2Proof.Machine.execRefSelect q cand s
  | .refRank q cands => Sys2Proof.Machine.execRefRank q cands s
  | .fsyncRealign q mask => Sys2Proof.Machine.execFsyncRealign q mask s
  | .synHop q syn mem word => Sys2Proof.Machine.execSynHop q syn mem word s
  | .synBandStore q syn mem => Sys2Proof.Machine.execSynBandStore q syn mem s
  | .synBandStoreComplete syn => Sys2Proof.Machine.execSynBandStoreComplete syn s
  | .synRampLoad q syn segs => Sys2Proof.Machine.execSynRampLoad q syn segs s
  | .synRampStart q syn => Sys2Proof.Machine.execSynRampStart q syn s
  | .rampStep syn => Sys2Proof.Machine.execRampStep syn s
  | .synLockAcquired syn band post => Sys2Proof.Machine.execSynLockAcquired syn band post s
  | .synUngate syn => Sys2Proof.Machine.execSynUngate syn s
  | .synSearchTimeout syn => Sys2Proof.Machine.execSynSearchTimeout syn s
  | .synLossOfLock syn => Sys2Proof.Machine.execSynLossOfLock syn s
  | .coreClockLoss gen => Sys2Proof.Machine.execCoreClockLoss gen s
  | .linkUp q port role step code => Sys2Proof.Machine.execLinkUp q port role step code s
  | .linkDown q port force => Sys2Proof.Machine.execLinkDown q port force s
  | .linkPower q port dir state => Sys2Proof.Machine.execLinkPower q port dir state s
  | .linkStatus q port => Sys2Proof.Machine.execLinkStatus q port s
  | .eyeScan q port lane dwell => Sys2Proof.Machine.execEyeScan q port lane dwell s
  | .eyeScanComplete port counts => Sys2Proof.Machine.execEyeScanComplete port counts s
  | .linkLoop q port loop pair => Sys2Proof.Machine.execLinkLoop q port loop pair s
  | .plkDetectClock port => Sys2Proof.Machine.execPlkDetectClock port s
  | .plkLaneLock port lane => Sys2Proof.Machine.execPlkLaneLock port lane s
  | .plkLaneLockLost port lane invalid => Sys2Proof.Machine.execPlkLaneLockLost port lane invalid s
  | .plkAlignTimeout port => Sys2Proof.Machine.execPlkAlignTimeout port s
  | .capability port packet => Sys2Proof.Machine.execCapability port packet s
  | .capabilityResend port => Sys2Proof.Machine.execCapabilityResend port s
  | .capabilityTimeout port => Sys2Proof.Machine.execCapabilityTimeout port s
  | .plkStepTimeout port => Sys2Proof.Machine.execPlkStepTimeout port s
  | .plkTrainTimeout port => Sys2Proof.Machine.execPlkTrainTimeout port s
  | .plkVerifyEnd port symbols => Sys2Proof.Machine.execPlkVerifyEnd port symbols s
  | .plkFallbackTimeout port => Sys2Proof.Machine.execPlkFallbackTimeout port s
  | .plkRecoverTimeout port => Sys2Proof.Machine.execPlkRecoverTimeout port s
  | .plkClockLost port => Sys2Proof.Machine.execPlkClockLost port s
  | .heartbeatTimeout port => Sys2Proof.Machine.execHeartbeatTimeout port s
  | .backoffEnd port => Sys2Proof.Machine.execBackoffEnd port s
  | .plkDrainTimeout port => Sys2Proof.Machine.execPlkDrainTimeout port s
  | .heartbeatSend port => Sys2Proof.Machine.execHeartbeatSend port s
  | .heartbeat port packet => Sys2Proof.Machine.execHeartbeat port packet s
  | .videoLine port packet drift => Sys2Proof.Machine.execVideoLine port packet drift s
  | .tile port packet drift => Sys2Proof.Machine.execTile port packet drift s
  | .audio port packet => Sys2Proof.Machine.execAudio port packet s
  | .fence port packet => Sys2Proof.Machine.execFence port packet s
  | .marker port lane count corrected uncorrectable => Sys2Proof.Machine.execMarker port lane count corrected uncorrectable s
  | .cp2Command port m => Sys2Proof.Machine.execCp2Command port m s
  | .cp2Placard port => Sys2Proof.Machine.execCp2Placard port s
  | .ack port upTo => Sys2Proof.Machine.execAck port upTo s
  | .ackTimer port => Sys2Proof.Machine.execAckTimer port s
  | .retransmitTimeout port => Sys2Proof.Machine.execRetransmitTimeout port s
  | .urgent port m => Sys2Proof.Machine.execUrgent port m s
  | .power port m => Sys2Proof.Machine.execPower port m s
  | .training port m => Sys2Proof.Machine.execTraining port m s
  | .endOfLink port m => Sys2Proof.Machine.execEndOfLink port m s
  | .capabilityAck port m => Sys2Proof.Machine.execCapabilityAck port m s
  | .failure port m => Sys2Proof.Machine.execFailure port m s
  | .beacon port dir => Sys2Proof.Machine.execBeacon port dir s
  | .powerRequestTimeout port => Sys2Proof.Machine.execPowerRequestTimeout port s
  | .wakeTimeoutPlk port => Sys2Proof.Machine.execWakeTimeoutPlk port s
  | .trafficIdleReturn port dir => Sys2Proof.Machine.execTrafficIdleReturn port dir s
  | .plkErrorWindowEnd port invalid => Sys2Proof.Machine.execPlkErrorWindowEnd port invalid s
  | .auxRequest port kind addr off len data => Sys2Proof.Machine.execAuxRequest port kind addr off len data s
  | .dpLinkTraining port rate lanes => Sys2Proof.Machine.execDpLinkTraining port rate lanes s
  | .dpLinkLoss port => Sys2Proof.Machine.execDpLinkLoss port s
  | .sidebandMessage port m => Sys2Proof.Machine.execSidebandMessage port m s
  | .msa port sub m => Sys2Proof.Machine.execMsa port sub m s
  | .audioSdp port sub channels rate frames lpcm last => Sys2Proof.Machine.execAudioSdp port sub channels rate frames lpcm last s
  | .fenceSdp port hb1 data => Sys2Proof.Machine.execFenceSdp port hb1 data s
  | .edpHpdSettled port supports => Sys2Proof.Machine.execEdpHpdSettled port supports s
  | .edpTrainingDone port good => Sys2Proof.Machine.execEdpTrainingDone port good s
  | .edpIrqHpd port lost => Sys2Proof.Machine.execEdpIrqHpd port lost s
  | .edpPanelLoss port => Sys2Proof.Machine.execEdpPanelLoss port s
  | .csiFrameStart port vc hdr => Sys2Proof.Machine.execCsiFrameStart port vc hdr s
  | .csiFrameEnd port vc hdr drift => Sys2Proof.Machine.execCsiFrameEnd port vc hdr drift s
  | .csiLongPacket port vc hdr vcx dtype count good => Sys2Proof.Machine.execCsiLongPacket port vc hdr vcx dtype count good s
  | .csiUlpsEntry port => Sys2Proof.Machine.execCsiUlpsEntry port s
  | .sourceLossTimeout pipe => Sys2Proof.Machine.execSourceLossTimeout pipe s
  | .fillComplete pipe => Sys2Proof.Machine.execFillComplete pipe s
  | .commitTick o obs => Sys2Proof.Machine.execCommitTick o obs s
  | .switchWaitBound bank route o => Sys2Proof.Machine.execSwitchWaitBound bank route o s
  | .lockPoint o phase => Sys2Proof.Machine.execLockPoint o phase s
  | .jobComplete w o row col fails lost agree rerun => Sys2Proof.Machine.execJobComplete w o row col fails lost agree rerun s
  | .jobDeadlineMiss w o row col late => Sys2Proof.Machine.execJobDeadlineMiss w o row col late s
  | .tileRowRead w o row tiles => Sys2Proof.Machine.execTileRowRead w o row tiles s
  | .recomposedTileRead w o row col crc => Sys2Proof.Machine.execRecomposedTileRead w o row col crc s
  | .audXbar q ramp entries => Sys2Proof.Machine.execAudXbar q ramp entries s
  | .xbarChangeBoundary => Sys2Proof.Machine.execXbarChangeBoundary s
  | .tdmPortStart port => Sys2Proof.Machine.execTdmPortStart port s
  | .tdmPortStop port => Sys2Proof.Machine.execTdmPortStop port s
  | .converterLock conv => Sys2Proof.Machine.execConverterLock conv s
  | .converterRatioMeasure conv ratio => Sys2Proof.Machine.execConverterRatioMeasure conv ratio s
  | .meshData q mesh first entries => Sys2Proof.Machine.execMeshData q mesh first entries s
  | .meshCommit q meshes => Sys2Proof.Machine.execMeshCommit q meshes s
  | .meshFromCapture q mesh pipe first count every commit => Sys2Proof.Machine.execMeshFromCapture q mesh pipe first count every commit s
  | .bulkTransferComplete => Sys2Proof.Machine.execBulkTransferComplete s
  | .transactionTimeout slice master target => Sys2Proof.Machine.execTransactionTimeout slice master target s
  | .vitData q slot offset data => Sys2Proof.Machine.execVitData q slot offset data s
  | .vitCommit q slot len crc => Sys2Proof.Machine.execVitCommit q slot len crc s
  | .vitCommitComplete slot => Sys2Proof.Machine.execVitCommitComplete slot s
  | .ldgRead q page offset count => Sys2Proof.Machine.execLdgRead q page offset count s
  | .ldgWrite q page offset data => Sys2Proof.Machine.execLdgWrite q page offset data s
  | .ldgMaint q action region page => Sys2Proof.Machine.execLdgMaint q action region page s
  | .ldgMaintComplete => Sys2Proof.Machine.execLdgMaintComplete s
  | .ldgWear q first count => Sys2Proof.Machine.execLdgWear q first count s
  | .ldgProgramComplete failed => Sys2Proof.Machine.execLdgProgramComplete failed s
  | .vltSecretWrite q slot secret => Sys2Proof.Machine.execVltSecretWrite q slot secret s
  | .vltDerive q slot ctx => Sys2Proof.Machine.execVltDerive q slot ctx s
  | .vltDeriveComplete => Sys2Proof.Machine.execVltDeriveComplete s
  | .vltChallenge q nonce => Sys2Proof.Machine.execVltChallenge q nonce s
  | .vltChallengeComplete => Sys2Proof.Machine.execVltChallengeComplete s
  | .vltInvalidate q slot => Sys2Proof.Machine.execVltInvalidate q slot s
  | .vltStatus q => Sys2Proof.Machine.execVltStatus q s
  | .tamper => Sys2Proof.Machine.execTamper s
  | .thmMeasure q mask => Sys2Proof.Machine.execThmMeasure q mask s
  | .thermalWatch => Sys2Proof.Machine.execThermalWatch s
  | .measurementComplete readings => Sys2Proof.Machine.execMeasurementComplete readings s
  | .shutdownStep2 bound => Sys2Proof.Machine.execShutdownStep2 bound s
  | .shutdownStep4 => Sys2Proof.Machine.execShutdownStep4 s
  | .thermalTrip => Sys2Proof.Machine.execThermalTrip s
  | .selftest q cls target unit => Sys2Proof.Machine.execSelftest q cls target unit s
  | .selftestComplete target failed => Sys2Proof.Machine.execSelftestComplete target failed s
  | .selftestAbort q target => Sys2Proof.Machine.execSelftestAbort q target s
  | .faultLogRead q first count => Sys2Proof.Machine.execFaultLogRead q first count s
  | .healthReport q wing => Sys2Proof.Machine.execHealthReport q wing s
  | .failoverForce q => Sys2Proof.Machine.execFailoverForce q s
  | .evtRead q count => Sys2Proof.Machine.execEvtRead q count s
  | .evtAck q mask => Sys2Proof.Machine.execEvtAck q mask s
  | .wingFault w cause => Sys2Proof.Machine.execWingFault w cause s
  | .wingSupplyFault w => Sys2Proof.Machine.execWingSupplyFault w s
  | .giveUp w both => Sys2Proof.Machine.execGiveUp w both s
  | .takeover checks => Sys2Proof.Machine.execTakeover checks s
  | .tileCompare o tile a b => Sys2Proof.Machine.execTileCompare o tile a b s
  | .arbitrationResult o tile w confirmed => Sys2Proof.Machine.execArbitrationResult o tile w confirmed s
  | .readmissionMonitorClear w => Sys2Proof.Machine.execReadmissionMonitorClear w s
  | .readmissionMonitorTimeout w => Sys2Proof.Machine.execReadmissionMonitorTimeout w s
  | .readmissionTestDone w failed => Sys2Proof.Machine.execReadmissionTestDone w failed s
  | .lockstepMismatch mgmt => Sys2Proof.Machine.execLockstepMismatch mgmt s
  | .pairBackInService mgmt => Sys2Proof.Machine.execPairBackInService mgmt s
  | .curatorWatchdog => Sys2Proof.Machine.execCuratorWatchdog s
  | .refPulse c interval => Sys2Proof.Machine.execRefPulse c interval s
  | .refFreqMeasurement c edges => Sys2Proof.Machine.execRefFreqMeasurement c edges s
  | .refActivityLost c => Sys2Proof.Machine.execRefActivityLost c s
  | .refQualified c => Sys2Proof.Machine.execRefQualified c s
  | .dpllComparison phase => Sys2Proof.Machine.execDpllComparison phase s
  | .holdoverIntervalRecord avg => Sys2Proof.Machine.execHoldoverIntervalRecord avg s
  | .acquireAlarm => Sys2Proof.Machine.execAcquireAlarm s
  | .fsyncPulse n high => Sys2Proof.Machine.execFsyncPulse n high s
  | .tbPpsPulse high => Sys2Proof.Machine.execTbPpsPulse high s
  | .mr4RefreshPoll port code hot => Sys2Proof.Machine.execMr4RefreshPoll port code hot s
  | .memoryTrainingComplete port trained gib => Sys2Proof.Machine.execMemoryTrainingComplete port trained gib s
  | .porstNAssert => Sys2Proof.Machine.execPorstNAssert s
  | .powerLoss groups => Sys2Proof.Machine.execPowerLoss groups s
  | .atrSupplyFault => Sys2Proof.Machine.execAtrSupplyFault s
  | .bootStart strap railA railB => Sys2Proof.Machine.execBootStart strap railA railB s
  | .flashLoadComplete copy0 copy1 => Sys2Proof.Machine.execFlashLoadComplete copy0 copy1 s
  | .flashLoadRetry => Sys2Proof.Machine.execFlashLoadRetry s
  | .bootModeApply => Sys2Proof.Machine.execBootModeApply s
  | .sampleBoundary syn9 rate frames => Sys2Proof.Machine.execSampleBoundary syn9 rate frames s
  | .outputLineBoundary o line => Sys2Proof.Machine.execOutputLineBoundary o line s
  | .vbIdTransition port sub starts drift => Sys2Proof.Machine.execVbIdTransition port sub starts drift s
  | .coreClockRegained gen => Sys2Proof.Machine.execCoreClockRegained gen s
  | .synHopLockTimeout syn => Sys2Proof.Machine.execSynHopLockTimeout syn s
  | .equaliserTrainingDone port => Sys2Proof.Machine.execEqualiserTrainingDone port s

end Sys2Proof.Machine
end

