-- ==== Sys2Proof/Machine/Blocks.lean ====
section
/-! DEFINITION. The blocks of Prenlink ports in time (R261 to R273): what each lane drives at a block boundary, what a port takes from received
blocks, and the instants that the model's clock gives the ports' timers. -/

namespace Sys2Proof.Machine
open Sys2Proof

/-! ## Sending (R262 to R267, R273) -/

/-- One lane's next block: parity at the end of a code frame, a MARKER at its start, else an URGENT block, a data block, or IDLE. -/
def laneSend (rs : Bool) (lane : Nat) (l : LaneTx) (x : Sender) : LaneTx × Sender :=
  if rs && decide (160 ≤ x.pos) then
    ({ l with par := l.par.drop 1, last := some { hdr := ctlHdr, bits := l.par.headD [] } }, x)
  else
    let (hdr, bytes, x) : BitVec 2 × List Byte × Sender :=
      if rs && decide (x.pos = 0) then (ctlHdr, markerBytes lane x.frames, x)
      else match x.urgents with
        | u :: r => (ctlHdr, u, { x with urgents := r })
        | [] =>
          if x.out.cur = [] ∧ x.out.queue = [] then (ctlHdr, idleBytes, x)
          else let d := dataBytes x.out; (dataHdr, d.1, { x with out := d.2 })
    let y := scramble l.scr (bitsOf bytes)
    let cov := if rs then l.cov ++ [y.2] else []
    let full := rs && decide (x.pos = 159)
    ({ scr := y.1, cov := if full then [] else cov, par := if full then parityBlocks cov else [], last := some { hdr := hdr, bits := y.2 } }, x)
/-- The next place in the code frame. -/
def nextPlace (rs : Bool) (x : Sender) : Sender :=
  if !rs then { x with pos := 0 }
  else if x.pos + 1 < 165 then { x with pos := x.pos + 1 } else { x with pos := 0, frames := x.frames + 1 }
/-- A transmitter's next block pair on the forward lanes: block k of the sequence goes to lane k mod 2 (R265). -/
def sendPair (rs : Bool) (x : Sender) : Sender :=
  let a := laneSend rs 0 x.lane0 x
  let b := laneSend rs 1 x.lane1 a.2
  nextPlace rs { b.2 with lane0 := a.1, lane1 := b.1 }
/-- A transmitter's next block on the back lane, which never uses the code (R265, R266). -/
def sendBack (x : Sender) : Sender :=
  let a := laneSend false 0 x.lane0 x
  { a.2 with lane0 := a.1 }
/-- A port drives forward lanes of its own: as the source end, and in a near-end loop. -/
def sendsForward (p : Plk) : Bool := decide (p.role = 0) || nearLoop p
/-- A port drives its data lanes: from DETECT as the source end, from ALIGN as the sink end; in RUNNING while the direction is ACTIVE, and
until what waits has gone out before it idles (Table 9-4, R250). Log entry 127 (DEDUCED). -/
def drives (p : Plk) : Bool :=
  nearLoop p || (decide (1 + p.role ≤ p.st) && decide (p.st ≤ 12) && decide (p.st ≠ 10)
    && (decide (p.st ≠ 8) || decide (powerOf p (txDir p) = 0) || decide (p.send.out ≠ {}) || decide (p.send.urgents ≠ [])))
/-- A block of the driven lanes in ps: 258 bits at the forward lane rate, or at a sixteenth of it (Table 9-2). -/
def driveBlockPs (p : Plk) : Nat := 258 * uiPs p.step * (if sendsForward p then 1 else 16)
/-- A block boundary of the driven lanes falls on this tick; the lanes' phase is not stated. Log entry 127 (DESIGN CHOICE). -/
def blockDue (s : State) (p : Plk) : Bool := decide (s.clk * 1000 / driveBlockPs p ≠ (s.clk - 1) * 1000 / driveBlockPs p)
/-- A port in a near-end loop sends HEARTBEAT packets without a pause (R256). -/
def loopTraffic (s : State) (n : Nat) : State :=
  let p := plk s n
  if nearLoop p ∧ p.send.out = {} then sendHeartbeat s n else s
/-- The port's lanes drive their next blocks. -/
def driveBlocks (s : State) (n : Nat) : State :=
  let s := loopTraffic s n
  let p := plk s n
  setPlk s n { p with send := if sendsForward p then sendPair p.rs p.send else sendBack p.send }

/-! ## Receiving (R246, R247, R263, R264, R268, R269, R272) -/

/-- The state a meaning answers; its own state where it stops. -/
def stateOf (s : State) : Host.Outcome State Fault Refusal → State
  | .next t => t
  | _ => s
/-- A CONTROL packet: its message goes to its subtype's meaning; one of an unassigned subtype, or in the wrong direction, is acknowledged
and discarded (Tables 10-6 and 10-7). -/
def takeControlPacket (s : State) (port : Fin 24) (b : List Byte) : State :=
  match openPacket b 0x15 264 false with
  | none => plkCount s port.val 1 0 0 0 0
  | some (_, d) =>
    let f := d.getD 3 0#8
    let m : Ctl := { seq := d.getD 1 0#8, ack := d.getD 2 0#8, first := f.getLsbD 0, last := f.getLsbD 1, data := slice d 8 (leAt d 4 2) }
    match byteAt d 0 with
    | 0 => stateOf s (execAck port m.ack s)
    | 1 => stateOf s (execCp2Command port m s)
    | 4 => stateOf s (execPower port m s)
    | 5 => stateOf s (execTraining port m s)
    | 6 => stateOf s (execEndOfLink port m s)
    | 7 => stateOf s (execCapabilityAck port m s)
    | 8 => stateOf s (execFailure port m s)
    | _ => (receiveCtl s port.val m).2
/-- A packet off the byte stream goes to its type's meaning; a type not in Table 10-3, or not of the received direction, is counted (R272). -/
def takePacket (s : State) (port : Fin 24) (b : List Byte) : State :=
  match byteAt b 0 with
  | 0x11 => stateOf s (execVideoLine port b 0 s)
  | 0x12 => stateOf s (execTile port b 0 s)
  | 0x13 => stateOf s (execAudio port b s)
  | 0x14 => stateOf s (execFence port b s)
  | 0x15 => takeControlPacket s port b
  | 0x16 => stateOf s (execCapability port b s)
  | 0x17 => stateOf s (execHeartbeat port b s)
  | _ => plkCount s port.val 1 0 0 0 0
/-- A control block's 32 bytes, descrambled: one whose CRC fails or whose type is not assigned is counted (R264). -/
def takeControlBlock (s : State) (port : Fin 24) (b : List Byte) : State :=
  match openControl b with
  | none => plkCount s port.val 1 0 0 0 0
  | some (3, c) => stateOf s (execUrgent port { seq := c.getD 0 0#8, ack := c.getD 1 0#8, data := c.drop 3 } s)
  | some _ => s
/-- A block's payload, descrambled, in sequence order. A block with an invalid header is discarded whole, and its place in the byte stream
is lost (R261, R263). -/
def takePayload (s : State) (port : Fin 24) (x : BitVec 2 × List Byte) : State :=
  let n := port.val
  if x.1 = ctlHdr then takeControlBlock s port x.2
  else if x.1 = dataHdr then
    let r := takeData (plk s n).rxs x.2
    let s := setPlk s n { plk s n with rxs := r.2.2 }
    r.1.foldl (fun s b => takePacket s port b) (if r.2.1 = 0 then s else plkCount s n r.2.1 0 0 0 0)
  else setPlk s n { plk s n with rxs := {} }

/-- One of the port's receiving lanes. -/
def laneRx (p : Plk) (lane : Nat) : LaneRx := match lane with | 0 => p.rx0 | 1 => p.rx1 | _ => p.rxb
/-- Sets one of them. -/
def setLaneRx (p : Plk) (lane : Nat) (r : LaneRx) : Plk :=
  match lane with | 0 => { p with rx0 := r } | 1 => { p with rx1 := r } | _ => { p with rxb := r }
/-- A header arrives on a lane: it is judged, counted where it is invalid on a locked lane, and may lock or unlock the lane; in STANDBY the lane
keeps its state and counts nothing (R246, R247). -/
def headerArrives (s : State) (n lane : Nat) (h : BitVec 2) : State :=
  let p := plk s n
  if p.st = 8 ∧ powerOf p (rxDir p) ≠ 0 then s
  else
    let was := laneLocked p lane
    let (r, c) := judgeHeader (laneRx p lane) was (hdrValid h)
    let s := setPlk s n (setLaneRx p lane r)
    let s := if was && !hdrValid h then plkCount s n 0 1 0 0 0 else s
    match c with
    | .none => s
    | .locked => lanesLocked (setPlk s n (lockLane (plk s n) lane true)) n
    | .lost => laneLost s n lane 0
/-- A block's payload goes through a lane's descrambler. -/
def unscramble (r : LaneRx) (b : Block) : LaneRx × (BitVec 2 × List Byte) :=
  let y := descramble r.scr b.bits
  ({ r with scr := y.1 }, (b.hdr, bytesOf 32 y.2))
/-- What a whole code frame gives: the payloads of its covered blocks, descrambled, with the symbols corrected and the codewords that could not be (R269). -/
def closeFrame (r : LaneRx) : LaneRx × List (BitVec 2 × List Byte) × Nat × Nat :=
  let d := decodeFrame (r.frame.map Block.bits)
  let bs := List.zipWith (fun b p => ({ hdr := b.hdr, bits := p } : Block)) (r.frame.take 160) d.1
  let x := bs.foldl (fun t b => let u := unscramble t.1 b; (u.1, t.2 ++ [u.2])) (r, [])
  ({ x.1 with frame := [] }, x.2, d.2.1, d.2.2)
/-- A block read as a MARKER with what the descrambler held: its content. -/
def readMarker (r : LaneRx) (b : Block) (reg : Scr) : Option (Scr × List Byte) :=
  if b.hdr ≠ ctlHdr then none
  else match openControl (unscramble { r with scr := reg } b).2.2 with
    | some (2, c) => some (reg, c)
    | _ => none
/-- A block arrives on a lane that uses the code: a MARKER starts a frame, and the 165th block of a frame closes it. The five blocks before a
MARKER may be parity, which the descrambler passes by: a lane that hunts for a MARKER also tries what it held before them (R262). Answers the lane, the
payloads of a closed frame of a lane locked to code frames, and whether that lock has just been lost (R267, R268). -/
def frameBlock (clk : Nat) (r : LaneRx) (b : Block) : LaneRx × Option (List (BitVec 2 × List Byte) × Nat × Nat) × Bool :=
  if r.frame = [] then
    match (readMarker r b r.scr).or ((r.past[4]?).bind (readMarker r b)) with
    | some (reg, c) => ({ takeMarker { r with scr := reg, past := [] } (BitVec.ofNat 32 (leAt c 1 4)) clk with frame := [b] }, none, false)
    | none =>
      if r.count.isNone then ({ (unscramble r b).1 with past := (r.scr :: r.past).take 5 }, none, false)
      else
        let m := missMarker r
        (if m.1.count.isNone then m.1 else { m.1 with frame := [b] }, none, m.2)
  else if r.frame.length + 1 < 165 then ({ r with frame := r.frame ++ [b] }, none, false)
  else
    let x := closeFrame { r with frame := r.frame ++ [b] }
    (x.1, if r.framed then some (x.2.1, x.2.2.1, x.2.2.2) else none, false)
/-- Two lists taken in turns. -/
def inTurns {α : Type} : List α → List α → List α
  | [], b => b
  | a :: l, b => match b with
    | [] => a :: l
    | x :: r => a :: x :: inTurns l r
/-- A pair of blocks arrives on the forward lanes, or one block on the back lane (R265). A port with a far-end loop sends them on
unchanged on the paired port (Table 9-6). -/
def blocksArrive (s : State) (port : Fin 24) (bs : List Block) : State :=
  let n := port.val
  let fwd := takesForward (plk s n)
  let s := if (plk s n).loop = 3 then
      (List.range 24).foldl (fun s k =>
        let q := plk s k
        if q.pairOf = some n then
          setPlk s k { q with send := { q.send with lane0 := { q.send.lane0 with last := bs[0]? }, lane1 := { q.send.lane1 with last := bs[1]? } } }
        else s) s
    else s
  let lanes := if fwd then [0, 1] else [2]
  let s := (List.zip lanes bs).foldl (fun s x => headerArrives s n x.1 x.2.hdr) s
  let p := plk s n
  if !ownLocked p then
    (List.zip lanes bs).foldl (fun s x =>
      let r := laneRx (plk s n) x.1
      setPlk s n (setLaneRx (plk s n) x.1 { (unscramble r x.2).1 with past := (r.scr :: r.past).take 5 })) s
  else if codeReceived p then
    let a := frameBlock s.clk p.rx0 (bs.getD 0 ⟨0#2, []⟩)
    let b := frameBlock s.clk p.rx1 (bs.getD 1 ⟨0#2, []⟩)
    let s := setPlk s n { p with rx0 := a.1, rx1 := b.1 }
    let s := if a.2.2 then laneLost s n 0 0 else s
    let s := if b.2.2 then laneLost s n 1 0 else s
    match a.2.1, b.2.1 with
    | some x, some y =>
      let p := plk s n
      let s := setPlk s n { p with counts := { p.counts with corr0 := p.counts.corr0 + x.2.1, corr1 := p.counts.corr1 + y.2.1 } }
      let s := plkCount s n 0 0 (x.2.1 + y.2.1) (x.2.2 + y.2.2) 0
      (inTurns x.1 y.1).foldl (fun s z => takePayload s port z) s
    | _, _ => s
  else
    (List.zip lanes bs).foldl (fun s x =>
      let u := unscramble (laneRx (plk s n) x.1) x.2
      takePayload (setPlk s n (setLaneRx (plk s n) x.1 u.1)) port u.2) s

/-! ## Ticks -/

/-- One tick of a port: at a block boundary its lanes drive their next blocks, and a near-end loop takes them back, in loop 1 once the receivers are
trained (R256). -/
def portTick (s : State) (port : Fin 24) : State :=
  let n := port.val
  if drives (plk s n) && blockDue s (plk s n) then
    let s := driveBlocks s n
    let p := plk s n
    if nearLoop p && p.lanes.trained then blocksArrive s port [p.send.lane0.last.getD ⟨0#2, []⟩, p.send.lane1.last.getD ⟨0#2, []⟩] else s
  else s
/-- One tick of every port. -/
def linksTick (s : State) : State := (tkeys s.plks).foldl (fun s n => portTick s (Fin.ofNat 24 n)) s
/-- The happenings of one port whose instant, which the model's clock gives, is this tick. Log entry 1 (DESIGN CHOICE). -/
def portDue (s : State) (n : Nat) : List Instr :=
  let p := plk s n
  let k : Fin 24 := Fin.ofNat 24 n
  let at_ (st span : Nat) : Bool := decide (p.st = st) && decide (s.clk = p.since + span)
  let each (span : Nat) : Bool := decide (s.clk ≠ p.since) && decide ((s.clk - p.since) % span = 0)
  let if_ (b : Bool) (i : Instr) : List Instr := if b then [i] else []
  let run := decide (p.st = 8)
  let dir : Fin 2 := Fin.ofNat 2 p.role
  if_ (at_ 2 20000000) (.plkAlignTimeout k)
  ++ if_ (decide (p.st = 3) && !p.capAcked && each 100000) (.capabilityResend k)
  ++ if_ (at_ 3 5000000) (.capabilityTimeout k)
  ++ if_ (at_ 4 100000) (.plkStepTimeout k)
  ++ if_ (at_ 5 10000000) (.plkTrainTimeout k)
  ++ if_ (at_ 7 10000000) (.plkFallbackTimeout k)
  ++ if_ (at_ 9 1000000) (.plkRecoverTimeout k)
  ++ if_ (decide (p.st = 10) && stayed s n (backoffWait p) && !(decide (p.role = 0) && (syn s 10).gated)) (.backoffEnd k)
  ++ if_ (at_ 12 p.drainBound) (.plkDrainTimeout k)
  ++ if_ (run && decide (powerOf p (txDir p) = 0) && each 100000) (.heartbeatSend k)
  ++ if_ (run && decide (powerOf p (rxDir p) = 0) && passed s p.lastRx 1000000) (.heartbeatTimeout k)
  ++ if_ (p.ackDue && takesCtl p && passed s p.ackAt 20000) (.ackTimer k)
  ++ if_ (decide (powerOf p (txDir p) = 0) && (match p.unacked with | m :: _ => passed s m.sentAt 200000 | [] => false)) (.retransmitTimeout k)
  ++ if_ (match p.request with | some (_, _, t) => passed s t 1000000 | none => false) (.powerRequestTimeout k)
  ++ if_ (run && (match wakeOf p (rxDir p) with | some b => passed s b 1000000 | none => false)) (.wakeTimeoutPlk k)
  ++ if_ (run && txIdle p && passed s p.idleAt 1000000 && decide (powerOf p p.role = 0) && decide ((if p.role = 0 then p.cmdFwd else p.cmdBck) ≠ 0)) (.trafficIdleReturn k dir)
  ++ if_ (run && passed s p.winAt 1000000000) (.plkErrorWindowEnd k 0)
  ++ ((List.range 2).filter (framesLost s p)).map (fun l => .plkLaneLockLost k (Fin.ofNat 3 l) 0)
/-- The happenings of the ports and of CP2 whose instant is this tick. -/
def linksDue (s : State) : List Instr :=
  ((tkeys s.plks).filter fun n => decide ((plk s n).st ≠ 0)).flatMap (portDue s)
  ++ (if s.ports.cp2.rx ≠ [] ∧ passed s s.ports.cp2RxAt 10000000 then [.cp2PacketTimeout] else [])
  ++ (match cp2Port s with | some n => if (plk s n).st = 11 ∧ stayed s n 1000000000 then [.cp2LinkRetry] else [] | none => [])

end Sys2Proof.Machine
end

