-- ==== Sys2Proof/Machine/Tick.lean ====
section
/-! DEFINITION. One tick of CLK_TB on an empty queue: the timebase counts, and the commands whose effect instant or launch tick it is
come into the queue in the order of Table 6-1. -/

namespace Sys2Proof.Machine
open Sys2Proof

/-- The clock of the model and the timebase count 1 ns (R150, R152). -/
def countTick (s : State) : State :=
  { s with clk := s.clk + 1, tb := if s.tb.running then { s.tb with ns := s.tb.ns + 1 } else s.tb }
/-- Every 31,250 ns a spreading period begins (R220). -/
def spreadTick (s : State) : State := if s.clk % 31250 = 0 then (List.range 11).foldl takeSpread s else s
/-- Every 10 ns the phase detectors compare (R219, R222). -/
def compareTick (s : State) : State := if s.clk % 10 = 0 then (List.range 12).foldl ditherTickSyn s else s
/-- The happenings of one synthesizer whose instant is this tick: a ramp's next microsecond, the end of the hold after a relock, the end of the time a hop or a search has
(R213, R216, R222). -/
def synDue (s : State) (n : Nat) : List Instr :=
  let x := syn s n
  let k : Fin 12 := Fin.ofNat 12 n
  let hops := match x.task with | .hop _ => true | _ => false
  (if x.ramping && decide (x.rampAt + 1000 ≤ s.clk) then [.rampStep k] else [])
  ++ (if x.holding && x.locked && decide (x.lockedAt + 100000 ≤ s.clk) then [.synUngate k] else [])
  ++ (if searching x && hops && decide (x.since + 20000 ≤ s.clk) then [.synHopLockTimeout k] else [])
  ++ (if searching x && !hops && decide (x.searchAt + 400000 ≤ s.clk) then [.synSearchTimeout k] else [])
/-- The Ontor is out of reset and its Curator runs. -/
def awake (s : State) : Bool := decide (s.boot.phase = .curator) || decide (s.boot.phase = .done)
/-- The flights that reach their effect instant land, in arrival order. -/
def landDue (s : State) : State × List Instr :=
  let due := s.ports.flights.filter fun f => decide (f.eTick ≤ s.clk)
  let s := { s with ports := { s.ports with flights := s.ports.flights.filter fun f => !decide (f.eTick ≤ s.clk) } }
  due.foldl (fun x f => match land x.1 f with
    | (s, some c) => (s, x.2 ++ [c])
    | (s, none) => (s, x.2)) (s, [])
/-- The place of a command's port in the order of R87 and R584. Log entry 116 (DEDUCED). -/
def commandRank (c : Instr) : Nat := match reqOf c with | some (_, q) => rankOf q.port | none => 6
/-- The commands of a tick in the order they act: those that set the count, of which entries come first since they were accepted first, then
the launches, then the others by port (Table 6-1). -/
def tickOrder (s : State) (l : List Instr) : List Instr :=
  let l := l.mergeSort fun a b => decide (commandRank a ≤ commandRank b)
  let sets := l.filter setsTime
  let entries := (dueEntries s).any fun x => setsTime x.2.cmd
  let up := commandPairUp s
  (if up && entries && decide (sets ≠ []) then [.launch] else []) ++ sets
    ++ (if up && (decide (sets ≠ []) || decide (dueEntries s ≠ [])) then [.launch] else []) ++ l.filter fun c => !setsTime c
/-- The happenings of the Wings, the thermal manager and boot whose instant is this tick (R47, R526, R531, R537, R615, R620). -/
def systemDue (s : State) : List Instr :=
  (if (s.modes.pend.any fun p => (match p.wake with | some (_, false) => wakeWaited s p | _ => false)) then [.modeWakeWaitEnd] else [])
  ++ ([Wing.a, Wing.b].filter fun w => wakeLate s w || (decide (w = .a) && bootLate s)).map (.wakeTimeout ·)
  ++ ([Wing.a, Wing.b].filter (monitorsLate s)).map (.readmissionMonitorTimeout ·)
  ++ (if watchDue s then [.thermalWatch] else [])
  ++ (if s.thermal.shut = 1 ∧ (shutBound s || safeShown s) ∧ mgmtPairUp s then [.shutdownStep2 (shutBound s)] else [])
  ++ (if s.thermal.shut = 2 ∧ ledgerRests s ∧ mgmtPairUp s then [.shutdownStep4] else [])
  ++ (if watchdogDue s then [.curatorWatchdog] else [])
/-- The happenings whose instant, which the model's clock gives, is this tick. Log entry 1 (DESIGN CHOICE). -/
def dueNow (s : State) : List Instr :=
  systemDue s ++ ppsDue s ++ fsyncDue s ++ (if resetDue s then [.warmReset] else []) ++ linksDue s ++ (tkeys s.outs).flatMap (outDue s) ++ audioDue s ++ (tkeys s.syns).flatMap (synDue s) ++ (tkeys s.caps).flatMap (capDue s)
/-- One tick of CLK_TB. Log entry 1 (DESIGN CHOICE). -/
def tick (s : State) : State :=
  let s := countTick s
  if !awake s then s
  else
    let (s, l) := landDue (pump (settle (linksTick (audioTick (audioTick (compareTick (spreadTick s)) 8) 9))))
    { s with pending := s.pending ++ tickOrder s l ++ dueNow s }

end Sys2Proof.Machine
end

