-- ==== Sys2Proof/Machine/Step.lean ====
section
/-! DEFINITION. One step: the command at the front of the queue, or one tick of CLK_TB while none waits. -/

namespace Sys2Proof.Machine
open Sys2Proof

/-- A step: the front of the queue acts; on an empty queue one tick passes. Log entries 1 (DESIGN CHOICE), 2 (DESIGN CHOICE), 117 (DESIGN CHOICE). -/
def step (s : State) : Host.Outcome State Fault Refusal :=
  match s.pending with
  | [] => .next (tick s)
  | c :: r => exec c { s with pending := r }

/-- The table gives its rows no bits, so no word spells a command, and no command is put in front. Log entry 3 (DESIGN CHOICE). -/
def State.withFetchWord (s : State) (_nbits _w : Nat) : State := s

end Sys2Proof.Machine
end

