-- ==== Sys2Proof/Decode.lean ====
section
/-! DEFINITION. The command that a word spells by the opcode table's bits: the table gives no row any bits, so no word spells one. The
bytes of a packet are read by Machine/Parse.lean. -/

namespace Sys2Proof

/-- The command of a word, by the table's bits. Log entry 3 (DESIGN CHOICE). -/
def decodeTableWord (_nbits _w : Nat) : Option Instr := none

end Sys2Proof
end

