-- ==== Sys2Proof/Machine/Arbitration.lean ====
section
/-! DEFINITION. How a slice of the interconnect serves requests (R487, R496 to R498, R501 to R505): which requests a master port presents,
which one a target port grants, within what bound, and in how many cycles. No command sees single cycles of CLK_FAB, so State holds no
transaction in flight: these say, of the requests that stand at the ports, what the slice does with them. -/

namespace Sys2Proof.Machine
open Sys2Proof

/-! ## Priorities and register slices (R505, R618) -/

/-- The default priority of a master port (Tables 20-1 and 20-3); slices are 0 Wing A, 1 Wing B, 2 Atrium. -/
def defaultPriority (slice m : Nat) : Nat :=
  if slice = 2 then [12, 12, 4, 8, 14, 15, 1].getD m 0 else [8, 8, 12, 12, 12, 12, 12, 10, 15, 6].getD m 0
/-- The master and target ports that are fitted. -/
def fitted (slice m t : Nat) : Bool :=
  if slice = 2 then decide (m ≤ 6) && decide (t ≤ 10) else decide (m ≤ 9) && decide (t ≤ 8)
/-- The path runs into or out of a Wing bridge: an Atrium target of that kind, or the bridge's master port in a Wing slice. -/
def bridgePath (slice m t : Nat) : Bool := if slice = 2 then decide (t = 8) || decide (t = 9) else decide (m = 9)
/-- The priority of a master port for a target port: the boot image's, or the default. -/
def portPriority (s : State) (slice m t : Nat) : Nat :=
  if s.bmx.sectionBad ∨ s.bmx.priorities = [] then defaultPriority slice m
  else
    let k := 12 * m + t
    let b := byteAt s.bmx.priorities (120 * slice + k / 2)
    if k % 2 = 0 then b % 16 else b / 16
/-- A register slice stands on the path: always in the Atrium slice before a bridge, never behind it (Table 20-8), and elsewhere where
the boot image puts one. -/
def registerSlice (s : State) (slice m t : Nat) : Bool :=
  if bridgePath slice m t then decide (slice = 2)
  else !s.bmx.sectionBad && decide (s.bmx.priorities ≠ []) &&
    decide (byteAt s.bmx.priorities (120 * slice + 96 + (12 * m + t) / 8) / 2 ^ ((12 * m + t) % 8) % 2 = 1)

/-! ## What a master port presents (R487, R496 to R498) -/

/-- A request of a master: its ID, its target, the cycle it was issued, and the beats of write data it still has to have accepted. -/
structure BusReq where
  master : Nat
  id : Nat
  target : Nat
  issued : Nat
  writeBeats : Nat := 0
  deriving DecidableEq, Repr
/-- The most beats of one request, and the bytes of a beat. -/
def beatLimit (slice : Nat) : Nat × Nat := if slice = 2 then (8, 32) else (4, 128)
/-- The request waits at its master port: 64 transactions are outstanding, one of its ID is outstanding elsewhere, or data of an earlier
write to another target has still to be accepted. `outstanding` are the master's granted requests. -/
def heldAtPort (outstanding : List BusReq) (r : BusReq) : Bool :=
  decide (64 ≤ outstanding.length) || outstanding.any (fun x => decide (x.id = r.id) && decide (x.target ≠ r.target))
    || (decide (0 < r.writeBeats) && outstanding.any fun x => decide (x.target ≠ r.target) && decide (0 < x.writeBeats))
/-- What a master port presents to a target port: the oldest of its waiting requests that is not held. -/
def presents (outstanding waiting : List BusReq) (t : Nat) : Option BusReq :=
  ((waiting.filter fun r => decide (r.target = t) && !heldAtPort outstanding r).mergeSort fun a b => decide (a.issued ≤ b.issued)).head?

/-! ## What a target port grants (R501 to R503) -/

/-- A request presented at a target port: its master port, its priority there, and the cycle of its presentation. -/
structure Presented where
  master : Nat
  priority : Nat
  since : Nat
  deriving DecidableEq, Repr
/-- The effective priority rises by 1 for every 256 cycles of waiting, to at most 15. -/
def effectivePriority (now : Nat) (r : Presented) : Nat := min 15 (r.priority + (now - r.since) / 256)
/-- One request goes before another: by effective priority, then by age, then by the lower master port. -/
def goesBefore (now : Nat) (a b : Presented) : Bool :=
  let p := effectivePriority now a
  let q := effectivePriority now b
  decide (q < p) || (decide (p = q) && (decide (a.since < b.since) || (decide (a.since = b.since) && decide (a.master ≤ b.master))))
/-- The request that is granted. -/
def granted (now : Nat) : List Presented → Option Presented
  | [] => none
  | r :: l => match granted now l with
    | none => some r
    | some x => if goesBefore now r x then some r else some x
/-- The bound on the wait of a request presented with a priority (R502). -/
def grantBound (slice p : Nat) : Nat := (15 - p) * 256 + 15 * (beatLimit slice).1
/-- The master an idle target port is parked on: the one it granted last, port 0 after reset. -/
def parkedOn (last : Option Nat) : Nat := last.getD 0

/-! ## Cycles (Table 20-6) -/

/-- Cycles of a request through a slice: 1 where the target is idle and parked on its master and no other presents, else 2; a register
slice adds 1. -/
def requestCycles (s : State) (slice m t : Nat) (parked : Bool) : Nat :=
  (if parked then 1 else 2) + b2n (registerSlice s slice m t)
/-- Cycles of a response of so many beats. -/
def responseCycles (s : State) (slice m t beats : Nat) : Nat := beats + b2n (registerSlice s slice m t)
/-- A bridge, in each direction. -/
def bridgeCycles : Nat := 8
/-- From the grant to the answer of an SRAM bank, of the default target, and of an isolated bridge. -/
def sramCycles : Nat := 4
def defaultCycles : Nat := 1
def isolatedCycles : Nat := 4
/-- The bound of a transaction that a target accepts (R499). -/
def transactionBound : Nat := 65536
/-- One Atrium master's read of a word in a Wing's SRAM bank, across the bridge and back (Table 20-8). -/
def bridgeRead (s : State) (m : Nat) (w : Wing) (bank : Nat) (parkedAtrium parkedWing : Bool) : Nat :=
  requestCycles s 2 m (8 + wingCode w) parkedAtrium + bridgeCycles + requestCycles s (wingCode w) 9 (2 + bank) parkedWing + sramCycles
    + responseCycles s (wingCode w) 9 (2 + bank) 1 + bridgeCycles + responseCycles s 2 m (8 + wingCode w) 1

end Sys2Proof.Machine
end

