-- ==== Sys2Proof/Machine/Pixels.lean ====
section
/-! DEFINITION. What the pixels of a stored frame are: how received pixels are stored (R316, R450, R451), the surface descriptor and
tile headers (R446), and the coding of a tile (R448, R449). No command carries a whole surface, so these are functions of the frames
that State holds. -/

namespace Sys2Proof.Machine
open Sys2Proof

/-- One pixel at the internal precision: three codes, the alpha of its source as a fraction, and whether it contributes nothing at
all (a failed tile, R457; a warped pixel with no source, R406). -/
structure Pixel where
  c0 : Nat
  c1 : Nat
  c2 : Nat
  alpha : Rat := 1
  gone : Bool := false
  deriving DecidableEq, Repr

/-- A pixel that contributes nothing. -/
def noPixel : Pixel := { c0 := 0, c1 := 0, c2 := 0, alpha := 0, gone := true }

/-! ## Storing (R316) -/

/-- A code of `a` bits brought to `b` bits: wider codes are rounded to nearest, ties upwards, and narrower ones widened by
repeating their most significant bits. -/
def reCode (a b v : Nat) : Nat :=
  if b < a then min (2 ^ b - 1) ((v + 2 ^ (a - b - 1)) / 2 ^ (a - b))
  else if a = 0 then 0
  else (List.range b).foldl (fun t i => if v.testBit (a - 1 - i % a) then t + 2 ^ (b - 1 - i) else t) 0
/-- A pixel whose three components have `a` bits, stored at `p` bits. -/
def rgbPixel (a p x y z : Nat) : Pixel := { c0 := reCode a p x, c1 := reCode a p y, c2 := reCode a p z }
/-- The word of a fill colour: 10 bits per component, R in 29:20 (Table 5-8), widened to the precision. -/
def fillPixel (p : Nat) (w : Word) : Pixel := rgbPixel 10 p (bits w 29 20) (bits w 19 10) (bits w 9 0)

/-- The four values of a group of two 4:2:2 pixels, of `a` bits: Y of the first, Cb, Y of the second, Cr. Log entry 62 (DEDUCED). -/
def group422 (a : Nat) (d : List Byte) (g i : Nat) : Nat := bitsAt d (4 * a * g + a * i) a
/-- One chroma value of a pixel of a 4:2:2 run: that of its group at an even pixel, at an odd one the mean of its group's and the
next group's, with ties upwards; the last odd pixel of a run takes its own group's (R316). -/
def chroma422 (a n : Nat) (d : List Byte) (x i : Nat) : Nat :=
  let g := x / 2
  let own := group422 a d g i
  if x % 2 = 0 ∨ n ≤ 2 * g + 2 then own else (own + group422 a d (g + 1) i + 1) / 2
/-- A pixel of received bytes in a Prenlink colour format (Tables 10-5 and 12-4a), at `p` bits; `n` pixels in the run. Log entry 62 (DEDUCED). -/
def receivedPixel (p fmt n : Nat) (d : List Byte) (x : Nat) : Pixel :=
  match fmt with
  | 0x01 => rgbPixel 8 p (bitsAt d (24 * x) 8) (bitsAt d (24 * x + 8) 8) (bitsAt d (24 * x + 16) 8)
  | 0x02 => rgbPixel 10 p (bitsAt d (30 * x) 10) (bitsAt d (30 * x + 10) 10) (bitsAt d (30 * x + 20) 10)
  | 0x03 => rgbPixel 8 p (bitsAt d (32 * x + 8) 8) (bitsAt d (32 * x + 16) 8) (bitsAt d (32 * x + 24) 8)
  | 0x04 => rgbPixel 8 p (group422 8 d (x / 2) (2 * (x % 2))) (chroma422 8 n d x 1) (chroma422 8 n d x 3)
  | 0x05 => rgbPixel 10 p (group422 10 d (x / 2) (2 * (x % 2))) (chroma422 10 n d x 1) (chroma422 10 n d x 3)
  | _ => { c0 := 0, c1 := 0, c2 := 0 }
/-- The bits of a raw format (Table 10-5). -/
def rawBits (fmt : Nat) : Nat := match fmt with | 0x06 => 8 | 0x07 => 10 | 0x08 => 12 | 0x09 => 16 | 0x0A => 32 | _ => 0
/-- A raw component as a layer shows it: stored at 16 bits, or 32, and the most significant bits shown as grey (R316). -/
def greyPixel (p fmt : Nat) (v : Nat) : Pixel :=
  let g := if rawBits fmt = 32 then v / 2 ^ (32 - p) else reCode (rawBits fmt) 16 v / 2 ^ (16 - p)
  { c0 := g, c1 := g, c2 := g }

/-! ## Tiles (R448, R449) -/

/-- The value that a coded residue stands for: the signed number is even codes upwards, odd codes downwards. -/
def residue (u : Nat) : Int := if u % 2 = 0 then u / 2 else -((u + 1) / 2 : Nat)
/-- The code of a residue. -/
def residueCode (r : Int) : Nat := if 0 ≤ r then 2 * r.toNat else 2 * (-r).toNat - 1
/-- A difference wrapped to a signed number of `b` bits. -/
def wrapSigned (b : Nat) (r : Int) : Int :=
  let m := r % (2 ^ b : Nat)
  if m < (2 ^ (b - 1) : Nat) then m else m - (2 ^ b : Nat)
/-- The values of one row from its codes; the first is predicted by the value above. -/
def decodeRow (b : Nat) : Int → List Nat → List Nat
  | _, [] => []
  | pred, u :: r =>
    let v := ((pred + residue u) % (2 ^ b : Nat)).toNat
    v :: decodeRow b v r
/-- The codes of one row. -/
def encodeRow (b : Nat) : Int → List Nat → List Nat
  | _, [] => []
  | pred, v :: r => residueCode (wrapSigned b ((v : Int) - pred)) :: encodeRow b v r
/-- The bits that hold a number. -/
def bitWidth (n : Nat) : Nat := if n = 0 then 0 else Nat.log2 n + 1
/-- The row width: the smallest that holds every code. -/
def rowWidth (us : List Nat) : Nat := us.foldl (fun w u => max w (bitWidth u)) 0
/-- A value as bits, least significant first. -/
def toBits (n v : Nat) : List Bool := (List.range n).map v.testBit
/-- A row as the coder writes it. -/
def rowBits (b : Nat) (above : Int) (row : List Nat) : List Bool :=
  let us := encodeRow b above row
  toBits 5 (rowWidth us) ++ us.flatMap (toBits (rowWidth us))
/-- The rows of a plane as the coder writes them. -/
def planeBits (b : Nat) : Int → List (List Nat) → List Bool
  | _, [] => []
  | above, row :: r => rowBits b above row ++ planeBits b ((row.headD 0 : Nat) : Int) r
/-- The rows of a plane from a bit position, and where they end. -/
def decodePlane (d : List Byte) (b n : Nat) : Nat → Nat → Int → List (List Nat) × Nat
  | 0, pos, _ => ([], pos)
  | rows + 1, pos, above =>
    let w := bitsAt d pos 5
    let row := decodeRow b above ((List.range n).map fun i => bitsAt d (pos + 5 + w * i) w)
    let (l, e) := decodePlane d b n rows (pos + 5 + w * n) ((row.headD 0 : Nat) : Int)
    (row :: l, e)
/-- The planes of a compressed payload. -/
def decodePlanes (d : List Byte) : List (Nat × Nat) → Nat → List (List (List Nat))
  | [], _ => []
  | (b, n) :: r, pos =>
    let (rows, e) := decodePlane d b n 16 pos 0
    rows :: decodePlanes d r e
/-- The units a writer needs for a tile's planes when it codes them. -/
def codedUnits (planes : List (Nat × List (List Nat))) : Nat :=
  ((planes.flatMap fun x => planeBits x.1 0 x.2).length + 511) / 512
/-- A writer stores a tile as compressed only where that takes fewer units than the slot has (R449). -/
def storesCoded (fmt : Nat) (planes : List (Nat × List (List Nat))) : Bool := decide (codedUnits planes < slotBytes fmt / 64)
/-- A value of a decoded plane. -/
def planeAt (l : List (List (List Nat))) (k x y : Nat) : Nat := ((l.getD k []).getD y []).getD x 0
/-- A pixel of three planes of `a` bits whose chroma planes hold one value for two pixels. -/
def pixel422 (a p : Nat) (l : List (List (List Nat))) (x y : Nat) : Pixel :=
  let ch (k : Nat) : Nat :=
    let own := planeAt l k (x / 2) y
    if x % 2 = 0 ∨ 7 ≤ x / 2 then own else (own + planeAt l k (x / 2 + 1) y + 1) / 2
  rgbPixel a p (planeAt l 0 x y) (ch 1) (ch 2)
/-- A pixel of a tile's decoded planes. -/
def planePixel (p fmt : Nat) (l : List (List (List Nat))) (x y : Nat) : Pixel :=
  let v (k : Nat) := planeAt l k x y
  match fmt with
  | 0x01 => rgbPixel 8 p (v 0) (v 1) (v 2)
  | 0x02 | 0x20 | 0x24 => rgbPixel 10 p (v 0) (v 1) (v 2)
  | 0x03 => { rgbPixel 8 p (v 1) (v 2) (v 3) with alpha := (v 0 : Rat) / 255 }
  | 0x04 => pixel422 8 p l x y
  | 0x05 => pixel422 10 p l x y
  | 0x21 | 0x25 => rgbPixel 12 p (v 0) (v 1) (v 2)
  | 0x0A => greyPixel p fmt (v 0 + 65536 * v 1)
  | _ => greyPixel p fmt (v 0)
/-- A pixel of an uncompressed run of a received tile format. -/
def rawTilePixel (p fmt : Nat) (d : List Byte) (n i : Nat) : Pixel :=
  if 0x06 ≤ fmt ∧ fmt ≤ 0x0A then greyPixel p fmt (bitsAt d (rawBits fmt * i) (rawBits fmt))
  else if fmt = 0x03 then { receivedPixel p fmt n d i with alpha := (bitsAt d (32 * i) 8 : Rat) / 255 }
  else receivedPixel p fmt n d i
/-- The bytes of one row of 16 pixels. -/
def tileRowBytes (fmt : Nat) : Nat := slotBytes fmt / 16
/-- The pixels in a group of a format (Table 10-5): those a solid tile's unit holds. -/
def groupPixels (fmt : Nat) : Nat := match fmt with | 0x02 | 0x07 => 4 | 0x04 | 0x05 | 0x08 => 2 | _ => 1
/-- A pixel of a received tile record (R448); an empty or failed tile gives nothing. -/
def recordPixel (p : Nat) (r : List Byte) (x y : Nat) : Pixel :=
  let fmt := byteAt r 5
  let d := r.drop 8
  if !tileOk r fmt then noPixel
  else match byteAt r 4 / 32 with
    | 1 => rawTilePixel p fmt (slice d (tileRowBytes fmt * y) (tileRowBytes fmt)) 16 x
    | 2 => planePixel p fmt (decodePlanes d (tilePlanes fmt) 0) x y
    | _ => rawTilePixel p fmt d (groupPixels fmt) (x % groupPixels fmt)

/-! ## Frames -/

/-- A pixel of content that no command of the model carries: free values at the precision. -/
def freePixel (p n : Nat) : Pixel :=
  let w := Config.freeWord n
  let b := (Config.freeByte n).toNat
  let code (hi k : Nat) : Nat := (hi * 4 + b / 4 ^ k % 4) / 2 ^ (12 - p)
  { c0 := code (bits w 9 0) 0, c1 := code (bits w 19 10) 1, c2 := code (bits w 29 20) 2 }
/-- A pixel of a frame as a layer of precision `p` reads it. A pixel that no span or record gives is nothing. Log entry 61 (DESIGN CHOICE). -/
def framePixel (p : Nat) (f : Frame) (x y : Nat) : Pixel :=
  if f.isTiles then
    match tget none ((f.tiles.map fun e => (e.1, some e.2)) : Tab (Option (List Byte))) (y / 16 * ((f.w + 15) / 16) + x / 16) with
    | none => noPixel
    | some r => recordPixel p r (x % 16) (y % 16)
  else match spanAt f x y with
    | none => noPixel
    | some sp =>
      let i := x - sp.x
      match sp.src with
      | .fill w => fillPixel p w
      | .free n => freePixel p (n + (y - sp.y) * sp.count + i)
      | .bytes fmt d =>
        if 0x06 ≤ fmt ∧ fmt ≤ 0x0A then greyPixel p fmt (bitsAt d (rawBits fmt * i) (rawBits fmt))
        else receivedPixel p fmt sp.count d i

/-- The 64-byte descriptor of a published surface (Table 18-2). -/
def descriptorBytes (f : Frame) : List Byte :=
  let b := leBytes 2 0xF57D ++ [BitVec.ofNat 8 f.fmt, if f.isTiles then 0x02#8 else 0#8] ++ leBytes 2 f.w ++ leBytes 2 f.h
    ++ leBytes 2 ((f.w + 15) / 16) ++ leBytes 2 ((f.h + 15) / 16) ++ leBytes 2 (slotBytes f.fmt) ++ leBytes 2 0
    ++ leBytes 8 f.tick.toNat ++ leBytes 4 f.num
  b ++ leBytes 4 (crc32c b).toNat ++ List.replicate 32 0#8
/-- An 8-byte tile header (Table 18-3). -/
def tileHeader (kind units fmt : Nat) (recomposed concealed : Bool) (payload : List Byte) : List Byte :=
  let b := leBytes 4 (if kind = 0 then 0 else (crc32c payload).toNat)
    ++ [BitVec.ofNat 8 (32 * kind + units), BitVec.ofNat 8 fmt, BitVec.ofNat 8 (2 * b2n recomposed + b2n concealed)]
  b ++ [crc8 b]

/-! ## Writing a frame as a surface (R446 to R450) -/

/-- Where the header and the slot of tile `t` of a published frame lie (R446). -/
def headerAddr (f : Frame) (t : Nat) : Nat := f.base + 64 + 8 * t
def slotAddr (f : Frame) (t : Nat) : Nat := f.base + page4k (64 + 8 * tileCount f.w f.h) + t * slotBytes f.fmt
/-- The stored component of a raw frame: 16 bits, or the 32 of RAW32 unchanged (R316). -/
def storedRaw (f : Frame) (x y : Nat) : Nat :=
  if f.fmt = 0x0A then (rawPixel f x y).toNat
  else match spanAt f x y with
    | none => 0
    | some sp => match sp.src with
      | .bytes fmt d => let b := rawBits fmt; reCode b 16 (bitsAt d (b * (x - sp.x)) b)
      | .fill w => bits w 15 0
      | .free n => bits (Config.freeWord (n + (y - sp.y) * sp.count + (x - sp.x))) 15 0
/-- The component values of a pixel of a frame that a pipe stores from lines, in the order of its planes (Table 18-4). -/
def storedValues (f : Frame) (x y : Nat) : List Nat :=
  let x := min x (f.w - 1)
  let y := min y (f.h - 1)
  let p := framePixel (if f.fmt = 0x21 ∨ f.fmt = 0x25 then 12 else 10) f x y
  if f.fmt = 0x0A then [storedRaw f x y % 65536, storedRaw f x y / 65536] else if f.fmt = 0x09 then [storedRaw f x y] else [p.c0, p.c1, p.c2]
/-- The bits of one pixel in the uncompressed layout of a stored format, least significant first. -/
def layoutBits (fmt : Nat) (v : List Nat) : List Bool :=
  let c (k : Nat) := v.getD k 0
  match fmt with
  | 0x20 | 0x24 => toBits 10 (c 2) ++ toBits 10 (c 1) ++ toBits 10 (c 0) ++ [false, false]
  | 0x21 | 0x25 => toBits 16 (c 0) ++ toBits 16 (c 1) ++ toBits 16 (c 2)
  | 0x0A => toBits 16 (c 0) ++ toBits 16 (c 1)
  | _ => toBits 16 (c 0)
/-- Bits packed into bytes from the least significant bit upwards, zero bits at the end (R449). -/
def packBits (n : Nat) (l : List Bool) : List Byte :=
  (List.range n).map fun i => BitVec.ofNat 8 ((List.range 8).foldl (fun v k => if l.getD (8 * i + k) false then v + 2 ^ k else v) 0)
/-- The planes of a tile: for each, its bits and its rows of 16 values. -/
def framePlanes (f : Frame) (t : Nat) : List (Nat × List (List Nat)) :=
  let cols := (f.w + 15) / 16
  (tilePlanes f.fmt).zipIdx.map fun e =>
    (e.1.1, (List.range 16).map fun j => (List.range e.1.2).map fun i => (storedValues f (16 * (t % cols) + i) (16 * (t / cols) + j)).getD e.2 0)
/-- The places of a tile that lie within the frame. -/
def tilePlaces (f : Frame) (t : Nat) : List (Nat × Nat) :=
  let cols := (f.w + 15) / 16
  ((List.range 256).map fun i => (16 * (t % cols) + i % 16, 16 * (t / cols) + i / 16)).filter fun q => decide (q.1 < f.w) && decide (q.2 < f.h)
/-- A tile of a frame stored from lines holds only CAP_FILL, and one holds a pixel that was not delivered (R450). -/
def tileFilled (f : Frame) (t : Nat) : Bool :=
  (tilePlaces f t).all fun q => match spanAt f q.1 q.2 with
    | some sp => (match sp.src with | .fill _ => true | _ => false)
    | none => false
def tileConcealed (f : Frame) (t : Nat) : Bool :=
  if f.isTiles then f.concealed.contains t else (tilePlaces f t).any fun q => (spanAt { f with spans := f.spans.take f.own } q.1 q.2).isNone
/-- A tile as a pipe stores it from lines, header and payload: solid where it comes wholly from CAP_FILL, compressed where that takes fewer units than
the slot, else raw (R448 to R450). -/
def storedTile (f : Frame) (t : Nat) : List Byte :=
  let cols := (f.w + 15) / 16
  let px (i j : Nat) : List Bool := layoutBits f.fmt (storedValues f (16 * (t % cols) + i) (16 * (t / cols) + j))
  let planes := framePlanes f t
  let (kind, units, pay) :=
    if tileFilled f t then (3, 1, packBits 64 (px 0 0))
    else if storesCoded f.fmt planes then (2, codedUnits planes, packBits (64 * codedUnits planes) (planes.flatMap fun e => planeBits e.1 0 e.2))
    else (1, slotBytes f.fmt / 64, packBits (slotBytes f.fmt) ((List.range 256).flatMap fun i => px (i % 16) (i / 16)))
  tileHeader kind units f.fmt false (tileConcealed f t) pay ++ pay
/-- The memory port of an address of a Wing's frame store, 0 the lower-numbered, and the address within it (R444). -/
def storePlace (a : Nat) : Nat × Nat := (a / 4096 % 2, a / 8192 * 4096 + a % 4096)

end Sys2Proof.Machine
end

