-- ==== Sys2Proof/Machine/Compose.lean ====
section
/-! DEFINITION. What a pixel of an output is (chapters 14 to 16): the stack of an output, scaling and warp, the colour pipeline, blending,
the Vitrine layer, depth reduction and dither. The model has no tick for each pixel: these say, of a state, what an output sends at a
position of the frame that its last commit tick began, from the frames that State holds. -/

namespace Sys2Proof.Machine
open Sys2Proof

/-! ## Fractions -/

/-- An integer limited to 0 to `top`. -/
def clampTo (top : Nat) (x : Int) : Nat := min top x.toNat
/-- A signed 16-bit field. -/
def signed16 (n : Nat) : Int := if n < 32768 then n else (n : Int) - 65536
/-- π to 40 decimal places. -/
def piRat : Rat := (31415926535897932384626433832795028841972 : Rat) / 10000000000000000000000000000000000000000
/-- The first `n` terms of the series of sin, from a term and its index. -/
def sinTerms (x2 : Rat) : Nat → Rat → Nat → Rat
  | 0, _, _ => 0
  | n + 1, term, k => term + sinTerms x2 n (-(term * x2) / ((2 * k + 2) * (2 * k + 3) : Nat)) (k + 1)
/-- sin(πu) by 20 terms of its series, u taken to −1/2 to 1/2 first: the error is below 2^-60. -/
def sinPi (u : Rat) : Rat :=
  let n := roundRat u
  let x := piRat * (u - n)
  let v := sinTerms (x * x) 20 x 0
  if n % 2 = 0 then v else -v
/-- sinc(u) = sin(πu) ÷ (πu), 1 at 0 (Table 16-2). Log entry 112 (DEDUCED). -/
def sincRat (u : Rat) : Rat := if u = 0 then 1 else sinPi u / (piRat * u)

/-! ## Filters (R399, R400) -/

/-- The Catmull–Rom cubic. -/
def catmullRom (x : Rat) : Rat :=
  let a := if x < 0 then -x else x
  if a < 1 then (3 * a * a * a - 5 * a * a + 2) / 2
  else if a < 2 then (-(a * a * a) + 5 * a * a - 8 * a + 4) / 2
  else 0
/-- The kernel of a filter kind at a distance in source pixels (Table 16-2). -/
def kernelAt (kind t : Nat) (f x : Rat) : Rat :=
  let a := if x < 0 then -x else x
  if (t : Rat) / 2 ≤ a then 0
  else match kind with
    | 0 => f * sincRat (f * x) * sincRat (2 * x / t)
    | 1 => catmullRom (f * x)
    | _ => max 0 (1 - f * a)
/-- Adds to the first entry that is the largest. -/
def addToLargest (l : List Int) (d : Int) : List Int :=
  let m := l.foldl max (l.headD 0)
  match l.findIdx? (fun x => decide (x = m)) with
  | some i => l.modify i (· + d)
  | none => l
/-- The coefficients of a phase: rounded to 10 fraction bits, the largest adjusted so that they sum to 1,024 (R400). Log entry 112 (DEDUCED). -/
def coefficients (kind t : Nat) (r : Rat) (phase : Nat) : List Int :=
  let raw := (List.range t).map fun i =>
    roundRat (1024 * kernelAt kind t (min 1 r) (((firstTap t phase + i : Int) : Rat) - (phase : Rat) / 64))
  addToLargest raw (1024 - raw.foldl (· + ·) 0)
/-- One direction's filter at a position: the weighted sum of the taps, clamped to the range and rounded once, ties upwards. -/
def filterLine (p kind t : Nat) (r : Rat) (size : Nat) (pos : Int) (get : Nat → Nat) : Nat :=
  if isNearest kind t then get (atEdge size ((pos + 32768) / 65536))
  else
    let phase := (pos % 65536 / 1024).toNat
    let base := pos / 65536 + firstTap t phase
    let cs := coefficients kind t r phase
    let sum := (List.range t).foldl (fun (z : Int) i => z + cs.getD i 0 * (get (atEdge size (base + i)) : Nat)) 0
    clampTo (2 ^ p - 1) ((sum + 512) / 1024)
/-- The source pixel nearest a position is nothing. -/
def nearestGone (w h : Nat) (px py : Int) (src : Nat → Nat → Pixel) : Bool :=
  (src (atEdge w ((px + 32768) / 65536)) (atEdge h ((py + 32768) / 65536))).gone
/-- A source sampled in two directions, vertically first (R401). Alpha is filtered like a component of 8 bits. Log entry 113 (DEDUCED). -/
def samplePixel (p kind th tv : Nat) (rx ry : Rat) (w h : Nat) (px py : Int) (src : Nat → Nat → Pixel) : Pixel :=
  let get (b : Nat) (f : Pixel → Nat) : Nat :=
    filterLine b kind th rx w px fun x => filterLine b kind tv ry h py fun y => f (src x y)
  { c0 := get p (·.c0), c1 := get p (·.c1), c2 := get p (·.c2)
    alpha := (get 8 fun v => (roundRat (v.alpha * 255)).toNat : Rat) / 255, gone := nearestGone w h px py src }

/-! ## Warp (R405 to R408) -/

/-- The marker that gives a grid point no source. -/
def noSource : Word := 0x80008000#32
/-- Bilinear interpolation of one offset in 1/64 pixel, rounded to 1/64 (R405). -/
def lerpOffset (step fx fy : Nat) (a b c d : Int) : Int :=
  let gx : Int := step - fx
  let gy : Int := step - fy
  roundRat (((a * gx + b * fx) * gy + (c * gx + d * fx) * fy : Int) / (step * step : Nat))
/-- The four entries about a destination pixel: (i, j), (i + 1, j), (i, j + 1), (i + 1, j + 1). -/
def warpCorners (s : State) (bank base cols step x y : Nat) : List Word :=
  let i := x / step
  let j := y / step
  [(i, j), (i + 1, j), (i, j + 1), (i + 1, j + 1)].map fun g => warpGet s bank (base + g.2 * cols + g.1)
/-- The offset of a mesh at a destination pixel in 1/64 pixel, across and down; none beside a no-source marker. -/
def warpOffset (s : State) (bank base cols step x y : Nat) : Option (Int × Int) :=
  let e := warpCorners s bank base cols step x y
  if e.contains noSource then none
  else
    let dx (k : Nat) : Int := signed16 (bits (e.getD k 0) 15 0)
    let dy (k : Nat) : Int := signed16 (bits (e.getD k 0) 31 16)
    let at_ (f : Nat → Int) : Int := lerpOffset step (x % step) (y % step) (f 0) (f 1) (f 2) (f 3)
    some (at_ dx, at_ dy)
/-- The buffer that an output reads of a mesh starts here. -/
def meshReadBase (s : State) (k o : Nat) : Nat × Word :=
  let g := meshGeomFor s k o
  (gridBase g.1 + (if meshFrontFor s k o then gridSize g.2 else 0), g.2)
/-- A position lies outside the source rectangle (R406). -/
def outsideSource (w h : Nat) (px py : Int) : Bool :=
  decide (px < -32768) || decide (((w : Int) * 65536 - 32768) < px) || decide (py < -32768) || decide (((h : Int) * 65536 - 32768) < py)
/-- A warped pixel: its position is the plain map's plus the mesh's offset (R405, R406, R408). Log entry 113 (DEDUCED). -/
def warpedPixel (s : State) (p bank o : Nat) (locked : Bool) (mesh : Nat) (cfg : Option Word) (rx ry : Rat) (w h dw dh x y : Nat)
    (src : Nat → Nat → Pixel) : Pixel :=
  let (base, grid) := meshReadBase s (32 * bank + mesh) o
  match warpOffset s bank base (gridCols grid) (gridStep grid) x y with
  | none => noPixel
  | some (dx, dy) =>
    let py0 := samplePos h dh y
    let px := samplePos w dw x + 1024 * dx
    let py := py0 + 1024 * dy
    if outsideSource w h px py then noPixel
    else if locked then
      let line := py0 / 65536
      samplePixel p 2 2 2 1 1 w h px (max ((line - 6) * 65536) (min (line * 65536) py)) src
    else match cfg with
      | none => samplePixel p 2 2 2 1 1 w h px py src
      | some c => samplePixel p (bits c 11 8) (min 4 (bits c 3 0)) (min 4 (bits c 7 4)) rx ry w h px py src

/-! ## Colour (R410 to R414) -/

/-- The constants Kr and Kb of a standard (Table 16-4). -/
def lumaOf (std : Nat) : Rat × Rat :=
  match std with
  | 0 => (299 / 1000, 114 / 1000)
  | 1 => (2126 / 10000, 722 / 10000)
  | _ => (2627 / 10000, 593 / 10000)
/-- A fraction as a code of `p` bits: clamped to 0 to 1 and rounded once, ties upwards. -/
def toCode (p : Nat) (x : Rat) : Nat := clampTo (2 ^ p - 1) (roundRat (x * (2 ^ p - 1 : Nat)))
/-- Stage 3: YCbCr to RGB (R410). -/
def toRgb (p std : Nat) (full : Bool) (v : Pixel) : Pixel :=
  let q : Nat := 2 ^ (p - 8)
  let top : Rat := (2 ^ p - 1 : Nat)
  let y : Rat := if full then v.c0 / top else ((v.c0 : Rat) - (16 * q : Nat)) / (219 * q : Nat)
  let chroma (c : Nat) : Rat := if full then ((c : Rat) - (2 ^ (p - 1) : Nat)) / top else ((c : Rat) - (128 * q : Nat)) / (224 * q : Nat)
  let (kr, kb) := lumaOf std
  let r := y + 2 * (1 - kr) * chroma v.c2
  let b := y + 2 * (1 - kb) * chroma v.c1
  let g := (y - kr * r - kb * b) / (1 - kr - kb)
  { v with c0 := toCode p r, c1 := toCode p g, c2 := toCode p b }
/-- An entry of the degamma table (0) or the regamma table (1); the implicit last entry is 65,535 (R411). -/
def tableEntry (t : ClrTab) (which i : Nat) : Nat := if 1023 < i then 65535 else (tblEntry t.front which i).toNat
/-- Stage 4: a code to 16-bit linear. -/
def degamma (t : ClrTab) (p v : Nat) : Nat :=
  if p = 10 then tableEntry t 0 v
  else
    let i := v / 4
    let a : Int := tableEntry t 0 i
    (a + (((tableEntry t 0 (i + 1) : Nat) : Int) - a) * (v % 4 : Nat) / 4).toNat
/-- Regamma of a linear value, in fractions of a step where a blend left one. -/
def regamma (t : ClrTab) (p : Nat) (l : Rat) : Nat :=
  let l := max 0 (min 65535 l)
  let i := (l / 64).floor.toNat
  let a : Int := tableEntry t 1 i
  let u := a + (((((tableEntry t 1 (i + 1) : Nat) : Int) - a : Int) : Rat) * (l - (64 * i : Nat)) / 64).floor
  clampTo (2 ^ p - 1) (roundRat ((u : Rat) * (2 ^ p - 1 : Nat) / 65535))
/-- The nine coefficients in the order of Table 16-5, with 14 fraction bits. -/
def matrixOf (rd : Nat → Word) : List Int :=
  (List.range 9).map fun k => let w := rd (3 + k / 2); signed16 (if k % 2 = 0 then bits w 15 0 else bits w 31 16)
/-- Stage 5: each output is the sum of three products, rounded once and clamped (R412). -/
def matrixRow (m : List Int) (row : Nat) (r g b : Nat) : Nat :=
  let c (k : Nat) : Int := m.getD (3 * row + k) 0
  clampTo 65535 (roundRat ((c 0 * r + c 1 * g + c 2 * b : Int) / (16384 : Nat)))
/-- The blend of a component over what lies beneath, as fractions (Table 14-4). -/
def blendOf (pre : Bool) (al p c d : Rat) : Rat := (if pre then c * al else c * p * al) + d * (1 - p * al)

/-! ## Layers -/

/-- The layers that an output's stack holds, from the bottom upwards (R352): those that show content, by z-order and then by number. -/
def stackOf (s : State) (bank o : Nat) : List Nat :=
  ((onLayers s bank).filter fun n => decide (lyrOut s bank n = o) && lyrShown s bank n && (decide ((lyr s bank n).st = 2) || decide ((lyr s bank n).st = 3))
    && !(lyr s bank n).blank && decide ((lyr s bank n).seenOn = some o) && decide (bits (lyrWord s bank n 6) 9 0 ≠ 0)).mergeSort
    fun a b => decide (bits (lyrWord s bank a 1) 11 8 ≤ bits (lyrWord s bank b 1) 11 8)
/-- The colours of a frame are YCbCr (R410, Table 18-4). -/
def isYcc (fmt : Nat) : Bool := [0x04, 0x05, 0x24, 0x25].contains fmt
/-- The conversion standard of a layer: what its DisplayPort source declares where that is one of the three, else CLR_CSC (R410). A
declaration is coded as CLR_CSC bits 1:0; 3 and above declare none of them. -/
def standardOf (s : State) (bank n o : Nat) : Nat :=
  let own := bits (word s bank 0x17 o 0) 1 0
  match layerPipe s bank n with
  | none => own
  | some k => match capSource s k with
    | (2, p, sub) => match tget none (dps s p).msa sub with
      | some m => if m.2.2.2 < 3 then m.2.2.2 else own
      | none => own
    | _ => own
/-- The weighted mean of two frames' pixels (R437). -/
def mixPixel (w : Nat) (p n : Pixel) : Pixel :=
  let mix (a b : Nat) : Nat := ((64 - w) * a + w * b + 32) / 64
  { c0 := mix p.c0 n.c0, c1 := mix p.c1 n.c1, c2 := mix p.c2 n.c2, alpha := ((64 - w : Nat) * p.alpha + w * n.alpha) / 64 }
/-- The line that the line-locked feed shows for a pixel: its own, or where its pixel was not delivered the next one above that was (R324). -/
def feedLine (f : Frame) (x : Nat) : Nat → Nat
  | 0 => 0
  | y + 1 => if (spanAt f x (y + 1)).isSome then y + 1 else feedLine f x y
/-- A layer's source frame: stage 1 of Table 16-1, with what stands in for failed tiles (R457). Log entry 114 (DEDUCED). -/
def fetchPixel (s : State) (bank n : Nat) (f : Frame) (x y : Nat) : Pixel :=
  let p := precision s
  let v := match (lyr s bank n).bad.find? fun e => decide (e.1 = y / 16 * ((f.w + 15) / 16) + x / 16) with
    | some (_, true) => match standIn s bank n with
      | some g => framePixel p g x y
      | none => noPixel
    | some (_, false) => noPixel
    | none => framePixel p f x (if lineLocked s (lyrOut s bank n) then feedLine f x y else y)
  let v := match (lyr s bank n).before with
    | some b => mixPixel (lyr s bank n).weight (framePixel p b x y) v
    | none => v
  if (lyrRoute s bank n).isSome then { v with alpha := 1 } else v
/-- A layer's frame: the one it took, or on a line-locked output the frame that its pipe receives. Log entry 114 (DEDUCED). -/
def layerFrame (s : State) (bank n o : Nat) : Option Frame :=
  if lineLocked s o then (layerPipe s bank n).bind fun k => (capAt s k).live
  else (lyr s bank n).now
/-- Stage 2: a layer's pixel at a position of its destination rectangle, `x` across and `y` down. -/
def scaledPixel (s : State) (bank n o : Nat) (f : Frame) (x y : Nat) : Pixel :=
  let p := precision s
  let (dw, dh) := lyrDst (word s) bank n
  let src := fetchPixel s bank n f
  let rx : Rat := (dw : Rat) / (max 1 f.w : Nat)
  let ry : Rat := (dh : Rat) / (max 1 f.h : Nat)
  let cfg := (firstScaler (assigned s bank) n).map fun k => word s bank 0x15 k 1
  match lyrMesh s bank n with
  | some m => warpedPixel s p bank o (lineLocked s o) m cfg rx ry f.w f.h dw dh x y src
  | none =>
    if f.w = dw ∧ f.h = dh then src x y
    else match cfg with
      | none => src x y
      | some c => samplePixel p (bits c 11 8) (bits c 3 0) (bits c 7 4) rx ry f.w f.h (samplePos f.w dw x) (samplePos f.h dh y) src
/-- Stages 3 to 5: a layer's three linear values. -/
def linearOf (s : State) (bank n o : Nat) (ycc : Bool) (v : Pixel) : Nat × Nat × Nat :=
  let p := precision s
  let t := clr s (20 * bank + o)
  let v := if ycc then toRgb p (standardOf s bank n o) (bit (word s bank 0x17 o 0) 4) v else v
  let m := matrixOf fun k => word s bank 0x17 o k
  let r := degamma t p v.c0
  let g := degamma t p v.c1
  let b := degamma t p v.c2
  (matrixRow m 0 r g b, matrixRow m 1 r g b, matrixRow m 2 r g b)
/-- One component of a layer blended over the result beneath it (R413): after regamma, or in linear light. -/
def blendLinear (t : ClrTab) (p : Nat) (pre linear : Bool) (al alpha : Rat) (l d : Nat) : Nat :=
  if linear then regamma t p (blendOf pre al alpha l (degamma t p d))
  else toCode p (blendOf pre al alpha (regamma t p l : Rat) d / (2 ^ p - 1 : Nat))
/-- One layer at a pixel of the output, over the result beneath it. -/
def layerOver (s : State) (bank o x y : Nat) (d : Pixel) (n : Nat) : Pixel :=
  let p := precision s
  let pos := lyrWord s bank n 4
  let (dw, dh) := lyrDst (word s) bank n
  let x0 := bits pos 15 0
  let y0 := bits pos 31 16
  if x < x0 ∨ y < y0 ∨ x0 + dw ≤ x ∨ y0 + dh ≤ y then d
  else
    let a := lyrWord s bank n 6
    let al : Rat := (bits a 9 0 : Rat) / 1023
    let pre := bit a 16
    if (lyrRoute s bank n).isSome ∧ layerPipe s bank n = none then
      let f := fillPixel p (outWord s o 10)
      let mix (c e : Nat) : Nat := toCode p (blendOf pre al 1 c e / (2 ^ p - 1 : Nat))
      { c0 := mix f.c0 d.c0, c1 := mix f.c1 d.c1, c2 := mix f.c2 d.c2 }
    else match layerFrame s bank n o with
      | none => d
      | some f =>
        let v := scaledPixel s bank n o f (x - x0) (y - y0)
        let l := linearOf s bank n o (isYcc f.fmt) v
        let t := clr s (20 * bank + o)
        let linear := bit a 17 && decide (p = 12)
        let mix := blendLinear t p pre linear al v.alpha
        if v.gone then d
        else { c0 := mix l.1 d.c0, c1 := mix l.2.1 d.c1, c2 := mix l.2.2 d.c2 }
/-- The composed result of a bank's layers over OUT_FILL (R352, R413, R414). Log entry 111 (DESIGN CHOICE). -/
def composedPixel (s : State) (bank o x y : Nat) : Pixel :=
  (stackOf s bank o).foldl (layerOver s bank o x y) (fillPixel (precision s) (outWord s o 10))

/-! ## The Vitrine layer and depth (R386, R388, R415) -/

/-- What the Vitrine layer shows at a pixel: an image pixel with its alpha in effect, the fill, or nothing. -/
inductive VitPixel where
  | none
  | fill
  | image (px : Word) (al : Rat)
  deriving DecidableEq, Repr

/-- The Vitrine pixel of an output at a position (R382, R383, R388, R389). -/
def vitPixel (s : State) (o x y : Nat) : VitPixel :=
  let v := vitView s o
  let i := (x : Int) - v.x
  let j := (y : Int) - v.y
  if !v.on || decide (i < 0) || decide (j < 0) || decide ((v.w : Int) ≤ i) || decide ((v.h : Int) ≤ j) then .none
  else
    let shown (img : List Byte) (al : Rat) : VitPixel :=
      .image (imgPixel img (i.toNat / max 1 (v.w / max 1 (imgW img))) (j.toNat / max 1 (v.h / max 1 (imgH img)))) al
    match (vit s o).cond with
    | .content | .stale => match (vit s o).held with
      | some img => shown img ((v.alpha : Rat) / 1023)
      | none => .none
    | .safe => match if v.safeFill then none else (vit s o).heldSafe with
      | some img => shown img 1
      | none => .fill
    | .overridden => .fill
    | .off => .none
/-- The dither thresholds (Table 16-6). -/
def bayer (x y : Nat) : Nat := ([0, 8, 2, 10, 12, 4, 14, 6, 3, 11, 1, 9, 15, 7, 13, 5].getD (4 * (y % 4) + x % 4) 0)
/-- One component of `p` bits reduced to depth `depth` (R415). -/
def reduceDepth (p depth threshold v : Nat) : Nat :=
  if p ≤ depth then v
  else
    let k := p - depth
    min ((v + threshold * 2 ^ k / 16) / 2 ^ k) (2 ^ depth - 1)
/-- The threshold at a pixel: its place is moved by the frame's dither state where the dither is spatio-temporal. -/
def ditherAt (s : State) (o x y : Nat) : Nat :=
  let d := (out s o).dither
  if bit (word s (wingCode (out s o).wing) 0x17 o 1) 4 then bayer (x + bits d 1 0) (y + bits d 3 2) else bayer x y
/-- A composed component under a Vitrine component of 8 bits. -/
def vitBlend (p : Nat) (al alpha : Rat) (c d : Nat) : Nat := toCode p (blendOf false al alpha (reCode 8 p c : Rat) d / (2 ^ p - 1 : Nat))
/-- What an output sends at a pixel of its active area, three components at panel depth (stages 1 to 8 of Table 16-1). Log entry 111 (DESIGN CHOICE). -/
def outputPixel (s : State) (o x y : Nat) : Nat × Nat × Nat :=
  let p := precision s
  let depth := panelDepth s o
  let d := composedPixel s (wingCode (out s o).wing) o x y
  let send (v : Pixel) : Nat × Nat × Nat :=
    let r := reduceDepth p depth (ditherAt s o x y)
    (r v.c0, r v.c1, r v.c2)
  match vitPixel s o x y with
  | .none => send d
  | .fill => send (fillPixel p (outWord s o 10))
  | .image px al =>
    let alpha : Rat := (bits px 31 24 : Rat) / 255
    if alpha * al = 1 then (vitDepth depth (bits px 23 16), vitDepth depth (bits px 15 8), vitDepth depth (bits px 7 0))
    else send { c0 := vitBlend p al alpha (bits px 23 16) d.c0, c1 := vitBlend p al alpha (bits px 15 8) d.c1
                c2 := vitBlend p al alpha (bits px 7 0) d.c2 }
/-- A component as a Prenlink output sends it in format 0x01: a 6-bit component in bits 7:2 with its top two bits repeated (R415). -/
def linkComponent (depth v : Nat) : Nat := if depth = 6 then 4 * v + v / 16 else v

end Sys2Proof.Machine
end

