-- ==== Sys2Proof/Machine/Latency.lean ====
section
/-! DEFINITION. The exact counts of chapter 26 and Tables 19-4 and 19-5: the stage constants, the read points and slack of the line-locked
path, the lock delay, the launch instants of pixels, and the conditions under which the counts hold. The model has no tick for each pixel:
these say, of a state and of the instants a path starts from, how many cycles of which clock it takes. -/

namespace Sys2Proof.Machine
open Sys2Proof

/-! ## Stage constants (Table 26-1) -/

/-- CLK_CTL cycles from the counting edge of an immediate command's arrival to its effect (R76, R605). -/
def commandCycles : Nat := 2048
/-- CLK_CTL cycles from a raise's counting edge to its visibility, and from there to the interrupt pin (R577, R606). -/
def raiseCycles : Nat × Nat := (2, 1)
/-- The output serializer in output pixel clocks: 36 on Prenlink, 44 on eDP. -/
def serializer (s : State) (o : Nat) : Nat := if (outPort s o).1 = 0 then 36 else 44

/-! ## The output side (R595, R596, R602) -/

/-- Output pixel clocks from the frame start to pixel (x, y) leaving the hold stage. -/
def pixelLeaves (s : State) (o x y : Nat) : Nat := y * hTotal (word s) o + x
/-- From the frame start to the pixel entering the hold-stage queue; negative before the frame start. -/
def pixelEnters (s : State) (o x y : Nat) : Int := (pixelLeaves s o x y : Int) - queueClocks
/-- From the frame start to the pixel's launch instant. -/
def pixelLaunch (s : State) (o x y : Nat) : Nat := pixelLeaves s o x y + serializer s o
/-- On the frame-store path, output pixel clocks from the commit tick that selects a frame to a pixel's launch instant (R602). -/
def storeLaunch (s : State) (o x y : Nat) : Nat := blankingClocks s o + pixelLaunch s o x y
/-- The fewest and the most unit intervals of a Prenlink port's framing, from the launch instant to the pads. -/
def framingUi (s : State) (p : Nat) : Nat × Nat := if (plk s p).rs then (2 * 258, 10 * 258) else (2 * 258, 4 * 258)
/-- The fewest and the most link symbol periods of an eDP port's framing. -/
def framingSymbols : Nat × Nat := (2, 66)
/-- The fewest and the most destination clocks of a rate-adapting queue, by its input line in destination clocks (R604). -/
def adaptingClocks (inputLine : Nat) : Nat × Nat := (8, 8 + 2 * inputLine)

/-! ## The line-locked path (R597 to R599) -/

/-- The read point R(y) of a line, in output pixel clocks from the frame start. -/
def readPoint (s : State) (bank n o : Nat) (f : Frame) (y : Nat) : Int :=
  ((y * hTotal (word s) o : Nat) : Int) - queueClocks - compositionClocks s bank n o f
/-- The deadline of the line's job: its first active pixel enters the hold-stage queue. -/
def lineDeadline (s : State) (bank n o : Nat) (f : Frame) (y : Nat) : Int := readPoint s bank n o f y + compositionClocks s bank n o f
/-- A needed line is present: its last pixel left the feed queue on an edge at or before the read point, and the line is still among the 8
most recent that left it. -/
def linePresent (exit : Nat → Option Int) (feed : List Nat) (read : Int) (line : Nat) : Bool :=
  match exit line with
  | some e => decide (e ≤ read) && (feed.take 8).contains line
  | none => false
/-- An output line is absent where any needed line is not present. -/
def lineAbsent (s : State) (bank n o : Nat) (f : Frame) (exit : Nat → Option Int) (feed : List Nat) (y : Nat) : Bool :=
  (neededLines s bank n f (y - bits (lyrWord s bank n 4) 31 16)).any fun l => !linePresent exit feed (readPoint s bank n o f y) l
/-- The slack S(y), from the exit edge of the last needed line's last pixel. -/
def slack (s : State) (bank n o : Nat) (f : Frame) (exit : Int) (y : Nat) : Int := readPoint s bank n o f y - exit
/-- The line latency: input pixel clocks, then output pixel clocks, besides the crossing phase of the feed queue (R598). -/
def lineLatency (s : State) (bank n o k inputLine : Nat) (f : Frame) (sl : Int) : Nat × Int :=
  (frontEnd s k inputLine, queueClocks + sl + compositionClocks s bank n o f + queueClocks + serializer s o)
/-- While the steering holds, the slack of line `y` of the anchor's rectangle, from the exits of its last needed line and the anchor's. -/
def lockedSlack (s : State) (bank o n y : Nat) (exitY exitA : Int) : Int :=
  (outWord s o 0x0B).toNat + ((y : Int) - bits (lyrWord s bank n 4) 31 16) * hTotal (word s) o - (exitY - exitA)

/-! ## When the counts hold (Table 26-2) -/

/-- The conditions on the output side: its synthesizer locked with no ramp or hop, RUNNING and in no gap, and the
queue into the hold stage centred since before this frame (R22). -/
def outputCountsHold (s : State) (o : Nat) : Bool :=
  let x := out s o
  let y := syn s (clkSyn (outWord s o 3))
  let hopping := match y.task with | .hop _ | .fallback _ => true | _ => y.pendHop.isSome
  decide (x.st = .running) && !x.gap && decide (x.queue = some 8) && !x.recentred && y.locked && !y.gated && !y.ramping && !hopping
/-- The conditions on the input side: a Prenlink port in RUNNING at a step that carries its streams, and CAP_LOCKED
with the queue re-centred on the line-locked path (R21, R22). -/
def inputCountsHold (s : State) (k : Nat) (locked : Bool) : Bool :=
  let port := match capSource s k with
    | (1, p, _) => decide ((plk s p).st = 8) && !portShort s p
    | _ => true
  port && (!locked || ((capAt s k).locked && (capAt s k).genlocked))
/-- No blanking of the frame in progress took some of a native phase step, where the path is line-locked (R199). -/
def noStepHere (s : State) (o : Nat) : Bool := !(lineLocked s o && (out s o).stepFrame)
/-- Every condition of Table 26-2 that the state holds; while one fails the Ontor gives no latency figure for the path (R601). -/
def countsHold (s : State) (o k : Nat) : Bool := outputCountsHold s o && noStepHere s o && inputCountsHold s k (lineLocked s o)

/-! ## Audio (Tables 19-4 and 19-5) -/

/-- The paths of Table 19-5. -/
inductive AudioPath where
  | tdmToTdm (buses : Nat)
  | tdmConverted
  | stampedToTdm (buses : Nat)
  | unstampedToTdm
  | tdmToWindow
  deriving DecidableEq, Repr
/-- The latency of an audio path: input sample periods, output sample periods, and nanoseconds added. -/
def audioLatency : AudioPath → Nat × Nat × Nat
  | .tdmToTdm b => (0, 3 + 2 * b, 0)
  | .tdmConverted => (1, 34, 0)
  | .stampedToTdm b => (0, 34 + 2 * b, 0)
  | .unstampedToTdm => (64, 34, 0)
  | .tdmToWindow => (2, 0, 1000000)

end Sys2Proof.Machine
end

