-- ==== Sys2Proof/Machine/Packets.lean ====
section
/-! DEFINITION. The packet of a command as a host writes it (Tables 3-4 and 3-5, R72, and the parameter columns of chapter 04): the other
direction of `readPacket`. -/

namespace Sys2Proof.Machine
open Sys2Proof

/-- The two bytes of a number. -/
def halfBytes (h : Half) : List Byte := leBytes 2 h.toNat
/-- The three bytes of an object address. -/
def addrBytes (a : Addr) : List Byte := leBytes 3 a.toNat
/-- The two bytes of a unit reference (R94). -/
def unitBytes (u : UnitRef) : List Byte := [u.inst, u.bank]
/-- A bit as a byte. -/
def flagByte (b : Bool) : Byte := BitVec.ofNat 8 (b2n b)
/-- A number below 256 as a byte. -/
def countByte (n : Nat) : Byte := BitVec.ofNat 8 n

/-- The parameters of a command in its packet, with its opcode; none for a row whose command a packet carries under another row's name,
and for a happening. -/
def packetOf : Instr → Option (Byte × Req × List Byte)
  | .nop q => some (0x00#8, q, [])
  | .identify q => some (0x01#8, q, [])
  | .claim q c f n b force => some (0x02#8, q, [c, f, n, b, flagByte force, 0#8, 0#8, 0#8])
  | .release q c f n b force => some (0x03#8, q, [c, f, n, b, flagByte force, 0#8, 0#8, 0#8])
  | .owners q c f n b => some (0x04#8, q, [c, f, n, b])
  | .sysReset q sc conf => some (0x05#8, q, [sc, 0#8, 0#8, 0#8] ++ wordBytes conf)
  | .read q a b => some (0x10#8, q, addrBytes a ++ [b])
  | .write q a b v => some (0x11#8, q, addrBytes a ++ [b] ++ wordBytes v)
  | .writeMasked q a b m v => some (0x12#8, q, addrBytes a ++ [b] ++ wordBytes m ++ wordBytes v)
  | .blockRead q a b n => some (0x13#8, q, addrBytes a ++ [b, n, 0#8, 0#8, 0#8])
  | .blockWrite q a b vs => some (0x14#8, q, addrBytes a ++ [b, countByte vs.length, 0#8, 0#8, 0#8] ++ wordsBytes vs)
  | .modeChange q t tr o => some (0x20#8, q, [t, tr, o, 0#8])
  | .modeCancel q => some (0x21#8, q, [])
  | .imageOpen q k m n => some (0x22#8, q, [k, m, 0#8, 0#8] ++ wordBytes n)
  | .imageData q off d => some (0x23#8, q, wordBytes off ++ d)
  | .imageClose q act => some (0x24#8, q, [act, 0#8, 0#8, 0#8])
  | .imageStatus q => some (0x25#8, q, [])
  | .routeSwitch q r k p => some (0x30#8, q, unitBytes r ++ [k, 0#8] ++ unitBytes p)
  | .flip q l f a => some (0x31#8, q, unitBytes l ++ halfBytes f ++ leBytes 8 a.toNat)
  | .groupFlip q f es => some (0x32#8, q, [countByte es.length, 0#8] ++ halfBytes f
      ++ es.flatMap fun e => unitBytes e.layer ++ [0#8, 0#8] ++ leBytes 8 e.surf.toNat)
  | .fenceSignal q f => some (0x33#8, q, halfBytes f ++ [0#8, 0#8])
  | .outputStart q o w => some (0x34#8, q, [o, w, 0#8, 0#8])
  | .outputStop q o f => some (0x35#8, q, [o, flagByte f, 0#8, 0#8])
  | .captureStart q p => some (0x36#8, q, unitBytes p ++ [0#8, 0#8])
  | .captureStop q p f => some (0x37#8, q, unitBytes p ++ [flagByte f, 0#8])
  | .outputAssign q o w => some (0x38#8, q, [o, w, 0#8, 0#8])
  | .tbRead q => some (0x40#8, q, [])
  | .tbSet q ns fr => some (0x41#8, q, leBytes 8 ns.toNat ++ halfBytes fr ++ [0#8, 0#8])
  | .schedCancel q e t => some (0x42#8, q, halfBytes e ++ [t, 0#8])
  | .schedList q f n => some (0x43#8, q, [f, n, 0#8, 0#8])
  | .trigger q p c w => some (0x44#8, q, [p, c, 0#8, 0#8] ++ wordBytes w)
  | .refSelect q c => some (0x50#8, q, [c, 0#8, 0#8, 0#8])
  | .refRank q cs => some (0x51#8, q, [countByte cs.length, 0#8, 0#8, 0#8] ++ cs)
  | .fsyncRealign q m => some (0x52#8, q, [m, 0#8, 0#8, 0#8])
  | .synHop q n m w => some (0x53#8, q, [n, m, 0#8, 0#8] ++ wordBytes w)
  | .synBandStore q n m => some (0x54#8, q, [n, m, 0#8, 0#8])
  | .synRampLoad q n g => some (0x55#8, q, [n, countByte g.length, 0#8, 0#8] ++ g.flatMap fun e => wordBytes e.slope ++ wordBytes e.dur)
  | .synRampStart q n => some (0x56#8, q, [n, 0#8, 0#8, 0#8])
  | .linkUp q p r st c => some (0x60#8, q, [p, r, st, c])
  | .linkDown q p f => some (0x61#8, q, [p, flagByte f, 0#8, 0#8])
  | .linkPower q p d st => some (0x62#8, q, [p, d, st, 0#8])
  | .linkStatus q p => some (0x63#8, q, [p, 0#8, 0#8, 0#8])
  | .eyeScan q p l d => some (0x64#8, q, [p, l, d, 0#8])
  | .linkLoop q p l r => some (0x65#8, q, [p, l, r, 0#8])
  | .audXbar q ramp es => some (0x70#8, q, leBytes 2 es.length ++ [flagByte ramp, 0#8]
      ++ es.flatMap fun e => halfBytes e.dst ++ halfBytes e.src ++ halfBytes e.gain ++ [0#8, 0#8])
  | .meshData q m f es => some (0x80#8, q, unitBytes m ++ [0#8, 0#8] ++ wordBytes f ++ wordsBytes es)
  | .meshCommit q ms => some (0x81#8, q, [countByte ms.length, 0#8, 0#8, 0#8] ++ ms.flatMap unitBytes)
  | .meshFromCapture q m p f n ev cm => some (0x82#8, q, unitBytes m ++ unitBytes p ++ wordBytes f ++ wordBytes n
      ++ [BitVec.ofNat 8 (b2n ev + 2 * b2n cm), 0#8, 0#8, 0#8])
  | .vitData q n off d => some (0x84#8, q, [n, 0#8, 0#8, 0#8] ++ wordBytes off ++ d)
  | .vitCommit q n l c => some (0x85#8, q, [n, 0#8, 0#8, 0#8] ++ wordBytes l ++ wordBytes c)
  | .ldgRead q p off n => some (0x90#8, q, halfBytes p ++ [off, 0#8] ++ halfBytes n ++ [0#8, 0#8])
  | .ldgWrite q p off d => some (0x91#8, q, halfBytes p ++ [off, 0#8] ++ d)
  | .ldgMaint q act r p => some (0x92#8, q, [act, r] ++ halfBytes p)
  | .ldgWear q f n => some (0x93#8, q, halfBytes f ++ halfBytes n)
  | .vltSecretWrite q k sec => some (0xA0#8, q, [k, 0#8, 0#8, 0#8] ++ sec)
  | .vltDerive q k ctx => some (0xA1#8, q, [k, 0#8, 0#8, 0#8] ++ ctx)
  | .vltChallenge q n => some (0xA2#8, q, n)
  | .vltInvalidate q k => some (0xA3#8, q, [k, 0#8, 0#8, 0#8])
  | .vltStatus q => some (0xA4#8, q, [])
  | .thmMeasure q m => some (0xB0#8, q, halfBytes m ++ [0#8, 0#8])
  | .selftest q c t u => some (0xC0#8, q, [c, t] ++ halfBytes u ++ [0#8, 0#8, 0#8, 0#8])
  | .selftestAbort q t => some (0xC1#8, q, [t, 0#8, 0#8, 0#8])
  | .faultLogRead q f n => some (0xC2#8, q, halfBytes f ++ halfBytes n)
  | .healthReport q w => some (0xC3#8, q, [w, 0#8, 0#8, 0#8])
  | .failoverForce q => some (0xC4#8, q, [])
  | .evtRead q n => some (0xD0#8, q, [n, 0#8, 0#8, 0#8])
  | .evtAck q m => some (0xD1#8, q, m)
  | _ => none

/-- The flags of a packet (Table 3-5). -/
def packetFlags (q : Req) : Byte := BitVec.ofNat 8 (b2n q.sched + 2 * b2n q.priv + 4 * b2n q.reply + 8 * b2n q.auth)
/-- The launch value at the front of a scheduled packet's payload. -/
def launchBytes (q : Req) : List Byte := if q.sched then leBytes 8 q.launch.toNat else []
/-- The payload: the launch value, the parameters, the MAC. -/
def packetPayload (q : Req) (ps : List Byte) : List Byte := launchBytes q ++ ps ++ q.mac
/-- The first seven bytes of a packet. -/
def packetLead (op : Byte) (q : Req) (ps : List Byte) : List Byte :=
  [0xA5#8, op, q.tag, packetFlags q] ++ leBytes 2 (packetPayload q ps).length ++ [0#8]
/-- The eight header bytes. -/
def packetHeader (op : Byte) (q : Req) (ps : List Byte) : List Byte := packetLead op q ps ++ [crc8 (packetLead op q ps)]
/-- What a MAC is computed over beside the counter: the header and the payload before the MAC (R72). -/
def packetHead (op : Byte) (q : Req) (ps : List Byte) : List Byte := packetHeader op q ps ++ launchBytes q ++ ps
/-- The bytes of a packet. -/
def packetBytes (op : Byte) (q : Req) (ps : List Byte) : List Byte :=
  packetHeader op q ps ++ packetPayload q ps ++ leBytes 4 (crc32c (packetPayload q ps)).toNat

end Sys2Proof.Machine
end

