-- ==== Sys2Proof/Safety.lean ====
section
/-! DEFINITION. The words that statements about this block are made of: when a command is taken, what it leaves when it has run,
and what a run of commands keeps. -/

namespace Sys2Proof
open Machine

/-! ## A command that came alone, and is taken -/

/-- The state the checks of steps 11 to 14 see: the command's credit is in use, and a verified MAC has counted (R70 to R73, R75). -/
def admitted (q : Req) (o : Op) (s : State) : State := (earlySteps (holdCredit s q.port true) q o).1

/-- An immediate command that is alone on its tick and that no step of Table 3-10 refuses: the ports see commands (R624), steps 6 to
10 pass, its own checks pass (steps 11 to 14), and no orderly shutdown stops it (R538). -/
def taken (q : Req) (o : Op) (s : State) : Bool :=
  portsAwake s && q.tick.isNone && !q.sched && (earlySteps (holdCredit s q.port true) q o).2.isNone
    && (o.check (admitted q o s)).isNone && (shutRej (admitted q o s) o).isNone

/-- What a command leaves that answers at once: its effect `x` and its reply, then its credit back and its Placard (R74, R75), or
KEY_REVOKED where its own effect revoked the key that authenticated it (R568). `key` is the working key before the effect. -/
def finished (q : Req) (opcode : Byte) (key : Option (List Byte)) (x : State × Reply) : State :=
  let s := holdCredit x.1 q.port false
  settle (settleKey (if q.auth && decide (q.port ≠ .cp1) && key.isSome && decide (s.vault.key ≠ key)
    then formPlacard (tellRevoked s q opcode) q opcode .keyRevoked []
    else formPlacard s q opcode x.2.st x.2.data))

/-- What a long-running command leaves when it starts (R97): the run `j` is on the list, the effect `run` is done, the credit is the
run's, and no Placard is formed yet. -/
def started (q : Req) (opcode : Byte) (j : Job) (run : State → State) (s : State) : State :=
  settle (settleKey (holdCredit (run { s with runs := s.runs ++ [{ req := q, opcode := opcode, job := j, launched := false, key := s.vault.key }] })
    q.port false))

/-- A command completes at once: wherever it is taken, it answers a next state, with the effect `f` on the admitted state, its reply, and
its Placard. -/
def Completes (c : Instr) (q : Req) (o : Op) (f : State → State × Reply) : Prop :=
  ∀ s, taken q o s = true → exec c s = .next (finished q o.opcode (admitted q o s).vault.key (f (admitted q o s)))
/-- A long-running command starts: wherever it is taken, it answers a next state in which the run `j` has begun and the effect `f` of
its start is done. -/
def Starts (c : Instr) (q : Req) (o : Op) (j : Job) (f : State → State) : Prop :=
  ∀ s, taken q o s = true → exec c s = .next (started q o.opcode j f (admitted q o s))

/-- What a refused command leaves: what the refusal records, the credit back, and the refusal's Placard. -/
def refusedWith (q : Req) (o : Op) (s : State) (r : Rej) : State :=
  let s := rejEvent (o.refused r s) q.port r
  settle (formPlacard (holdCredit s q.port false) q o.opcode r.status (refusalData s q.port r))

/-- What a scheduled command leaves that the schedule table takes: its entry, and a SCHEDULED Placard with the entry's number (R80). -/
def scheduled (c : Instr) (q : Req) (o : Op) (s : State) : State :=
  let x := placeEntry s { cmd := c, q := q, op := o }
  settle (formPlacard (holdCredit x.1 q.port false) q o.opcode .scheduled [BitVec.ofNat 8 x.2, 0#8, 0#8, 0#8])

/-- What a late command leaves that answers at once (R80, R165): its effect, a late launch counted with event 196, SCHEDULED with the late
flag, and a second Placard where its reply carries data. -/
def finishedLate (q : Req) (o : Op) (key : Option (List Byte)) (x : State × Reply) : State :=
  let s := holdCredit (lateLaunch x.1 65535 q 0) q.port false
  settle (settleKey (if q.auth && decide (q.port ≠ .cp1) && key.isSome && decide (s.vault.key ≠ key)
    then formPlacard (tellRevoked s q o.opcode) q o.opcode .keyRevoked []
    else
      let t := formPlacard s q o.opcode .scheduled [0xFF#8, 0xFF#8, 0x01#8, 0x00#8]
      if o.hasData then formLaunchPlacard t q o.opcode x.2.st x.2.data else t))
/-- What a late long-running command leaves when it starts: its run answers as a launch does (R80). -/
def startedLate (q : Req) (o : Op) (j : Job) (s : State) : State :=
  let t := (o.run { s with runs := s.runs ++ [{ req := q, opcode := o.opcode, job := j, launched := true, key := s.vault.key }] }).1
  settle (settleKey (formPlacard (holdCredit (lateLaunch t 65535 q 0) q.port false) q o.opcode .scheduled [0xFF#8, 0xFF#8, 0x01#8, 0x00#8]))

/-! ## What a run of commands keeps -/

/-- The table of owners is in canonical form: instances in rising order, and none listed that is free. -/
def ownersCanonical (s : State) : Bool := twf (fun _ => none) s.owners
/-- The commands that may change an instance's owner: CLAIM, RELEASE, LAUNCH, and what resets the device. -/
def changesOwners : Instr → Bool
  | .claim .. | .release .. | .launch => true
  | .warmReset | .curatorWatchdog | .porstNAssert | .atrSupplyFault | .powerLoss _ | .thermalTrip | .tamper | .coreClockLoss _
  | .lockstepMismatch _ => true
  | _ => false

/-- The commands that only ask: their reply is read from the state, and they change no unit. -/
def asksOnly : Instr → Bool
  | .nop _ | .identify _ | .owners .. | .read .. | .blockRead .. | .imageStatus _ | .tbRead _ | .schedList .. | .linkStatus .. | .ldgRead ..
  | .ldgWear .. | .vltStatus _ | .faultLogRead .. | .healthReport .. => true
  | _ => false

/-! ## Bits of a compressed tile (R449) -/

/-- The number that bits spell, the least significant first. -/
def bitsNat : List Bool → Nat
  | [] => 0
  | b :: r => b.toNat + 2 * bitsNat r
/-- Bits packed from the least significant bit of byte 0 upwards, the last byte filled with zeros. -/
def packBits (l : List Bool) : List Byte := (List.range ((l.length + 7) / 8)).map fun i => BitVec.ofNat 8 (bitsNat ((l.drop (8 * i)).take 8))

end Sys2Proof
end

