-- ==== Sys2Proof/WellFormed.lean ====
section
/-! DEFINITION. Which terms are commands at all: requests that a packet can carry, lists whose lengths their packets can hold (R91,
Table 3-4), and happenings whose numbers their fields can hold. A well-formed command may still be refused by the Ontor. -/

namespace Sys2Proof

/-- A number lies in a range. -/
def between (lo hi n : Nat) : Bool := decide (lo ≤ n) && decide (n ≤ hi)
/-- The ports with transactions (R63). -/
def carries : Port → Bool
  | .cp0 | .cp1 | .cp3 => true
  | _ => false
/-- A request that a packet can carry, or that an internal requester of R14 puts into the command queue: a launch value only when scheduled, and
a MAC of 16 bytes when authenticated (Tables 3-4 and 3-5). -/
def Req.wf (q : Req) : Bool :=
  (q.sched || decide (q.launch = 0#64)) && decide (q.mac.length = if q.auth then 16 else 0)

/-- A well-formed command. -/
def Instr.wf : Instr → Bool
  | .writePacket port _ => carries port
  | .readPlacard port _ => carries port
  | .readPortStatus port _ => carries port
  | .unknownTransaction port code => carries port && !([0x02#8, 0x0B#8, 0x05#8].contains code)
  | .cp3SclTimeout _ => true
  | .cp2PacketTimeout => true
  | .cp2LinkRetry => true
  | .buildTimeout => true
  | .nop q => q.wf
  | .identify q => q.wf
  | .claim q _ _ _ _ _ => q.wf
  | .release q _ _ _ _ _ => q.wf
  | .owners q _ _ _ _ => q.wf
  | .sysReset q _ _ => q.wf
  | .warmReset => true
  | .read q _ _ => q.wf
  | .write q _ _ _ => q.wf
  | .writeMasked q _ _ _ _ => q.wf
  | .blockRead q _ _ _ => q.wf
  | .blockWrite q _ _ values => q.wf && between 0 255 values.length
  | .registerWrite q _ _ _ => q.wf
  | .prsWrite q _ _ => q.wf
  | .synEnWrite q _ _ => q.wf
  | .synFreqWrite q _ _ => q.wf
  | .synDitherSeedWrite q _ _ => q.wf
  | .synSpreadWrite q _ _ _ => q.wf
  | .refConfigWrite q _ _ => q.wf
  | .refRankWordWrite q _ _ => q.wf
  | .clrTblWinWrite q _ _ _ => q.wf
  | .w1cClear q _ _ _ => q.wf
  | .capModeWrite q _ _ => q.wf
  | .evtCfgWrite q _ _ => q.wf
  | .audTdmCfgWrite q _ _ => q.wf
  | .audSrcInWrite q _ _ => q.wf
  | .modeChange q _ _ _ => q.wf
  | .modeCancel q => q.wf
  | .modeWakeWaitEnd => true
  | .wingReady _ => true
  | .wakeTimeout _ => true
  | .imageOpen q _ _ _ => q.wf
  | .imageData q _ data => q.wf && between 1 4092 data.length
  | .imageClose q _ => q.wf
  | .imageCloseComplete => true
  | .imageStatus q => q.wf
  | .routeSwitch q _ _ _ => q.wf
  | .flip q _ _ _ => q.wf
  | .groupFlip q _ entries => q.wf && between 0 255 entries.length
  | .fenceSignal q _ => q.wf
  | .outputStart q _ _ => q.wf
  | .outputStartInstant _ => true
  | .outputStop q _ _ => q.wf
  | .outputAssign q _ _ => q.wf
  | .captureStart q _ => q.wf
  | .captureStop q _ _ => q.wf
  | .tbRead q => q.wf
  | .tbSet q _ _ => q.wf
  | .schedCancel q _ _ => q.wf
  | .schedList q _ _ => q.wf
  | .trigger q _ _ _ => q.wf
  | .launch => true
  | .triggerDeparture _ _ => true
  | .refSelect q _ => q.wf
  | .refRank q cands => q.wf && between 0 255 cands.length
  | .fsyncRealign q _ => q.wf
  | .synHop q _ _ _ => q.wf
  | .synBandStore q _ _ => q.wf
  | .synBandStoreComplete _ => true
  | .synRampLoad q _ segs => q.wf && between 0 255 segs.length
  | .synRampStart q _ => q.wf
  | .rampStep _ => true
  | .synLockAcquired _ _ _ => true
  | .synUngate _ => true
  | .synSearchTimeout _ => true
  | .synLossOfLock _ => true
  | .coreClockLoss _ => true
  | .linkUp q _ _ _ _ => q.wf
  | .linkDown q _ _ => q.wf
  | .linkPower q _ _ _ => q.wf
  | .linkStatus q _ => q.wf
  | .eyeScan q _ _ _ => q.wf
  | .eyeScanComplete _ counts => between 4096 4096 counts.length
  | .linkLoop q _ _ _ => q.wf
  | .plkDetectClock _ => true
  | .plkLaneLock _ _ => true
  | .plkLaneLockLost _ _ _ => true
  | .plkAlignTimeout _ => true
  | .capability _ _ => true
  | .capabilityResend _ => true
  | .capabilityTimeout _ => true
  | .plkStepTimeout _ => true
  | .plkTrainTimeout _ => true
  | .plkVerifyEnd _ _ => true
  | .plkFallbackTimeout _ => true
  | .plkRecoverTimeout _ => true
  | .plkClockLost _ => true
  | .heartbeatTimeout _ => true
  | .backoffEnd _ => true
  | .plkDrainTimeout _ => true
  | .heartbeatSend _ => true
  | .heartbeat _ _ => true
  | .videoLine _ _ _ => true
  | .tile _ _ _ => true
  | .audio _ _ => true
  | .fence _ _ => true
  | .marker _ _ _ _ _ => true
  | .cp2Command _ m => between 0 256 m.data.length
  | .cp2Placard _ => true
  | .ack _ _ => true
  | .ackTimer _ => true
  | .retransmitTimeout _ => true
  | .urgent _ m => between 0 256 m.data.length
  | .power _ m => between 0 256 m.data.length
  | .training _ m => between 0 256 m.data.length
  | .endOfLink _ m => between 0 256 m.data.length
  | .capabilityAck _ m => between 0 256 m.data.length
  | .failure _ m => between 0 256 m.data.length
  | .beacon _ _ => true
  | .powerRequestTimeout _ => true
  | .wakeTimeoutPlk _ => true
  | .trafficIdleReturn _ _ => true
  | .plkErrorWindowEnd _ _ => true
  | .auxRequest _ _ addr _ len _ => between 0 1048575 addr && between 0 16 len
  | .dpLinkTraining _ _ _ => true
  | .dpLinkLoss _ => true
  | .sidebandMessage _ _ => true
  | .msa _ _ _ => true
  | .audioSdp _ _ _ _ _ _ _ => true
  | .fenceSdp _ _ _ => true
  | .edpHpdSettled _ _ => true
  | .edpTrainingDone _ _ => true
  | .edpIrqHpd _ _ => true
  | .edpPanelLoss _ => true
  | .csiFrameStart _ _ _ => true
  | .csiFrameEnd _ _ _ _ => true
  | .csiLongPacket _ _ _ _ dtype count _ => between 0 63 dtype && between 0 65535 count
  | .csiUlpsEntry _ => true
  | .sourceLossTimeout _ => true
  | .fillComplete _ => true
  | .commitTick _ _ => true
  | .switchWaitBound _ _ _ => true
  | .lockPoint _ _ => true
  | .jobComplete _ _ _ _ _ _ _ _ => true
  | .jobDeadlineMiss _ _ _ _ _ => true
  | .tileRowRead _ _ _ _ => true
  | .recomposedTileRead _ _ _ _ _ => true
  | .audXbar q _ entries => q.wf && between 0 511 entries.length
  | .xbarChangeBoundary => true
  | .tdmPortStart _ => true
  | .tdmPortStop _ => true
  | .converterLock _ => true
  | .converterRatioMeasure _ _ => true
  | .meshData q _ _ entries => q.wf && between 0 1022 entries.length
  | .meshCommit q meshes => q.wf && between 0 255 meshes.length
  | .meshFromCapture q _ _ _ _ _ _ => q.wf
  | .bulkTransferComplete => true
  | .transactionTimeout _ _ _ => true
  | .vitData q _ _ data => q.wf && between 0 4088 data.length
  | .vitCommit q _ _ _ => q.wf
  | .vitCommitComplete _ => true
  | .ldgRead q _ _ _ => q.wf
  | .ldgWrite q _ _ data => q.wf && between 1 256 data.length
  | .ldgMaint q _ _ _ => q.wf
  | .ldgMaintComplete => true
  | .ldgWear q _ _ => q.wf
  | .ldgProgramComplete _ => true
  | .vltSecretWrite q _ secret => q.wf && between 32 32 secret.length
  | .vltDerive q _ ctx => q.wf && between 16 16 ctx.length
  | .vltDeriveComplete => true
  | .vltChallenge q nonce => q.wf && between 16 16 nonce.length
  | .vltChallengeComplete => true
  | .vltInvalidate q _ => q.wf
  | .vltStatus q => q.wf
  | .tamper => true
  | .thmMeasure q _ => q.wf
  | .thermalWatch => true
  | .measurementComplete _ => true
  | .shutdownStep2 _ => true
  | .shutdownStep4 => true
  | .thermalTrip => true
  | .selftest q _ _ _ => q.wf
  | .selftestComplete _ _ => true
  | .selftestAbort q _ => q.wf
  | .faultLogRead q _ _ => q.wf
  | .healthReport q _ => q.wf
  | .failoverForce q => q.wf
  | .evtRead q _ => q.wf
  | .evtAck q mask => q.wf && between 32 32 mask.length
  | .wingFault _ _ => true
  | .wingSupplyFault _ => true
  | .giveUp _ _ => true
  | .takeover _ => true
  | .tileCompare _ _ _ _ => true
  | .arbitrationResult _ _ _ _ => true
  | .readmissionMonitorClear _ => true
  | .readmissionMonitorTimeout _ => true
  | .readmissionTestDone _ _ => true
  | .lockstepMismatch _ => true
  | .pairBackInService _ => true
  | .curatorWatchdog => true
  | .refPulse _ _ => true
  | .refFreqMeasurement _ _ => true
  | .refActivityLost _ => true
  | .refQualified _ => true
  | .dpllComparison _ => true
  | .holdoverIntervalRecord _ => true
  | .acquireAlarm => true
  | .fsyncPulse _ _ => true
  | .tbPpsPulse _ => true
  | .mr4RefreshPoll _ _ _ => true
  | .memoryTrainingComplete _ _ gib => between 0 31 gib
  | .porstNAssert => true
  | .powerLoss _ => true
  | .atrSupplyFault => true
  | .bootStart _ _ _ => true
  | .flashLoadComplete _ _ => true
  | .flashLoadRetry => true
  | .bootModeApply => true
  | .sampleBoundary _ _ _ => true
  | .outputLineBoundary _ _ => true
  | .vbIdTransition _ _ _ _ => true
  | .coreClockRegained _ => true
  | .synHopLockTimeout _ => true
  | .equaliserTrainingDone _ => true

end Sys2Proof
end

