-- ==== Sys2Proof/Certificates/Slice0/Obligations.lean ====
section
/-! DEFINITION. The statements for the provers. -/

open Sys2Proof Sys2Proof.Machine

/-! ## The commands of the opcode table, by family: each completes where Table 3-10 takes it -/

/-- NOP, IDENTIFY, OWNERS and SYS_RESET (Table 4-3): NOP changes nothing, IDENTIFY answers its 24 bytes (Table 4-4), OWNERS answers one
byte for each instance, FF where it is free, and SYS_RESET arms a warm reset 1 ms later, unless one is armed already (R100). READ and BLOCK_READ answer the words in effect, four
bytes each, least significant byte first (Table 4-5). -/
def Obligations.SystemAndReadCommandsComplete : Prop :=
  ((∀ q, Completes (.nop q) q opNop done)
  ∧ (∀ q, Completes (.identify q) q opIdentify fun s => answer s (identityReply s))
  ∧ (∀ q cls first count bank, Completes (.owners q cls first count bank) q (opOwners cls first count bank) fun s =>
      answer s ((List.range count.toNat).map fun i => match ownerOf s bank.toNat cls.toNat (first.toNat + i) with
        | none => 0xFF#8
        | some p => BitVec.ofNat 8 (portCode p)))
  ∧ (∀ q scope confirm, Completes (.sysReset q scope confirm) q (opSysReset scope confirm) fun s =>
      done { s with boot := { s.boot with armed := some (s.boot.armed.getD (s.clk + 1000000)) } }))
  ∧ ((∀ q addr bank, Completes (.read q addr bank) q (opReadWords 0x10#8 addr bank 1) fun s =>
    answer s (wordsBytes [readWord s bank.toNat (clsOf addr) (instOf addr) (wordOf addr)]))
  ∧ (∀ q addr bank count, Completes (.blockRead q addr bank count) q (opReadWords 0x13#8 addr bank count.toNat) fun s =>
    answer s (wordsBytes ((List.range count.toNat).map fun i =>
      readWord s bank.toNat (clsOf addr) (instOf addr) (wordOf addr + i)))))

/-- Every writing row but PRS_WRITE places the words it names (R4, R131): WRITE, WRITE_MASKED, BLOCK_WRITE and the rows that write one
unit's word. A write that names a word of PRS goes on as a long-running command (R145 to R149). -/
def Obligations.WritesComplete : Prop :=
  (∀ q addr bank v, prsItems (writeItems addr bank.toNat [(allOnes, v)]) = [] →
    Completes (.write q addr bank v) q (opWrite q addr bank v) (fun s => done (writeNow s q.port (writeItems addr bank.toNat [(allOnes, v)])))
    ∧ Completes (.registerWrite q addr bank v) q (opWrite q addr bank v) (fun s => done (writeNow s q.port (writeItems addr bank.toNat [(allOnes, v)])))
    ∧ Completes (.w1cClear q addr bank v) q (opWrite q addr bank v) (fun s => done (writeNow s q.port (writeItems addr bank.toNat [(allOnes, v)]))))
  ∧ (∀ q addr bank v, prsItems (writeItems addr bank.toNat [(allOnes, v)]) ≠ [] →
    Starts (.write q addr bank v) q (opWrite q addr bank v)
      (.prs ((prsItems (writeItems addr bank.toNat [(allOnes, v)])).map fun x => (x.w, x.v))) (fun s => writeNow s q.port (writeItems addr bank.toNat [(allOnes, v)]))
    ∧ Starts (.registerWrite q addr bank v) q (opWrite q addr bank v)
      (.prs ((prsItems (writeItems addr bank.toNat [(allOnes, v)])).map fun x => (x.w, x.v))) (fun s => writeNow s q.port (writeItems addr bank.toNat [(allOnes, v)]))
    ∧ Starts (.w1cClear q addr bank v) q (opWrite q addr bank v)
      (.prs ((prsItems (writeItems addr bank.toNat [(allOnes, v)])).map fun x => (x.w, x.v))) (fun s => writeNow s q.port (writeItems addr bank.toNat [(allOnes, v)])))
  ∧ (∀ q addr bank m v, prsItems (writeItems addr bank.toNat [(m, v)]) = [] →
    Completes (.writeMasked q addr bank m v) q (opWriteMasked q addr bank m v) fun s => done (writeNow s q.port (writeItems addr bank.toNat [(m, v)])))
  ∧ (∀ q addr bank m v, prsItems (writeItems addr bank.toNat [(m, v)]) ≠ [] →
    Starts (.writeMasked q addr bank m v) q (opWriteMasked q addr bank m v)
      (.prs ((prsItems (writeItems addr bank.toNat [(m, v)])).map fun x => (x.w, x.v))) fun s => writeNow s q.port (writeItems addr bank.toNat [(m, v)]))
  ∧ (∀ q addr bank vs, prsItems (writeItems addr bank.toNat (vs.map fun v => (allOnes, v))) = [] →
    Completes (.blockWrite q addr bank vs) q (opBlockWrite q addr bank vs) fun s =>
      done (writeNow s q.port (writeItems addr bank.toNat (vs.map fun v => (allOnes, v)))))
  ∧ (∀ q addr bank vs, prsItems (writeItems addr bank.toNat (vs.map fun v => (allOnes, v))) ≠ [] →
    Starts (.blockWrite q addr bank vs) q (opBlockWrite q addr bank vs)
      (.prs ((prsItems (writeItems addr bank.toNat (vs.map fun v => (allOnes, v)))).map fun x => (x.w, x.v)))
      fun s => writeNow s q.port (writeItems addr bank.toNat (vs.map fun v => (allOnes, v))))

/-- The rows that write one unit's word are writes of that word: the synthesizers, the references, the colour-table window, the capture
mode, EVT_CFG, and the audio words. Each completes where the write of that word is taken. PRS_WRITE of a register starts its write of the
Ledger, and the new value is in effect from its instant (R145 to R148); of an RSV word it is a write of nothing (R3). -/
def Obligations.UnitWritesComplete : Prop :=
  ((∀ q n on, Completes (.synEnWrite q n on) q (opWriteMasked q (mkAddr 0x04 n.toNat 2) 0#8 1#32 (field 0 1 (b2n on))) fun s =>
    done (writeNow s q.port [⟨0, 4, n.toNat, 2, 1#32, field 0 1 (b2n on)⟩]))
  ∧ (∀ q n v, Completes (.synFreqWrite q n v) q (opWrite q (mkAddr 0x04 n.toNat 0) 0#8 v) fun s =>
    done (writeNow s q.port [⟨0, 4, n.toNat, 0, allOnes, v⟩]))
  ∧ (∀ q n v, Completes (.synDitherSeedWrite q n v) q (opWrite q (mkAddr 0x04 n.toNat 1) 0#8 v) fun s =>
    done (writeNow s q.port [⟨0, 4, n.toNat, 1, allOnes, v⟩]))
  ∧ (∀ q n m d, Completes (.synSpreadWrite q n m d) q
      (opWriteMasked q (mkAddr 0x04 n.toNat 2) 0#8 (maskOf 11 2) (field 2 2 m.toNat ||| field 4 8 d.toNat)) fun s =>
    done (writeNow s q.port [⟨0, 4, n.toNat, 2, maskOf 11 2, field 2 2 m.toNat ||| field 4 8 d.toNat⟩]))
  ∧ (∀ q c v, Completes (.refConfigWrite q c v) q (opWrite q (mkAddr 0x03 c.toNat 0) 0#8 v) fun s =>
    done (writeNow s q.port [⟨0, 3, c.toNat, 0, allOnes, v⟩]))
  ∧ (∀ q hi v, Completes (.refRankWordWrite q hi v) q (opWrite q (mkAddr 0x03 16 (if hi then 4 else 3)) 0#8 v) fun s =>
    done (writeNow s q.port [⟨0, 3, 16, if hi then 4 else 3, allOnes, v⟩]))
  ∧ (∀ q u w v, Completes (.clrTblWinWrite q u w v) q (opWrite q (mkAddr 0x17 u.inst.toNat w.toNat) u.bank v) fun s =>
    done (writeNow s q.port ((banksOf u.bank.toNat).map fun b => ⟨b, 0x17, u.inst.toNat, w.toNat, allOnes, v⟩)))
  ∧ (∀ q u v, Completes (.capModeWrite q u v) q (opWrite q (mkAddr 0x10 u.inst.toNat 2) u.bank v) fun s =>
    done (writeNow s q.port ((banksOf u.bank.toNat).map fun b => ⟨b, 0x10, u.inst.toNat, 2, allOnes, v⟩)))
  ∧ (∀ q n v, Completes (.evtCfgWrite q n v) q (opWrite q (mkAddr 0x25 0 n.toNat) 0#8 v) fun s =>
    done (writeNow s q.port [⟨0, 0x25, 0, n.toNat, allOnes, v⟩]))
  ∧ (∀ q p v, Completes (.audTdmCfgWrite q p v) q (opWrite q (mkAddr 0x1A p.toNat 0) 0#8 v) fun s =>
    done (writeNow s q.port [⟨0, 0x1A, p.toNat, 0, allOnes, v⟩]))
  ∧ (∀ q c v, Completes (.audSrcInWrite q c v) q (opWrite q (mkAddr 0x1A (8 + c.toNat) 0) 0#8 v) fun s =>
    done (writeNow s q.port (writeItems (mkAddr 0x1A (8 + c.toNat) 0) 0 [(allOnes, v)]))))
  ∧ ((∀ q w v, prsWord w.toNat = true → Starts (.prsWrite q w v) q (opWrite q (mkAddr 0x26 0 w.toNat) 0#8 v) (.prs [(w.toNat, v)])
    fun s => writeNow s q.port [⟨0, 0x26, 0, w.toNat, allOnes, v⟩])
  ∧ (∀ q w v, prsWord w.toNat = false → Completes (.prsWrite q w v) q (opWrite q (mkAddr 0x26 0 w.toNat) 0#8 v)
    fun s => done (writeNow s q.port [⟨0, 0x26, 0, w.toNat, allOnes, v⟩])))

/-- MODE_CHANGE, MODE_CANCEL and the image commands (chapter 02, Table 4-6). A MODE_CHANGE with trigger 1 waits for a frame boundary of
the named output; MODE_CANCEL drops the pending change; IMAGE_OPEN takes the staging area; IMAGE_DATA places its bytes; IMAGE_CLOSE starts
its checks; IMAGE_STATUS answers. -/
def Obligations.ModeAndImageCommandsComplete : Prop :=
  (∀ q target o, Completes (.modeChange q target 1#8 o) q (opModeChange q target 1#8 o) fun s =>
    done (beginChange s q target.toNat (.frame o.toNat)))
  ∧ (∀ q, Completes (.modeCancel q) q opModeCancel fun s => done (dropChange s))
  ∧ (∀ q k m n, Completes (.imageOpen q k m n) q (opImageOpen q k m n) fun s =>
    done { s with modes := { s.modes with build := some { port := q.port, kind := k.toNat, mode := m.toNat, total := n.toNat, bytes := [] } } })
  ∧ (∀ q off data, Completes (.imageData q off data) q (opImageData q off data) fun s => match s.modes.build with
    | some b => done (bulkPush { s with modes := { s.modes with build := some { b with bytes := patch b.bytes off.toNat data } } } q 0x23#8 [])
    | none => done s)
  ∧ (∀ q action, Starts (.imageClose q action) q (opImageClose q action) (.imageClose action.toNat) fun s => match s.modes.build with
    | some b => if b.port = q.port then s else releaseBuild s
    | none => s)
  ∧ (∀ q, Completes (.imageStatus q) q opImageStatus fun s => answer s (imageStatusReply s fun img => match newerCopy s img with
    | some (_, l) => imageId l
    | none => 0))

/-- ROUTE_SWITCH, FLIP, GROUP_FLIP and FENCE_SIGNAL (Table 4-7): the switch waits in the flip table, a flip joins its layer's set, the
flips of a group form one set, and a fence's latch is set or the sets bound to it are ready. OUTPUT_START, OUTPUT_STOP, OUTPUT_ASSIGN,
CAPTURE_START and CAPTURE_STOP (R109, R110, R433): a unit that already runs is left as it is by a start. -/
def Obligations.DisplayAndUnitCommandsComplete : Prop :=
  ((∀ q r kind pipe, Completes (.routeSwitch q r kind pipe) q (opRouteSwitch q r kind pipe) fun s =>
    done ((banksOf r.bank.toNat).foldl (fun s b => placeRoute (placeWs s b 0x11 r.inst.toNat 1 0x1FF#32 (switchWord kind pipe)) b r.inst.toNat) s))
  ∧ (∀ q r f a, Completes (.flip q r f a) q (opFlip q r f a) fun s => done (flipLayers s q (layerKeys r) (fenceOf f) a))
  ∧ (∀ q f es, Completes (.groupFlip q f es) q (opGroupFlip q f es) fun s =>
    let ks := es.flatMap fun e => layerKeys e.layer
    done (releaseSets (es.foldl (fun s e => (layerKeys e.layer).foldl (fun s k => placeFlip s k (fenceOf f) e.surf) s)
      (formSet (withdraw s ks) ks { isGroup := true, port := q.port, tag := q.tag }))))
  ∧ (∀ q f, Completes (.fenceSignal q f) q (opFenceSignal q f) fun s => done (signalFence s f.toNat 0 (portCode q.port))))
  ∧ ((∀ q o w, Completes (.outputStart q o w) q (opOutputStart q o w) fun s =>
    let n := o.toNat
    if (out s n).st ≠ .stopped then done s
    else
      let banks := if s.modes.cur = 2 then [0, 1] else [w.toNat]
      done (startOutput ((reserveRecords s n (recordBytes s (projected s) s.modes.cur n) banks).getD s) n
        (if s.modes.cur = 2 then activeWing s else wingOf w.toNat)))
  ∧ (∀ q o force, Completes (.outputStop q o force) q (opOutputStop q o force) fun s => done (stopOutput s o.toNat force))
  ∧ (∀ q o w, Completes (.outputAssign q o w) q (opOutputAssign q o w) fun s =>
    let n := o.toNat
    let t := wingOf w.toNat
    if (out s n).st = .stopped then done (setOut s n { out s n with wing := t })
    else if (out s n).wing = t ∧ (out s n).st ≠ .fill then done (setOut s n { out s n with assignTo := none })
    else
      let s := if (out s n).wing = t then s else (reserveRecords s n (recordBytes s (projected s) s.modes.cur n) [w.toNat]).getD s
      if timingRuns (out s n) then done (setOut s n { out s n with assignTo := some t }) else done (moveOutput s n t))
  ∧ (∀ q r, Completes (.captureStart q r) q (opCaptureStart q r) fun s => done (settleHpd ((pipeKeys r).foldl (fun s k =>
      if (capAt s k).st = 0 then capTo (setCap s k { capAt s k with det := none }) k 1 (some (0, 0)) else s) s)))
  ∧ (∀ q r force, Completes (.captureStop q r force) q (opCaptureStop q r force) fun s =>
    done ((pipeKeys r).foldl (fun s k => capStopNow s force k) s)))

/-- TB_READ, TB_SET, SCHED_CANCEL, SCHED_LIST and TRIGGER (chapter 06): TB_READ answers the count at its tick, TB_SET sets it,
SCHED_CANCEL frees the entry, and TRIGGER queues a trigger with its launch value. REF_SELECT, REF_RANK and FSYNC_REALIGN (chapter 07). -/
def Obligations.TimeAndReferenceCommandsComplete : Prop :=
  ((∀ q, Completes (.tbRead q) q opTbRead fun s => answer s (leBytes 2 s.tb.frac.toNat ++ leBytes 8 s.tb.ns.toNat))
  ∧ (∀ q ns fr, Completes (.tbSet q ns fr) q (opTbSet q ns fr) fun s => done (setTimebase s q ns fr))
  ∧ (∀ q e tag, Completes (.schedCancel q e tag) q (opSchedCancel q e tag) fun s => match entry s e.toNat with
    | some x => (match x.cmd with
      | .modeChange .. => done (dropChange (setEntry s e.toNat none))
      | _ => done (setEntry s e.toNat none))
    | none => done s)
  ∧ (∀ q first count, Completes (.schedList q first count) q (opSchedList first count) fun s =>
    answer s ((List.range count.toNat).flatMap fun i => entryInfo s (first.toNat + i)))
  ∧ (∀ q port camera w, Completes (.trigger q port camera w) q (opTrigger q port camera w) fun s =>
    done (triggerNow s port.toNat camera.toNat w s.tb.ns)))
  ∧ ((∀ q c, Completes (.refSelect q c) q (opRefSelect c) fun s =>
    let s0 := { s with dpll := { s.dpll with named := some c.toNat } }
    if s.dpll.active = some c.toNat then done s0 else done (follow s0 c.toNat 0))
  ∧ (∀ q cs, Completes (.refRank q cs) q (opRefRank cs) fun s =>
    done (setWord (setWord s 0 0x03 16 3 (rankWord (rankList cs))) 0 0x03 16 4 (rankWord ((rankList cs).drop 8))))
  ∧ (∀ q m, Completes (.fsyncRealign q m) q (opFsyncRealign m) fun s => done ((List.range 8).foldl (fun s n =>
      if m.getLsbD n then { s with fsyncs := tput {} s.fsyncs n { fsync s n with waiting := some 0 } } else s) s)))

/-- SYN_HOP, SYN_BAND_STORE, SYN_RAMP_LOAD and SYN_RAMP_START (chapter 08): a hop waits for the commit tick of the output it feeds and
acts at once where it feeds none; a ramp starts with event 192. LINK_UP, LINK_DOWN, LINK_POWER, LINK_STATUS, EYE_SCAN and LINK_LOOP
(chapter 09). -/
def Obligations.SynthesizerAndLinkCommandsComplete : Prop :=
  ((∀ q n m w, Completes (.synHop q n m w) q (opHop q n m w) fun s =>
    if servedOuts s n.toNat = [] then done (hopNow s n.toNat m.toNat w)
    else done (setSyn s n.toNat { syn s n.toNat with pendHop := some (m.toNat, w) }))
  ∧ (∀ q n m, Starts (.synBandStore q n m) q (opSynBandStore q n m) (.bandStore n.toNat m.toNat) fun s =>
    setSyn (drawWord s).2 n.toNat { syn (drawWord s).2 n.toNat with
      storing := some (m.toNat, ⟨(syn s n.toNat).band, (syn s n.toNat).post, (synFreq s n.toNat).toNat * (syn s n.toNat).post, (drawWord s).1⟩) })
  ∧ (∀ q n g, Completes (.synRampLoad q n g) q (opSynRampLoad q n g) fun s => done (setSyn s n.toNat { syn s n.toNat with profile := g }))
  ∧ (∀ q n, Completes (.synRampStart q n) q (opRampStart q n) fun s => done (rampNow s n.toNat (syn s n.toNat).profile)))
  ∧ ((∀ q p r st c, Completes (.linkUp q p r st c) q (opLinkUp q p r st c) fun s =>
    done (linkUpNow s p.toNat r.toNat st.toNat (c.getLsbD 0)))
  ∧ (∀ q p force, Completes (.linkDown q p force) q (opLinkDown q p force) fun s => done (linkDownNow s p.toNat force))
  ∧ (∀ q p d st, Completes (.linkPower q p d st) q (opLinkPower q p d st) fun s => done (changePower s p.toNat d.toNat st.toNat))
  ∧ (∀ q p, Completes (.linkStatus q p) q (opLinkStatus p) fun s =>
    answer s ((List.range 4).flatMap fun w => wordBytes (plkStatusWord s p.toNat w)))
  ∧ (∀ q p l d, Starts (.eyeScan q p l d) q (opEyeScan q p l d) (.eyeScan p.toNat l.toNat d.toNat) fun s => s)
  ∧ (∀ q p l pair, Completes (.linkLoop q p l pair) q (opLinkLoop q p l pair) fun s =>
    done (if l = 0#8 then endLoop s p.toNat 0 else startLoop s p.toNat l.toNat pair.toNat)))

/-- AUD_XBAR, MESH_DATA, MESH_COMMIT, MESH_FROM_CAPTURE, VIT_DATA and VIT_COMMIT (chapters 16, 15 and 19). -/
def Obligations.AudioMeshVitrineCommandsComplete : Prop :=
  (∀ q ramp es, Completes (.audXbar q ramp es) q (opAudXbar q ramp es) fun s =>
    if audioRuns s 8 then done { s with audio := { s.audio with changes := s.audio.changes ++ [{ q := q, ramp := ramp, entries := es, tick := s.clk }] } }
    else done (takeEntries (xbarEvent s { q := q, ramp := ramp, entries := es, tick := s.clk }) ramp es))
  ∧ (∀ q m first vs, Completes (.meshData q m first vs) q (opMeshData q m first vs) fun s =>
    done (bulkPush ((meshKeys m).foldl (fun s k => meshWrite s k first.toNat vs) s) q 0x80#8 (banksOf m.bank.toNat)))
  ∧ (∀ q ms, Completes (.meshCommit q ms) q (opMeshCommit q ms) fun s =>
    let ks := (ms.flatMap meshKeys).dedup
    done ((ks.map (· / 32)).dedup.foldl (fun s b => setWarpUsed s b 0) (ks.foldl meshSwap s)))
  ∧ (∀ q m pipe first count every commit, Completes (.meshFromCapture q m pipe first count every commit) q
      (opMeshFromCapture q m pipe first count every commit) fun s =>
    done ((banksOf m.bank.toNat).foldl (fun s b =>
      let k := 32 * b + m.inst.toNat
      let cs := s.caps.map fun e => (e.1, { e.2 with meshes := e.2.meshes.filter fun x => x.mesh ≠ k })
      let c := tget {} cs (40 * b + pipe.inst.toNat)
      { s with caps := tput {} (cs.filter fun e => e.2 ≠ {}) (40 * b + pipe.inst.toNat) { c with meshes := c.meshes ++ [⟨k, first.toNat, count.toNat, every, commit⟩] } }) (bulkPush s q 0x82#8 (banksOf m.bank.toNat))))
  ∧ (∀ q n off data, Completes (.vitData q n off data) q (opVitData q n off data) fun s =>
    done (bulkPush (setSlot s n.toNat { slot s n.toNat with staging := patch (slot s n.toNat).staging off.toNat data }) q 0x84#8 []))
  ∧ (∀ q n len crc, Starts (.vitCommit q n len crc) q (opVitCommit n len crc) (.vitCommit n.toNat len.toNat) fun s => s)

/-- LDG_READ, LDG_WRITE, LDG_MAINT and LDG_WEAR (chapter 23): a write and a maintenance command start their work, and the Ledger takes
what it can at once. VLT_SECRET_WRITE, VLT_DERIVE, VLT_CHALLENGE, VLT_INVALIDATE and VLT_STATUS (chapter 24). -/
def Obligations.LedgerAndVaultCommandsComplete : Prop :=
  ((∀ q p off n, Completes (.ldgRead q p off n) q (opLdgRead p off n) fun s =>
    answer s (ledgerBytes s (256 * p.toNat + off.toNat) n.toNat))
  ∧ (∀ q p off d, Starts (.ldgWrite q p off d) q (opLdgWrite p off d) (.ldgWrite p.toNat (d.take (256 - off.toNat)).length) fun s =>
    pump (setLedger s fun x => { x with queue := x.queue ++ [{ step := .host p.toNat off.toNat (d.take (256 - off.toNat)) }] }))
  ∧ (∀ q act r p, Starts (.ldgMaint q act r p) q (opLdgMaint act r p) (.ldgMaint act.toNat r.toNat p.toNat) fun s =>
    pump (beginMaint s act.toNat r.toNat p.toNat))
  ∧ (∀ q f n, Completes (.ldgWear q f n) q (opLdgWear f n) fun s =>
    answer s ((List.range n.toNat).flatMap fun i => leBytes 4 (wearOf s (f.toNat + i)))))
  ∧ ((∀ q k sec, Starts (.vltSecretWrite q k sec) q (opVltSecretWrite q k sec) (.secretWrite k.toNat) fun s =>
    queueVault (slotChanged s k.toNat q.port) k.toNat 1 sec q.port)
  ∧ (∀ q k ctx, Starts (.vltDerive q k ctx) q (opVltDerive q k ctx) (.derive k.toNat ctx) fun s => s)
  ∧ (∀ q n, Starts (.vltChallenge q n) q (opVltChallenge n) (.challenge n) fun s => s)
  ∧ (∀ q k, Completes (.vltInvalidate q k) q (opVltInvalidate q k) fun s =>
    if vaultState s k.toNat ≠ 1 then done s
    else
      let s := { slotChanged s k.toNat q.port with
        vault := { (slotChanged s k.toNat q.port).vault with gone := k.toNat :: s.vault.gone } }
      let s := queueVault s k.toNat 2 [] q.port
      match tieOf s 3 (0x80 + k.toNat) with
      | some t => (dropTie s 3 (0x80 + k.toNat), { st := .nvmConflict, data := tieBytes t })
      | none => done s)
  ∧ (∀ q, Completes (.vltStatus q) q opVltStatus fun s =>
    answer s (((List.range 8).map fun k => BitVec.ofNat 8 (vaultState s k)) ++ [if bit (vltWord s) 16 then 1#8 else 0#8])))

/-- THM_MEASURE, SELFTEST, SELFTEST_ABORT, FAULT_LOG_READ, HEALTH_REPORT, FAILOVER_FORCE, EVT_READ and EVT_ACK (chapters 21, 22, 25). -/
def Obligations.HealthCommandsComplete : Prop :=
  (∀ q m, Starts (.thmMeasure q m) q (opThmMeasure m) (.measure m.toNat) fun s => requestMeasure s m.toNat true)
  ∧ (∀ q c t u, Starts (.selftest q c t u) q (opSelftest q c t u) (.selftest c.toNat t.toNat u.toNat) fun s =>
    if t.toNat < 2 ∧ (wing s (wingOf t.toNat)).role = 3 then disarm s (wingOf t.toNat) 1 else s)
  ∧ (∀ q t, Completes (.selftestAbort q t) q (opSelftestAbort t) fun s => done (endTest s t.toNat 2 0 0#32))
  ∧ (∀ q f n, Completes (.faultLogRead q f n) q (opFaultLogRead f n) fun s =>
    answer s ((List.range n.toNat).flatMap fun i => match newestOf logRing (records s logRing) with
      | none => noLogEntry
      | some (top, _) =>
        match (records s logRing).find? fun e => decide (e.1 = (top + 4096 - (f.toNat + i)) % 4096) with
        | some e => logEntry (records s logRing) ((top + 4096 - (f.toNat + i)) % 4096) e.2
        | none => noLogEntry))
  ∧ (∀ q w, Completes (.healthReport q w) q (opHealthReport w) fun s => answer s (healthBytes s (wingOf w.toNat)))
  ∧ (∀ q, Completes (.failoverForce q) q opFailoverForce fun s => done (mustGiveUp s (activeWing s) 8))
  ∧ (∀ q n, Completes (.evtRead q n) q (opEvtRead n) fun s =>
    ({ s with ev := settleLosses { s.ev with queue := s.ev.queue.drop (min n.toNat 255) } },
      { data := (s.ev.queue.take (min n.toNat 255)).flatMap entryBytes }))
  ∧ (∀ q m, Completes (.evtAck q m) q (opEvtAck q m) fun s =>
    let k := ackMask m
    let k := if q.port = .cp1 ∨ q.auth = true then k else k &&& ~~~(safetyRouted s)
    done { s with ev := { s.ev with pending := s.ev.pending &&& ~~~k } })

/-! ## What happens at the ports, the units and the pins: each completes where its unit is in the state it names -/

/-- WRITE_PACKET, READ_PLACARD, READ_PORT_STATUS and UNKNOWN_TRANSACTION on CP0, CP1 and CP3, while the port listens (R57 to R61, R67): a
packet meets the arrival checks, the oldest Placard is clocked out and leaves with its last byte, the port status is clocked out, and an
unknown code is discarded and counted. The Ontor drives the lines in the data phase of a read and at no other time (R58, R59). A port that
does not listen sees none of them (R624). Transaction codes are not used on CP2, and no
requester inside the Ontor has any: there the four rows name no transaction, and the step stops by that name (R63; the stop is the
model's). CP3_SCL_TIMEOUT ends its transaction as far as it has come, and a write cut short is a packet of the bytes that came (R62);
CP2_PACKET_TIMEOUT, 10 ms after its first byte, discards what CP2 has of a packet (R64); CP2_LINK_RETRY takes a CP2 port that has been
FAILED for 1 s through DOWN into a new bring-up (R65); BUILD_TIMEOUT frees the staging area (R106). -/
def Obligations.TransactionsComplete : Prop :=
  (∀ p, hasTransactions p = true → ∀ s,
    (∀ b, exec (.writePacket p b) s = .next (if listening s p then stopCp3 (arrive (transact s p 0x02#8 b false []) p b) p else s))
    ∧ (∀ n, listening s p = false → exec (.readPlacard p n) s = .next s ∧ exec (.readPortStatus p n) s = .next s)
    ∧ (∀ n, listening s p = true → ∃ t, exec (.readPlacard p n) s = .next t
        ∧ t.ports.driven = sized (match (getPort s p).queue with | [] => [] | w :: _ => placardBytes w.plac) n
        ∧ (getPort t p).queue = (match (getPort s p).queue with
            | [] => []
            | w :: r => if (placardBytes w.plac).length ≤ n then r else w :: r)
        ∧ (p ≠ .cp3 → t.ports.cycles = spiCycles p 0x0B#8 [] true t.ports.driven)
        ∧ (p = .cp3 → t.ports.i2c = i2cBytes s 0x0B#8 [] true t.ports.driven))
    ∧ (∀ n, listening s p = true → ∃ t, exec (.readPortStatus p n) s = .next t
        ∧ t.ports.driven.take 4 = (portStatus s p).take n
        ∧ (getPort t p).intakeErr = (decide (n < 3) && (getPort s p).intakeErr))
    ∧ (∀ c, [0x02#8, 0x0B#8, 0x05#8].contains c = false → exec (.unknownTransaction p c) s =
        .next (if listening s p then stopCp3 (discard (transact s p c [] false []) p) p else s)))
  ∧ (∀ p, hasTransactions p = false → ∀ s b n m c,
    exec (.writePacket p b) s = .fault .noTransactionHere ∧ exec (.readPlacard p n) s = .fault .noTransactionHere
    ∧ exec (.readPortStatus p m) s = .fault .noTransactionHere ∧ exec (.unknownTransaction p c) s = .fault .noTransactionHere)
  ∧ (∀ s,
    (∀ cut, listening s .cp3 = false → exec (.cp3SclTimeout cut) s = .next s)
    ∧ (∀ b n, listening s .cp3 = true →
        exec (.cp3SclTimeout ⟨none, b, n⟩) s = .next (transact s .cp3 0#8 [] false [])
        ∧ exec (.cp3SclTimeout ⟨some 0x02#8, b, n⟩) s = .next (arrive (transact s .cp3 0x02#8 b false []) .cp3 b)
        ∧ exec (.cp3SclTimeout ⟨some 0x0B#8, b, n⟩) s = .next (clockPlacard s .cp3 n)
        ∧ exec (.cp3SclTimeout ⟨some 0x05#8, b, n⟩) s = .next (clockStatus s .cp3 n)
        ∧ (∀ c, [0x02#8, 0x0B#8, 0x05#8].contains c = false →
            exec (.cp3SclTimeout ⟨some c, b, n⟩) s = .next (discard (transact s .cp3 c [] false []) .cp3)))
    ∧ (s.ports.cp2.rx = [] ∨ s.clk < s.ports.cp2RxAt + 10000000 → exec .cp2PacketTimeout s = .next s)
    ∧ (s.ports.cp2.rx ≠ [] → s.ports.cp2RxAt + 10000000 ≤ s.clk → ∃ t, exec .cp2PacketTimeout s = .next t
        ∧ (s.boot.phase ≠ .noImage → (s.ports.cp2.rx.length < 8 ∨ s.ports.cp2.rx.getD 0 0#8 ≠ 0xA5#8) →
            t = discard (setPort s .cp2 { s.ports.cp2 with rx := [] }) .cp2))
    ∧ (∀ n, cp2Port s = some n → (plk s n).st = 11 → (plk s n).since + 1000000000 ≤ s.clk →
        exec .cp2LinkRetry s = .next (ensureCp2 (plkDown s n 0)))
    ∧ (cp2Port s = none → exec .cp2LinkRetry s = .next s)
    ∧ exec .buildTimeout s = .next (releaseBuild s))

/-- REF_PULSE, REF_FREQ_MEASUREMENT, REF_ACTIVITY_LOST and REF_QUALIFIED (R174 to R182): a measurement of an enabled clock candidate that is
present is judged against its nominal rate; a loss of activity disqualifies at once; a candidate that has kept its conditions for its
qualification time is qualified with event 182, and selection runs. DPLL_COMPARISON, HOLDOVER_INTERVAL_RECORD, ACQUIRE_ALARM, FSYNC_PULSE
and TB_PPS_PULSE (R172, R183 to R203): with no reference the comparison changes nothing; the first comparison after a switch takes the
phase step, reduced to half a comparison period either way, with event 186; any other counts the windows that move the DPLL between
ACQUIRE and LOCKED; an average is recorded after 100 ms in LOCKED, the alarm rises after 10 s in ACQUIRE, and the pulses rise and fall at
their instants. -/
def Obligations.ReferenceHappeningsComplete : Prop :=
  (∀ (c : Fin 16) s,
    (frameMonitor s c.val = false ∨ candAbsent s c.val = true → ∀ i, exec (.refPulse c i) s = .next s)
    ∧ (∀ i, frameMonitor s c.val = true → candAbsent s c.val = false → (cand s c.val).present = false ∨ i = 0 →
        exec (.refPulse c i) s = .next (alignFsyncs (setCand s c.val
          { cand s c.val with present := true, intervals := [], good := 0, since := s.clk }) c.val))
    ∧ (∀ i, frameMonitor s c.val = true → candAbsent s c.val = false → (cand s c.val).present = true → i ≠ 0 →
        let l := (i :: (cand s c.val).intervals).take 4
        let r := nominalOf frameRates (1000000000000 * l.length, l.foldl (· + ·) 0)
        let one := within (1000000000000, i) r (acceptOf s c.val)
        let t := setCand s c.val { cand s c.val with
          intervals := l, nominal := r, offset := if r.1 = 0 then 32767 else (cand s c.val).offset,
          good := if one then (cand s c.val).good + 1 else 0, since := if one then (cand s c.val).since else s.clk }
        exec (.refPulse c i) s = .next (alignFsyncs (if l.length = 4 then
          measured t c.val (1000000000000 * l.length, l.foldl (· + ·) 0) r else t) c.val))
    ∧ (clockMonitor s c.val = false ∨ candAbsent s c.val = true → ∀ e, exec (.refFreqMeasurement c e) s = .next s)
    ∧ (∀ e, clockMonitor s c.val = true → candAbsent s c.val = false → c.val ≠ 4 → e ≠ 0 →
        let t := setCand s c.val { cand s c.val with present := true, since := if (cand s c.val).present then (cand s c.val).since else s.clk }
        exec (.refFreqMeasurement c e) s = .next (measured t c.val (e * 10, 1)
          (if c.val ≤ 3 then nominalOf clockRates (e * 10, 1) else kind1Nominal t c.val)))
    ∧ (c.val ≠ 4 → exec (.refActivityLost c) s = .next (setCand (disqualify s c.val 0) c.val
        { cand (disqualify s c.val 0) c.val with present := false, intervals := [], good := 0, lastPulse := none }))
    ∧ (refEnabled s c.val = true → classAllowed s c.val = true → candPresent s c.val = true → (cand s c.val).qualified = false →
        (cand s c.val).outside = false → (cand s c.val).nominal.1 ≠ 0 →
        (cand s c.val).since + bits (refWord s c.val 2) 31 16 * 1000000 ≤ s.clk →
        (isFrameRef s c.val = true → bits (refWord s c.val 2) 15 0 ≤ (cand s c.val).good) →
        exec (.refQualified c) s = .next (runSelection (armFsyncs (checkTier (raise
          (setCand s c.val { cand s c.val with qualified := true, everQualified := true }) 182
            (detOff c.val 0 (cand s c.val).offset)) c.val) c.val))))
  ∧ (∀ s,
    let locks (t : State) : State :=
      if t.dpll.state = 1 ∧ bits (refWord t 16 1) 7 0 ≤ t.dpll.inWin then dpllTo t 2 1
      else if t.dpll.state = 2 ∧ 4 ≤ t.dpll.outWin then dpllTo t 1 2 else t
    (∀ ph, s.dpll.active = none → exec (.dpllComparison ph) s = .next s)
    ∧ (∀ ph c, s.dpll.active = some c → s.dpll.measure = true →
        let ps := wrapPhase (comparisonRate s c) ph
        let t := raise { s with dpll := { s.dpll with measure := false, stored := if s.dpll.compat then ps else 0, inWin := 1 } } 186
          (BitVec.ofNat 32 (stepField ps + 16777216 * b2n s.dpll.compat))
        exec (.dpllComparison ph) s = .next (locks (if s.dpll.compat then t else settleStep (addStep t ps))))
    ∧ (∀ ph c, s.dpll.active = some c → s.dpll.measure = false →
        let win : Int := if isFrameRef s c then 1000000 else 8000
        let e := (wrapPhase (comparisonRate s c) ph - s.dpll.stored).natAbs
        exec (.dpllComparison ph) s = .next (locks { s with dpll := { s.dpll with
          inWin := if (e : Int) ≤ win then s.dpll.inWin + 1 else 0, outWin := if (e : Int) > 4 * win then s.dpll.outWin + 1 else 0 } }))
    ∧ (∀ a, s.dpll.state = 2 → s.dpll.since + 100000000 ≤ s.clk → exec (.holdoverIntervalRecord a) s = .next
        { s with dpll := { s.dpll with records := (s.clk, a) :: s.dpll.records.filter fun r => decide (s.clk ≤ r.1 + 3660100000000) } })
    ∧ (∀ a, s.dpll.state ≠ 2 ∨ s.clk < s.dpll.since + 100000000 → exec (.holdoverIntervalRecord a) s = .next s)
    ∧ (s.dpll.state = 1 → s.dpll.since + 10000000000 ≤ s.clk → exec .acquireAlarm s = .next { s with dpll := { s.dpll with slow := true } })
    ∧ (s.dpll.state ≠ 1 ∨ s.clk < s.dpll.since + 10000000000 → exec .acquireAlarm s = .next s)
    ∧ (∀ n : Fin 8, fsyncRises s n.val = true → ∃ t, exec (.fsyncPulse n true) s = .next t
        ∧ (fsync t n.val).high = true ∧ (fsync t n.val).rose = s.clk)
    ∧ (∀ n : Fin 8, (fsync s n.val).high = true → (fsync s n.val).rose + 4096 ≤ s.clk → exec (.fsyncPulse n false) s =
        .next { s with fsyncs := tput {} s.fsyncs n.val { fsync s n.val with high := false } })
    ∧ (s.tb.running = true → s.tb.ns.toNat % 1000000000 = 0 →
        exec (.tbPpsPulse true) s = .next { s with tb := { s.tb with pps := true, ppsRose := s.clk } })
    ∧ (s.tb.pps = true → s.tb.ppsRose + 4096 ≤ s.clk → exec (.tbPpsPulse false) s = .next { s with tb := { s.tb with pps := false } }))

/-- SYN_BAND_STORE_COMPLETE, RAMP_STEP, SYN_HOP_LOCK_TIMEOUT and SYN_SEARCH_TIMEOUT (R211 to R219): the stored band is recorded and the
Placard formed; each microsecond of a ramp adds the slope to the word's 48 bits, and the last one ends the ramp with event 193; a hop that
does not lock in 20 µs falls back with event 191; each sixteenth search of a relock that fails, at 400 µs, raises event 194.
SYN_LOCK_ACQUIRED, SYN_UNGATE and SYN_LOSS_OF_LOCK (R153, R213 to R223): a lock ends the search, a hop's on the band and the post-divider
of its memory; SYN11's first lock starts the timebase and a later one raises event 201; a synthesizer that has held its lock for 100 µs is
ungated with event 189 and the time since it was gated. -/
def Obligations.SynthesizerHappeningsComplete : Prop :=
  (∀ (n : Fin 12) s,
    (takeRun (fun r => match r.job with | .bandStore k _ => decide (k = n.val) | _ => false) s.runs = none →
      exec (.synBandStoreComplete n) s = .next s)
    ∧ (∀ r rest m b, takeRun (fun r => match r.job with | .bandStore k _ => decide (k = n.val) | _ => false) s.runs = some (r, rest) →
        (syn s n.val).storing = some (m, b) →
        exec (.synBandStoreComplete n) s = .next (finishRun (setSyn { s with runs := rest } n.val
          { syn s n.val with bands := tput none (syn s n.val).bands m (some b), storing := none }) r .ok []))
    ∧ ((syn s n.val).ramping = false ∨ s.clk < (syn s n.val).rampAt + 1000 → exec (.rampStep n) s = .next s)
    ∧ (∀ g, (syn s n.val).ramping = true → (syn s n.val).rampAt + 1000 ≤ s.clk → (syn s n.val).ramp[(syn s n.val).segIdx]? = some g →
        exec (.rampStep n) s = .next (
          let x := syn s n.val
          let v := (((synFreq s n.val).toNat : Int) * 65536 + x.frac.toNat + sext32 g.slope).toNat
          let next := decide (segUs g ≤ x.segRun + 1)
          let idx := if next then x.segIdx + 1 else x.segIdx
          let last := decide (x.ramp.length ≤ idx)
          let t := setSyn (setWord s 0 0x04 n.val 0 (BitVec.ofNat 32 (v / 65536))) n.val
            { x with rampAt := x.rampAt + 1000, frac := BitVec.ofNat 16 v, segIdx := idx, segRun := if next then 0 else x.segRun + 1, ramping := !last }
          if last then raise t 193 (det2 n.val 0 x.ramp.length) else t))
    ∧ ((syn s n.val).ramping = true → (syn s n.val).rampAt + 1000 ≤ s.clk → (syn s n.val).ramp[(syn s n.val).segIdx]? = none →
        exec (.rampStep n) s = .next (setSyn s n.val { syn s n.val with ramping := false }))
    ∧ (∀ m, (syn s n.val).task = .hop m → (syn s n.val).locked = false → (syn s n.val).since + 20000 ≤ s.clk →
        exec (.synHopLockTimeout n) s = .next (raise (setSyn s n.val { syn s n.val with task := .fallback m, searchAt := s.clk }) 191
          (det n.val m 0 0)))
    ∧ ((∀ m, (syn s n.val).task ≠ .hop m) ∨ (syn s n.val).locked = true ∨ s.clk < (syn s n.val).since + 20000 →
        exec (.synHopLockTimeout n) s = .next s)
    ∧ (searching (syn s n.val) = true → (∀ m, (syn s n.val).task ≠ .hop m) → (syn s n.val).searchAt + 400000 ≤ s.clk →
        exec (.synSearchTimeout n) s = .next (
          let f := (syn s n.val).fails + 1
          let t := setSyn s n.val { syn s n.val with fails := f, searchAt := s.clk }
          if (syn s n.val).task = .relock ∧ f % 16 = 0 then raise t 194 (field 0 8 n.val ||| field 8 24 (sat 24 f)) else t)))
  ∧ (∀ (n : Fin 12) band post s,
    (searching (syn s n.val) = false → exec (.synLockAcquired n band post) s = .next s)
    ∧ (searching (syn s 11) = true → (∀ m, (syn s 11).task ≠ .hop m) → exec (.synLockAcquired 11 band post) s = .next (
        let t := setSyn s 11 { syn s 11 with locked := true, lockedAt := s.clk, band := band, post := post, fails := 0, task := .idle, gated := false }
        if s.tb.running then raise t 201 (det 1 0 0 0) else { t with tb := { t.tb with running := true } }))
    ∧ (∀ m b, searching (syn s n.val) = true → n.val ≠ 11 → (syn s n.val).task = .hop m → tget none (syn s n.val).bands m = some b →
        exec (.synLockAcquired n band post) s = .next (raise (setSyn s n.val { syn s n.val with
          locked := true, lockedAt := s.clk, band := b.band, post := b.post, fails := 0, task := .idle, gated := false }) 190
          (det2 n.val 3 (sinceUs s (syn s n.val)))))
    ∧ (∀ m, searching (syn s n.val) = true → n.val ≠ 11 → (syn s n.val).task = .fallback m →
        exec (.synLockAcquired n band post) s = .next (raise (setSyn (drawWord s).2 n.val { syn s n.val with
          locked := true, lockedAt := s.clk, band := band, post := post, fails := 0, task := .idle, gated := false,
          bands := tput none (syn s n.val).bands m (some ⟨band, post, (synFreq s n.val).toNat * post, (drawWord s).1⟩) }) 190
          (det2 n.val 3 (sinceUs s (syn s n.val)))))
    ∧ (searching (syn s n.val) = true → n.val ≠ 11 →
        let x := { syn s n.val with locked := true, lockedAt := s.clk, band := band, post := post, fails := 0 }
        let idle := { x with task := .idle, gated := false }
        ((syn s n.val).task = .relock → exec (.synLockAcquired n band post) s = .next (setSyn s n.val { x with holding := true }))
        ∧ ((syn s n.val).task = .start → exec (.synLockAcquired n band post) s =
            .next (raise (setSyn s n.val idle) 190 (det2 n.val 0 (sinceUs s (syn s n.val)))))
        ∧ ((syn s n.val).task = .retune → exec (.synLockAcquired n band post) s =
            .next (raise (setSyn s n.val idle) 190 (det2 n.val 2 (sinceUs s (syn s n.val))))))
    ∧ ((syn s n.val).holding = true → (syn s n.val).locked = true → (syn s n.val).lockedAt + 100000 ≤ s.clk →
        exec (.synUngate n) s = .next (settle (restartHalted (raise
          (setSyn s n.val { syn s n.val with gated := false, holding := false, task := .idle }) 189
          (det2 n.val 0 (sat 16 ((s.clk - (syn s n.val).gatedAt) / 1000)))) n.val)))
    ∧ ((syn s n.val).holding = false ∨ (syn s n.val).locked = false ∨ s.clk < (syn s n.val).lockedAt + 100000 →
        exec (.synUngate n) s = .next s)
    ∧ exec (.synLossOfLock n) s = .next (synLost s n.val))

/-- CORE_CLOCK_LOSS and CORE_CLOCK_REGAINED (Table 8-3, R22, R223, R615): a Wing's clock lost re-centres the queues of the outputs it
drives and makes the Wing give up with cause 7, the fabric's puts it on its reserve, and the control clock's is a warm reset with cause 4;
each loss and each return is told once with event 195. -/
def Obligations.CoreClocksComplete : Prop :=
  ∀ s,
    (s.clocks.lostA = false → exec (.coreClockLoss (.wing .a)) s =
      .next (mustGiveUp (raise (queuesLost { s with clocks := { s.clocks with lostA := true } } (drivenOuts s .a)) 195 (det 0 0 0 0)) .a 7))
    ∧ (s.clocks.lostB = false → exec (.coreClockLoss (.wing .b)) s =
      .next (mustGiveUp (raise (queuesLost { s with clocks := { s.clocks with lostB := true } } (drivenOuts s .b)) 195 (det 1 0 0 0)) .b 7))
    ∧ (s.clocks.reserve = false → exec (.coreClockLoss .fabric) s =
      .next (raise { s with clocks := { s.clocks with reserve := true } } 195 (det 2 0 0 0)))
    ∧ (s.boot.phase ≠ .held → s.boot.phase ≠ .noSupply → exec (.coreClockLoss .control) s = .next (warmReset s 4))
    ∧ (s.boot.phase = .held ∨ s.boot.phase = .noSupply → exec (.coreClockLoss .control) s = .next s)
    ∧ (s.clocks.lostA = true → exec (.coreClockLoss (.wing .a)) s = .next s ∧ exec (.coreClockRegained (.wing .a)) s =
        .next (raise (clockBack { s with clocks := { s.clocks with lostA := false } } .a) 195 (det 0 1 0 0)))
    ∧ (s.clocks.lostB = true → exec (.coreClockLoss (.wing .b)) s = .next s ∧ exec (.coreClockRegained (.wing .b)) s =
        .next (raise (clockBack { s with clocks := { s.clocks with lostB := false } } .b) 195 (det 1 1 0 0)))
    ∧ (s.clocks.reserve = true → exec (.coreClockLoss .fabric) s = .next s ∧ exec (.coreClockRegained .fabric) s =
        .next (raise { s with clocks := { s.clocks with reserve := false } } 195 (det 2 1 0 0)))
    ∧ exec (.coreClockRegained .control) s = .next s

/-- The bring-up timers and detections of a Prenlink port (Tables 9-3 and 9-4): each acts in its own state, once the time of its row has
passed in it, and in no other. PLK_LANE_LOCK, PLK_LANE_LOCK_LOST and PLK_VERIFY_END (R239, R240, R246, R247, Table 9-4): in ALIGN a port
whose own lanes are all locked tells it, and goes on to CAPABILITY once the far end's are; in STEP to TRAIN at the next step; in FALLBACK
and RECOVER its check starts; a loss in RUNNING goes to RECOVER with cause 4; a good check goes on to the next step or to RUNNING once both
ends have passed, a bad one to FALLBACK. A port that a row moves stands in the row's state, with the state event where the spec gives it one
(R260). -/
def Obligations.LinkBringUpComplete : Prop :=
  (∀ (n : Fin 24) s,
    let p := plk s n.val
    let stood (t : Nat) : Prop := p.since + t ≤ s.clk
    (∀ st cause, st ≠ 0 → p.st ≠ 8 → p.st ≠ 12 → (plk (plkTo s n.val st cause) n.val).st = st
      ∧ (eventState st = true → (plkTo s n.val st cause).ev.pending.getLsbD (32 + 2 * n.val) = true))
    ∧ (p.st = 1 → exec (.plkDetectClock n) s = .next (plkTo s n.val 2 1))
    ∧ (p.st ≠ 1 → exec (.plkDetectClock n) s = .next s)
    ∧ (p.st = 2 → stood 20000000 → exec (.plkAlignTimeout n) s = .next (plkBackoff s n.val 8))
    ∧ (p.st = 3 → p.capAcked = false → exec (.capabilityResend n) s = .next (sendCapability s n.val))
    ∧ (p.st = 3 → stood 5000000 → exec (.capabilityTimeout n) s = .next (plkBackoff s n.val 7))
    ∧ (p.st = 4 → stood 100000 → exec (.plkStepTimeout n) s = .next (plkFallback (setPlk s n.val { p with step := p.step + 1 }) n.val 2))
    ∧ (p.st = 5 → stood 10000000 → exec (.plkTrainTimeout n) s = .next (plkFallback (sendTraining s n.val 4 p.step 0 0#8 0#8) n.val 2))
    ∧ (p.st = 5 → ownLocked p = true → exec (.equaliserTrainingDone n) s = .next (trainDone (sendTraining
        (setPlk (drawBytes s 9).2 n.val { p with lanes := { p.lanes with trained := true }, eq := { p.eq with adapted := (drawBytes s 9).1 } })
        n.val 3 p.step 0 0#8 0#8) n.val))
    ∧ (p.st = 7 → stood 10000000 → exec (.plkFallbackTimeout n) s =
        .next (if 0 < p.step then plkFallback s n.val 3 else plkBackoff s n.val 3))
    ∧ (p.st = 9 → ownLocked p = false → stood 1000000 → exec (.plkRecoverTimeout n) s =
        .next (if 0 < p.step then plkFallback s n.val 4 else plkBackoff s n.val 4))
    ∧ (p.st = 10 → stood (if p.attempts < 8 then 10000000 else 1000000000) → ¬ (p.role = 0 ∧ (syn s 10).gated = true) →
        exec (.backoffEnd n) s = .next (plkTo (setPlk s n.val { p with attempts := p.attempts + 1, step := 0, rs := false, eq := {} }) n.val 1 1))
    ∧ (p.st = 12 → stood p.drainBound → exec (.plkDrainTimeout n) s = .next (plkDown s n.val 0))
    ∧ (p.st = 8 → powerOf p (rxDir p) < 2 → exec (.plkClockLost n) s = .next (plkBackoff s n.val 5))
    ∧ (p.st = 8 ∨ p.st = 9 → powerOf p (rxDir p) = 0 → p.lastRx + 1000000 ≤ s.clk →
        exec (.heartbeatTimeout n) s = .next (plkBackoff s n.val 5))
    ∧ ((p.st ≠ 2 ∨ s.clk < p.since + 20000000 → exec (.plkAlignTimeout n) s = .next s)
      ∧ (p.st ≠ 3 ∨ s.clk < p.since + 5000000 → exec (.capabilityTimeout n) s = .next s)
      ∧ (p.st ≠ 4 ∨ s.clk < p.since + 100000 → exec (.plkStepTimeout n) s = .next s)
      ∧ (p.st ≠ 5 ∨ s.clk < p.since + 10000000 → exec (.plkTrainTimeout n) s = .next s)
      ∧ (p.st ≠ 7 ∨ s.clk < p.since + 10000000 → exec (.plkFallbackTimeout n) s = .next s)
      ∧ (p.st ≠ 9 ∨ s.clk < p.since + 1000000 → exec (.plkRecoverTimeout n) s = .next s)))
  ∧ (∀ (n : Fin 24) (l : Fin 3) s,
    let p := plk s n.val
    (p.st = 0 ∨ laneLocked p l.val = true → exec (.plkLaneLock n l) s = .next s)
    ∧ (p.st ≠ 0 → laneLocked p l.val = false → lockLane p l.val true ≠ p → exec (.plkLaneLock n l) s = .next (
        let t := setPlk s n.val (lockLane p l.val true)
        let x := plk t n.val
        if ownLocked x = false then t
        else if x.st = 2 then alignDone (sendAck t n.val) n.val
        else if x.st = 4 then toTrain t n.val
        else if x.st = 7 ∨ x.st = 9 then startCheck t n.val
        else if x.st = 8 ∧ (wakeOf x (rxDir x)).isSome = true then startCheck t n.val
        else t))
    ∧ (∀ i, laneLocked p l.val = true → p.st ≠ 8 ∨ powerOf p (rxDir p) = 0 → exec (.plkLaneLockLost n l i) s = .next (
        let x := lockLane p l.val false
        let t := plkCount (setPlk s n.val { x with counts := { x.counts with lost := true } }) n.val 0
          (if framesLost s p l.val then i else max 16 i) 0 0 0
        if x.st = 8 then plkTo (sendCtl t n.val 0x08 [4#8]) n.val 9 4 else t))
    ∧ (∀ i, laneLocked p l.val = false → exec (.plkLaneLockLost n l i) s = .next s))
  ∧ (∀ (n : Fin 24) v s,
    let p := plk s n.val
    let told (ok : Bool) : State := sendTraining (setPlk s n.val { p with ownOk := ok }) n.val (if ok then 5 else 6) p.step 0 0#8 0#8
    (s.clk < p.checkAt + 1000000 → exec (.plkVerifyEnd n v) s = .next s)
    ∧ (p.checkAt + 1000000 ≤ s.clk → p.st = 6 → checkPassed p v = true → exec (.plkVerifyEnd n v) s = .next (checkDone (told true) n.val))
    ∧ (p.checkAt + 1000000 ≤ s.clk → p.st = 6 → checkPassed p v = false → exec (.plkVerifyEnd n v) s = .next (plkFallback (told false) n.val 3))
    ∧ (p.checkAt + 1000000 ≤ s.clk → p.st = 7 ∨ p.st = 9 → ownLocked p = true → exec (.plkVerifyEnd n v) s =
        .next (if checkPassed p v then checkDone (told true) n.val else startCheck (told false) n.val))
    ∧ (∀ t, (plk t n.val).ownOk = true → (plk t n.val).farOk = true → (plk t n.val).st = 6 →
        checkDone t n.val = (if (plk t n.val).step < (plk t n.val).target then toStep t n.val else plkRunning t n.val 1)))

/-- CAPABILITY, CAPABILITY_ACK, FAILURE and TRAINING (R281, R282, Table 10-7): a valid block is acknowledged with its CRC and judged in
CAPABILITY, where both blocks known end the exchange and an incompatible one fails the port with cause 6; a bad block is counted. The
control messages and timers of a port in service (R248 to R254, R268, R274 to R280): heartbeats, markers, acknowledgements, retransmission,
URGENT, END_OF_LINK, and the departure of a trigger. -/
def Obligations.LinkMessagesComplete : Prop :=
  (∀ (n : Fin 24) s,
    (∀ b, takesCtl (plk s n.val) = false → exec (.capability n b) s = .next s)
    ∧ (∀ b, takesCtl (plk s n.val) = true → openPacket b 0x16 64 false = none → exec (.capability n b) s = .next (plkCount s n.val 1 0 0 0 0))
    ∧ (∀ b h k, takesCtl (plk s n.val) = true → openPacket b 0x16 64 false = some (h, k) → exec (.capability n b) s = .next (
        let t := sendCtl (validPacket s n.val) n.val 0x07 (leBytes 4 (crc32c k).toNat)
        let p := plk t n.val
        let taken := setPlk t n.val { p with remote := BitVec.ofNat 32 (leAt k 0 4), capIn := true, target := capTarget p (byteAt k 1), farRs := decide (byteAt k 1 / 16 % 2 = 1), farSpread := decide (byteAt k 1 / 64 % 2 = 1), window := max 1 (min 8 (byteAt k 5)) }
        let good := decide (byteAt k 0 = 1) && decide (byteAt k 1 / 32 % 2 ≠ p.role)
          && (decide (p.role = 0) || !decide (byteAt k 1 / 64 % 2 = 1) || p.takesSpread)
        if p.st ≠ 3 then t else if good then capDone taken n.val else plkTo (sendCtl taken n.val 0x08 [6#8]) n.val 11 6))
    ∧ (∀ m, (receiveCtl s n.val m).1 = true → (plk (receiveCtl s n.val m).2 n.val).st = 3 →
        leAt m.data 0 4 = (crc32c (ownCapability (receiveCtl s n.val m).2 n.val)).toNat → exec (.capabilityAck n m) s =
          .next (capDone (setPlk (receiveCtl s n.val m).2 n.val { plk (receiveCtl s n.val m).2 n.val with capAcked := true }) n.val))
    ∧ (∀ m, (receiveCtl s n.val m).1 = true → (plk (receiveCtl s n.val m).2 n.val).st = 3 → byteAt m.data 0 = 6 →
        exec (.failure n m) s = .next (plkTo (receiveCtl s n.val m).2 n.val 11 6))
    ∧ (∀ m, (receiveCtl s n.val m).1 = true → (plk (receiveCtl s n.val m).2 n.val).st = 8 → byteAt m.data 0 = 4 →
        exec (.failure n m) s = .next (startCheck (plkTo (receiveCtl s n.val m).2 n.val 9 4) n.val))
    ∧ (∀ m, (receiveCtl s n.val m).1 = true →
        let t := (receiveCtl s n.val m).2
        let p := plk t n.val
        (byteAt m.data 0 = 1 → p.role = 0 → p.st = 5 →
          exec (.training n m) s = .next (setPlk t n.val { p with eq := { p.eq with preset := byteAt m.data 2 % 16 } }))
        ∧ (byteAt m.data 0 = 2 → p.role = 0 → p.st = 5 → exec (.training n m) s =
          .next (setPlk t n.val { p with eq := { p.eq with pre := m.data.getD 3 0#8, post := m.data.getD 4 0#8 } }))
        ∧ (byteAt m.data 0 = 3 → p.st = 5 → exec (.training n m) s =
          .next (trainDone (setPlk t n.val { p with lanes := { p.lanes with far := true } }) n.val))
        ∧ (byteAt m.data 0 = 4 → exec (.training n m) s = .next (if p.st = 5 then plkFallback t n.val 12 else t))
        ∧ (byteAt m.data 0 = 5 → exec (.training n m) s = .next (checkDone (setPlk t n.val { p with farOk := true }) n.val))
        ∧ (byteAt m.data 0 = 6 → exec (.training n m) s =
          .next (if p.st = 6 then plkFallback t n.val 3 else setPlk t n.val { p with farOk := false })))
    ∧ (∀ m, (receiveCtl s n.val m).1 = false → exec (.training n m) s = .next (receiveCtl s n.val m).2
        ∧ exec (.capabilityAck n m) s = .next (receiveCtl s n.val m).2 ∧ exec (.failure n m) s = .next (receiveCtl s n.val m).2))
  ∧ (∀ (n : Fin 24) s,
    let p := plk s n.val
    ((p.st = 8 ∧ powerOf p (txDir p) = 0) ∨ nearLoop p = true → exec (.heartbeatSend n) s = .next (sendHeartbeat s n.val))
    ∧ (∀ b h k, takesCtl p = true → openPacket b 0x17 8 false = some (h, k) →
        exec (.heartbeat n b) s = .next (takeAck (validPacket s n.val) n.val (k.getD 2 0#8)))
    ∧ (∀ b, takesCtl p = true → openPacket b 0x17 8 false = none → exec (.heartbeat n b) s = .next (plkCount s n.val 1 0 0 0 0))
    ∧ (∀ (l : Fin 2) w c u, codeReceived p = false ∨ laneLocked p l.val = false → exec (.marker n l w c u) s = .next s)
    ∧ (∀ w c u, codeReceived p = true → p.lanes.d0 = true → p.rx0.framed = true → exec (.marker n 0 w c u) s =
        .next (plkCount (setPlk s n.val { p with rx0 := takeMarker p.rx0 w s.clk, counts := { p.counts with corr0 := p.counts.corr0 + c } })
          n.val 0 0 c u 0))
    ∧ (∀ w c u, codeReceived p = true → p.lanes.d1 = true → p.rx1.framed = true → exec (.marker n 1 w c u) s =
        .next (plkCount (setPlk s n.val { p with rx1 := takeMarker p.rx1 w s.clk, counts := { p.counts with corr1 := p.counts.corr1 + c } })
          n.val 0 0 c u 0))
    ∧ (∀ w c u, codeReceived p = true → p.lanes.d0 = true → p.rx0.framed = false → p.rx0.count = some (w - 1) →
        ∃ t, exec (.marker n 0 w c u) s = .next t ∧ (plk t n.val).rx0.framed = true)
    ∧ (∀ a, takesCtl p = true → exec (.ack n a) s = .next (takeAck (validPacket s n.val) n.val a))
    ∧ (p.ackDue = true → takesCtl p = true → p.ackAt + 20000 ≤ s.clk → exec (.ackTimer n) s = .next (sendAck s n.val))
    ∧ (∀ m r, p.unacked = m :: r → m.sentAt + 200000 ≤ s.clk → powerOf p (txDir p) = 0 → m.sends < 8 →
        exec (.retransmitTimeout n) s = .next (plkCount ((m :: r).foldl (fun s x => resendCtl s n.val x)
          (setPlk s n.val { p with unacked := [] })) n.val 0 0 0 0 (r.length + 1)))
    ∧ (∀ m r, p.unacked = m :: r → m.sentAt + 200000 ≤ s.clk → powerOf p (txDir p) = 0 → 8 ≤ m.sends →
        exec (.retransmitTimeout n) s = .next (heartbeatLost s n.val))
    ∧ (∀ m, exec (.urgent n m) s = .next (receiveCtl s n.val m).2)
    ∧ (∀ m, exec (.endOfLink n m) s = .next (receiveCtl s n.val m).2)
    ∧ (∀ off t r, p.triggers = t :: r → p.st = 8 → p.bck = 0 → windowOpen p = true → 64 ≤ off → off ≤ t.latest.getD off →
        exec (.triggerDeparture n off) s = .next (launchCtl (setPlk s n.val { p with triggers := r }) n.val
          { sub := 0x03#8, trig := some t, data := [BitVec.ofNat 8 t.cam] ++ leBytes 2 (sat 16 off) ++ [0#8] ++ wordBytes t.word
            ++ leBytes 8 t.launch.toNat ++ List.replicate 8 0#8 }))
    ∧ (∀ off, p.triggers = [] ∨ p.st ≠ 8 ∨ p.bck ≠ 0 ∨ off < 64 → exec (.triggerDeparture n off) s = .next s))

/-- POWER, BEACON, POWER_REQUEST_TIMEOUT, WAKE_TIMEOUT_PLK and TRAFFIC_IDLE_RETURN (R248 to R254): a notice is obeyed by the end that
receives and a request by the end that transmits; a beacon wakes its direction, and the opposite one where it was wanted; a request
unanswered for 1 ms is told with cause 12; a wake that has not passed within its time is lost with cause 4; a direction that has had no
traffic for 1 ms goes back to the state commanded. -/
def Obligations.LinkPowerHappeningsComplete : Prop :=
  ∀ (n : Fin 24) s,
    let p := plk s n.val
    (∀ m, (receiveCtl s n.val m).1 = true → (plk (receiveCtl s n.val m).2 n.val).st = 8 →
      let t := (receiveCtl s n.val m).2
      let x := plk t n.val
      let dir := byteAt m.data 0 % 2
      let pw := byteAt m.data 1 % 4
      (byteAt m.data 2 = 0 → transmits x dir = false → exec (.power n m) s = .next (setPower (setPlk t n.val
          { x with request := if x.request.map Prod.fst = some dir then none else x.request }) n.val dir pw))
      ∧ (byteAt m.data 2 ≠ 0 → transmits x dir = true → exec (.power n m) s = .next (changePower t n.val dir pw)))
    ∧ (∀ m, (receiveCtl s n.val m).1 = false → exec (.power n m) s = .next (receiveCtl s n.val m).2)
    ∧ (∀ d : Fin 2, p.st = 8 → transmits p d.val = false → powerOf p d.val = 1 ∨ powerOf p d.val = 2 →
        exec (.beacon n d) s = .next (
          let t := setPower (setPlk s n.val { p with request := if p.request.map Prod.fst = some d.val then none else p.request }) n.val d.val 0
          if powerOf (plk t n.val) (txDir (plk t n.val)) = 2 then wakeTx t n.val else t))
    ∧ (∀ d : Fin 2, p.st ≠ 8 ∨ transmits p d.val = true → exec (.beacon n d) s = .next s)
    ∧ (∀ d st t, p.request = some (d, st, t) → t + 1000000 ≤ s.clk → exec (.powerRequestTimeout n) s =
        .next (plkEvent (setPlk s n.val { p with request := none }) n.val 12 0 false))
    ∧ (∀ b, wakeOf p (rxDir p) = some b → p.st = 8 → b + 1000000 ≤ s.clk → exec (.wakeTimeoutPlk n) s = .next (plkTo s n.val 9 4))
    ∧ (∀ d : Fin 2, p.st = 8 → transmits p d.val = true → txIdle p = true → p.idleAt + 1000000 ≤ s.clk →
        exec (.trafficIdleReturn n d) s = .next (
          let c := if d.val = 0 then p.cmdFwd else p.cmdBck
          if c = 0 then s else idleTx s n.val c))
    ∧ (∀ d : Fin 2, p.st ≠ 8 ∨ transmits p d.val = false ∨ txIdle p = false → exec (.trafficIdleReturn n d) s = .next s)

/-- VIDEO_LINE, TILE, AUDIO and FENCE (R270 to R275, R287): a packet that a port may take and whose CRCs pass reaches the capture pipes of
its stream, the audio lanes, or the fence it names; one that fails is counted, and a broken payload leaves a loss notice. CP2_COMMAND and
CP2_PLACARD (R63 to R66, R278): the bytes of a command are collected on the nominated port, at its source end, and met as a packet;
elsewhere they raise the intake-error event; the acknowledgement of a Placard's last message delivers it and frees its credit. The
packets of a sender wait in the order of their precedence (R273). What a lane scrambles its far end reads as it was, and after 58 bits whatever its register held (R262); the bytes of a block come back as they went (the
order of their bits is the model's choice, log entry 124). -/
def Obligations.LinkDataComplete : Prop :=
  (∀ (n : Fin 24) s,
    (∀ b d, takesData (plk s n.val) = false → exec (.videoLine n b d) s = .next (packetFailed s n.val)
      ∧ exec (.tile n b d) s = .next (packetFailed s n.val) ∧ exec (.audio n b) s = .next (packetFailed s n.val))
    ∧ (∀ b d st seq len h k, takesData (plk s n.val) = true → openHeader b 0x11 8192 true = some (st, seq, len) →
        openPacket b 0x11 8192 true = some (h, k) → 12 ≤ len → pixelBytes (byteAt k 8) (leAt k 6 2) = some (len - 12) →
        exec (.videoLine n b d) s = .next (
          let ks := pipesOf s (1, n.val, st)
          let t := ks.foldl (fun s p => lineForPipe s (1, n.val, st) p seq k d) (streamCand (validPacket s n.val) n.val st (leAt k 0 2))
          settleDrains (if byteAt k 9 / 4 % 2 = 1 then ks.foldl (fun s p => forcedLine s n.val p) t else t)))
    ∧ (∀ b d st seq len, takesData (plk s n.val) = true → openHeader b 0x11 8192 true = some (st, seq, len) →
        openPacket b 0x11 8192 true = none → exec (.videoLine n b d) s = .next (packetFailed
          ((pipesOf s (1, n.val, st)).foldl (fun s p => lossNotice s p seq) s) n.val))
    ∧ (∀ b d st seq len h k, takesData (plk s n.val) = true → openHeader b 0x12 2048 true = some (st, seq, len) →
        openPacket b 0x12 2048 true = some (h, k) → exec (.tile n b d) s = .next (
          let ks := (pipesOf s (1, n.val, st)).filter fun p => decide ((capAt s p).carries ≠ 1)
          settleDrains (ks.foldl (fun s p => forcedLine s n.val p) (ks.foldl (fun s p => tileForPipe s (1, n.val, st) p seq k d)
            (streamCand (validPacket s n.val) n.val st (leAt k 0 2))))))
    ∧ (∀ b h k, takesData (plk s n.val) = true → openPacket b 0x13 4108 false = some (h, k) →
        (1 ≤ byteAt k 8 ∧ byteAt k 8 ≤ 32 ∧ byteAt k 9 ≤ 2 ∧ 1 ≤ leAt k 10 2 ∧ leAt k 10 2 ≤ 32
          ∧ k.length = 12 + 4 * byteAt k 8 * leAt k 10 2) →
        exec (.audio n b) s = .next (audioArrives (validPacket s n.val) n.val (byteAt k 8) (sampleRate (byteAt k 9)) (some (leAt b 4 2)) (leAt k 10 2)
          (BitVec.ofNat 64 (leAt k 0 8)) (wordsOf (slice k (12 + 4 * byteAt k 8 * (leAt k 10 2 - 1)) (4 * byteAt k 8)))))
    ∧ (∀ b, (plk s n.val).role ≠ 1 → exec (.fence n b) s = .next (packetFailed s n.val))
    ∧ (∀ b h k, (plk s n.val).role = 1 → openPacket b 0x14 8 false = some (h, k) → exec (.fence n b) s = .next (
        let x := receiveCtl s n.val { seq := k.getD 1 0#8, ack := k.getD 2 0#8 }
        if x.1 && decide (leAt k 4 2 < 1024) then signalFence x.2 (leAt k 4 2) 1 n.val else x.2)))
  ∧ (∀ (n : Fin 24) s,
    (∀ m, exec (.cp2Command n m) s = .next (
      let t := (receiveCtl s n.val m).2
      if (receiveCtl s n.val m).1 = false then t
      else if cp2Port t = some n.val ∧ (plk t n.val).role = 0 then cp2Bytes t m
      else intakeError t .cp2))
    ∧ (∀ m, cp2Port s = some n.val → (plk s n.val).unacked.find? (fun x => x.cp2 && x.frag.getLsbD 1) = some m →
        exec (.cp2Placard n) s = .next (takeAck s n.val m.seq))
    ∧ (cp2Port s ≠ some n.val → exec (.cp2Placard n) s = .next s))
  ∧ (∀ t m, t.ports.cp2.rx = [] ∨ m.first = false → cp2Bytes t m = (
      let b := (if m.first then [] else t.ports.cp2.rx) ++ m.data
      let u := { t with ports := { t.ports with cp2RxAt := if m.first then t.clk else t.ports.cp2RxAt } }
      if m.last then arrive (setPort u .cp2 { t.ports.cp2 with rx := [] }) .cp2 b else setPort u .cp2 { t.ports.cp2 with rx := b }))
  ∧ ((∀ r l, descramble r (scramble r l).2 = ((scramble r l).1, l))
    ∧ (∀ r r' l, 58 ≤ l.length → (descramble r l).1 = (descramble r' l).1)
    ∧ (∀ b, bytesOf b.length (bitsOf b) = b))
  ∧ (∀ rank p l, l.Pairwise (fun x y => x.1 ≤ y.1) → (joinSend rank p l).Pairwise (fun x y => x.1 ≤ y.1))

/-- AUX_REQUEST, DP_LINK_TRAINING, DP_LINK_LOSS, SIDEBAND_MESSAGE and FENCE_SDP (R291 to R299): with HPD low nothing answers; a DPCD read
answers a byte for each address; a training within DPS_RATE trains the link with cause 2; a loss ends the streams with cause 3 and an
IRQ_HPD; a payload is allocated where the link has room, a logical port of the branch gives its path resources, DPCD and EDID, and another is
NAKed; a fence SDP with the right header signals its fence. MSA, AUDIO_SDP and
VB_ID_TRANSITION (R294 to R299, R175): the attributes of a stream are taken where the link is trained, and a new set is told to the pipes
that run on it; audio that is no LPCM stops its stream; a frame starts and ends with the VB-ID. -/
def Obligations.DisplayPortComplete : Prop :=
  (∀ (p : Fin 4) s,
    let x := dps s p.val
    (∀ k a o len d, x.hpd = false → exec (.auxRequest p k a o len d) s = .next (setDps s p.val { x with reply := .none }))
    ∧ (∀ a o len d, x.hpd = true → exec (.auxRequest p 0 a o len d) s = .next (setDps s p.val
        { x with reply := .ack ((List.range len).map fun i => dpcdRead s p.val (a + i)) }))
    ∧ (∀ a o len d, x.hpd = true → exec (.auxRequest p 1 a o len d) s = .next (setDps s p.val
        { x with dpcd := d.zipIdx.foldl (fun t y => tput none t (a + y.2) (some y.1)) x.dpcd, reply := .ack [] }))
    ∧ (∀ a o len d, x.hpd = true → a = 0x50 ∨ a = 0x30 → exec (.auxRequest p 2 a o len d) s = .next (setDps s p.val
        { x with reply := .ack ((List.range len).map fun i => edidByte x (o + i)) })
        ∧ exec (.auxRequest p 3 a o len d) s = .next (setDps s p.val { x with reply := .ack [] }))
    ∧ (∀ a o len d, x.hpd = true → a ≠ 0x50 → a ≠ 0x30 →
        exec (.auxRequest p 2 a o len d) s = .next (setDps s p.val { x with reply := .i2cNack })
        ∧ exec (.auxRequest p 3 a o len d) s = .next (setDps s p.val { x with reply := .i2cNack }))
    ∧ (∀ (r : Fin 7) (l : Fin 3), x.hpd = true → r.val ≤ bits (dpsCfg s p.val) 2 0 → exec (.dpLinkTraining p r l) s = .next (
        let t := dpsEvent (setDps s p.val { x with rate := r.val, lanes := 2 ^ l.val, trained := true }) p.val 2 0
        if r.val = x.rate then t else rateChanged t 2 p.val))
    ∧ (∀ (r : Fin 7) (l : Fin 3), x.hpd = false ∨ bits (dpsCfg s p.val) 2 0 < r.val → exec (.dpLinkTraining p r l) s = .next s)
    ∧ (x.trained = true → exec (.dpLinkLoss p) s = .next (settleStreams (portLost (dpsEvent (irqHpd
        (setDps s p.val { x with trained := false, msa := [], compressed := 0#4 }) p.val) p.val 3 0) 2 p.val 2)))
    ∧ (x.trained = false → exec (.dpLinkLoss p) s = .next s)
    ∧ (∀ m, x.hpd = false ∨ bit (dpsCfg s p.val) 4 = false → exec (.sidebandMessage p m) s = .next (setDps s p.val { x with side := .none }))
    ∧ (x.hpd = true → bit (dpsCfg s p.val) 4 = true →
        let said (t : State) (r : Sideband) : State := setDps t p.val { dps t p.val with side := r }
        (∀ sub rate dsc, exec (.sidebandMessage p (.allocatePayload sub rate dsc)) s = .next (
          let table := tput none x.payload sub (some (rate, dsc))
          if bits (dpsCfg s p.val) 6 5 < sub then said s .nakBadParam
          else if rate = 0 then said (dropPayload s p.val sub) .ack
          else if 2400000000 < (payloadSums table).1 ∨ 1200000000 < (payloadSums table).2 ∨ (dsc = true ∧ bit (dpsCfg s p.val) 7 = false) then
            said (irqHpd (dpsEvent s p.val 4 sub) p.val) .nakResources
          else said (setDps s p.val { x with payload := table }) .ack))
        ∧ exec (.sidebandMessage p .powerUpPhy) s = .next (said (setDps s p.val { x with powered := true }) .ack)
        ∧ exec (.sidebandMessage p .powerDownPhy) s = .next (said (setDps s p.val { x with powered := false }) .ack)
        ∧ exec (.sidebandMessage p .clearPayloadIdTable) s =
            .next (said ((tkeys x.payload).foldl (fun s sub => dropPayload s p.val sub) s) .ack)
        ∧ exec (.sidebandMessage p .linkAddress) s =
            .next (said s (.ackPorts ((List.range (bits (dpsCfg s p.val) 6 5 + 1)).map (8 + ·))))
        ∧ (∀ n, exec (.sidebandMessage p (.enumPathResources n)) s = .next (said s (
            if 8 ≤ n ∧ n ≤ 8 + bits (dpsCfg s p.val) 6 5 then .ackPath 2400000000 (2400000000 - (payloadSums x.payload).1) else .nakBadParam)))
        ∧ (∀ n a len, exec (.sidebandMessage p (.remoteDpcdRead n a len)) s = .next (said s (
            if 8 ≤ n ∧ n ≤ 8 + bits (dpsCfg s p.val) 6 5 then .ackData ((List.range len).map fun i => dpcdRead s p.val (a + i)) else .nakBadParam)))
        ∧ (∀ n dev o len, exec (.sidebandMessage p (.remoteI2cRead n dev o len)) s = .next (said s (
            if (8 ≤ n ∧ n ≤ 8 + bits (dpsCfg s p.val) 6 5) ∧ (dev = 0x50 ∨ dev = 0x30) then .ackData ((List.range len).map fun i => edidByte x (o + i))
            else .nakBadParam)))
        ∧ exec (.sidebandMessage p .other) s = .next (said s .nakBadParam))
    ∧ (∀ d, x.trained = true → slice d 1 3 = [0xC1#8, 0xB2#8, 0x7A#8] → leAt d 4 2 < 1024 →
        exec (.fenceSdp p 0x81#8 d) s = .next (signalFence s (leAt d 4 2) 2 p.val))
    ∧ (∀ d, x.trained = true → slice d 1 3 = [0xC1#8, 0xB2#8, 0x7A#8] → 1024 ≤ leAt d 4 2 →
        exec (.fenceSdp p 0x81#8 d) s = .next (dpsEvent s p.val 7 0))
    ∧ (∀ h d, x.trained = false ∨ h ≠ 0x81#8 ∨ slice d 1 3 ≠ [0xC1#8, 0xB2#8, 0x7A#8] → exec (.fenceSdp p h d) s = .next s))
  ∧ (∀ (p : Fin 4) (k : Fin 4) s,
    let x := dps s p.val
    (∀ m, x.trained = false → exec (.msa p k m) s = .next s)
    ∧ (∀ m, x.trained = true →
        let bad := !bit (dpsCfg s p.val) 4 && beyondLimits s p.val m
        let new := ((if bad ∨ !(decide (0x10 ≤ m.fmt) && decide (m.fmt ≤ 0x1B)) then 0xFF else m.fmt), m.w, m.h, m.color)
        let old := tget none x.msa k.val
        let t := setDps s p.val { x with msa := tput none x.msa k.val (some new), clock := tput 0 x.clock k.val m.clock, compressed :=
          if m.dsc.isSome then x.compressed ||| 1#4 <<< k.val else x.compressed &&& ~~~(1#4 <<< k.val) }
        (old = some new → exec (.msa p k m) s = .next s)
        ∧ (old = none → exec (.msa p k m) s = .next (if bad then dpsEvent t p.val 6 k.val else t))
        ∧ (old.isSome = true → old ≠ some new → exec (.msa p k m) s = .next ((pipesOf (dpsEvent t p.val 6 k.val) (2, p.val, k.val)).foldl
            (fun s c => if (capAt s c).st = 2 then capChange s c else s) (dpsEvent t p.val 6 k.val))))
    ∧ (∀ ch rate n last, x.trained = true →
        exec (.audioSdp p k ch rate n true last) s = .next (audioArrives s (32 + 4 * p.val + k.val) ch rate none n 0#64 last))
    ∧ (∀ ch rate n last, x.trained = true →
        exec (.audioSdp p k ch rate n false last) s = .next (stopStream (dpsEvent s p.val 8 k.val) (32 + 4 * p.val + k.val)))
    ∧ (∀ ch rate n lpcm last, x.trained = false → exec (.audioSdp p k ch rate n lpcm last) s = .next s)
    ∧ (∀ st d, x.trained = false ∨ tget none x.msa k.val = none → exec (.vbIdTransition p k st d) s = .next s)
    ∧ (∀ d f w h cc, x.trained = true → tget none x.msa k.val = some (f, w, h, cc) →
        exec (.vbIdTransition p k false d) s = .next ((pipesOf s (2, p.val, k.val)).foldl
          (fun s c => capKnow (capPulse s c f w none) c f w) (sourceRefPulse s (2, p.val, k.val))))
    ∧ (∀ d f w h cc, x.trained = true → tget none x.msa k.val = some (f, w, h, cc) →
        exec (.vbIdTransition p k true d) s = .next ((pipesOf (drawSpan s (w * h)).2 (2, p.val, k.val)).foldl (fun t c => capFrameEnd
          (if (capAt t c).inFrame then setCap t c { capAt t c with curH := h, write := (capAt t c).write.map fun x =>
            { x with spans := { y := 0, rows := h, x := 0, count := w, src := (drawSpan s (w * h)).1 } :: x.spans } } else t) c d)
          (drawSpan s (w * h)).2)))

/-- The panel ports (R301 to R304, Table 11-5): HPD brings a starting panel to training or ends it with cause 2; a training that succeeds
runs the panel with cause 0, and the third failure ends it; a loss told by IRQ_HPD trains again with cause 4; a loss of the panel darkens
it with cause 3. The CSI-2 ports (R305, R306), while they have power (R32): a frame start begins the frames of the pipes on its virtual
channel, a long packet gives them a line, a frame end ends them; a broken header, a reserved type and a missing end are told; ULPS loses
the port's sources. -/
def Obligations.PanelAndCameraPortsComplete : Prop :=
  (∀ (p : Fin 4) s,
    let e := edp s p.val
    (∀ b, e.st ≠ 1 → exec (.edpHpdSettled p b) s = .next (setEdp s p.val { e with hpd := true }))
    ∧ (e.st = 1 → exec (.edpHpdSettled p true) s = .next (setEdp (setEdp s p.val { e with hpd := true }) p.val { e with hpd := true, st := 2 }))
    ∧ (e.st = 1 → exec (.edpHpdSettled p false) s =
        .next (edpEvent (setEdp (setEdp s p.val { e with hpd := true }) p.val { e with hpd := true, st := 4 }) p.val 2))
    ∧ (e.st = 2 → exec (.edpTrainingDone p true) s = .next (edpEvent (setEdp s p.val { e with st := 3, fails := 0, blank := 0 }) p.val 0))
    ∧ (e.st = 2 → exec (.edpTrainingDone p false) s = .next (
        let bad := edpEvent (setEdp s p.val { e with fails := e.fails + 1 }) p.val 1
        if 3 ≤ e.fails + 1 then edpEvent (setEdp bad p.val { edp bad p.val with st := 4 }) p.val 2 else bad))
    ∧ (∀ b, e.st ≠ 2 → exec (.edpTrainingDone p b) s = .next s)
    ∧ (e.st = 3 → exec (.edpIrqHpd p true) s = .next (edpEvent (setEdp s p.val { e with st := 2, fails := 0 }) p.val 4))
    ∧ (∀ b, e.st ≠ 3 ∨ b = false → exec (.edpIrqHpd p b) s = .next s)
    ∧ (e.st = 0 → exec (.edpPanelLoss p) s = .next (setEdp s p.val { e with hpd := false }))
    ∧ (e.st ≠ 0 → exec (.edpPanelLoss p) s =
        .next (edpEvent (setEdp (edpDark s p.val) p.val { edp (edpDark s p.val) p.val with st := 1, fails := 0, hpd := false }) p.val 3)))
  ∧ (∀ (p : Fin 8) s,
    (portOff s 3 p.val = true → (∀ v h, exec (.csiFrameStart p v h) s = .next s) ∧ (∀ v h d, exec (.csiFrameEnd p v h d) s = .next s)
      ∧ (∀ v h x ty n g, exec (.csiLongPacket p v h x ty n g) s = .next s) ∧ exec (.csiUlpsEntry p) s = .next s)
    ∧ (portOff s 3 p.val = false →
      (∀ (v : Fin 4) (h : Fin 3), csiHeader s p.val h = none →
        exec (.csiFrameStart p v h) s = .next (csiHeaderBad s p.val v.val) ∧ (∀ d, exec (.csiFrameEnd p v h d) s = .next (csiHeaderBad s p.val v.val))
        ∧ (∀ x ty n g, exec (.csiLongPacket p v h x ty n g) s = .next (csiHeaderBad s p.val v.val)))
      ∧ (∀ (v : Fin 4) (h : Fin 3) d t, csiHeader s p.val h = some t → exec (.csiFrameEnd p v h d) s = .next (
          if (csi t p.val).busy.getLsbD v.val then csiEnd t p.val v.val d else t))
      ∧ (∀ (v : Fin 4) (h : Fin 3) t, csiHeader s p.val h = some t → exec (.csiFrameStart p v h) s = .next (
          let t := if (csi t p.val).busy.getLsbD v.val then csiEnd (csiEvent t p.val 3 v.val 0) p.val v.val 0 else t
          let c := csi t p.val
          let ks := pipesOf t (3, p.val, v.val)
          let first := decide (ks ≠ []) && !c.told.getLsbD v.val
          let t := setCsi t p.val { c with busy := c.busy ||| 1#4 <<< v.val, dtype := tput 0 c.dtype v.val 0, lines := tput 0 c.lines v.val 0, told := if first then c.told ||| 1#4 <<< v.val else c.told }
          let t := if first then csiEvent t p.val 0 v.val 0 else t
          ks.foldl (fun s k => capPulse s k 0 0 none) (sourceRefPulse t (3, p.val, v.val))))
      ∧ (∀ (v : Fin 4) (h : Fin 3) ty n fmt bpp t, csiHeader s p.val h = some t → ty ≠ 0x12 → imageType ty = some (fmt, bpp) →
          (csi t p.val).busy.getLsbD v.val = true → (tget 0 (csi t p.val).dtype v.val = 0 ∨ tget 0 (csi t p.val).dtype v.val = ty) →
          exec (.csiLongPacket p v h false ty n true) s = .next (
            let c := csi t p.val
            let t' := setCsi (setCsi t p.val c) p.val { c with dtype := tput 0 c.dtype v.val ty, lines := tput 0 c.lines v.val (tget 0 c.lines v.val + 1) }
            let w := n * 8 / bpp
            (pipesOf t' (3, p.val, v.val)).foldl (fun s k => capPixels (capKnow s k fmt w) k (tget 0 c.lines v.val) 0 w (drawSpan t' w).1) (drawSpan t' w).2))
      ∧ exec (.csiUlpsEntry p) s = .next (portLost (setCsi s p.val { csi s p.val with ulps := true, busy := 0#4 }) 3 p.val 3)))

/-- SOURCE_LOSS_TIMEOUT, FILL_COMPLETE, SWITCH_WAIT_BOUND and LOCK_POINT (R318 to R321, R341, R425, R426): a RUNNING or DRAINING pipe whose
source has been silent for two of its periods, or 400 ms, loses it; a filling pipe publishes what it has and stops; a switch that has waited
500 ms is bounded; and at its lock point a line-locked output is steered by the lines between its frame and the point, to the nearer frame
start. -/
def Obligations.CaptureAndRouteHappeningsComplete : Prop :=
  ∀ s,
    (∀ k : Fin 80, (capAt s k.val).st = 2 ∨ (capAt s k.val).st = 4 →
      (capAt s k.val).pulseAt + min (2 * (capAt s k.val).period) 400000000 ≤ s.clk →
        exec (.sourceLossTimeout k) s = .next (capLose s k.val 0))
    ∧ (∀ k : Fin 80, s.clk < (capAt s k.val).pulseAt + min (2 * (capAt s k.val).period) 400000000 → exec (.sourceLossTimeout k) s = .next s)
    ∧ (∀ k : Fin 80, (capAt s k.val).st = 6 → exec (.fillComplete k) s = .next (capStopped (capPublish s k.val) k.val true))
    ∧ (∀ k : Fin 80, (capAt s k.val).st ≠ 6 → exec (.fillComplete k) s = .next s)
    ∧ (∀ (b : Fin 2) (r : Fin 64) (o : Fin 20), outRuns s o.val = true → (rteReaders s b.val r.val).contains o.val = true →
        (rte s b.val r.val o.val).st = 2 → (rte s b.val r.val o.val).since + 500000000 ≤ s.clk →
        exec (.switchWaitBound b r o) s = .next (routeTick s b.val r.val o.val true))
    ∧ (∀ (b : Fin 2) (r : Fin 64) (o : Fin 20), (rte s b.val r.val o.val).st ≠ 2 ∨ s.clk < (rte s b.val r.val o.val).since + 500000000 →
        exec (.switchWaitBound b r o) s = .next s)
    ∧ (∀ (o : Fin 20) p t, (out s o.val).lockAt = some t → t ≤ s.clk → exec (.lockPoint o p) s =
        .next (lockPoint (setOut s o.val { out s o.val with lockAt := none }) o.val (lockError s o.val t - (if lineLocked s o.val then p else 0))))
    ∧ (∀ (o : Fin 20) p, (out s o.val).lockAt = none → exec (.lockPoint o p) s = .next s)

/-- The audio happenings (R468 to R483): a queued crossbar change acts at its boundary with event 220, its entries on SYN9 at their own; a
starting TDM port runs from the next boundary with cause 0, a halted one goes on with cause 3, a stopping one stops with cause 1; a
converter locks with event 219, loses its lock on a step of its ratio and is muted while the ratio is out of range, measured at most every
10 ms; a sample boundary that has come is taken once. -/
def Obligations.AudioHappeningsComplete : Prop :=
  ∀ s,
    (∀ c, s.audio.changes = [c] → c.first = false → boundarySince s 8 0 c.tick = true →
      (∀ e ∈ c.entries, onSyn9 (laneView (xbarEvent { s with audio := { s.audio with changes := [] } } c)) e.dst.toNat = false) →
      exec .xbarChangeBoundary s = .next (
        let t := takeEntries (xbarEvent { s with audio := { s.audio with changes := [] } } c) c.ramp c.entries
        { t with audio := { t.audio with changes := t.audio.changes ++ [] } }))
    ∧ (s.audio.changes = [] → exec .xbarChangeBoundary s = .next s)
    ∧ exec .xbarChangeBoundary s = .next (reachAll { s with audio := { s.audio with changes := [] } } s.audio.changes)
    ∧ (∀ p : Fin 8, tdmStarts s p.val = true → (tdm s p.val).starting = true → exec (.tdmPortStart p) s = .next (
        tdmEvent (setTdm s p.val { tdm s p.val with running := true, starting := false, halted := false, stopping := false }) p.val 0))
    ∧ (∀ p : Fin 8, tdmStarts s p.val = true → (tdm s p.val).starting = false → (tdm s p.val).halted = true →
        exec (.tdmPortStart p) s = .next (tdmEvent (setTdm s p.val { tdm s p.val with halted := false }) p.val 3))
    ∧ (∀ p : Fin 8, tdmStarts s p.val = false → exec (.tdmPortStart p) s = .next s)
    ∧ (∀ p : Fin 8, tdmStops s p.val = true → exec (.tdmPortStop p) s = .next (tdmEvent (setTdm s p.val {}) p.val 1))
    ∧ (∀ p : Fin 8, tdmStops s p.val = false → exec (.tdmPortStop p) s = .next s)
    ∧ (∀ k : Fin 64, (conv s k.val).mode ≠ 0 → (conv s k.val).locked = false → exec (.converterLock k) s = .next
        (raise (setConv s k.val { conv s k.val with locked := true, fade := 0, fadingOut := false, muted := false }) 219 (det k.val 0 0 0)))
    ∧ (∀ k : Fin 64, (conv s k.val).mode = 0 ∨ (conv s k.val).locked = true → exec (.converterLock k) s = .next s)
    ∧ (∀ (k : Fin 64) r, (conv s k.val).mode = 0 → exec (.converterRatioMeasure k r) s = .next s)
    ∧ (∀ (k : Fin 64) r, (conv s k.val).mode ≠ 0 → (∀ t, (conv s k.val).ratioAt = some t → t + 10000000 ≤ s.clk) →
        let c := conv s k.val
        let n := r.toNat
        let wrong := decide (6 * n < 16777216) || decide (67108864 < n)
        let step := decide (c.ratio ≠ 0) && decide (c.ratio < (n - c.ratio + (c.ratio - n)) * 200)
        let x := { c with ratio := n, muted := wrong, ratioAt := some s.clk }
        (wrong = true → c.muted = true → exec (.converterRatioMeasure k r) s = .next (setConv s k.val x))
        ∧ (wrong = true → c.muted = false → exec (.converterRatioMeasure k r) s = .next (raise (setConv s k.val x) 219 (det k.val 3 0 0)))
        ∧ (wrong = false → step = true → c.locked = true → exec (.converterRatioMeasure k r) s =
            .next (raise (setConv s k.val { x with locked := false, fadingOut := true }) 219 (det k.val 1 0 0)))
        ∧ (wrong = false → step = false ∨ c.locked = false → exec (.converterRatioMeasure k r) s = .next (setConv s k.val x)))
    ∧ (∀ nine (r : Fin 3) f, boundaryUntold s (if nine then 9 else 8) r.val = true →
        exec (.sampleBoundary nine r f) s = .next (sampleBoundary s (if nine then 9 else 8) r.val f))
    ∧ (∀ nine (r : Fin 3) f, boundaryUntold s (if nine then 9 else 8) r.val = false → exec (.sampleBoundary nine r f) s = .next s)

/-- COMMIT_TICK, OUTPUT_START_INSTANT, OUTPUT_LINE_BOUNDARY and the composing jobs (R169, R345, R372 to R375, R432, R434, R441, R456, R458):
an output that may start takes its words and runs from that instant with event 166; a commit tick is taken at the end of the last active
line of a running output, and a line boundary at the end of any other; a job that engines run tells its failed source tiles, is compared,
frees its engines and lets the dispatcher hand out the next; a job past its deadline is a miss, which a held frame repeats and any other
conceals; a row that is due is read, its tiles that fail go to be recomposed, and a recomposed tile replaces its own or is concealed. Of
the jobs at hand the dispatcher hands out the one of the lowest rank, and of that rank the earliest deadline (R373). -/
def Obligations.CompositionHappeningsComplete : Prop :=
  (∀ l, l ≠ [] → ∃ x ∈ l, firstJob l = some x ∧ ∀ y ∈ l, x.rank < y.rank ∨ (x.rank = y.rank ∧ x.due ≤ y.due))
  ∧ ∀ (o : Fin 20) s,
    (∀ obs, (out s o.val).st ≠ .starting → commitDue s o.val = true → exec (.commitTick o obs) s = .next (settle (runningTick s o.val obs)))
    ∧ (∀ obs, (out s o.val).st ≠ .starting → commitDue s o.val = false → exec (.commitTick o obs) s = .next (settle s))
    ∧ (∀ c0, startNow s o.val = some c0 → (out (frameTrigger s o.val) o.val).st = .starting → exec (.outputStartInstant o) s = .next (
        let t := (takeOutWords (recentre (frameTrigger s o.val) o.val) o.val).1
        let st : OutState := if (cannotCarry t o.val).isSome then .linkIdle else .running
        let t := outEvent (setOut t o.val { out t o.val with
          st := st, begun := true, line := vAct (word t) o.val, lineAt := c0, frameAt := 0, atLine := true }) o.val 0 0 0
        settle (edpTick (nextFrame (tickWork t o.val {}).1 o.val) o.val)))
    ∧ (startNow s o.val = none → exec (.outputStartInstant o) s = .next (settle s))
    ∧ (∀ line, boundaryDue s o.val = some line → exec (.outputLineBoundary o line) s = .next (settle (lineBoundary s o.val line)))
    ∧ (∀ line, boundaryDue s o.val ≠ some line → exec (.outputLineBoundary o line) s = .next (settle s))
    ∧ (∀ w row col fails lost agree rerun, enginesOf s w o.val row col ≠ [] → exec (.jobComplete w o row col fails lost agree rerun) s = .next (
        let g := jobGalleries s w o.val row col
        let bad := fails.map (fun t => (t.1, t.2, true)) ++ lost.map fun t => (t.1, t.2, false)
        finishJob (jobCompare (failTiles s (wingCode w) o.val bad) w o.val row col g.1 g.2 agree rerun) w o.val row col))
    ∧ (∀ w row col fails lost agree rerun, enginesOf s w o.val row col = [] → exec (.jobComplete w o row col fails lost agree rerun) s = .next s)
    ∧ (∀ w row col (late : Option (Fin 2)), timingRuns (out s o.val) = false ∨ composes s w o.val = false ∨ jobLate s w o.val row col = false →
        exec (.jobDeadlineMiss w o row col late) s = .next s)
    ∧ (∀ w row col (late : Option (Fin 2)), timingRuns (out s o.val) = true → composes s w o.val = true → jobLate s w o.val row col = true →
        exec (.jobDeadlineMiss w o row col late) s = .next (jobMiss s w o.val row col (late.map (·.val)))
        ∧ (lineLocked s o.val = true → jobMiss s w o.val row col (late.map (·.val)) = (
            let t := if (out s o.val).wing = w then setOut s o.val { out s o.val with late := (out s o.val).late + 1 } else s
            raiseWing t w 164 (det o.val (wingCode w) (sat 8 (out t o.val).late) 0))))
    ∧ (∀ w row l, timingRuns (out s o.val) = true → composes s w o.val = true → lineLocked s o.val = false → rowDue s w o.val row = true →
        exec (.tileRowRead w o row l) s = .next (l.foldl (fun s t => match t.2 with
          | some c => sendTile s w o.val row t.1 c
          | none => setOut s o.val { out s o.val with recomposing := (tileKey w row t.1 :: (out s o.val).recomposing).dedup })
          (rowRead s w o.val row ((l.filter fun t => t.2.isNone).map (·.1)))))
    ∧ (∀ w row l, rowDue s w o.val row = false → exec (.tileRowRead w o row l) s = .next s)
    ∧ (∀ w row col, (out s o.val).recomposing.contains (tileKey w row col) = true → recompDue s w o.val row = true →
        let t := dropRecomp (setOut s o.val { out s o.val with recomposing := (out s o.val).recomposing.filter (· ≠ tileKey w row col) }) w o.val row col
        exec (.recomposedTileRead w o row col none) s = .next (
          let x := concealTile t w o.val row col
          raiseWing x.1 w 206 (det o.val (wingCode w) (sat 8 (out x.1 o.val).concealed) (b2n x.2))))
    ∧ (∀ w row col c, (out s o.val).recomposing.contains (tileKey w row col) = true → recompDue s w o.val row = true →
        exec (.recomposedTileRead w o row col (some c)) s = .next (
          let t := dropRecomp (setOut s o.val { out s o.val with recomposing := (out s o.val).recomposing.filter (· ≠ tileKey w row col) }) w o.val row col
          let t := countFst (sendTile (drawByte t).2 w o.val row col c) (2 * wingCode w + (drawByte t).1.toNat % 2) 2 1
          let n := (out t o.val).recomposed + 1
          raiseWing (if (out t o.val).wing = w then setOut t o.val { out t o.val with recomposed := n } else t) w 205
            (det o.val (wingCode w) (sat 8 n) 0)))

/-- The interconnect and the memory ports (R494, R500, R504, R619, Table 20-5): the bulk mover's transfer ends; a time-out of a transaction
that can wait raises event 225, counts, and has the outcome of its use; a memory port trains with event 228 up to 16 GiB (R23), and a
refresh code that changes is told while the port is awake. -/
def Obligations.InterconnectAndMemoryHappeningsComplete : Prop :=
  ∀ s,
    exec .bulkTransferComplete s = .next (bulkEnds s)
    ∧ (∀ (sl : Fin 3) (m t : Fin 16) use, canWait s sl.val m.val t.val = true → exec (.transactionTimeout sl m ⟨t, use⟩) s =
        .next (errorOutcome (raise (errorResponse s) 225 (det sl.val m.val t.val 0)) sl.val m.val use))
    ∧ (∀ (sl : Fin 3) (m t : Fin 16) use, canWait s sl.val m.val t.val = false → exec (.transactionTimeout sl m ⟨t, use⟩) s = .next s)
    ∧ (∀ x sl (n : Fin 40), sl < 2 → errorOutcome x sl (n.val / 20) (.frame n) =
        setCap x (40 * sl + n.val) { capAt x (40 * sl + n.val) with write := none })
    ∧ (∀ (p : Fin 4) c hot, (tget {} s.mem p.val).trained = true → (tget {} s.mem p.val).asleep = false →
        (tget {} s.mem p.val).mr4 ≠ c.toNat ∨ hot = true → exec (.mr4RefreshPoll p c hot) s =
          .next (memEvent { s with mem := tput {} s.mem p.val { tget {} s.mem p.val with mr4 := c.toNat } } p.val 1))
    ∧ (∀ (p : Fin 4) c hot, (tget {} s.mem p.val).trained = false ∨ (tget {} s.mem p.val).asleep = true
        ∨ ((tget {} s.mem p.val).mr4 = c.toNat ∧ hot = false) → exec (.mr4RefreshPoll p c hot) s = .next s)
    ∧ (∀ p : Fin 4,
        let w := wingOf (p.val / 2)
        let boot := decide (s.boot.phase = .curator) && bootReadies s w && !(tget {} s.mem p.val).trained
        let again := (wing s w).waking || decide ((wing s w).step = 2)
        let m := tget {} s.mem p.val
        (∀ tr g, boot = false → again = false → exec (.memoryTrainingComplete p tr g) s = .next s)
        ∧ (∀ g, boot = true ∨ again = true → g ≤ 16 → exec (.memoryTrainingComplete p true g) s = .next (evenCapacity (memEvent
            { s with mem := tput {} s.mem p.val { m with gib := g, rate := memRates.getD s.boot.memRate 0, trained := true, trainedAt := s.clk } }
            p.val (if boot then 0 else 2)) w))
        ∧ (∀ g, boot = true → (wing s w).heldOut = false → exec (.memoryTrainingComplete p false g) s =
            .next (settle (memFailed { s with mem := tput {} s.mem p.val { m with trained := false } } w))))

/-- The Wing's own happenings (R507 to R520): a fault source that fires, its supply, the give-up at a frame boundary and the takeover at its
instant; a row's compare and its arbitration. The steps of a re-admission and of a wake (R47, R521, R526, Table 21-8): monitors quiet for
10 ms lead to step 2, ones that are not within 1 s hold the Wing out; a passed test gives the Wing its role with event 237, a failed one
holds it out with cause 9; a Wing that is ready completes its wake, its re-admission or its boot, and a wake that takes too long ends. -/
def Obligations.WingHappeningsComplete : Prop :=
  (∀ s,
    (∀ w (c : Fin 5), exec (.wingFault w c) s = .next (wingFault s w (c.val + 1)))
    ∧ (∀ w, exec (.wingSupplyFault w) s = .next (mustGiveUp (setWing s w { wing s w with supplyBad := true, badAt := s.clk }) w 6))
    ∧ (∀ w both c, (wing s w).asserted = some c → exec (.giveUp w both) s = .next (giveUp s w c both))
    ∧ (∀ w both, (wing s w).asserted = none → exec (.giveUp w both) s = .next s)
    ∧ (∀ checks f, s.failover = some f → f.k ≤ s.clk → exec (.takeover checks) s = .next (takeover s f checks))
    ∧ (∀ checks, s.failover = none → exec (.takeover checks) s = .next s)
    ∧ (∀ (o : Fin 20) row col a b, exec (.tileCompare o ⟨row, col⟩ a b) s = .next (compareTile s o.val row col a b))
    ∧ (∀ (o : Fin 20) row col w c, exec (.arbitrationResult o ⟨row, col⟩ w c) s = .next (arbitrate s o.val row col w c)))
  ∧ (∀ w s,
    ((wing s w).readmit = true → (wing s w).step = 1 → max (wing s w).gAt (wing s w).badAt + 10000000 ≤ s.clk → clockLost s w = false →
      exec (.readmissionMonitorClear w) s = .next (setWing s w { wing s w with step := 2, supplyBad := false }))
    ∧ ((wing s w).readmit = true → (wing s w).step = 1 → (wing s w).gAt + 1000000000 ≤ s.clk →
      exec (.readmissionMonitorTimeout w) s = .next (holdOut s w 4))
    ∧ (∀ f, (wing s w).readmit = false ∨ (wing s w).step ≠ 3 → exec (.readmissionTestDone w f) s = .next s)
    ∧ (∀ c, (wing s w).readmit = true → (wing s w).step = 3 → ∃ t, exec (.readmissionTestDone w (some c)) s = .next (holdOut t w 2)
        ∧ (wing t w).cause = 9 ∧ (wing t w).role = (wing s w).role)
    ∧ ((wing s w).readmit = true → (wing s w).step = 3 → (wing s w).supplyBad = false → ∃ t, exec (.readmissionTestDone w none) s = .next t
        ∧ (wing t w).role = (if s.modes.cur = 2 then 3 else 1) ∧ (wing t w).cause = 0 ∧ (wing t w).readmit = false)
    ∧ ((wing s w).supplyBad = false → s.modes.pend.bind (·.wake) = some (w, false) → (s.modes.pend.bind (·.waitedAt)).isSome = true →
        exec (.wingReady w) s = .next (settle (wakeDone s w)))
    ∧ ((wing s w).supplyBad = false → s.modes.pend.bind (·.wake) ≠ some (w, false) → (wing s w).readmit = true → (wing s w).step = 2 →
        exec (.wingReady w) s = .next (readmitReady s w))
    ∧ ((wing s w).supplyBad = false → s.modes.pend.bind (·.wake) ≠ some (w, false) → (wing s w).readmit = false → s.boot.phase = .curator →
        memReady s w = true → (wing s w).ready = false → (wing s w).heldOut = false → exec (.wingReady w) s = .next (settle (bootReady s w)))
    ∧ (wakeLate s w = true → exec (.wakeTimeout w) s = .next (settle (refuseChange s 0 .modeForbids (mkAddr 0x21 (wingCode w) 0))))
    ∧ (wakeLate s .a = false → bootLate s = true → exec (.wakeTimeout .a) s = .next (settle (bootOnB s)))
    ∧ (∀ p, s.modes.pend = some p → p.wake = some (w, false) → p.waitedAt = none →
        p.askedAt + 500000 * bits (word s 0 0x01 0 1) 3 0 ≤ s.clk → exec .modeWakeWaitEnd s = .next (memSleep
          (setWing { s with modes := { s.modes with pend := some { p with waitedAt := some s.clk } } } w { wing s w with clocksOff := false }) w false)))

/-- The Curator's pairs (R12, R164): a first mismatch restarts its pair, a second within the bound holds it with event 2, and with both
held the Ontor resets; what the pair was running ends. A pair back in service says so with event 1, the entries that fell due meanwhile
launch late, and the step of an orderly shutdown that the management pair was in is extended by its restart (Table 22-3). -/
def Obligations.CuratorPairsComplete : Prop :=
  ∀ mgmt s,
    let p := pairOf s mgmt
    (s.boot.phase = .curator ∨ s.boot.phase = .done → p.held = false → p.restarting = false → exec (.lockstepMismatch mgmt) s = .next (
      let second := secondMismatch s p
      let t := setPair s mgmt { restarting := !second, held := second, last := some s.clk }
      let t := if second then raise t 2 (det (b2n mgmt) 0 0 0) else t
      let t := if mgmt then dropMgmtRuns t else dropCommands t
      if t.boot.cmdPair.held ∧ t.boot.mgmtPair.held then warmReset t 4 else settle t))
    ∧ (p.held = true ∨ p.restarting = true → exec (.lockstepMismatch mgmt) s = .next s)
    ∧ (p.restarting = false → exec (.pairBackInService mgmt) s = .next s)
    ∧ (p.restarting = true →
      let us := sat 16 ((s.clk - p.last.getD s.clk) / 1000)
      let t := raise (setPair s mgmt { p with restarting := false }) 1 (det (b2n mgmt) 0 (us % 256) (us / 256))
      (mgmt = false → exec (.pairBackInService mgmt) s = .next (delayDue t))
      ∧ (mgmt = true → t.thermal.shut ≠ 1 → exec (.pairBackInService mgmt) s = .next (pump t))
      ∧ (mgmt = true → t.thermal.shut = 1 → exec (.pairBackInService mgmt) s = .next (pump
          { t with thermal := { t.thermal with shutMore := t.thermal.shutMore + (t.clk - p.last.getD t.clk) } })))

/-- The resets (R610 to R616, R539, R565): each ends as its row of Table 27-3 says: SYS_RESET's warm reset with cause 1 at its instant once
armed, the watchdog's with cause 4 when the Curator has not raised event 0 within 1 s, PORST_N and the Atrium's supply with a power-on
reset, a loss of power, a thermal trip, and a tamper, which clears the Vault. -/
def Obligations.ResetsComplete : Prop :=
  ∀ s,
    (∀ t, s.boot.armed = some t → t ≤ s.clk → exec .warmReset s = .next (warmReset s 1))
    ∧ (s.boot.armed = none → exec .warmReset s = .next s)
    ∧ (∀ t, s.boot.armed = some t → s.clk < t → exec .warmReset s = .next s)
    ∧ (s.boot.phase = .curator → s.boot.curatorAt + 1000000000 ≤ s.clk → exec .curatorWatchdog s = .next (warmReset s 4))
    ∧ (s.boot.phase ≠ .curator ∨ s.clk < s.boot.curatorAt + 1000000000 → exec .curatorWatchdog s = .next s)
    ∧ exec .porstNAssert s = .next (powerOnReset s .held)
    ∧ exec .atrSupplyFault s = .next (powerOnReset s .noSupply)
    ∧ (∀ g, exec (.powerLoss g) s = .next (resetAll (cutRun s g true) {} { tripLatch := (cutRun s g true).thermal.tripLatch }))
    ∧ exec .thermalTrip s = .next (
        let t := cutRun (drawWord s).2 (drawWord s).1.toNat true
        resetAll t { strap := t.boot.strap, attempts := t.boot.attempts } { powerOff := t.thermal.powerOff, tripped := true, tripLatch := true })
    ∧ exec .tamper s = .next (
        let t := if s.boot.phase = .held ∨ s.boot.phase = .noSupply then s else warmReset s 0
        clearVault { t with vault := { t.vault with tamper := true } })

/-- Boot (R619 to R624, Table 27-7): a release of the resets samples the straps and programs SYN10 and SYN11, after a warm reset no sooner
than 100 µs; a flash load with a valid copy starts the Curator and one without is tried again 1 s later; the last step, once no Wing and no
output of the boot image is waited for, raises event 0. -/
def Obligations.BootHappeningsComplete : Prop :=
  ∀ s,
    (∀ strap a b, (s.boot.phase = .held ∨ s.boot.phase = .noSupply) → s.thermal.tripped = false →
      (s.boot.warm = true → s.boot.resetAt + 100000 ≤ s.clk) → ∃ t,
      exec (.bootStart strap a b) s = .next t ∧ t.boot.phase = .rom ∧ t.boot.railA = a ∧ t.boot.railB = b
      ∧ t.boot.strap = (if s.boot.warm then s.boot.strap else strap) ∧ t.boot.cause = resetCause s)
    ∧ (∀ c0 c1, s.boot.phase ≠ .rom → exec (.flashLoadComplete c0 c1) s = .next s)
    ∧ (∀ c0 c1, s.boot.phase = .rom → exec (.flashLoadComplete c0 c1) s = .next (match flashChoice c0 c1 with
        | none => { s with boot := { s.boot with phase := .noImage, loadedAt := s.clk } }
        | some c =>
          let t := { s with boot := { s.boot with phase := .curator, curatorAt := s.clk, remap := true, fwVer := BitVec.ofNat 32 (flashVersion c), memRate := byteAt ((sectionOf c 3).getD []) 2 } }
          pump (settle (bootBase (loadOverlays (loadVitrine (ensureCp2 (loadPrs (recover (loadLinks t c)))) c))))))
    ∧ (s.boot.phase = .noImage → s.boot.loadedAt + 1000000000 ≤ s.clk →
        exec .flashLoadRetry s = .next { s with boot := { s.boot with phase := .rom } })
    ∧ (s.boot.phase ≠ .noImage ∨ s.clk < s.boot.loadedAt + 1000000000 → exec .flashLoadRetry s = .next s)
    ∧ (s.boot.phase = .curator → s.boot.bootOuts.any (fun o => decide ((out s o).st = .starting)) = false → wingsPending s = false →
        exec .bootModeApply s = .next (
          let a := { s with boot := { s.boot with phase := .done, deferred := [], attempts := if s.boot.attempts < 3 then 0 else s.boot.attempts } }
          let x := bootEnter a
          let b := s.boot.deferred.foldl (fun s e => bootEvent s e.1 e.2) x.1
          let c := if b.boot.cause = 3 then raise b 252 0#32 else b
          let d := raise c 0 (det2 c.modes.cur (b2n x.2 + 16 * c.boot.cause) (sat 16 ((c.clk - c.boot.releasedAt) / 1000000)))
          pump (settle { d with boot := { d.boot with attempts := 0 } })))
    ∧ (s.boot.phase ≠ .curator ∨ s.boot.bootOuts.any (fun o => decide ((out s o).st = .starting)) = true ∨ wingsPending s = true →
        exec .bootModeApply s = .next s)

/-- The completions of long-running work (R97): the Ledger's operations, an image's checks, a Vitrine commit, an eye scan, the Vault's
derivation and challenge, and a self-test. Each takes its run off the list and forms its Placard; with no such run it changes nothing. -/
def Obligations.CompletionsComplete : Prop :=
  ∀ s,
    (∀ l r, s.ledger.run = some r → exec (.ldgProgramComplete l) s = .next (pump (programEnd s r l)))
    ∧ (∀ l, s.ledger.run = none → exec (.ldgProgramComplete l) s = .next s)
    ∧ (∀ r rest, s.ledger.busy = false → takeRun maintaining s.runs = some (r, rest) →
        exec .ldgMaintComplete s = .next (pump (finishRun { s with runs := rest } r .ok [])))
    ∧ (s.ledger.busy = true ∨ takeRun maintaining s.runs = none → exec .ldgMaintComplete s = .next s)
    ∧ (takeRun closing s.runs = none → exec .imageCloseComplete s = .next s)
    ∧ (∀ r rest b, takeRun closing s.runs = some (r, rest) → r.phase ≠ 1 → r.job = .imageClose 2 → s.modes.build = some b →
        exec .imageCloseComplete s = .next (finishRun { s with runs := rest, modes := { s.modes with build := none } } r .ok
          (closeReply (sized b.bytes b.total))))
    ∧ (∀ r rest b a, takeRun closing s.runs = some (r, rest) → r.phase ≠ 1 → r.job = .imageClose a → a ≠ 2 → s.modes.build = some b →
        exec .imageCloseComplete s = .next (closeChecked s r rest (decide (a = 1)) b))
    ∧ (∀ (n : Fin 64) r rest m l, takeRun (slotHeld n.val) s.runs = some (r, rest) → r.job = .vitCommit m l →
        exec (.vitCommitComplete n) s = .next (finishRun (exchange { s with runs := rest } n.val l) r .ok []))
    ∧ (∀ n : Fin 64, takeRun (slotHeld n.val) s.runs = none → exec (.vitCommitComplete n) s = .next s)
    ∧ (∀ (p : Fin 24) l r rest, takeRun (fun r => match r.job with | .eyeScan k _ _ => decide (k = p.val) | _ => false) s.runs = some (r, rest) →
        exec (.eyeScanComplete p l) s = .next (finishRun { s with runs := rest } r .ok (sized l 4096)))
    ∧ (∀ r rest n, takeRun challenging s.runs = some (r, rest) → r.job = .challenge n →
        exec .vltChallengeComplete s = .next (finishRun { s with runs := rest } r .ok (response (r.key.getD []) n)))
    ∧ (takeRun challenging s.runs = none → exec .vltChallengeComplete s = .next s)
    ∧ (takeRun deriving_ s.runs = none → exec .vltDeriveComplete s = .next s)
    ∧ (∀ r rest k ctx, takeRun deriving_ s.runs = some (r, rest) → r.job = .derive k ctx → r.phase ≠ 1 → s.vault.key = none →
        exec .vltDeriveComplete s = .next (finishRun (raise (zeroCounters { s with runs := rest, vault := { s.vault with
          key := some (derivedKey (vaultSecret s k) ctx k), parent := some k } }) 250 (det 0 k (portCode r.req.port) 0)) r .ok []))
    ∧ (∀ (t : Fin 3) f, s.runs.any (testOn t.val) = false → exec (.selftestComplete t f) s = .next s)
    ∧ (∀ t : Fin 3, s.runs.any (testOn t.val) = true → exec (.selftestComplete t none) s = .next (endTest s t.val 0 0 0#32))
    ∧ (∀ (t : Fin 3) u d, s.runs.any (testOn t.val) = true → exec (.selftestComplete t (some (u, d))) s = .next (
        let x := endTest s t.val 1 u.toNat d
        if t.val < 2 ∧ (testClass s t.val = 1 ∨ testClass s t.val = 2) then wingFault x (wingOf t.val) 3 else x))

/-- The thermal manager (R529 to R538) and LAUNCH (Tables 6-1 and 6-2): each interval of the watch requests the sensors it is set to that
are on; a conversion ends with its readings 20 µs after it began; the shutdown goes on once the outputs are safe, or at its bound, and once
the Ledger rests; and the due entries launch, those that set the timebase first, unless the command pair restarts. -/
def Obligations.ThermalAndLaunchComplete : Prop :=
  ∀ s,
    (watchDue s = false → exec .thermalWatch s = .next s)
    ∧ (watchDue s = true → exec .thermalWatch s = .next (
      let on := (maskSensors (bits (word s 0 0x22 14 1) 13 0)).filter fun i => !sensorOff s i
      let t := { s with thermal := { s.thermal with watchAt := some s.clk } }
      if on = [] then t else requestMeasure t (on.foldl (fun a i => a + 2 ^ i) 0) false))
    ∧ (∀ l m, s.thermal.now = some m → mgmtPairUp s = true → s.thermal.nowAt + 20000 ≤ s.clk →
        exec (.measurementComplete l) s = .next (conversionEnds s m l))
    ∧ (∀ l, s.thermal.now = none → exec (.measurementComplete l) s = .next s)
    ∧ (s.thermal.shut = 1 → safeShown s = true → mgmtPairUp s = true → exec (.shutdownStep2 false) s = .next (shutdownStep2 s false))
    ∧ (s.thermal.shut = 1 → s.thermal.shutAt + 100000000 + s.thermal.shutMore ≤ s.clk → mgmtPairUp s = true →
        exec (.shutdownStep2 true) s = .next (shutdownStep2 s true))
    ∧ (∀ b, s.thermal.shut ≠ 1 ∨ mgmtPairUp s = false → exec (.shutdownStep2 b) s = .next s)
    ∧ (s.thermal.shut = 2 → ledgerRests s = true → mgmtPairUp s = true → exec .shutdownStep4 s = .next (shutdownStep4 s))
    ∧ (s.thermal.shut ≠ 2 ∨ ledgerRests s = false ∨ mgmtPairUp s = false → exec .shutdownStep4 s = .next s)
    ∧ (commandPairUp s = false → exec .launch s = .next s)
    ∧ (commandPairUp s = true → setWaits (launchSets s) = false → exec .launch s = .next (settle (launchRounds 257 (launchSets s))))
    ∧ (commandPairUp s = true → setWaits (launchSets s) = true → exec .launch s = .next (settle (launchSets s)))

/-! ## The block as a queue of commands -/

/-- A step takes the command at the front of the queue and is its effect with the queue's rest. -/
def Obligations.StepRunsTheFront : Prop :=
  ∀ c r s, s.pending = c :: r → step s = exec c { s with pending := r }

/-- With no command waiting, a step is one tick of CLK_TB (the model's choice, log entry 1): it stops nowhere, the model's clock counts
on, and the timebase counts 1 ns while it runs (R150, R152). The table gives its rows no bits: no word spells a command, and none is put
in front (the model's reading, log entry 3). -/
def Obligations.IdleStepsAndBitlessRows : Prop :=
  (∀ s, s.pending = [] → ∃ t, step s = .next t ∧ t = tick s ∧ (countTick s).clk = s.clk + 1
    ∧ (countTick s).tb.ns = (if s.tb.running then s.tb.ns + 1 else s.tb.ns))
  ∧ (∀ n w s, decodeTableWord n w = none ∧ State.withFetchWord s n w = s)

/-- Reset leaves every instance free (R83), every fence's latch clear (R362), no event pending or queued (R579, R582), every object word
at its reset value (R128), every route with no source (R330), the timebase stopped at 0 (R152), no key (R566), no command waiting, and the
Ontor held in reset. -/
def Obligations.ResetLeaves : Prop :=
  (∀ b c i, ownerOf State.reset b c i = none) ∧ (∀ n, State.reset.fences.getLsbD n = false)
  ∧ State.reset.ev.pending = 0#256 ∧ State.reset.ev.queue = []
  ∧ (∀ b a, wget State.reset b a = resetWord (wkey b a))
  ∧ (∀ b i, b < 2 → i < 64 → word State.reset b 0x11 i 1 = 0x100#32)
  ∧ State.reset.tb.running = false ∧ State.reset.tb.ns = 0#64 ∧ State.reset.vault.key = none
  ∧ State.reset.pending = [] ∧ portsAwake State.reset = false

/-- Every command leaves the waiting commands alone, so they act first in, first out: whatever a command does, the queue afterwards is the
rest of the queue (the model's queue, log entry 2). -/
def Obligations.QueueIsFirstInFirstOut : Prop :=
  (∀ c s t, exec c s = .next t → t.pending = s.pending)
  ∧ (∀ c r s t, s.pending = c :: r → step s = .next t → t.pending = r)

/-- The table of owners stays in canonical form, whatever command acts: instances in rising order, none listed that is free. -/
def Obligations.StepKeepsOwnersCanonical : Prop :=
  ∀ s t, ownersCanonical s = true → step s = .next t → ownersCanonical t = true

/-- The state after reset has its table of owners in canonical form. -/
def Obligations.ResetOwnersCanonical : Prop :=
 ownersCanonical State.reset = true

/-- Ownership persists (R83, R85): no command but CLAIM, RELEASE, a LAUNCH (of one of them) and a reset of the device changes the owner of
any instance, whatever mode changes, links go down or units stop. A reset of the device frees every instance (R83, R85). -/
def Obligations.OwnershipPersistsUntilReset : Prop :=
  (∀ c s t, exec c s = .next t → changesOwners c = false → t.owners = s.owners)
  ∧ (∀ s t, (exec .porstNAssert s = .next t ∨ exec .atrSupplyFault s = .next t ∨ (∃ g, exec (.powerLoss g) s = .next t)
    ∨ exec .thermalTrip s = .next t ∨ (resetDue s = true ∧ exec .warmReset s = .next t)
    ∨ (watchdogDue s = true ∧ exec .curatorWatchdog s = .next t)) → ∀ b c i, ownerOf t b c i = none)

/-! ## The pipeline of Table 3-10 -/

/-- Whatever its opcode, a command that is taken and answers at once does what its operation says, gives its credit back and forms its
Placard (R74, R75); a long-running one starts (R97). -/
def Obligations.TakenCommandsAct : Prop :=
  ∀ c op q o s, reqOf c = some (op, q) → opOf c = some o → taken q o s = true →
    exec c s = .next (match o.job with
      | none => finished q o.opcode (admitted q o s).vault.key (o.run (admitted q o s))
      | some j => started q o.opcode j (fun t => (o.run t).1) (admitted q o s))

/-- Whatever its opcode, a command that steps 6 to 10 pass and one of its own checks refuses leaves only what its refusal records: its
effect does not happen (R34, R35, Table 3-10). -/
def Obligations.RefusedCommandsDoNotAct : Prop :=
  ∀ c op q o s r, reqOf c = some (op, q) → opOf c = some o → portsAwake s = true → q.tick = none → q.sched = false →
    (earlySteps (holdCredit s q.port true) q o).2 = none → o.check (admitted q o s) = some r →
    exec c s = .next (refusedWith q o (admitted q o s) r)

/-- Whatever its opcode, a scheduled command whose checks pass before its launch tick takes the lowest free entry and answers SCHEDULED
with that entry (R80, R158). A scheduled command whose launch tick is at or before its instant acts at once and takes no entry: it counts
as a late launch with event 196 and answers SCHEDULED with the late flag; a second Placard carries its data, or follows when a
long-running one completes (R80, R165). -/
def Obligations.ScheduledAndLateCommandsAct : Prop :=
  (∀ c op q o s e, reqOf c = some (op, q) → opOf c = some o → portsAwake s = true → q.tick = none →
    (earlySteps (holdCredit s q.port true) q o).2 = none → o.check (admitted q o s) = none → shutRej (admitted q o s) o = none →
    isFuture (admitted q o s) q = true → freeSlot (admitted q o s) = some e →
    exec c s = .next (settle (formPlacard (holdCredit
        (o.accept e { setEntry (admitted q o s) e (some { launch := q.launch, cmd := c, seq := (admitted q o s).tb.seq }) with
          tb := { (setEntry (admitted q o s) e (some { launch := q.launch, cmd := c, seq := (admitted q o s).tb.seq })).tb with
            seq := (admitted q o s).tb.seq + 1 } }) q.port false) q o.opcode .scheduled [BitVec.ofNat 8 e, 0#8, 0#8, 0#8]))
    ∧ e < 256 ∧ entry (admitted q o s) e = none ∧ (∀ n, n < e → (entry (admitted q o s) n).isSome = true))
  ∧ (∀ c op q o s, reqOf c = some (op, q) → opOf c = some o → portsAwake s = true → q.tick = none →
    (earlySteps (holdCredit s q.port true) q o).2 = none → o.check (admitted q o s) = none → shutRej (admitted q o s) o = none →
    isLate (admitted q o s) q = true →
    exec c s = .next (match o.job with
      | none => finishedLate q o (admitted q o s).vault.key (o.run (admitted q o s))
      | some j => startedLate q o j (admitted q o s)))

/-- Until boot starts the Curator, the ports ignore every command and every transaction (R624). While the command pair restarts, is held,
or boot has not raised event 0, every command returns BUSY (R12, R624). -/
def Obligations.CommandsBeforeBootEnds : Prop :=
  (∀ s, portsAwake s = false →
    (∀ c op q, reqOf c = some (op, q) → exec c s = .next s)
    ∧ (∀ p b, hasTransactions p = true → exec (.writePacket p b) s = .next s)
    ∧ (∀ p n, hasTransactions p = true → exec (.readPlacard p n) s = .next s ∧ exec (.readPortStatus p n) s = .next s))
  ∧ (∀ c op q o s, reqOf c = some (op, q) → opOf c = some o → portsAwake s = true → commandPairUp s = false → q.tick = none →
    exec c s = .next (refusedWith q o (holdCredit s q.port true) (rejSt .busy)))

/-- A command that only asks changes nothing but the ports (its credit, its Placard, the count of verified MACs) and what its Placard
raises, before what waits is served: it writes no word, no buffer, no unit and no Ledger cell. -/
def Obligations.QueriesChangeOnlyThePorts : Prop :=
  ∀ c op q o s, asksOnly c = true → reqOf c = some (op, q) → opOf c = some o → taken q o s = true →
    ∃ ports ev, exec c s = .next (settle (settleKey { s with ports := ports, ev := ev }))

/-- CP0 and CP1 are always enabled, CP2 where PRS[0].CP2_EN is 1 and CP3 where SYS[0].CP3_EN is 1; a transaction on CP3 while it is not
enabled changes nothing (R57). -/
def Obligations.PortsEnabled : Prop :=
  ∀ s, portEnabled s .cp0 = true ∧ portEnabled s .cp1 = true
    ∧ (portEnabled s .cp2 = true ↔ (word s 0 0x26 0 1).getLsbD 0 = true)
    ∧ (portEnabled s .cp3 = true ↔ (word s 0 0x00 0 0x10).getLsbD 0 = true)
    ∧ (portEnabled s .cp3 = false → ∀ b n, exec (.writePacket .cp3 b) s = .next s ∧ exec (.readPlacard .cp3 n) s = .next s)

/-- Every opcode is permitted on all four ports, but for SYS_RESET, VLT_SECRET_WRITE and FAILOVER_FORCE, which CP2 and CP3 answer with
BAD_OPCODE (R95). -/
def Obligations.OpcodesPermittedOnPorts : Prop :=
  (∀ q s, (q.port = .cp2 ∨ q.port = .cp3) → portsAwake s = true → commandPairUp s = true → q.tick = none →
    (∀ scope conf, exec (.sysReset q scope conf) s =
      .next (refusedWith q (opSysReset scope conf) (holdCredit s q.port true) (rejSt .badOpcode)))
    ∧ (∀ k sec, exec (.vltSecretWrite q k sec) s =
      .next (refusedWith q (opVltSecretWrite q k sec) (holdCredit s q.port true) (rejSt .badOpcode)))
    ∧ exec (.failoverForce q) s = .next (refusedWith q opFailoverForce (holdCredit s q.port true) (rejSt .badOpcode)))
  ∧ (∀ c op q o s, reqOf c = some (op, q) → opOf c = some o →
      (∀ scope conf, c ≠ .sysReset q scope conf) → (∀ k sec, c ≠ .vltSecretWrite q k sec) → c ≠ .failoverForce q →
      (earlySteps s q o).2 ≠ some (rejSt .badOpcode))
  ∧ (∀ c op q o s, reqOf c = some (op, q) → opOf c = some o → (q.port = .cp0 ∨ q.port = .cp1) →
      (earlySteps s q o).2 ≠ some (rejSt .badOpcode))

/-- Authority (R70, R71, Table 3-7): CP1 holds every authority with every packet; on CP0, CP2 and CP3 a packet that lacks the authority
its command needs, or whose privileged flag is set without the authenticated one, returns AUTH_FAIL with event 18 + 4 × port. -/
def Obligations.AuthorityByPort : Prop :=
  (∀ o q s, q.port = .cp1 → commandPairUp s = true → schedBad o q = false → (earlySteps s q o).2 = none)
  ∧ (∀ c op q o s, reqOf c = some (op, q) → opOf c = some o → (q.port = .cp0 ∨ q.port = .cp2 ∨ q.port = .cp3) →
      portsAwake s = true → commandPairUp s = true → q.tick = none → portOk o.opcode q.port = true → schedBad o q = false → q.auth = false →
      (q.priv = true ∨ o.auth (holdCredit s q.port true) ≠ .plain) →
      exec c s = .next (refusedWith q o (holdCredit s q.port true) (rejSt .authFail)))
  ∧ (∀ q o s, (q.port = .cp0 ∨ q.port = .cp2 ∨ q.port = .cp3) → q.auth = true → s.vault.key = none → (authStep s q o).2 = true)

/-- In an orderly shutdown every command but READ, BLOCK_READ, IDENTIFY, TB_READ, THM_MEASURE, EVT_READ, EVT_ACK, FAULT_LOG_READ,
HEALTH_REPORT and SYS_RESET is refused with THERMAL_REFUSED (R538). -/
def Obligations.ShutdownRefusesCommands : Prop :=
  (∀ c op q o, reqOf c = some (op, q) → opOf c = some o →
    (o.exempt = true ↔ o.opcode ∈ [0x10#8, 0x13#8, 0x01#8, 0x40#8, 0xB0#8, 0xD0#8, 0xD1#8, 0xC2#8, 0xC3#8, 0x05#8]))
  ∧ (∀ o s, 1 ≤ s.thermal.shut → (shutRej s o = if o.exempt then none else some (rejSt .thermalRefused)))

/-! ## Ownership -/

/-- CLAIM takes all of its instances or none (R98). It returns NOT_OWNER, naming the first instance another port owns; claiming one's own
instance again succeeds; force is honoured on CP1 alone and is BAD_PARAM from any other port; an instance beyond the class is RANGE; a
class that cannot be owned is BAD_PARAM. -/
def Obligations.ClaimActsOnAllOrNone : Prop :=
  ∀ q cls first count bank force s, isHostPort q.port = true → portsAwake s = true → q.tick = none → q.sched = false →
    (earlySteps (holdCredit s q.port true) q (opClaim q cls first count bank force)).2 = none → ownersCanonical s = true →
    let o := opClaim q cls first count bank force
    let l := namedInstances first count bank
    let a := admitted q o s
    let foreign := firstForeign s q.port cls.toNat l
    let open_ := bankReadMode a bank.toNat (mkAddr cls.toNat first.toNat 0) = none
    (taken q o s = true → ∃ t, exec (.claim q cls first count bank force) s = .next t
      ∧ (∀ x ∈ l, ownerOf t x.1 cls.toNat x.2 = some q.port)
      ∧ (∀ b c i, (∀ x ∈ l, ikey b c i ≠ ikey x.1 cls.toNat x.2) → ownerOf t b c i = ownerOf s b c i))
    ∧ (taken q o s = false → ∃ t, exec (.claim q cls first count bank force) s = .next t ∧ t.owners = s.owners)
    ∧ (open_ → (force && decide (q.port = .cp1)) = false → ∀ b i p, foreign = some (b, i, p) →
        o.check a = some { status := .notOwner, addr := mkAddr cls.toNat i 0, b3 := BitVec.ofNat 8 (portCode p) }
        ∧ (∃ l1 l2, l = l1 ++ (b, i) :: l2 ∧ ownerOf s b cls.toNat i = some p ∧ p ≠ q.port
            ∧ ∀ x ∈ l1, ownerOf s x.1 cls.toNat x.2 = none ∨ ownerOf s x.1 cls.toNat x.2 = some q.port))
    ∧ (open_ → (foreign = none ∨ (force && decide (q.port = .cp1)) = true) → (force && !decide (q.port = .cp1)) = false →
        (claimParams cls first count bank 2 = none → o.check a = none)
        ∧ (isOwnable cls.toNat = false → (o.check a).map (·.status) = some .badParam)
        ∧ (isOwnable cls.toNat = true → bankParam bank.toNat 2 (mkAddr cls.toNat first.toNat 0) = none → count ≠ 0#8 →
            (∃ i, i < count.toNat ∧ instExists cls.toNat (first.toNat + i) = false) → (o.check a).map (·.status) = some .range))
    ∧ (open_ → foreign = none → (force && !decide (q.port = .cp1)) = true → (o.check a).map (·.status) = some .badParam)

/-- RELEASE frees every named instance that is free or the releasing port's own; if another port owns one it returns NOT_OWNER and frees
nothing, but from CP1 with force, which frees the instance and raises the former owner's ownership event (R99). -/
def Obligations.ReleaseFreesAllOrNone : Prop :=
  ∀ q cls first count bank force s, isHostPort q.port = true → portsAwake s = true → q.tick = none → q.sched = false →
    (earlySteps (holdCredit s q.port true) q (opRelease q cls first count bank force)).2 = none → ownersCanonical s = true →
    let o := opRelease q cls first count bank force
    let l := namedInstances first count bank
    let a := admitted q o s
    let foreign := firstForeign s q.port cls.toNat l
    (taken q o s = true → ∃ t u, exec (.release q cls first count bank force) s = .next t
      ∧ t = finished q 0x03#8 a.vault.key (u, {}) ∧ t.owners = u.owners
      ∧ (∀ x ∈ l, ownerOf u x.1 cls.toNat x.2 = none)
      ∧ (∀ b c i, (∀ x ∈ l, ikey b c i ≠ ikey x.1 cls.toNat x.2) → ownerOf u b c i = ownerOf s b c i)
      ∧ (∀ x ∈ l, ∀ p, ownerOf s x.1 cls.toNat x.2 = some p → p ≠ q.port → u.ev.pending.getLsbD (19 + 4 * portCode p) = true))
    ∧ (taken q o s = false → ∃ t, exec (.release q cls first count bank force) s = .next t ∧ t.owners = s.owners)
    ∧ (bankReadMode a bank.toNat (mkAddr cls.toNat first.toNat 0) = none → ∀ b i p, foreign = some (b, i, p) →
        if (force && decide (q.port = .cp1)) = true then o.check a = claimParams cls first count bank 2
        else o.check a = some { status := .notOwner, addr := mkAddr cls.toNat i 0, b3 := BitVec.ofNat 8 (portCode p) })
    ∧ (bankReadMode a bank.toNat (mkAddr cls.toNat first.toNat 0) = none → foreign = none → o.check a = claimParams cls first count bank 2)

/-! ## Words, events, time, links, fences -/

/-- A read of a WS field returns the value in effect, not one that waits for its commit (R4): no word with a WS field reads otherwise
whatever waits in the flip table, and outside the colour-table window it reads as the word in effect. -/
def Obligations.ReadsOfWsFieldsGiveTheValueInEffect : Prop :=
  ∀ s f b cls i w, (wordInfo cls i w).ws ≠ 0#32 →
    readWord { s with flip := f } b cls i w = readWord s b cls i w
    ∧ (¬ (cls = 0x17 ∧ 0x80 ≤ w) → readWord s b cls i w = word s b cls i w)
    ∧ (∀ m v, word (placeWs s b cls i w m v) b cls i w = word s b cls i w)

/-- Every raise sets its source's pending bit, whatever EVT_CFG holds, and clears none (R579). -/
def Obligations.RaisesSetPendingBits : Prop :=
  ∀ s src d, src < 256 → (raise s src d).ev.pending.getLsbD src = true
    ∧ (∀ n, s.ev.pending.getLsbD n = true → (raise s src d).ev.pending.getLsbD n = true)
    ∧ (∀ n, (raise s src d).ev.pending.getLsbD n = true → n = src ∨ n = 14 ∨ n = 15 ∨ s.ev.pending.getLsbD n = true)

/-- The queue of events (R582): it holds at most 128 entries; a raise that finds an entry of its source with equal detail is taken by the
newest such entry, even while the queue is full; otherwise it is added while there is room; otherwise it is lost, and the count of losses
and the pending bit of event 15 say so. -/
def Obligations.EventQueueTakesRaises : Prop :=
  ∀ ev tick ns src commit d, ev.queue.length ≤ 128 → src < 256 →
    (enqueue ev tick ns src commit d).queue.length ≤ 128
    ∧ (∀ l1 e l2, ev.queue = l1 ++ e :: l2 → e.source = src → e.detail = d → (∀ x ∈ l2, ¬ (x.source = src ∧ x.detail = d)) →
        (enqueue ev tick ns src commit d).queue =
          l1 ++ (if e.count = 65535 then { e with sat := true } else { e with count := e.count + 1 }) :: l2)
    ∧ ((∀ x ∈ ev.queue, ¬ (x.source = src ∧ x.detail = d)) → ev.queue.length < 128 →
        (enqueue ev tick ns src commit d).queue.length = ev.queue.length + 1
        ∧ (∃ e ∈ (enqueue ev tick ns src commit d).queue, e.source = src ∧ e.detail = d ∧ e.count = 1 ∧ e.ns = ns ∧ e.commit = commit)
        ∧ (enqueue ev tick ns src commit d).lost = ev.lost)
    ∧ ((∀ x ∈ ev.queue, ¬ (x.source = src ∧ x.detail = d)) → ev.queue.length = 128 →
        (enqueue ev tick ns src commit d).queue = ev.queue
        ∧ (enqueue ev tick ns src commit d).lost = min (ev.lost + 1) 65535
        ∧ (enqueue ev tick ns src commit d).pending.getLsbD 15 = true)

/-- EVT_ACK (R585). Bit n of the mask is bit n mod 8 of byte n ÷ 8. It clears the pending bit of every source in the mask; a raise of its
own tick leaves its bit set; from CP0, CP2 or CP3 without authenticated authority it leaves the bits of the sources whose EVT_CFG bit 2 is
1, and still returns OK; it never contradicts another command; acks of one tick clear the union; and it removes no queue entry. -/
def Obligations.EventAcknowledge : Prop :=
  (∀ m n, m.length = 32 → n < 256 → (ackMask m).getLsbD n = (m.getD (n / 8) 0#8).getLsbD (n % 8))
  ∧ (∀ q m s n, n < 256 → q.tick = none → ((opEvtAck q m).run s).1.ev.pending.getLsbD n =
      (s.ev.pending.getLsbD n && !((ackMask m).getLsbD n
        && (decide (q.port = .cp1) || q.auth || !bit (evtCfg s n) 2))))
  ∧ (∀ q m s n, n < 256 → q.tick.isSome = true → s.ev.freshTick = s.clk → s.ev.fresh.getLsbD n = true →
      ((opEvtAck q m).run s).1.ev.pending.getLsbD n = s.ev.pending.getLsbD n)
  ∧ (∀ q m s, ((opEvtAck q m).run s).2.st = .ok ∧ ((opEvtAck q m).run s).1.ev.queue = s.ev.queue ∧ (opEvtAck q m).check s = none)
  ∧ (∀ q m s f, contradict ((opEvtAck q m).foot s) f = false ∧ contradict f ((opEvtAck q m).foot s) = false)
  ∧ (∀ q q' m m' s, ((opEvtAck q' m').run ((opEvtAck q m).run s).1).1.ev.pending =
      ((opEvtAck q m).run s).1.ev.pending &&& ((opEvtAck q' m').run s).1.ev.pending)

/-- Waiting schedule-table entries keep their launch values across a TB_SET (R157). -/
def Obligations.EntriesKeepLaunchValues : Prop :=
  ∀ q ns fr s e, (entry (setTimebase s q ns fr) e).map (·.launch) = (entry s e).map (·.launch)
    ∧ (entry (setTimebase s q ns fr) e).map (·.cmd) = (entry s e).map (·.cmd)

/-- The error window of a port in RUNNING, 1 s long (R289): a window whose combined count is at least PLK_ERR_THRESH raises event 33 + 2n with byte
2 at 0, once; the first window below the threshold after such a one raises it with byte 2 at 1; a threshold of 0 raises nothing. A port
that is not in RUNNING has no error window (R288). -/
def Obligations.LinkErrorWindow : Prop :=
  (∀ (n : Fin 24) i s, (plk s n.val).st = 8 → (plk s n.val).winAt + 1000000000 ≤ s.clk →
    let s1 := if i = 0 then s else plkCount s n.val 0 i 0 0 0
    let c := (plk s1 n.val).counts
    let thr := (word s1 0 0x08 n.val 5).toNat
    let t (high : Bool) : State := setPlk s1 n.val { plk s1 n.val with winAt := (plk s1 n.val).winAt + 1000000000, counts := { c with win := 0, rose := 0#4, overThr := high } }
    let d (b2 : Nat) : Word := field 0 16 (sat 16 c.win) ||| field 16 8 b2 ||| field 24 8 c.rose.toNat
    (thr ≠ 0 → thr ≤ c.win → exec (.plkErrorWindowEnd n i) s = .next (raise (t true) (33 + 2 * n.val) (d 0)))
    ∧ (thr ≠ 0 → c.win < thr → c.overThr = true → exec (.plkErrorWindowEnd n i) s = .next (raise (t false) (33 + 2 * n.val) (d 1)))
    ∧ (thr ≠ 0 → c.win < thr → c.overThr = false → exec (.plkErrorWindowEnd n i) s = .next (t false))
    ∧ (thr = 0 → exec (.plkErrorWindowEnd n i) s = .next (t false)))
  ∧ (∀ (n : Fin 24) i s, (plk s n.val).st ≠ 8 ∨ s.clk < (plk s n.val).winAt + 1000000000 → exec (.plkErrorWindowEnd n i) s = .next s)

/-- A fence's signal sets its latch, unless it is set already, where it changes no latch and raises event 163; a second signal of the tick
is one with the first (R362). -/
def Obligations.FenceSignals : Prop :=
  ∀ s n by_ port, n < 1024 →
    (s.signalTick = s.clk → n ∈ s.signals → signalFence s n by_ port = s)
    ∧ (¬ (s.signalTick = s.clk ∧ n ∈ s.signals) → s.fences.getLsbD n = true →
        (signalFence s n by_ port).fences = s.fences ∧ (signalFence s n by_ port).ev.pending.getLsbD 163 = true)
    ∧ (¬ (s.signalTick = s.clk ∧ n ∈ s.signals) → s.fences.getLsbD n = false →
        ∃ t, signalFence s n by_ port = releaseSets t ∧ t.fences = s.fences ||| 1#1024 <<< n ∧ t.lyrs = s.lyrs ∧ t.sets = s.sets)

/-! ## Encodings -/

/-- A packet written for a command reads back as that command, on every port that may send it: no parameter, flag, launch value or tag is
lost (Tables 3-4 and 3-5, and the parameter columns of chapter 04). -/
def Obligations.PacketsReadBack : Prop :=
  ∀ c op q ps, packetOf c = some (op, q, ps) → c.wf = true → q.msg = packetHead op q ps → portOk op q.port = true →
    (packetPayload q ps).length ≤ 4096 →
    readPacket q.port q.tick (packetBytes op q ps) = .ok c

/-- A packet written for a command passes the arrival checks and is on its way with its counting edge and its effect instant, where a
credit is free and boot is not waiting for a flash copy (Table 3-10, steps 1 to 5; R76). -/
def Obligations.WrittenPacketsArrive : Prop :=
  ∀ s p op q ps, (packetBytes op q ps).length ≤ 4108 → s.boot.phase ≠ .noImage →
    creditsFree s p ≠ 0 → arrive s p (packetBytes op q ps) = { s with ports := { s.ports with
      flights := s.ports.flights ++ [⟨p, countingEdge s.clk, effectTick s.clk, packetBytes op q ps⟩] } }

/-- A plane of a compressed tile, coded to bits and packed from the least significant bit of byte 0 upwards, decodes as it was, whatever
bits follow it, and the decoder stops where the plane ends (R449). -/
def Obligations.TilePlanesDecodeAsCoded : Prop :=
  ∀ b n rows rest, 1 ≤ b → b ≤ 16 → (∀ r ∈ rows, r.length = n ∧ ∀ v ∈ r, v < 2 ^ b) → 1 ≤ n →
    decodePlane (packBits (planeBits b 0 rows ++ rest)) b n rows.length 0 0 = (rows, (planeBits b 0 rows).length)

/-! ## Picture rules -/

/-- The linear table pair that reset leaves returns every code of 10 bits as it was (R411). The coefficients of every filter and phase sum
to 1,024 (R400), so that a flat picture stays flat. An image fits a Vitrine window where the window is a whole 1 to 4 times as wide and a
whole 1 to 4 times as high (R383). -/
def Obligations.PictureRules : Prop :=
  (∀ v, v < 1024 → regamma {} 10 (degamma {} 10 v) = v)
  ∧ (∀ kind t r phase, 1 ≤ t → (coefficients kind t r phase).sum = 1024)
  ∧ (∀ b W H, 0 < imgW b → 0 < imgH b →
    (imgFits b W H = true ↔ ∃ x y, 1 ≤ x ∧ x ≤ 4 ∧ 1 ≤ y ∧ y ≤ 4 ∧ W = x * imgW b ∧ H = y * imgH b))

/-! ## The interconnect -/

/-- A target port grants the presented request with the highest effective priority, of equal ones the one presented longest, then the one
of the lower master port; a master port presents the oldest of its requests for the target that is not held back (R501). -/
def Obligations.GrantsGoByPriority : Prop :=
  (∀ now l, l ≠ [] → ∃ x ∈ l, granted now l = some x ∧ ∀ r ∈ l,
    effectivePriority now r < effectivePriority now x
    ∨ (effectivePriority now r = effectivePriority now x ∧ (x.since < r.since ∨ (x.since = r.since ∧ x.master ≤ r.master))))
  ∧ (∀ outstanding waiting t, (∃ r ∈ waiting, r.target = t ∧ heldAtPort outstanding r = false) →
    ∃ x ∈ waiting, presents outstanding waiting t = some x ∧ x.target = t ∧ heldAtPort outstanding x = false
      ∧ ∀ r ∈ waiting, r.target = t → heldAtPort outstanding r = false → x.issued ≤ r.issued)
  ∧ (∀ outstanding waiting t, (∀ r ∈ waiting, r.target = t → heldAtPort outstanding r = true) → presents outstanding waiting t = none)
end

