-- ==== Sys2Proof/Laws/Address.lean ====
section
/-! SUPPORT. The parts of an object address, and the PRS words among the words a write names. -/

namespace Sys2Proof.Machine
open Sys2Proof

/-- The class of an address made of class, instance and word. -/
theorem clsOf_mkAddr (c i w : Nat) (hc : c < 256) (hi : i < 256) (hw : w < 256) : clsOf (mkAddr c i w) = c := by
  simp [clsOf, mkAddr]; omega
/-- Its instance. -/
theorem instOf_mkAddr (c i w : Nat) (hi : i < 256) (hw : w < 256) : instOf (mkAddr c i w) = i := by
  simp [instOf, mkAddr]; omega
/-- Its word. -/
theorem wordOf_mkAddr (c i w : Nat) (hw : w < 256) : wordOf (mkAddr c i w) = w := by
  simp [wordOf, mkAddr]; omega
/-- A write outside the class PRS names no word of it. -/
theorem prsItems_writeItems_of (addr : Addr) (bank : Nat) (ws : List (Word × Word)) (h : clsOf addr ≠ 0x26) :
    prsItems (writeItems addr bank ws) = [] := by
  simp only [prsItems, List.filter_eq_nil_iff, writeItems, List.mem_flatMap, List.mem_map]
  rintro x ⟨b, _, y, _, rfl⟩
  simp [h]

end Sys2Proof.Machine
end

