-- ==== Sys2Proof/Laws/Ownership.lean ====
section
/-! SUPPORT. What every operation but CLAIM, RELEASE, LAUNCH and the resets leaves alone: the owners of the instances. One lemma per function of a state, and one per command. -/

namespace Sys2Proof.Machine
open Sys2Proof
set_option linter.unusedTactic false
set_option linter.unreachableTactic false
set_option linter.unusedSimpArgs false
set_option linter.unusedVariables false

@[simp] theorem foldl_owners {α : Type} (l : List α) (g : State → α → State) (h : ∀ s x, (g s x).owners = s.owners) (s : State) :
    (l.foldl g s).owners = s.owners := by
  induction l generalizing s with
  | nil => rfl
  | cons a l ih => simp only [List.foldl_cons]; rw [ih, h]
/-- An operation's hooks leave the owners alone. -/
structure Op.KeepsOwners (o : Op) : Prop where
  run : ∀ s, (o.run s).1.owners = s.owners
  accept : ∀ e s, (o.accept e s).owners = s.owners
  waits : ∀ s, (o.waits s).owners = s.owners
  refused : ∀ r s, (o.refused r s).owners = s.owners
  failed : ∀ r s, (o.failed r s).owners = s.owners
  launchRun : ∀ f, o.launchRun = some f → ∀ s, (f s).1.owners = s.owners
@[simp] theorem ite_owners (c : Prop) [Decidable c] (a b : State) : (if c then a else b).owners = if c then a.owners else b.owners := apply_ite _ _ _ _
@[simp] theorem done_owners (s : State) : (done s).1.owners = s.owners := by simp [done]
@[simp] theorem setDest_owners (s : State) (d : ℕ) (x : XDest) : (setDest s d x).owners = s.owners := by simp [setDest]
@[simp] theorem takeEntry_owners (s : State) (ramp : Bool) (rate : ℕ) (e : XbarEntry) : (takeEntry s ramp rate e).owners = s.owners := by simp [takeEntry]
@[simp] theorem takeEntries_owners (s : State) (ramp : Bool) (es : List XbarEntry) : (takeEntries s ramp es).owners = s.owners := by simp [takeEntries]
@[simp] theorem logRaise_owners (s : State) (src : ℕ) (d : Word) : (logRaise s src d).owners = s.owners := by simp [logRaise]
@[simp] theorem post_owners (s : State) (src : ℕ) (commit : Bool) (d : Word) : (post s src commit d).owners = s.owners := by simp [post]
@[simp] theorem raise_owners (s : State) (src : ℕ) (d : Word) : (raise s src d).owners = s.owners := by simp [raise]
@[simp] theorem xbarEvent_owners (s : State) (c : XChange) : (xbarEvent s c).owners = s.owners := by simp [xbarEvent]
@[simp] theorem opAudXbar_keepsOwners (q : Req) (ramp : Bool) (es : List XbarEntry) : (opAudXbar q ramp es).KeepsOwners := by
  constructor <;> intros <;> first | with_reducible rfl | (simp_all [opAudXbar, done, answer]; done) | (simp only [opAudXbar]; repeat' (first | with_reducible rfl | split | (simp_all [done, answer]; done) | dsimp only))
@[simp] theorem endDisagreement_owners (s : State) (c : ℕ) : (endDisagreement s c).owners = s.owners := by
  simp [endDisagreement]
@[simp] theorem dpllTo_owners (s : State) (new : ℕ) (cause : ℕ) : (dpllTo s new cause).owners = s.owners := by simp [dpllTo]
@[simp] theorem takePhase_owners (s : State) (c : ℕ) : (takePhase s c).owners = s.owners := by
  simp [takePhase]
@[simp] theorem follow_owners (s : State) (c : ℕ) (why : ℕ) : (follow s c why).owners = s.owners := by simp [follow]
@[simp] theorem loseAll_owners (s : State) : (loseAll s).owners = s.owners := by simp [loseAll]
@[simp] theorem setCand_owners (s : State) (c : ℕ) (x : Cand) : (setCand s c x).owners = s.owners := by simp [setCand]
@[simp] theorem disqualify_owners (s : State) (c : ℕ) (cause : ℕ) : (disqualify s c cause).owners = s.owners := by
  unfold disqualify; repeat' (first | with_reducible rfl | (simp; done) | split | dsimp only)
@[simp] theorem refWritten_owners (s : State) (i : ℕ) (w : ℕ) (old : Word) (new : Word) : (refWritten s i w old new).owners = s.owners := by simp [refWritten]
@[simp] theorem wput_owners (s : State) (bank : ℕ) (a : Addr) (v : Word) : (wput s bank a v).owners = s.owners := by simp [wput]
@[simp] theorem setWord_owners (s : State) (bank : ℕ) (cls : ℕ) (inst : ℕ) (w : ℕ) (v : Word) : (setWord s bank cls inst w v).owners = s.owners := by simp [setWord]
@[simp] theorem setConv_owners (s : State) (k : ℕ) (x : Conv) : (setConv s k x).owners = s.owners := by simp [setConv]
@[simp] theorem srcInWritten_owners (s : State) (k : ℕ) : (srcInWritten s k).owners = s.owners := by simp [srcInWritten]
@[simp] theorem rateChanged_owners (s : State) (kind : ℕ) (port : ℕ) : (rateChanged s kind port).owners = s.owners := by simp [rateChanged]
@[simp] theorem stdPortWritten_owners (s : State) (cls : ℕ) (p : ℕ) (w : ℕ) (old : Word) (new : Word) : (stdPortWritten s cls p w old new).owners = s.owners := by simp [stdPortWritten]
@[simp] theorem setSyn_owners (s : State) (n : ℕ) (x : Syn) : (setSyn s n x).owners = s.owners := by simp [setSyn]
@[simp] theorem beginTask_owners (s : State) (n : ℕ) (t : SynTask) : (beginTask s n t).owners = s.owners := by simp [beginTask]
@[simp] theorem drawByte_owners (s : State) : (drawByte s).2.owners = s.owners := by simp [drawByte]
@[simp] theorem synWritten_owners (s : State) (n : ℕ) (w : ℕ) (old : Word) (new : Word) : (synWritten s n w old new).owners = s.owners := by
  unfold synWritten; repeat' (first | with_reducible rfl | (simp; done) | split | dsimp only)
@[simp] theorem setTdm_owners (s : State) (p : ℕ) (x : Tdm) : (setTdm s p x).owners = s.owners := by simp [setTdm]
@[simp] theorem tdmWritten_owners (s : State) (p : ℕ) (old : Word) (new : Word) : (tdmWritten s p old new).owners = s.owners := by simp [tdmWritten]
@[simp] theorem applyRw_owners (s : State) (bank : ℕ) (cls : ℕ) (i : ℕ) (w : ℕ) (m : Word) (v : Word) : (applyRw s bank cls i w m v).owners = s.owners := by
  unfold applyRw; repeat' (first | with_reducible rfl | (simp; done) | split | dsimp only)
@[simp] theorem raiseBank_owners (s : State) (bank : ℕ) (src : ℕ) (d : Word) : (raiseBank s bank src d).owners = s.owners := by simp [raiseBank]
@[simp] theorem capEvent_owners (s : State) (k : ℕ) (cause : ℕ) (reason : ℕ) : (capEvent s k cause reason).owners = s.owners := by simp [capEvent]
@[simp] theorem setCap_owners (s : State) (k : ℕ) (c : Cap) : (setCap s k c).owners = s.owners := by simp [setCap]
@[simp] theorem capTo_owners (s : State) (k : ℕ) (st : ℕ) (ev : Option (ℕ × ℕ)) : (capTo s k st ev).owners = s.owners := by
  unfold capTo; repeat' (first | with_reducible rfl | (simp; done) | split | dsimp only)
@[simp] theorem dpsEvent_owners (s : State) (p : ℕ) (cause : ℕ) (sub : ℕ) : (dpsEvent s p cause sub).owners = s.owners := by simp [dpsEvent]
@[simp] theorem setDps_owners (s : State) (p : ℕ) (d : Dps) : (setDps s p d).owners = s.owners := by simp [setDps]
@[simp] theorem irqHpd_owners (s : State) (p : ℕ) : (irqHpd s p).owners = s.owners := by simp [irqHpd]
@[simp] theorem settleHpd_owners (s : State) : (settleHpd s).owners = s.owners := by simp [settleHpd]
@[simp] theorem takeWs_owners (s : State) (bank : ℕ) (cls : ℕ) (inst : ℕ) (w : ℕ) : (takeWs s bank cls inst w).owners = s.owners := by simp [takeWs]
@[simp] theorem takeUnit_owners (s : State) (bank : ℕ) (cls : ℕ) (inst : ℕ) : (takeUnit s bank cls inst).owners = s.owners := by simp [takeUnit]
@[simp] theorem capCommit_owners (s : State) (k : ℕ) : (capCommit s k).owners = s.owners := by simp [capCommit]
@[simp] theorem capPlaced_owners (s : State) (k : ℕ) : (capPlaced s k).owners = s.owners := by simp [capPlaced]
@[simp] theorem setFset_owners (s : State) (i : ℕ) (x : FSet) : (setFset s i x).owners = s.owners := by simp [setFset]
@[simp] theorem setLyr_owners (s : State) (bank : ℕ) (n : ℕ) (x : Lyr) : (setLyr s bank n x).owners = s.owners := by simp [setLyr]
@[simp] theorem setLyrAt_owners (s : State) (k : ℕ) (x : Lyr) : (setLyrAt s k x).owners = s.owners := by simp [setLyrAt]
@[simp] theorem joinSet_owners (s : State) (k : ℕ) (p : Port) : (joinSet s k p).owners = s.owners := by
  unfold joinSet; repeat' (first | with_reducible rfl | (simp; done) | split | dsimp only)
@[simp] theorem leaveSet_owners (s : State) (k : ℕ) : (leaveSet s k).owners = s.owners := by
  unfold leaveSet; repeat' (first | with_reducible rfl | (simp; done) | split | dsimp only)
@[simp] theorem takeFlip_owners (s : State) (k : ℕ) : (takeFlip s k).owners = s.owners := by
  unfold takeFlip; repeat' (first | with_reducible rfl | (simp; done) | split | dsimp only)
@[simp] theorem takeLayer_owners (s : State) (k : ℕ) : (takeLayer s k).owners = s.owners := by simp [takeLayer]
@[simp] theorem releaseOne_owners (s : State) (i : ℕ) : (releaseOne s i).owners = s.owners := by simp [releaseOne]
@[simp] theorem releaseSets_owners (s : State) : (releaseSets s).owners = s.owners := by simp [releaseSets]
@[simp] theorem dropUnit_owners (s : State) (bank : ℕ) (cls : ℕ) (inst : ℕ) : (dropUnit s bank cls inst).owners = s.owners := by simp [dropUnit]
@[simp] theorem takeClear_owners (s : State) (k : ℕ) : (takeClear s k).owners = s.owners := by simp [takeClear]
@[simp] theorem lyrPlaced_owners (s : State) (k : ℕ) (p : Port) (cleared : Bool) : (lyrPlaced s k p cleared).owners = s.owners := by simp [lyrPlaced]
@[simp] theorem setRte_owners (s : State) (b : ℕ) (r : ℕ) (o : ℕ) (x : RteOut) : (setRte s b r o x).owners = s.owners := by simp [setRte]
@[simp] theorem settleRoute_owners (s : State) (b : ℕ) (r : ℕ) : (settleRoute s b r).owners = s.owners := by simp [settleRoute]
@[simp] theorem placeRoute_owners (s : State) (b : ℕ) (r : ℕ) : (placeRoute s b r).owners = s.owners := by simp [placeRoute]
@[simp] theorem placeWs_owners (s : State) (bank : ℕ) (cls : ℕ) (inst : ℕ) (w : ℕ) (mask : Word) (v : Word) : (placeWs s bank cls inst w mask v).owners = s.owners := by simp [placeWs]
@[simp] theorem setVit_owners (s : State) (o : ℕ) (v : Vit) : (setVit s o v).owners = s.owners := by simp [setVit]
@[simp] theorem applyWs_owners (s : State) (p : Option Port) (bank : ℕ) (cls : ℕ) (i : ℕ) (w : ℕ) (m : Word) (v : Word) : (applyWs s p bank cls i w m v).owners = s.owners := by
  unfold applyWs; repeat' (first | with_reducible rfl | (simp; done) | split | dsimp only)
@[simp] theorem setClr_owners (s : State) (k : ℕ) (x : ClrTab) : (setClr s k x).owners = s.owners := by simp [setClr]
@[simp] theorem clrTblWrite_owners (s : State) (bank : ℕ) (i : ℕ) (w : ℕ) (mask : Word) (v : Word) : (clrTblWrite s bank i w mask v).owners = s.owners := by simp [clrTblWrite]
@[simp] theorem applyWord_owners (s : State) (p : Option Port) (bank : ℕ) (cls : ℕ) (i : ℕ) (w : ℕ) (mask : Word) (v : Word) : (applyWord s p bank cls i w mask v).owners = s.owners := by simp [applyWord]
@[simp] theorem applyItems_owners (s : State) (p : Option Port) (l : List WItem) : (applyItems s p l).owners = s.owners := by simp [applyItems]
@[simp] theorem setLedger_owners (s : State) (f : Ledger → Ledger) : (setLedger s f).owners = s.owners := by simp [setLedger]
@[simp] theorem logStep_owners (s : State) : ∀ res, logStep s = some res → res.2.owners = s.owners := by
  intro res h
  unfold logStep at h
  repeat' (first | (have h := Host.Outcome.next.inj h; subst h; clear h) | (have h := Host.Outcome.next.inj h; subst h) | (simp only [reduceCtorEq] at h; done) | split at h | dsimp only at h | (cases h; done) | (obtain ⟨rfl⟩ := h))
  all_goals (repeat' (first | with_reducible rfl | with_reducible assumption | ((try lift_lets); intro zz; first | ((have hz : State.owners zz = State.owners s := by (dsimp only [zz]; repeat' (first | with_reducible rfl | with_reducible assumption | (obtain ⟨rfl, rfl⟩ := Prod.ext_iff.mp ‹_ = (_, _)›) | (obtain ⟨rfl, -⟩ := Prod.ext_iff.mp ‹_ = (_, _)›) | split | (with_reducible refine (foldl_owners _ _ (fun s x => ?_) _).trans ?_) | (simp only [*]; done) | dsimp only | (simp [*]; done)))); clear_value zz) | clear_value zz) | (obtain ⟨rfl, rfl⟩ := Prod.ext_iff.mp ‹_ = (_, _)›) | (obtain ⟨rfl, -⟩ := Prod.ext_iff.mp ‹_ = (_, _)›) | split | (with_reducible refine (foldl_owners _ _ (fun s x => ?_) _).trans ?_) | (simp only [*]; done) | (simp [*]; done)))
@[simp] theorem pickStep_owners (s : State) : ∀ res, pickStep s = some res → res.2.owners = s.owners := by
  intro res h
  unfold pickStep at h
  dsimp only at h
  split at h
  · simp only [Option.some.injEq] at h; subst h; simp
  · split at h
    · simp only [Option.map_eq_some_iff] at h
      obtain ⟨a, h2, rfl⟩ := h
      simpa using logStep_owners _ _ h2
    · split at h
      · simp only [Option.some.injEq] at h; subst h; simp
      · split at h <;> (simp only [Option.some.injEq] at h; subst h; simp)
      · simp only [Option.some.injEq] at h; subst h; simp
      · split at h
        · simp only [Option.some.injEq] at h; subst h; simp
        · split at h
          · exact logStep_owners _ _ h
          · cases h
      · split at h
        · exact logStep_owners _ _ h
        · cases h
@[simp] theorem wearEvent_owners (s : State) (p : ℕ) (cause : ℕ) : (wearEvent s p cause).owners = s.owners := by simp [wearEvent]
@[simp] theorem countPage_owners (s : State) (p : ℕ) : (countPage s p).owners = s.owners := by simp [countPage]
@[simp] theorem noSlot_owners (s : State) (r : ℕ) : (noSlot s r).owners = s.owners := by simp [noSlot]
@[simp] theorem recordRun_owners (s : State) (step : LdgStep) (r : ℕ) (i : ℕ) (seq : ℕ) (body : List Byte) (failed : List ℕ) : (recordRun s step r i seq body failed).owners = s.owners := by simp [recordRun]
@[simp] theorem startStep_owners (s : State) (step : LdgStep) : (startStep s step).1.owners = s.owners := by
  unfold startStep; repeat' (first | with_reducible rfl | (simp; done) | split | dsimp only)
@[simp] theorem setPort_owners (s : State) (p : Port) (c : CmdPort) : (setPort s p c).owners = s.owners := by
  unfold setPort; repeat' (first | with_reducible rfl | (simp; done) | split | dsimp only)
@[simp] theorem countDiscard_owners (s : State) (p : Port) : (countDiscard s p).owners = s.owners := by simp [countDiscard]
@[simp] theorem noteStatus_owners (s : State) (p : Port) (st : Byte) : (noteStatus s p st).owners = s.owners := by simp [noteStatus]
@[simp] theorem setPlk_owners (s : State) (n : ℕ) (p : Plk) : (setPlk s n p).owners = s.owners := by simp [setPlk]
@[simp] theorem sendPacket_owners (s : State) (n : ℕ) (rank : ℕ) (b : List Byte) : (sendPacket s n rank b).owners = s.owners := by
  simp [sendPacket]
@[simp] theorem transmitCtl_owners (s : State) (n : ℕ) (rank : ℕ) (m : CtlOut) : (transmitCtl s n rank m).owners = s.owners := by
  simp [transmitCtl]
@[simp] theorem launchCtl_owners (s : State) (n : ℕ) (m : CtlOut) : (launchCtl s n m).owners = s.owners := by
  simp [launchCtl]
@[simp] theorem plkEvent_owners (s : State) (n : ℕ) (cause : ℕ) (pwr : ℕ) (back : Bool) : (plkEvent s n cause pwr back).owners = s.owners := by simp [plkEvent]
@[simp] theorem setPwr_owners (s : State) (n : ℕ) (dir : ℕ) (st : ℕ) : (setPwr s n dir st).owners = s.owners := by
  simp [setPwr]
@[simp] theorem wakeTx_owners (s : State) (n : ℕ) : (wakeTx s n).owners = s.owners := by
  simp [wakeTx]
@[simp] theorem wakeForTraffic_owners (s : State) (n : ℕ) : (wakeForTraffic s n).owners = s.owners := by
  simp [wakeForTraffic]
@[simp] theorem postCtl_owners (s : State) (n : ℕ) (m : CtlOut) : (postCtl s n m).owners = s.owners := by
  unfold postCtl
  repeat' (first | with_reducible rfl | with_reducible assumption | ((try lift_lets); intro zz; first | ((have hz : State.owners zz = State.owners s := by (dsimp only [zz]; repeat' (first | with_reducible rfl | with_reducible assumption | (obtain ⟨rfl, rfl⟩ := Prod.ext_iff.mp ‹_ = (_, _)›) | (obtain ⟨rfl, -⟩ := Prod.ext_iff.mp ‹_ = (_, _)›) | split | (with_reducible refine (foldl_owners _ _ (fun s x => ?_) _).trans ?_) | (simp only [*]; done) | dsimp only | (simp [*]; done)))); clear_value zz) | clear_value zz) | (obtain ⟨rfl, rfl⟩ := Prod.ext_iff.mp ‹_ = (_, _)›) | (obtain ⟨rfl, -⟩ := Prod.ext_iff.mp ‹_ = (_, _)›) | split | (with_reducible refine (foldl_owners _ _ (fun s x => ?_) _).trans ?_) | (simp only [*]; done) | (simp [*]; done))
@[simp] theorem cp2Flush_owners (s : State) : (cp2Flush s).owners = s.owners := by
  unfold cp2Flush; repeat' (first | with_reducible rfl | (simp; done) | split | dsimp only)
@[simp] theorem queuePlacard_owners (s : State) (p : Port) (pl : Placard) (reserve : Bool) : (queuePlacard s p pl reserve).owners = s.owners := by simp [queuePlacard]
@[simp] theorem formLaunchPlacard_owners (s : State) (q : Req) (opcode : Byte) (st : Status) (data : List Byte) : (formLaunchPlacard s q opcode st data).owners = s.owners := by simp [formLaunchPlacard]
@[simp] theorem formPlacard_owners (s : State) (q : Req) (opcode : Byte) (st : Status) (data : List Byte) : (formPlacard s q opcode st data).owners = s.owners := by simp [formPlacard]
@[simp] theorem settleKey_owners (s : State) : (settleKey s).owners = s.owners := by
  unfold settleKey; repeat' (first | with_reducible rfl | (simp; done) | split | dsimp only)
@[simp] theorem tellRevoked_owners (s : State) (q : Req) (opcode : Byte) : (tellRevoked s q opcode).owners = s.owners := by simp [tellRevoked]
@[simp] theorem finishRun_owners (s : State) (r : Run) (st : Status) (data : List Byte) : (finishRun s r st data).owners = s.owners := by simp [finishRun]
@[simp] theorem dropTie_owners (s : State) (region : ℕ) (ring : ℕ) : (dropTie s region ring).owners = s.owners := by simp [dropTie]
@[simp] theorem markTie_owners (s : State) (r : Run) (region : ℕ) (ring : ℕ) : (markTie s r region ring).1.owners = s.owners := by
  unfold markTie; repeat' (first | with_reducible rfl | (simp; done) | split | dsimp only)
@[simp] theorem disownCp2_owners (s : State) : (disownCp2 s).owners = s.owners := by
  simp [disownCp2]
@[simp] theorem cp2Unsent_owners (s : State) (n : ℕ) : (cp2Unsent s n).owners = s.owners := by
  simp [cp2Unsent]
@[simp] theorem abandonScan_owners (s : State) (n : ℕ) : (abandonScan s n).owners = s.owners := by
  unfold abandonScan; repeat' (first | with_reducible rfl | (simp; done) | split | dsimp only)
@[simp] theorem intakeError_owners (s : State) (p : Port) : (intakeError s p).owners = s.owners := by simp [intakeError]
@[simp] theorem discard_owners (s : State) (p : Port) : (discard s p).owners = s.owners := by simp [discard]
@[simp] theorem formReserve_owners (s : State) (p : Port) (opcode : Byte) (tag : Byte) (st : Status) : (formReserve s p opcode tag st).owners = s.owners := by simp [formReserve]
@[simp] theorem arrive_owners (s : State) (p : Port) (b : List Byte) : (arrive s p b).owners = s.owners := by simp [arrive]
@[simp] theorem releaseBuild_owners (s : State) : (releaseBuild s).owners = s.owners := by
  unfold releaseBuild; repeat' (first | with_reducible rfl | (simp; done) | split | dsimp only)
@[simp] theorem cp2Dropped_owners (s : State) : (cp2Dropped s).owners = s.owners := by
  unfold cp2Dropped; repeat' (first | with_reducible rfl | (simp; done) | split | dsimp only)
@[simp] theorem freeAllocs_owners (s : State) (w : Wing) (kind : ℕ) (owner : ℕ) (keep : ℕ → Bool) : (freeAllocs s w kind owner keep).owners = s.owners := by simp [freeAllocs]
@[simp] theorem capFree_owners (s : State) (k : ℕ) : (capFree s k).owners = s.owners := by simp [capFree]
@[simp] theorem capStopped_owners (s : State) (k : ℕ) (tell : Bool) : (capStopped s k tell).owners = s.owners := by simp [capStopped]
@[simp] theorem capLose_owners (s : State) (k : ℕ) (reason : ℕ) : (capLose s k reason).owners = s.owners := by
  unfold capLose; repeat' (first | with_reducible rfl | (simp; done) | split | dsimp only)
@[simp] theorem portLost_owners (s : State) (kind : ℕ) (port : ℕ) (reason : ℕ) : (portLost s kind port reason).owners = s.owners := by simp [portLost]
@[simp] theorem plkMove_owners (s : State) (n : ℕ) (st : ℕ) (cause : ℕ) : (plkMove s n st cause).owners = s.owners := by
  simp [plkMove]
@[simp] theorem endPair_owners (s : State) (n : ℕ) (cause : ℕ) : (endPair s n cause).owners = s.owners := by simp [endPair]
@[simp] theorem plkTo_owners (s : State) (n : ℕ) (st : ℕ) (cause : ℕ) : (plkTo s n st cause).owners = s.owners := by simp [plkTo]
@[simp] theorem plkBackoff_owners (s : State) (n : ℕ) (cause : ℕ) : (plkBackoff s n cause).owners = s.owners := by simp [plkBackoff]
@[simp] theorem linkUpNow_owners (s : State) (n : ℕ) (role : ℕ) (step : ℕ) (code : Bool) : (linkUpNow s n role step code).owners = s.owners := by simp [linkUpNow]
@[simp] theorem ensureCp2_owners (s : State) : (ensureCp2 s).owners = s.owners := by
  unfold ensureCp2; repeat' (first | with_reducible rfl | (simp; done) | split | dsimp only)
@[simp] theorem settleCp2_owners (s : State) (old : Word) : (settleCp2 s old).owners = s.owners := by simp [settleCp2]
@[simp] theorem prsDone_owners (s : State) (w : ℕ) (ok : Bool) : (prsDone s w ok).owners = s.owners := by
  unfold prsDone
  split
  · rfl
  · rename_i r rest h
    dsimp only
    have hf (l : List (ℕ × Word)) (t : State) : (l.foldl (fun s x => setWord s 0 0x26 0 x.1 (prsStored s x.1)) t).owners = t.owners :=
      foldl_owners _ _ (fun s x => by simp) _
    cases ok
    · simp only [Bool.false_eq_true, if_false]
      repeat' (first | (simp [hf]; done) | split)
    · simp only [if_true]
      repeat' (first | (simp [hf]; done) | split)
@[simp] theorem beginCopy_owners (s : State) (op : ℕ) (img : ℕ) (c : ℕ) (l : List Byte) : (beginCopy s op img c l).owners = s.owners := by simp [beginCopy]
@[simp] theorem beginRewrites_owners (s : State) (x1 : List (ℕ × ℕ)) : (beginRewrites s x1).owners = s.owners := by
  induction x1 generalizing s with
  | nil => simp [beginRewrites]
  | cons a l ih =>
    obtain ⟨img, c⟩ := a
    simp only [beginRewrites]
    split
    · simp [ih]
    · split
      · rw [ih]; refine (foldl_owners _ _ (fun s x => ?_) _).trans ?_ <;> simp
      · split <;> simp [ih]
@[simp] theorem taskEnd_owners (s : State) : (taskEnd s).owners = s.owners := by simp [taskEnd]
@[simp] theorem taskStep_owners (s : State) (step : LdgStep) (ok : Bool) : (taskStep s step ok).owners = s.owners := by simp [taskStep]
@[simp] theorem vaultDone_owners (s : State) (k : ℕ) (st : ℕ) (p : Port) (ok : Bool) : (vaultDone s k st p ok).owners = s.owners := by
  unfold vaultDone; repeat' (first | with_reducible rfl | (simp; done) | split | dsimp only)
@[simp] theorem stepDone_owners (s : State) (step : LdgStep) (ok : Bool) : (stepDone s step ok).owners = s.owners := by
  unfold stepDone; repeat' (first | with_reducible rfl | (simp; done) | split | dsimp only)
@[simp] theorem pumpN_owners (x0 : ℕ) (x1 : State) : (pumpN x0 x1).owners = x1.owners := by
  induction x0 generalizing x1 with
  | zero => rfl
  | succ n ih =>
    simp only [pumpN]
    split
    · rfl
    · split
      · rfl
      · rename_i t s2 h2
        have h3 := pickStep_owners _ _ h2
        split
        · simpa [ih] using h3
        · split
          · rename_i s3 h4
            have h5 := startStep_owners s2 t
            rw [h4] at h5; simpa using h5.trans h3
          · rename_i s3 h4
            have h5 := startStep_owners s2 t
            rw [h4] at h5; simpa [ih] using h5.trans h3
@[simp] theorem pump_owners (s : State) : (pump s).owners = s.owners := by simp [pump]
@[simp] theorem queuePrs_owners (s : State) (ws : List (ℕ × Word)) : (queuePrs s ws).owners = s.owners := by simp [queuePrs]
@[simp] theorem prsWriteNow_owners (s : State) (l : List WItem) : (prsWriteNow s l).owners = s.owners := by simp [prsWriteNow]
@[simp] theorem allocate_owners (s : State) (w : Wing) (size : ℕ) (kind : ℕ) (owner : ℕ) : ∀ res, allocate s w size kind owner = some res → res.1.owners = s.owners := by
  intro res h
  simp only [allocate, Option.map_eq_some_iff] at h
  obtain ⟨b, _, rfl⟩ := h
  rfl
@[simp] theorem reserveRecords_owners (s : State) (n : ℕ) (size : ℕ) (x3 : List ℕ) : ∀ res, reserveRecords s n size x3 = some res → res.owners = s.owners := by
  induction x3 generalizing s with
  | nil => intro res h; simp only [reserveRecords, Option.some.injEq] at h; subst h; rfl
  | cons a l ih =>
    intro res h
    simp only [reserveRecords] at h
    split at h
    · simpa using ih _ _ h
    · split at h
      · cases h
      · rename_i s2 n2 h2
        have h3 := allocate_owners _ _ _ _ _ _ h2
        exact (ih _ _ h).trans (h3.trans (by simp))
@[simp] theorem reserveRecords_getD_owners (s : State) (n size : ℕ) (l : List ℕ) : ((reserveRecords s n size l).getD s).owners = s.owners := by
  cases h : reserveRecords s n size l with
  | none => rfl
  | some t => exact reserveRecords_owners _ _ _ _ _ h
@[simp] theorem reserveMoved_owners (s : State) (rd : Rd) (x2 : List ℕ) : ∀ res, reserveMoved s rd x2 = .ok res → res.owners = s.owners := by
  induction x2 generalizing s with
  | nil => intro res h; simp only [reserveMoved, Except.ok.injEq] at h; subst h; rfl
  | cons a l ih =>
    intro res h
    simp only [reserveMoved] at h
    split at h
    · split at h
      · rename_i s2 h2
        rw [ih _ _ h]; exact reserveRecords_owners _ _ _ _ _ h2
      · cases h
    · exact ih _ _ h
@[simp] theorem writeNow_owners (s : State) (p : Port) (l : List WItem) : (writeNow s p l).owners = s.owners := by
  unfold writeNow
  dsimp only
  split
  · rename_i s2 h; simp [reserveMoved_owners _ _ _ _ h]
  · simp
@[simp] theorem recordShort_owners (s : State) (n : ℕ) (size : ℕ) (banks : List ℕ) : (recordShort s n size banks).owners = s.owners := by simp [recordShort]
@[simp] theorem writeRefused_owners (l : List WItem) (r : Rej) (s : State) : (writeRefused l r s).owners = s.owners := by
  unfold writeRefused; repeat' (first | with_reducible rfl | (simp; done) | split | dsimp only)
@[simp] theorem opWriteWords_keepsOwners (opcode : Byte) (q : Req) (addr : Addr) (bank : Byte) (ws : List (Word × Word)) : (opWriteWords opcode q addr bank ws).KeepsOwners := by
  constructor <;> intros <;> first | with_reducible rfl | (simp_all [opWriteWords, done, answer]; done) | (simp only [opWriteWords]; repeat' (first | with_reducible rfl | split | (simp_all [done, answer]; done) | dsimp only))
@[simp] theorem opBlockWrite_keepsOwners (q : Req) (addr : Addr) (bank : Byte) (vs : List Word) : (opBlockWrite q addr bank vs).KeepsOwners := by
  exact opWriteWords_keepsOwners 0x14 q addr bank _
@[simp] theorem opCaptureStart_keepsOwners (q : Req) (r : UnitRef) : (opCaptureStart q r).KeepsOwners := by
  constructor <;> intros <;> first | with_reducible rfl | (simp_all [opCaptureStart, done, answer]; done) | (simp only [opCaptureStart]; repeat' (first | with_reducible rfl | split | (simp_all [done, answer]; done) | dsimp only))
@[simp] theorem capForceFill_owners (s : State) (k : ℕ) : (capForceFill s k).owners = s.owners := by simp [capForceFill]
@[simp] theorem capStopNow_owners (s : State) (force : Bool) (k : ℕ) : (capStopNow s force k).owners = s.owners := by
  unfold capStopNow; repeat' (first | with_reducible rfl | (simp; done) | split | dsimp only)
@[simp] theorem opCaptureStop_keepsOwners (q : Req) (r : UnitRef) (force : Bool) : (opCaptureStop q r force).KeepsOwners := by
  constructor <;> intros <;> first | with_reducible rfl | (simp_all [opCaptureStop, done, answer]; done) | (simp only [opCaptureStop]; repeat' (first | with_reducible rfl | split | (simp_all [done, answer]; done) | dsimp only))
@[simp] theorem opEvtAck_keepsOwners (q : Req) (mask : List Byte) : (opEvtAck q mask).KeepsOwners := by
  constructor <;> intros <;> first | with_reducible rfl | (simp_all [opEvtAck, done, answer]; done) | (simp only [opEvtAck]; repeat' (first | with_reducible rfl | split | (simp_all [done, answer]; done) | dsimp only))
@[simp] theorem opEvtRead_keepsOwners (n : Byte) : (opEvtRead n).KeepsOwners := by
  constructor <;> intros <;> first | with_reducible rfl | (simp_all [opEvtRead, done, answer]; done) | (simp only [opEvtRead]; repeat' (first | with_reducible rfl | split | (simp_all [done, answer]; done) | dsimp only))
@[simp] theorem opEyeScan_keepsOwners (q : Req) (port : Byte) (lane : Byte) (dwell : Byte) : (opEyeScan q port lane dwell).KeepsOwners := by
  constructor <;> intros <;> first | with_reducible rfl | (simp_all [opEyeScan, done, answer]; done) | (simp only [opEyeScan]; repeat' (first | with_reducible rfl | split | (simp_all [done, answer]; done) | dsimp only))
@[simp] theorem setWing_owners (s : State) (w : Wing) (x : WingSt) : (setWing s w x).owners = s.owners := by
  unfold setWing; repeat' (first | with_reducible rfl | (simp; done) | split | dsimp only)
@[simp] theorem mustGiveUp_owners (s : State) (w : Wing) (cause : ℕ) : (mustGiveUp s w cause).owners = s.owners := by simp [mustGiveUp]
@[simp] theorem opFailoverForce_keepsOwners : (opFailoverForce).KeepsOwners := by
  constructor <;> intros <;> first | with_reducible rfl | (simp_all [opFailoverForce, done, answer]; done) | (simp only [opFailoverForce]; repeat' (first | with_reducible rfl | split | (simp_all [done, answer]; done) | dsimp only))
@[simp] theorem answer_owners (s : State) (d : List Byte) : (answer s d).1.owners = s.owners := by simp [answer]
@[simp] theorem opFaultLogRead_keepsOwners (first : Half) (count : Half) : (opFaultLogRead first count).KeepsOwners := by
  constructor <;> intros <;> first | with_reducible rfl | (simp_all [opFaultLogRead, done, answer]; done) | (simp only [opFaultLogRead]; repeat' (first | with_reducible rfl | split | (simp_all [done, answer]; done) | dsimp only))
@[simp] theorem signalFence_owners (s : State) (n : ℕ) (by_ : ℕ) (port : ℕ) : (signalFence s n by_ port).owners = s.owners := by simp [signalFence]
@[simp] theorem opFenceSignal_keepsOwners (q : Req) (f : Half) : (opFenceSignal q f).KeepsOwners := by
  constructor <;> intros <;> first | with_reducible rfl | (simp_all [opFenceSignal, done, answer]; done) | (simp only [opFenceSignal]; repeat' (first | with_reducible rfl | split | (simp_all [done, answer]; done) | dsimp only))
@[simp] theorem formSet_owners (s : State) (ks : List ℕ) (x : FSet) : (formSet s ks x).owners = s.owners := by simp [formSet]
@[simp] theorem placeFlip_owners (s : State) (k : ℕ) (fence : Option ℕ) (addr : W64) : (placeFlip s k fence addr).owners = s.owners := by
  unfold placeFlip; repeat' (first | with_reducible rfl | (simp; done) | split | dsimp only)
@[simp] theorem withdraw_owners (s : State) (ks : List ℕ) : (withdraw s ks).owners = s.owners := by simp [withdraw]
@[simp] theorem flipLayers_owners (s : State) (q : Req) (ks : List ℕ) (fence : Option ℕ) (addr : W64) : (flipLayers s q ks fence addr).owners = s.owners := by simp [flipLayers]
@[simp] theorem opFlip_keepsOwners (q : Req) (r : UnitRef) (f : Half) (addr : W64) : (opFlip q r f addr).KeepsOwners := by
  constructor <;> intros <;> first | with_reducible rfl | (simp_all [opFlip, done, answer]; done) | (simp only [opFlip]; repeat' (first | with_reducible rfl | split | (simp_all [done, answer]; done) | dsimp only))
@[simp] theorem opFsyncRealign_keepsOwners (mask : Byte) : (opFsyncRealign mask).KeepsOwners := by
  constructor <;> intros <;> first | with_reducible rfl | (simp_all [opFsyncRealign, done, answer]; done) | (simp only [opFsyncRealign]; repeat' (first | with_reducible rfl | split | (simp_all [done, answer]; done) | dsimp only))
@[simp] theorem opGroupFlip_keepsOwners (q : Req) (f : Half) (es : List FlipEntry) : (opGroupFlip q f es).KeepsOwners := by
  constructor <;> intros <;> first | with_reducible rfl | (simp_all [opGroupFlip, done, answer]; done) | (simp only [opGroupFlip]; repeat' (first | with_reducible rfl | split | (simp_all [done, answer]; done) | dsimp only))
@[simp] theorem opHealthReport_keepsOwners (w : Byte) : (opHealthReport w).KeepsOwners := by
  constructor <;> intros <;> first | with_reducible rfl | (simp_all [opHealthReport, done, answer]; done) | (simp only [opHealthReport]; repeat' (first | with_reducible rfl | split | (simp_all [done, answer]; done) | dsimp only))
@[simp] theorem hopNow_owners (s : State) (n : ℕ) (mem : ℕ) (w : Word) : (hopNow s n mem w).owners = s.owners := by simp [hopNow]
@[simp] theorem opSynHop_keepsOwners (q : Req) (n : Byte) (mem : Byte) (w : Word) : (opSynHop q n mem w).KeepsOwners := by
  constructor <;> intros <;> first | with_reducible rfl | (simp_all [opSynHop, done, answer]; done) | (simp only [opSynHop]; repeat' (first | with_reducible rfl | split | (simp_all [done, answer]; done) | dsimp only))
@[simp] theorem opHop_keepsOwners (q : Req) (n : Byte) (mem : Byte) (w : Word) : (opHop q n mem w).KeepsOwners := by
  have h := opSynHop_keepsOwners q n mem w
  exact ⟨h.run, h.accept, h.waits, h.refused, h.failed, h.launchRun⟩
@[simp] theorem opIdentify_keepsOwners : (opIdentify).KeepsOwners := by
  constructor <;> intros <;> first | with_reducible rfl | (simp_all [opIdentify, done, answer]; done) | (simp only [opIdentify]; repeat' (first | with_reducible rfl | split | (simp_all [done, answer]; done) | dsimp only))
@[simp] theorem opImageClose_keepsOwners (q : Req) (action : Byte) : (opImageClose q action).KeepsOwners := by
  constructor <;> intros <;> first | with_reducible rfl | (simp_all [opImageClose, done, answer]; done) | (simp only [opImageClose]; repeat' (first | with_reducible rfl | split | (simp_all [done, answer]; done) | dsimp only))
@[simp] theorem bulkPush_owners (s : State) (q : Req) (opcode : Byte) (ws : List ℕ) : (bulkPush s q opcode ws).owners = s.owners := by simp [bulkPush]
@[simp] theorem opImageData_keepsOwners (q : Req) (off : Word) (data : List Byte) : (opImageData q off data).KeepsOwners := by
  constructor <;> intros <;> first | with_reducible rfl | (simp_all [opImageData, done, answer]; done) | (simp only [opImageData]; repeat' (first | with_reducible rfl | split | (simp_all [done, answer]; done) | dsimp only))
@[simp] theorem opImageOpen_keepsOwners (q : Req) (kind : Byte) (mode : Byte) (total : Word) : (opImageOpen q kind mode total).KeepsOwners := by
  constructor <;> intros <;> first | with_reducible rfl | (simp_all [opImageOpen, done, answer]; done) | (simp only [opImageOpen]; repeat' (first | with_reducible rfl | split | (simp_all [done, answer]; done) | dsimp only))
@[simp] theorem opImageStatus_keepsOwners : (opImageStatus).KeepsOwners := by
  constructor <;> intros <;> first | with_reducible rfl | (simp_all [opImageStatus, done, answer]; done) | (simp only [opImageStatus]; repeat' (first | with_reducible rfl | split | (simp_all [done, answer]; done) | dsimp only))
@[simp] theorem beginMaint_owners (s : State) (action : ℕ) (region : ℕ) (page : ℕ) : (beginMaint s action region page).owners = s.owners := by simp [beginMaint]
@[simp] theorem opLdgMaint_keepsOwners (action : Byte) (region : Byte) (page : Half) : (opLdgMaint action region page).KeepsOwners := by
  constructor <;> intros <;> first | with_reducible rfl | (simp_all [opLdgMaint, done, answer]; done) | (simp only [opLdgMaint]; repeat' (first | with_reducible rfl | split | (simp_all [done, answer]; done) | dsimp only))
@[simp] theorem opLdgRead_keepsOwners (page : Half) (off : Byte) (count : Half) : (opLdgRead page off count).KeepsOwners := by
  constructor <;> intros <;> first | with_reducible rfl | (simp_all [opLdgRead, done, answer]; done) | (simp only [opLdgRead]; repeat' (first | with_reducible rfl | split | (simp_all [done, answer]; done) | dsimp only))
@[simp] theorem opLdgWear_keepsOwners (first : Half) (count : Half) : (opLdgWear first count).KeepsOwners := by
  constructor <;> intros <;> first | with_reducible rfl | (simp_all [opLdgWear, done, answer]; done) | (simp only [opLdgWear]; repeat' (first | with_reducible rfl | split | (simp_all [done, answer]; done) | dsimp only))
@[simp] theorem opLdgWrite_keepsOwners (page : Half) (off : Byte) (data : List Byte) : (opLdgWrite page off data).KeepsOwners := by
  constructor <;> intros <;> first | with_reducible rfl | (simp_all [opLdgWrite, done, answer]; done) | (simp only [opLdgWrite]; repeat' (first | with_reducible rfl | split | (simp_all [done, answer]; done) | dsimp only))
@[simp] theorem plkDown_owners (s : State) (n : ℕ) (cause : ℕ) : (plkDown s n cause).owners = s.owners := by simp [plkDown]
@[simp] theorem sendCtl_owners (s : State) (n : ℕ) (sub : Byte) (data : List Byte) : (sendCtl s n sub data).owners = s.owners := by simp [sendCtl]
@[simp] theorem drainCheck_owners (s : State) (n : ℕ) : (drainCheck s n).owners = s.owners := by simp [drainCheck]
@[simp] theorem edpEvent_owners (s : State) (p : ℕ) (cause : ℕ) : (edpEvent s p cause).owners = s.owners := by simp [edpEvent]
@[simp] theorem setEdp_owners (s : State) (p : ℕ) (e : Edp) : (setEdp s p e).owners = s.owners := by simp [setEdp]
@[simp] theorem edpDark_owners (s : State) (p : ℕ) : (edpDark s p).owners = s.owners := by simp [edpDark]
@[simp] theorem edpRest_owners (s : State) (p : ℕ) : (edpRest s p).owners = s.owners := by simp [edpRest]
@[simp] theorem freeRecords_owners (s : State) (n : ℕ) : (freeRecords s n).owners = s.owners := by simp [freeRecords]
@[simp] theorem raiseCommit_owners (s : State) (src : ℕ) (d : Word) : (raiseCommit s src d).owners = s.owners := by simp [raiseCommit]
@[simp] theorem outEvent_owners (s : State) (n : ℕ) (cause : ℕ) (b2 : ℕ) (b3 : ℕ) : (outEvent s n cause b2 b3).owners = s.owners := by simp [outEvent]
@[simp] theorem setOut_owners (s : State) (n : ℕ) (o : Out) : (setOut s n o).owners = s.owners := by simp [setOut]
@[simp] theorem finishStop_owners (s : State) (n : ℕ) (why : ℕ) : (finishStop s n why).owners = s.owners := by simp [finishStop]
@[simp] theorem stopOutput_owners (s : State) (n : ℕ) (force : Bool) : (stopOutput s n force).owners = s.owners := by
  unfold stopOutput; repeat' (first | with_reducible rfl | (simp; done) | split | dsimp only)
@[simp] theorem linkDownNow_owners (s : State) (n : ℕ) (force : Bool) : (linkDownNow s n force).owners = s.owners := by simp [linkDownNow]
@[simp] theorem opLinkDown_keepsOwners (q : Req) (port : Byte) (force : Bool) : (opLinkDown q port force).KeepsOwners := by
  constructor <;> intros <;> first | with_reducible rfl | (simp_all [opLinkDown, done, answer]; done) | (simp only [opLinkDown]; repeat' (first | with_reducible rfl | split | (simp_all [done, answer]; done) | dsimp only))
@[simp] theorem endLoop_owners (s : State) (n : ℕ) (cause : ℕ) : (endLoop s n cause).owners = s.owners := by simp [endLoop]
@[simp] theorem startLoop_owners (s : State) (n : ℕ) (loop : ℕ) (pair : ℕ) : (startLoop s n loop pair).owners = s.owners := by simp [startLoop]
@[simp] theorem opLinkLoop_keepsOwners (q : Req) (port : Byte) (loop : Byte) (pair : Byte) : (opLinkLoop q port loop pair).KeepsOwners := by
  constructor <;> intros <;> first | with_reducible rfl | (simp_all [opLinkLoop, done, answer]; done) | (simp only [opLinkLoop]; repeat' (first | with_reducible rfl | split | (simp_all [done, answer]; done) | dsimp only))
@[simp] theorem sendPower_owners (s : State) (n : ℕ) (dir : ℕ) (st : ℕ) (kind : ℕ) : (sendPower s n dir st kind).owners = s.owners := by
  simp [sendPower]
@[simp] theorem scanDirCheck_owners (s : State) (n : ℕ) (dir : ℕ) : (scanDirCheck s n dir).owners = s.owners := by
  simp [scanDirCheck]
@[simp] theorem startCheck_owners (s : State) (n : ℕ) : (startCheck s n).owners = s.owners := by
  simp [startCheck]
@[simp] theorem setDir_owners (s : State) (n : ℕ) (dir : ℕ) (st : ℕ) : (setDir s n dir st).owners = s.owners := by
  simp [setDir]
@[simp] theorem idleTx_owners (s : State) (n : ℕ) (st : ℕ) : (idleTx s n st).owners = s.owners := by
  simp [idleTx]
@[simp] theorem changePower_owners (s : State) (n : ℕ) (dir : ℕ) (st : ℕ) : (changePower s n dir st).owners = s.owners := by simp [changePower]
@[simp] theorem opLinkPower_keepsOwners (q : Req) (port : Byte) (dir : Byte) (state : Byte) : (opLinkPower q port dir state).KeepsOwners := by
  constructor <;> intros <;> first | with_reducible rfl | (simp_all [opLinkPower, done, answer]; done) | (simp only [opLinkPower]; repeat' (first | with_reducible rfl | split | (simp_all [done, answer]; done) | dsimp only))
@[simp] theorem opLinkStatus_keepsOwners (port : Byte) : (opLinkStatus port).KeepsOwners := by
  constructor <;> intros <;> first | with_reducible rfl | (simp_all [opLinkStatus, done, answer]; done) | (simp only [opLinkStatus]; repeat' (first | with_reducible rfl | split | (simp_all [done, answer]; done) | dsimp only))
@[simp] theorem opLinkUp_keepsOwners (q : Req) (port : Byte) (role : Byte) (step : Byte) (code : Byte) : (opLinkUp q port role step code).KeepsOwners := by
  constructor <;> intros <;> first | with_reducible rfl | (simp_all [opLinkUp, done, answer]; done) | (simp only [opLinkUp]; repeat' (first | with_reducible rfl | split | (simp_all [done, answer]; done) | dsimp only))
@[simp] theorem setMesh_owners (s : State) (k : ℕ) (m : Mesh) : (setMesh s k m).owners = s.owners := by simp [setMesh]
@[simp] theorem meshSwap_owners (s : State) (k : ℕ) : (meshSwap s k).owners = s.owners := by simp [meshSwap]
@[simp] theorem setWarpUsed_owners (s : State) (bank : ℕ) (n : ℕ) : (setWarpUsed s bank n).owners = s.owners := by simp [setWarpUsed]
@[simp] theorem opMeshCommit_keepsOwners (q : Req) (ms : List UnitRef) : (opMeshCommit q ms).KeepsOwners := by
  constructor <;> intros <;> first | with_reducible rfl | (simp_all [opMeshCommit, done, answer]; done) | (simp only [opMeshCommit]; repeat' (first | with_reducible rfl | split | (simp_all [done, answer]; done) | dsimp only))
@[simp] theorem warpSet_owners (s : State) (bank : ℕ) (entry : ℕ) (v : Word) : (warpSet s bank entry v).owners = s.owners := by simp [warpSet]
@[simp] theorem warpFill_owners (s : State) (bank : ℕ) (entry : ℕ) (x3 : List Word) : (warpFill s bank entry x3).owners = s.owners := by
  induction x3 generalizing s entry with
  | nil => rfl
  | cons a l ih => simp [warpFill, ih]
@[simp] theorem meshWrite_owners (s : State) (k : ℕ) (first : ℕ) (vs : List Word) : (meshWrite s k first vs).owners = s.owners := by simp [meshWrite]
@[simp] theorem opMeshData_keepsOwners (q : Req) (m : UnitRef) (first : Word) (vs : List Word) : (opMeshData q m first vs).KeepsOwners := by
  constructor <;> intros <;> first | with_reducible rfl | (simp_all [opMeshData, done, answer]; done) | (simp only [opMeshData]; repeat' (first | with_reducible rfl | split | (simp_all [done, answer]; done) | dsimp only))
@[simp] theorem opMeshFromCapture_keepsOwners (q : Req) (m : UnitRef) (pipe : UnitRef) (first : Word) (count : Word) (every : Bool) (commit : Bool) : (opMeshFromCapture q m pipe first count every commit).KeepsOwners := by
  constructor <;> intros <;> first | with_reducible rfl | (simp_all [opMeshFromCapture, done, answer]; done) | (simp only [opMeshFromCapture]; repeat' (first | with_reducible rfl | split | (simp_all [done, answer]; done) | dsimp only))
@[simp] theorem freeEntry_owners (s : State) (t : ModeTrigger) : (freeEntry s t).owners = s.owners := by
  unfold freeEntry; repeat' (first | with_reducible rfl | (simp; done) | split | dsimp only)
@[simp] theorem memSleep_owners (s : State) (w : Wing) (on : Bool) : (memSleep s w on).owners = s.owners := by
  simp [memSleep]
@[simp] theorem dropChange_owners (s : State) : (dropChange s).owners = s.owners := by
  unfold dropChange; repeat' (first | with_reducible rfl | (simp; done) | split | dsimp only)
@[simp] theorem opModeCancel_keepsOwners : (opModeCancel).KeepsOwners := by
  constructor <;> intros <;> first | with_reducible rfl | (simp_all [opModeCancel, done, answer]; done) | (simp only [opModeCancel]; repeat' (first | with_reducible rfl | split | (simp_all [done, answer]; done) | dsimp only))
@[simp] theorem beginChange_owners (s : State) (q : Req) (mode : ℕ) (t : ModeTrigger) : (beginChange s q mode t).owners = s.owners := by
  unfold beginChange; repeat' (first | with_reducible rfl | (simp; done) | split | dsimp only)
@[simp] theorem endLoops_owners (s : State) : (endLoops s).owners = s.owners := by simp [endLoops]
@[simp] theorem edpStart_owners (s : State) (p : ℕ) (o : ℕ) : (edpStart s p o).owners = s.owners := by simp [edpStart]
@[simp] theorem gridCheck_owners (s : State) (n : ℕ) : (gridCheck s n).owners = s.owners := by simp [gridCheck]
@[simp] theorem enterStarting_owners (s : State) (n : ℕ) : (enterStarting s n).owners = s.owners := by simp [enterStarting]
@[simp] theorem startOutput_owners (s : State) (n : ℕ) (w : Wing) : (startOutput s n w).owners = s.owners := by simp [startOutput]
@[simp] theorem modeOutputs_owners (s : State) (rd : Rd) (mode : ℕ) : (modeOutputs s rd mode).owners = s.owners := by
  unfold modeOutputs
  refine (foldl_owners _ _ (fun s x => ?_) _).trans rfl
  dsimp only
  split
  · split
    · split <;> simp
    · split
      · split <;> simp
      · split <;> simp
  · split <;> simp
@[simp] theorem placeWords_owners (s : State) (ws : List (ℕ × ℕ × ℕ × ℕ)) (m : Rd) (v : Rd) : (placeWords s ws m v).owners = s.owners := by simp [placeWords]
@[simp] theorem disarm_owners (s : State) (w : Wing) (reason : ℕ) : (disarm s w reason).owners = s.owners := by simp [disarm]
@[simp] theorem takeRole_owners (s : State) (w : Wing) (role : ℕ) : (takeRole s w role).owners = s.owners := by simp [takeRole]
@[simp] theorem takeRoles_owners (s : State) (mode : ℕ) (off : Option Wing) : (takeRoles s mode off).owners = s.owners := by simp [takeRoles]
@[simp] theorem applyMode_owners (s : State) (mode : ℕ) : (applyMode s mode).owners = s.owners := by simp [applyMode]
@[simp] theorem refuseChange_owners (s : State) (why : ℕ) (st : Status) (a : Addr) : (refuseChange s why st a).owners = s.owners := by
  unfold refuseChange; repeat' (first | with_reducible rfl | (simp; done) | split | dsimp only)
@[simp] theorem launchChange_owners (s : State) : (launchChange s).owners = s.owners := by
  unfold launchChange; repeat' (first | with_reducible rfl | (simp; done) | split | dsimp only)
@[simp] theorem opModeChange_keepsOwners (q : Req) (target : Byte) (trigger : Byte) (o : Byte) : (opModeChange q target trigger o).KeepsOwners := by
  constructor
  · intro s; simp only [opModeChange]; split <;> simp [done]
  · intros; simp [opModeChange]
  · intros; simp [opModeChange]
  · intros; simp [opModeChange]
  · intros; simp [opModeChange]
  · intro f h; cases h; intro s; simp [done]
@[simp] theorem opNop_keepsOwners : (opNop).KeepsOwners := by
  constructor <;> intros <;> first | with_reducible rfl | (simp_all [opNop, done, answer]; done) | (simp only [opNop]; repeat' (first | with_reducible rfl | split | (simp_all [done, answer]; done) | dsimp only))
@[simp] theorem moveOutput_owners (s : State) (n : ℕ) (w : Wing) : (moveOutput s n w).owners = s.owners := by simp [moveOutput]
@[simp] theorem opOutputAssign_keepsOwners (q : Req) (o : Byte) (w : Byte) : (opOutputAssign q o w).KeepsOwners := by
  constructor <;> intros <;> first | with_reducible rfl | (simp_all [opOutputAssign, done, answer]; done) | (simp only [opOutputAssign]; repeat' (first | with_reducible rfl | split | (simp_all [done, answer]; done) | dsimp only))
@[simp] theorem opOutputStart_keepsOwners (q : Req) (o : Byte) (w : Byte) : (opOutputStart q o w).KeepsOwners := by
  constructor <;> intros <;> first | with_reducible rfl | (simp_all [opOutputStart, done, answer]; done) | (simp only [opOutputStart]; repeat' (first | with_reducible rfl | split | (simp_all [done, answer]; done) | dsimp only))
@[simp] theorem opOutputStop_keepsOwners (q : Req) (o : Byte) (force : Bool) : (opOutputStop q o force).KeepsOwners := by
  constructor <;> intros <;> first | with_reducible rfl | (simp_all [opOutputStop, done, answer]; done) | (simp only [opOutputStop]; repeat' (first | with_reducible rfl | split | (simp_all [done, answer]; done) | dsimp only))
@[simp] theorem opOwners_keepsOwners (cls : Byte) (first : Byte) (count : Byte) (bank : Byte) : (opOwners cls first count bank).KeepsOwners := by
  constructor <;> intros <;> first | with_reducible rfl | (simp_all [opOwners, done, answer]; done) | (simp only [opOwners]; repeat' (first | with_reducible rfl | split | (simp_all [done, answer]; done) | dsimp only))
@[simp] theorem rampNow_owners (s : State) (n : ℕ) (segs : List Seg) : (rampNow s n segs).owners = s.owners := by
  simp [rampNow]
@[simp] theorem opSynRampStart_keepsOwners (q : Req) (n : Byte) : (opSynRampStart q n).KeepsOwners := by
  constructor <;> intros <;> first | with_reducible rfl | (simp_all [opSynRampStart, done, answer]; done) | (simp only [opSynRampStart]; repeat' (first | with_reducible rfl | split | (simp_all [done, answer]; done) | dsimp only))
@[simp] theorem opRampStart_keepsOwners (q : Req) (n : Byte) : (opRampStart q n).KeepsOwners := by
  have h := opSynRampStart_keepsOwners q n
  exact ⟨h.run, h.accept, h.waits, h.refused, h.failed, h.launchRun⟩
@[simp] theorem opReadWords_keepsOwners (opcode : Byte) (addr : Addr) (bank : Byte) (n : ℕ) : (opReadWords opcode addr bank n).KeepsOwners := by
  constructor <;> intros <;> first | with_reducible rfl | (simp_all [opReadWords, done, answer]; done) | (simp only [opReadWords]; repeat' (first | with_reducible rfl | split | (simp_all [done, answer]; done) | dsimp only))
@[simp] theorem opRefRank_keepsOwners (cs : List Byte) : (opRefRank cs).KeepsOwners := by
  constructor <;> intros <;> first | with_reducible rfl | (simp_all [opRefRank, done, answer]; done) | (simp only [opRefRank]; repeat' (first | with_reducible rfl | split | (simp_all [done, answer]; done) | dsimp only))
@[simp] theorem opRefSelect_keepsOwners (c : Byte) : (opRefSelect c).KeepsOwners := by
  refine ⟨fun s => ?_, fun _ _ => rfl, fun _ => rfl, fun _ _ => rfl, fun _ _ => rfl, fun _ h => nomatch h⟩
  simp only [opRefSelect]
  split <;> simp [done]
@[simp] theorem opRouteSwitch_keepsOwners (q : Req) (r : UnitRef) (kind : Byte) (pipe : UnitRef) : (opRouteSwitch q r kind pipe).KeepsOwners := by
  constructor <;> intros <;> first | with_reducible rfl | (simp_all [opRouteSwitch, done, answer]; done) | (simp only [opRouteSwitch]; repeat' (first | with_reducible rfl | split | (simp_all [done, answer]; done) | dsimp only))
@[simp] theorem setEntry_owners (s : State) (e : ℕ) (x : Option SchedEntry) : (setEntry s e x).owners = s.owners := by simp [setEntry]
@[simp] theorem opSchedCancel_keepsOwners (q : Req) (e : Half) (tag : Byte) : (opSchedCancel q e tag).KeepsOwners := by
  constructor <;> intros <;> first | with_reducible rfl | (simp_all [opSchedCancel, done, answer]; done) | (simp only [opSchedCancel]; repeat' (first | with_reducible rfl | split | (simp_all [done, answer]; done) | dsimp only))
@[simp] theorem opSchedList_keepsOwners (first : Byte) (count : Byte) : (opSchedList first count).KeepsOwners := by
  constructor <;> intros <;> first | with_reducible rfl | (simp_all [opSchedList, done, answer]; done) | (simp only [opSchedList]; repeat' (first | with_reducible rfl | split | (simp_all [done, answer]; done) | dsimp only))
@[simp] theorem opSelftest_keepsOwners (q : Req) (cls : Byte) (target : Byte) (unit : Half) : (opSelftest q cls target unit).KeepsOwners := by
  constructor <;> intros <;> first | with_reducible rfl | (simp_all [opSelftest, done, answer]; done) | (simp only [opSelftest]; repeat' (first | with_reducible rfl | split | (simp_all [done, answer]; done) | dsimp only))
@[simp] theorem drawBytes_owners (s : State) (n : ℕ) : (drawBytes s n).2.owners = s.owners := by simp [drawBytes]
@[simp] theorem endTest_owners (s : State) (t : ℕ) (outcome : ℕ) (unit : ℕ) (detail : Word) : (endTest s t outcome unit detail).owners = s.owners := by
  unfold endTest; repeat' (first | with_reducible rfl | (simp; done) | split | dsimp only)
@[simp] theorem opSelftestAbort_keepsOwners (target : Byte) : (opSelftestAbort target).KeepsOwners := by
  constructor <;> intros <;> first | with_reducible rfl | (simp_all [opSelftestAbort, done, answer]; done) | (simp only [opSelftestAbort]; repeat' (first | with_reducible rfl | split | (simp_all [done, answer]; done) | dsimp only))
@[simp] theorem drawWord_owners (s : State) : (drawWord s).2.owners = s.owners := by simp [drawWord]
@[simp] theorem bandRecord_owners (s : State) (n : ℕ) : (bandRecord s n).2.owners = s.owners := by
  simp [bandRecord]
@[simp] theorem opSynBandStore_keepsOwners (q : Req) (n : Byte) (mem : Byte) : (opSynBandStore q n mem).KeepsOwners := by
  constructor <;> intros <;> first | with_reducible rfl | (simp_all [opSynBandStore, done, answer]; done) | (simp only [opSynBandStore]; repeat' (first | with_reducible rfl | split | (simp_all [done, answer]; done) | dsimp only))
@[simp] theorem opSynRampLoad_keepsOwners (q : Req) (n : Byte) (segs : List Seg) : (opSynRampLoad q n segs).KeepsOwners := by
  constructor <;> intros <;> first | with_reducible rfl | (simp_all [opSynRampLoad, done, answer]; done) | (simp only [opSynRampLoad]; repeat' (first | with_reducible rfl | split | (simp_all [done, answer]; done) | dsimp only))
@[simp] theorem opSysReset_keepsOwners (scope : Byte) (confirm : Word) : (opSysReset scope confirm).KeepsOwners := by
  constructor <;> intros <;> first | with_reducible rfl | (simp_all [opSysReset, done, answer]; done) | (simp only [opSysReset]; repeat' (first | with_reducible rfl | split | (simp_all [done, answer]; done) | dsimp only))
@[simp] theorem opTbRead_keepsOwners : (opTbRead).KeepsOwners := by
  constructor <;> intros <;> first | with_reducible rfl | (simp_all [opTbRead, done, answer]; done) | (simp only [opTbRead]; repeat' (first | with_reducible rfl | split | (simp_all [done, answer]; done) | dsimp only))
@[simp] theorem passOver_owners (s : State) (new : W64) : (passOver s new).1.owners = s.owners := rfl
@[simp] theorem setTimebase_owners (s : State) (q : Req) (ns : W64) (frac : Half) : (setTimebase s q ns frac).owners = s.owners := by simp [setTimebase]
@[simp] theorem opTbSet_keepsOwners (q : Req) (ns : W64) (frac : Half) : (opTbSet q ns frac).KeepsOwners := by
  constructor <;> intros <;> first | with_reducible rfl | (simp_all [opTbSet, done, answer]; done) | (simp only [opTbSet]; repeat' (first | with_reducible rfl | split | (simp_all [done, answer]; done) | dsimp only))
@[simp] theorem setThermal_owners (s : State) (f : Thermal → Thermal) : (setThermal s f).owners = s.owners := by simp [setThermal]
@[simp] theorem requestMeasure_owners (s : State) (mask : ℕ) (own : Bool) : (requestMeasure s mask own).owners = s.owners := by simp [requestMeasure]
@[simp] theorem opThmMeasure_keepsOwners (mask : Half) : (opThmMeasure mask).KeepsOwners := by
  constructor <;> intros <;> first | with_reducible rfl | (simp_all [opThmMeasure, done, answer]; done) | (simp only [opThmMeasure]; repeat' (first | with_reducible rfl | split | (simp_all [done, answer]; done) | dsimp only))
@[simp] theorem triggerNow_owners (s : State) (n : ℕ) (cam : ℕ) (w : Word) (launch : W64) : (triggerNow s n cam w launch).owners = s.owners := by simp [triggerNow]
@[simp] theorem opTrigger_keepsOwners (q : Req) (port : Byte) (camera : Byte) (w : Word) : (opTrigger q port camera w).KeepsOwners := by
  constructor <;> intros <;> first | with_reducible rfl | (simp_all [opTrigger, done, answer]; done) | (simp only [opTrigger]; repeat' (first | with_reducible rfl | split | (simp_all [done, answer]; done) | dsimp only))
@[simp] theorem opVitCommit_keepsOwners (n : Byte) (len : Word) (crc : Word) : (opVitCommit n len crc).KeepsOwners := by
  constructor <;> intros <;> first | with_reducible rfl | (simp_all [opVitCommit, done, answer]; done) | (simp only [opVitCommit]; repeat' (first | with_reducible rfl | split | (simp_all [done, answer]; done) | dsimp only))
@[simp] theorem setSlot_owners (s : State) (n : ℕ) (x : Slot) : (setSlot s n x).owners = s.owners := by simp [setSlot]
@[simp] theorem opVitData_keepsOwners (q : Req) (n : Byte) (off : Word) (data : List Byte) : (opVitData q n off data).KeepsOwners := by
  constructor <;> intros <;> first | with_reducible rfl | (simp_all [opVitData, done, answer]; done) | (simp only [opVitData]; repeat' (first | with_reducible rfl | split | (simp_all [done, answer]; done) | dsimp only))
@[simp] theorem opVltChallenge_keepsOwners (nonce : List Byte) : (opVltChallenge nonce).KeepsOwners := by
  constructor <;> intros <;> first | with_reducible rfl | (simp_all [opVltChallenge, done, answer]; done) | (simp only [opVltChallenge]; repeat' (first | with_reducible rfl | split | (simp_all [done, answer]; done) | dsimp only))
@[simp] theorem opVltDerive_keepsOwners (q : Req) (slot : Byte) (ctx : List Byte) : (opVltDerive q slot ctx).KeepsOwners := by
  constructor <;> intros <;> first | with_reducible rfl | (simp_all [opVltDerive, done, answer]; done) | (simp only [opVltDerive]; repeat' (first | with_reducible rfl | split | (simp_all [done, answer]; done) | dsimp only))
@[simp] theorem queueVault_owners (s : State) (k : ℕ) (st : ℕ) (secret : List Byte) (p : Port) : (queueVault s k st secret p).owners = s.owners := by simp [queueVault]
@[simp] theorem launchFailed_owners (s : State) (e : ℕ) (q : Req) (st : Status) : (launchFailed s e q st).owners = s.owners := by simp [launchFailed]
@[simp] theorem discardKeyed_owners (s : State) : (discardKeyed s).owners = s.owners := by
  unfold discardKeyed
  refine (foldl_owners _ _ (fun s x => ?_) _).trans rfl
  generalize entryReq x.2 = p
  obtain ⟨a, b⟩ := p
  simp only [launchFailed_owners, formLaunchPlacard_owners, setEntry_owners]
  have hc (c : Instr) : (match c with | .modeChange .. => dropChange s | _ => s).owners = s.owners := by
    split <;> simp
  exact hc _
@[simp] theorem revokeRuns_owners (s : State) : (revokeRuns s).owners = s.owners := by simp [revokeRuns]
@[simp] theorem revokeKey_owners (s : State) (p : Port) : (revokeKey s p).owners = s.owners := by
  unfold revokeKey; repeat' (first | with_reducible rfl | (simp; done) | split | dsimp only)
@[simp] theorem slotChanged_owners (s : State) (k : ℕ) (p : Port) : (slotChanged s k p).owners = s.owners := by simp [slotChanged]
@[simp] theorem opVltInvalidate_keepsOwners (q : Req) (slot : Byte) : (opVltInvalidate q slot).KeepsOwners := by
  refine ⟨fun s => ?_, fun _ _ => rfl, fun _ => rfl, fun _ _ => rfl, fun _ _ => rfl, fun _ h => nomatch h⟩
  simp only [opVltInvalidate]
  repeat' (first | with_reducible rfl | split | simp [done])
@[simp] theorem opVltSecretWrite_keepsOwners (q : Req) (slot : Byte) (secret : List Byte) : (opVltSecretWrite q slot secret).KeepsOwners := by
  constructor <;> intros <;> first | with_reducible rfl | (simp_all [opVltSecretWrite, done, answer]; done) | (simp only [opVltSecretWrite]; repeat' (first | with_reducible rfl | split | (simp_all [done, answer]; done) | dsimp only))
@[simp] theorem opVltStatus_keepsOwners : (opVltStatus).KeepsOwners := by
  constructor <;> intros <;> first | with_reducible rfl | (simp_all [opVltStatus, done, answer]; done) | (simp only [opVltStatus]; repeat' (first | with_reducible rfl | split | (simp_all [done, answer]; done) | dsimp only))
@[simp] theorem opWrite_keepsOwners (q : Req) (addr : Addr) (bank : Byte) (v : Word) : (opWrite q addr bank v).KeepsOwners := by
  have h := opWriteWords_keepsOwners 0x11 q addr bank [(allOnes, v)]
  exact ⟨h.run, h.accept, h.waits, h.refused, h.failed, h.launchRun⟩
@[simp] theorem opWriteMasked_keepsOwners (q : Req) (addr : Addr) (bank : Byte) (mask : Word) (v : Word) : (opWriteMasked q addr bank mask v).KeepsOwners := by
  have h := opWriteWords_keepsOwners 0x12 q addr bank [(mask, v)]
  exact ⟨h.run, h.accept, h.waits, h.refused, h.failed, h.launchRun⟩
@[simp] theorem absenceCheck_owners (s : State) (n : ℕ) : (absenceCheck s n).owners = s.owners := by simp [absenceCheck]
@[simp] theorem addStep_owners (s : State) (ps : ℤ) : (addStep s ps).owners = s.owners := by simp [addStep]
@[simp] theorem sendCapability_owners (s : State) (n : ℕ) : (sendCapability s n).owners = s.owners := by simp [sendCapability]
@[simp] theorem alignDone_owners (s : State) (n : ℕ) : (alignDone s n).owners = s.owners := by
  simp [alignDone]
@[simp] theorem alignFsyncs_owners (s : State) (c : ℕ) : (alignFsyncs s c).owners = s.owners := by
  unfold alignFsyncs
  repeat' (first | with_reducible rfl | with_reducible assumption | ((try lift_lets); intro zz; first | ((have hz : State.owners zz = State.owners s := by (dsimp only [zz]; repeat' (first | with_reducible rfl | with_reducible assumption | (obtain ⟨rfl, rfl⟩ := Prod.ext_iff.mp ‹_ = (_, _)›) | (obtain ⟨rfl, -⟩ := Prod.ext_iff.mp ‹_ = (_, _)›) | split | (with_reducible refine (foldl_owners _ _ (fun s x => ?_) _).trans ?_) | (simp only [*]; done) | dsimp only | (simp [*]; done)))); clear_value zz) | clear_value zz) | (obtain ⟨rfl, rfl⟩ := Prod.ext_iff.mp ‹_ = (_, _)›) | (obtain ⟨rfl, -⟩ := Prod.ext_iff.mp ‹_ = (_, _)›) | split | (with_reducible refine (foldl_owners _ _ (fun s x => ?_) _).trans ?_) | (simp only [*]; done) | (simp [*]; done))
@[simp] theorem noStep_owners (s : State) (n : ℕ) : (noStep s n).owners = s.owners := by
  simp [noStep]
@[simp] theorem takeRemain_owners (s : State) (n : ℕ) : (takeRemain s n).owners = s.owners := by simp [takeRemain]
@[simp] theorem alignTo_owners (s : State) (n : ℕ) (d : ℤ) : (alignTo s n d).owners = s.owners := by simp [alignTo]
@[simp] theorem alignTick_owners (s : State) (o : ℕ) : (alignTick s o).owners = s.owners := by
  unfold alignTick; repeat' (first | with_reducible rfl | (simp; done) | split | dsimp only)
@[simp] theorem allocBuffers_owners (s : State) (k : ℕ) (size : ℕ) (x3 : ℕ) : ∀ res, allocBuffers s k size x3 = some res → res.1.owners = s.owners := by
  induction x3 generalizing s with
  | zero => intro res h; simp only [allocBuffers, Option.some.injEq] at h; subst h; rfl
  | succ n ih =>
    intro res h
    simp only [allocBuffers] at h
    split at h
    · cases h
    · rename_i s2 b h2
      simp only [Option.map_eq_some_iff] at h
      obtain ⟨a, h3, rfl⟩ := h
      exact (ih _ _ h3).trans (allocate_owners _ _ _ _ _ _ h2)
@[simp] theorem applyBase_owners (s : State) (l : List Byte) : (applyBase s l).owners = s.owners := by simp [applyBase]
@[simp] theorem arbEvent_owners (s : State) (o : ℕ) (row : ℕ) (outcome : ℕ) : (arbEvent s o row outcome).owners = s.owners := by simp [arbEvent]
@[simp] theorem setDispatcher_owners (s : State) (w : Wing) (d : Dispatcher) : (setDispatcher s w d).owners = s.owners := by
  unfold setDispatcher; repeat' (first | with_reducible rfl | (simp; done) | split | dsimp only)
@[simp] theorem dispatch_owners (s : State) (w : Wing) : (dispatch s w).owners = s.owners := by
  simp [dispatch]
@[simp] theorem finishEngine_owners (s : State) (w : Wing) (e : ℕ) : (finishEngine s w e).owners = s.owners := by
  simp [finishEngine]
@[simp] theorem finishJob_owners (s : State) (w : Wing) (o : ℕ) (row : ℕ) (col : ℕ) : (finishJob s w o row col).owners = s.owners := by
  simp [finishJob]
@[simp] theorem setHealth_owners (s : State) (w : Wing) (f : Health → Health) : (setHealth s w f).owners = s.owners := by simp [setHealth]
@[simp] theorem dirtyFrame_owners (s : State) (o : ℕ) : (dirtyFrame s o).owners = s.owners := by
  unfold dirtyFrame; repeat' (first | with_reducible rfl | (simp; done) | split | dsimp only)
@[simp] theorem unresolved_owners (s : State) (o : ℕ) (row : ℕ) : (unresolved s o row).owners = s.owners := by simp [unresolved]
@[simp] theorem wingFault_owners (s : State) (w : Wing) (cause : ℕ) : (wingFault s w cause).owners = s.owners := by simp [wingFault]
@[simp] theorem arbitrate_owners (s : State) (o : ℕ) (row : ℕ) (col : ℕ) (w : Wing) (confirmed : Bool) : (arbitrate s o row col w confirmed).owners = s.owners := by
  unfold arbitrate; repeat' (first | with_reducible rfl | (simp; done) | split | dsimp only)
@[simp] theorem armAt_owners (s : State) (o : ℕ) : (armAt s o).owners = s.owners := by
  unfold armAt; repeat' (first | with_reducible rfl | (simp; done) | split | dsimp only)
@[simp] theorem armFsyncs_owners (s : State) (c : ℕ) : (armFsyncs s c).owners = s.owners := by simp [armFsyncs]
@[simp] theorem setStream_owners (s : State) (k : ℕ) (x : Stream) : (setStream s k x).owners = s.owners := by simp [setStream]
@[simp] theorem streamEvent_owners (s : State) (k : ℕ) (cause : ℕ) (channels : ℕ) : (streamEvent s k cause channels).owners = s.owners := by simp [streamEvent]
@[simp] theorem streamGap_owners (s : State) (k : ℕ) (missing : ℕ) (why : ℕ) : (streamGap s k missing why).owners = s.owners := by simp [streamGap]
@[simp] theorem audioArrives_owners (s : State) (k : ℕ) (channels : ℕ) (rate : ℕ) (seq : Option ℕ) (frames : ℕ) (pt : W64) (last : List Word) : (audioArrives s k channels rate seq frames pt last).owners = s.owners := by
  unfold audioArrives
  repeat' (first | with_reducible rfl | with_reducible assumption | ((try lift_lets); intro zz; first | ((have hz : State.owners zz = State.owners s := by (dsimp only [zz]; repeat' (first | with_reducible rfl | with_reducible assumption | (obtain ⟨rfl, rfl⟩ := Prod.ext_iff.mp ‹_ = (_, _)›) | (obtain ⟨rfl, -⟩ := Prod.ext_iff.mp ‹_ = (_, _)›) | split | (with_reducible refine (foldl_owners _ _ (fun s x => ?_) _).trans ?_) | (simp only [*]; done) | dsimp only | (simp [*]; done)))); clear_value zz) | clear_value zz) | (obtain ⟨rfl, rfl⟩ := Prod.ext_iff.mp ‹_ = (_, _)›) | (obtain ⟨rfl, -⟩ := Prod.ext_iff.mp ‹_ = (_, _)›) | split | (with_reducible refine (foldl_owners _ _ (fun s x => ?_) _).trans ?_) | (simp only [*]; done) | (simp [*]; done))
@[simp] theorem setAudioClock_owners (s : State) (n : ℕ) (c : AudioClock) : (setAudioClock s n c).owners = s.owners := by
  simp [setAudioClock]
@[simp] theorem audioTick_owners (s : State) (n : ℕ) : (audioTick s n).owners = s.owners := by
  simp [audioTick]
@[simp] theorem authStep_owners (s : State) (q : Req) (o : Op) : (authStep s q o).1.owners = s.owners := by
  unfold authStep
  dsimp only
  repeat' (first | with_reducible rfl | split | (simp; done))
@[simp] theorem countFst_owners (s : State) (p : ℕ) (w : ℕ) (n : ℕ) : (countFst s p w n).owners = s.owners := by simp [countFst]
@[simp] theorem raiseWing_owners (s : State) (w : Wing) (src : ℕ) (d : Word) : (raiseWing s w src d).owners = s.owners := by simp [raiseWing]
@[simp] theorem bandwidthMiss_owners (s : State) (w : Wing) (o : ℕ) (port : ℕ) : (bandwidthMiss s w o port).owners = s.owners := by simp [bandwidthMiss]
@[simp] theorem beginFrame_owners (s : State) (k : ℕ) : (beginFrame s k).owners = s.owners := by
  unfold beginFrame; repeat' (first | with_reducible rfl | (simp; done) | split | dsimp only)
@[simp] theorem beginJobs_owners (s : State) (o : ℕ) : (beginJobs s o).owners = s.owners := by
  simp [beginJobs]
@[simp] theorem plkCount_owners (s : State) (n : ℕ) (crc : ℕ) (hdr : ℕ) (corr : ℕ) (uncorr : ℕ) (retx : ℕ) : (plkCount s n crc hdr corr uncorr retx).owners = s.owners := by simp [plkCount]
@[simp] theorem laneLost_owners (s : State) (n : ℕ) (lane : ℕ) (hdr : ℕ) : (laneLost s n lane hdr).owners = s.owners := by
  simp [laneLost]
@[simp] theorem sendAck_owners (s : State) (n : ℕ) : (sendAck s n).owners = s.owners := by
  simp [sendAck]
@[simp] theorem sendTraining_owners (s : State) (n : ℕ) (req : ℕ) (step : ℕ) (preset : ℕ) (pre : Byte) (post : Byte) : (sendTraining s n req step preset pre post).owners = s.owners := by
  simp [sendTraining]
@[simp] theorem toTrain_owners (s : State) (n : ℕ) : (toTrain s n).owners = s.owners := by
  simp [toTrain]
@[simp] theorem lanesLocked_owners (s : State) (n : ℕ) : (lanesLocked s n).owners = s.owners := by
  unfold lanesLocked; repeat' (first | with_reducible rfl | (simp; done) | split | dsimp only)
@[simp] theorem headerArrives_owners (s : State) (n : ℕ) (lane : ℕ) (h : BitVec 2) : (headerArrives s n lane h).owners = s.owners := by
  unfold headerArrives; repeat' (first | with_reducible rfl | (simp; done) | split | dsimp only)
@[simp] theorem cp2Delivered_owners (s : State) (k : ℕ) : (cp2Delivered s k).owners = s.owners := by
  simp [cp2Delivered]
@[simp] theorem takeAck_owners (s : State) (n : ℕ) (upTo : Byte) : (takeAck s n upTo).owners = s.owners := by simp [takeAck]
@[simp] theorem validPacket_owners (s : State) (n : ℕ) : (validPacket s n).owners = s.owners := by
  simp [validPacket]
@[simp] theorem receiveCtl_owners (s : State) (n : ℕ) (m : Ctl) : (receiveCtl s n m).2.owners = s.owners := by
  unfold receiveCtl; repeat' (first | with_reducible rfl | (simp; done) | split | dsimp only)
@[simp] theorem execUrgent_owners (port : Fin 24) (m : Ctl) (s : State) : ∀ res, execUrgent port m s = .next res → res.owners = s.owners := by
  intro res h; simp only [execUrgent] at h; cases h; simp
theorem stateOf_owners (s : State) (r : Host.Outcome State Fault Refusal) (h : ∀ res, r = .next res → res.owners = s.owners) : (stateOf s r).owners = s.owners := by
  cases r with
  | next t => exact h t rfl
  | fault _ => rfl
  | refused _ => rfl
@[simp] theorem takeControlBlock_owners (s : State) (port : Fin 24) (b : List Byte) : (takeControlBlock s port b).owners = s.owners := by
  unfold takeControlBlock
  split
  · simp
  · exact stateOf_owners _ _ (execUrgent_owners _ _ _)
  · rfl
@[simp] theorem packetFailed_owners (s : State) (n : ℕ) : (packetFailed s n).owners = s.owners := by simp [packetFailed]
@[simp] theorem execAudio_owners (port : Fin 24) (packet : List Byte) (s : State) : ∀ res, execAudio port packet s = .next res → res.owners = s.owners := by
  intro res h
  unfold execAudio at h
  repeat' (first | (have h := Host.Outcome.next.inj h; subst h; clear h) | (have h := Host.Outcome.next.inj h; subst h) | (simp only [reduceCtorEq] at h; done) | split at h | dsimp only at h | (cases h; done) | (obtain ⟨rfl⟩ := h))
  all_goals (repeat' (first | with_reducible rfl | with_reducible assumption | ((try lift_lets); intro zz; first | ((have hz : State.owners zz = State.owners s := by (dsimp only [zz]; repeat' (first | with_reducible rfl | with_reducible assumption | (obtain ⟨rfl, rfl⟩ := Prod.ext_iff.mp ‹_ = (_, _)›) | (obtain ⟨rfl, -⟩ := Prod.ext_iff.mp ‹_ = (_, _)›) | split | (with_reducible refine (foldl_owners _ _ (fun s x => ?_) _).trans ?_) | (simp only [*]; done) | dsimp only | (simp [*]; done)))); clear_value zz) | clear_value zz) | (obtain ⟨rfl, rfl⟩ := Prod.ext_iff.mp ‹_ = (_, _)›) | (obtain ⟨rfl, -⟩ := Prod.ext_iff.mp ‹_ = (_, _)›) | split | (with_reducible refine (foldl_owners _ _ (fun s x => ?_) _).trans ?_) | (simp only [*]; done) | (simp [*]; done)))
@[simp] theorem plkRunning_owners (s : State) (n : ℕ) (cause : ℕ) : (plkRunning s n cause).owners = s.owners := by simp [plkRunning]
@[simp] theorem toStep_owners (s : State) (n : ℕ) : (toStep s n).owners = s.owners := by
  simp [toStep]
@[simp] theorem capDone_owners (s : State) (n : ℕ) : (capDone s n).owners = s.owners := by simp [capDone]
@[simp] theorem judgeCapability_owners (s : State) (n : ℕ) (b : List Byte) : (judgeCapability s n b).owners = s.owners := by
  simp [judgeCapability]
@[simp] theorem execCapability_owners (port : Fin 24) (packet : List Byte) (s : State) : ∀ res, execCapability port packet s = .next res → res.owners = s.owners := by
  intro res h
  simp only [execCapability] at h
  split at h
  · have h := Host.Outcome.next.inj h; subst h; rfl
  · split at h
    · have h := Host.Outcome.next.inj h; subst h; simp
    · rename_i b _
      have e : (sendCtl (validPacket s port.val) port.val 0x07 (leBytes 4 (crc32c b).toNat)).owners = s.owners := by simp
      generalize sendCtl (validPacket s port.val) port.val 0x07 (leBytes 4 (crc32c b).toNat) = t at h e
      split at h <;> (have h := Host.Outcome.next.inj h; subst h; simp [e])
@[simp] theorem execFence_owners (port : Fin 24) (packet : List Byte) (s : State) : ∀ res, execFence port packet s = .next res → res.owners = s.owners := by
  intro res h
  unfold execFence at h
  repeat' (first | (have h := Host.Outcome.next.inj h; subst h; clear h) | (have h := Host.Outcome.next.inj h; subst h) | (simp only [reduceCtorEq] at h; done) | split at h | dsimp only at h | (cases h; done) | (obtain ⟨rfl⟩ := h))
  all_goals (repeat' (first | with_reducible rfl | with_reducible assumption | ((try lift_lets); intro zz; first | ((have hz : State.owners zz = State.owners s := by (dsimp only [zz]; repeat' (first | with_reducible rfl | with_reducible assumption | (obtain ⟨rfl, rfl⟩ := Prod.ext_iff.mp ‹_ = (_, _)›) | (obtain ⟨rfl, -⟩ := Prod.ext_iff.mp ‹_ = (_, _)›) | split | (with_reducible refine (foldl_owners _ _ (fun s x => ?_) _).trans ?_) | (simp only [*]; done) | dsimp only | (simp [*]; done)))); clear_value zz) | clear_value zz) | (obtain ⟨rfl, rfl⟩ := Prod.ext_iff.mp ‹_ = (_, _)›) | (obtain ⟨rfl, -⟩ := Prod.ext_iff.mp ‹_ = (_, _)›) | split | (with_reducible refine (foldl_owners _ _ (fun s x => ?_) _).trans ?_) | (simp only [*]; done) | (simp [*]; done)))
@[simp] theorem execHeartbeat_owners (port : Fin 24) (packet : List Byte) (s : State) : ∀ res, execHeartbeat port packet s = .next res → res.owners = s.owners := by
  intro res h
  unfold execHeartbeat at h
  repeat' (first | (have h := Host.Outcome.next.inj h; subst h; clear h) | (have h := Host.Outcome.next.inj h; subst h) | (simp only [reduceCtorEq] at h; done) | split at h | dsimp only at h | (cases h; done) | (obtain ⟨rfl⟩ := h))
  all_goals (repeat' (first | with_reducible rfl | with_reducible assumption | ((try lift_lets); intro zz; first | ((have hz : State.owners zz = State.owners s := by (dsimp only [zz]; repeat' (first | with_reducible rfl | with_reducible assumption | (obtain ⟨rfl, rfl⟩ := Prod.ext_iff.mp ‹_ = (_, _)›) | (obtain ⟨rfl, -⟩ := Prod.ext_iff.mp ‹_ = (_, _)›) | split | (with_reducible refine (foldl_owners _ _ (fun s x => ?_) _).trans ?_) | (simp only [*]; done) | dsimp only | (simp [*]; done)))); clear_value zz) | clear_value zz) | (obtain ⟨rfl, rfl⟩ := Prod.ext_iff.mp ‹_ = (_, _)›) | (obtain ⟨rfl, -⟩ := Prod.ext_iff.mp ‹_ = (_, _)›) | split | (with_reducible refine (foldl_owners _ _ (fun s x => ?_) _).trans ?_) | (simp only [*]; done) | (simp [*]; done)))
@[simp] theorem forcedLine_owners (s : State) (n : ℕ) (k : ℕ) : (forcedLine s n k).owners = s.owners := by
  simp [forcedLine]
@[simp] theorem countConcealed_owners (s : State) (k : ℕ) (n : ℕ) : (countConcealed s k n).owners = s.owners := by simp [countConcealed]
@[simp] theorem streamSeq_owners (s : State) (k : ℕ) (seq : ℕ) : (streamSeq s k seq).owners = s.owners := by simp [streamSeq]
@[simp] theorem lossNotice_owners (s : State) (k : ℕ) (seq : ℕ) : (lossNotice s k seq).owners = s.owners := by simp [lossNotice]
@[simp] theorem drainAll_owners (s : State) : (drainAll s).owners = s.owners := by simp [drainAll]
@[simp] theorem settleDrains_owners (s : State) : (settleDrains s).owners = s.owners := by simp [settleDrains]
@[simp] theorem checkTier_owners (s : State) (c : ℕ) : (checkTier s c).owners = s.owners := by
  unfold checkTier; repeat' (first | with_reducible rfl | (simp; done) | split | dsimp only)
@[simp] theorem measured_owners (s : State) (c : ℕ) (m : ℕ × ℕ) (r : ℕ × ℕ) : (measured s c m r).owners = s.owners := by simp [measured]
@[simp] theorem refPulseNow_owners (s : State) (n : ℕ) (interval : ℕ) : (refPulseNow s n interval).owners = s.owners := by simp [refPulseNow]
@[simp] theorem sourceRefPulse_owners (s : State) (src : ℕ × ℕ × ℕ) : (sourceRefPulse s src).owners = s.owners := by simp [sourceRefPulse]
@[simp] theorem streamCand_owners (s : State) (p : ℕ) (st : ℕ) (num : ℕ) : (streamCand s p st num).owners = s.owners := by
  simp [streamCand]
@[simp] theorem capChange_owners (s : State) (k : ℕ) : (capChange s k).owners = s.owners := by simp [capChange]
@[simp] theorem capLock_owners (s : State) (k : ℕ) (drift : ℤ) : (capLock s k drift).owners = s.owners := by simp [capLock]
@[simp] theorem capPairCheck_owners (s : State) (k : ℕ) : (capPairCheck s k).owners = s.owners := by simp [capPairCheck]
@[simp] theorem meshFromFrame_owners (s : State) (pixel : ℕ → Word) (size : ℕ) (x3 : List MeshReq) : (meshFromFrame s pixel size x3).1.owners = s.owners := by
  induction x3 generalizing s with
  | nil => rfl
  | cons a l ih =>
    simp only [meshFromFrame, ih]
    split <;> split <;> simp
@[simp] theorem capPublish_owners (s : State) (k : ℕ) : (capPublish s k).owners = s.owners := by
  unfold capPublish; repeat' (first | with_reducible rfl | (simp; done) | split | dsimp only)
@[simp] theorem followRamp_owners (s : State) (n : ℕ) (target : ℕ) (us : ℕ) : (followRamp s n target us).owners = s.owners := by simp [followRamp]
@[simp] theorem followOne_owners (s : State) (period : ℕ) (o : ℕ) : (followOne s period o).owners = s.owners := by
  unfold followOne; repeat' (first | with_reducible rfl | (simp; done) | split | dsimp only)
@[simp] theorem followSource_owners (s : State) (bank : ℕ) (pipe : ℕ) (period : ℕ) : (followSource s bank pipe period).owners = s.owners := by simp [followSource]
@[simp] theorem capFrameEnd_owners (s : State) (k : ℕ) (drift : ℤ) : (capFrameEnd s k drift).owners = s.owners := by
  unfold capFrameEnd; repeat' (first | with_reducible rfl | (simp; done) | split | dsimp only)
@[simp] theorem capJudge_owners (s : State) (k : ℕ) : (capJudge s k).owners = s.owners := by simp [capJudge]
@[simp] theorem capKnow_owners (s : State) (k : ℕ) (fmt : ℕ) (w : ℕ) : (capKnow s k fmt w).owners = s.owners := by simp [capKnow]
@[simp] theorem capTile_owners (s : State) (k : ℕ) (col : ℕ) (row : ℕ) (record : List Byte) : (capTile s k col row record).owners = s.owners := by
  unfold capTile; repeat' (first | with_reducible rfl | (simp; done) | split | dsimp only)
@[simp] theorem capEnter_owners (s : State) (k : ℕ) (fmt : ℕ) (w : ℕ) (h : ℕ) : (capEnter s k fmt w h).owners = s.owners := by
  unfold capEnter
  dsimp only
  split
  · split <;> simp
  · split
    · split <;> simp
    · rename_i s2 l h2
      have h3 := allocBuffers_owners _ _ _ _ _ h2
      simpa using h3
@[simp] theorem capPulse_owners (s : State) (k : ℕ) (fmt : ℕ) (w : ℕ) (num : Option ℕ) : (capPulse s k fmt w num).owners = s.owners := by
  unfold capPulse; repeat' (first | with_reducible rfl | (simp; done) | split | dsimp only)
@[simp] theorem streamPulse_owners (s : State) (k : ℕ) (num : ℕ) (fmt : ℕ) (w : ℕ) : (streamPulse s k num fmt w).owners = s.owners := by simp [streamPulse]
@[simp] theorem tileForPipe_owners (s : State) (src : ℕ × ℕ × ℕ) (k : ℕ) (seq : ℕ) (b : List Byte) (drift : ℤ) : (tileForPipe s src k seq b drift).owners = s.owners := by simp [tileForPipe]
@[simp] theorem execTile_owners (port : Fin 24) (packet : List Byte) (drift : ℤ) (s : State) : ∀ res, execTile port packet drift s = .next res → res.owners = s.owners := by
  intro res h
  unfold execTile at h
  repeat' (first | (have h := Host.Outcome.next.inj h; subst h; clear h) | (have h := Host.Outcome.next.inj h; subst h) | (simp only [reduceCtorEq] at h; done) | split at h | dsimp only at h | (cases h; done) | (obtain ⟨rfl⟩ := h))
  all_goals (repeat' (first | with_reducible rfl | with_reducible assumption | ((try lift_lets); intro zz; first | ((have hz : State.owners zz = State.owners s := by (dsimp only [zz]; repeat' (first | with_reducible rfl | with_reducible assumption | (obtain ⟨rfl, rfl⟩ := Prod.ext_iff.mp ‹_ = (_, _)›) | (obtain ⟨rfl, -⟩ := Prod.ext_iff.mp ‹_ = (_, _)›) | split | (with_reducible refine (foldl_owners _ _ (fun s x => ?_) _).trans ?_) | (simp only [*]; done) | dsimp only | (simp [*]; done)))); clear_value zz) | clear_value zz) | (obtain ⟨rfl, rfl⟩ := Prod.ext_iff.mp ‹_ = (_, _)›) | (obtain ⟨rfl, -⟩ := Prod.ext_iff.mp ‹_ = (_, _)›) | split | (with_reducible refine (foldl_owners _ _ (fun s x => ?_) _).trans ?_) | (simp only [*]; done) | (simp [*]; done)))
@[simp] theorem capPixels_owners (s : State) (k : ℕ) (y : ℕ) (x : ℕ) (n : ℕ) (src : SpanSrc) : (capPixels s k y x n src).owners = s.owners := by
  unfold capPixels; repeat' (first | with_reducible rfl | (simp; done) | split | dsimp only)
@[simp] theorem lineForPipe_owners (s : State) (src : ℕ × ℕ × ℕ) (k : ℕ) (seq : ℕ) (b : List Byte) (drift : ℤ) : (lineForPipe s src k seq b drift).owners = s.owners := by simp [lineForPipe]
@[simp] theorem execVideoLine_owners (port : Fin 24) (packet : List Byte) (drift : ℤ) (s : State) : ∀ res, execVideoLine port packet drift s = .next res → res.owners = s.owners := by
  intro res h
  unfold execVideoLine at h
  repeat' (first | (have h := Host.Outcome.next.inj h; subst h; clear h) | (have h := Host.Outcome.next.inj h; subst h) | (simp only [reduceCtorEq] at h; done) | split at h | dsimp only at h | (cases h; done) | (obtain ⟨rfl⟩ := h))
  all_goals (repeat' (first | with_reducible rfl | with_reducible assumption | ((try lift_lets); intro zz; first | ((have hz : State.owners zz = State.owners s := by (dsimp only [zz]; repeat' (first | with_reducible rfl | with_reducible assumption | (obtain ⟨rfl, rfl⟩ := Prod.ext_iff.mp ‹_ = (_, _)›) | (obtain ⟨rfl, -⟩ := Prod.ext_iff.mp ‹_ = (_, _)›) | split | (with_reducible refine (foldl_owners _ _ (fun s x => ?_) _).trans ?_) | (simp only [*]; done) | dsimp only | (simp [*]; done)))); clear_value zz) | clear_value zz) | (obtain ⟨rfl, rfl⟩ := Prod.ext_iff.mp ‹_ = (_, _)›) | (obtain ⟨rfl, -⟩ := Prod.ext_iff.mp ‹_ = (_, _)›) | split | (with_reducible refine (foldl_owners _ _ (fun s x => ?_) _).trans ?_) | (simp only [*]; done) | (simp [*]; done)))
@[simp] theorem execAck_owners (port : Fin 24) (upTo : Byte) (s : State) : ∀ res, execAck port upTo s = .next res → res.owners = s.owners := by
  intro res h
  unfold execAck at h
  repeat' (first | (have h := Host.Outcome.next.inj h; subst h; clear h) | (have h := Host.Outcome.next.inj h; subst h) | (simp only [reduceCtorEq] at h; done) | split at h | dsimp only at h | (cases h; done) | (obtain ⟨rfl⟩ := h))
  all_goals (repeat' (first | with_reducible rfl | with_reducible assumption | ((try lift_lets); intro zz; first | ((have hz : State.owners zz = State.owners s := by (dsimp only [zz]; repeat' (first | with_reducible rfl | with_reducible assumption | (obtain ⟨rfl, rfl⟩ := Prod.ext_iff.mp ‹_ = (_, _)›) | (obtain ⟨rfl, -⟩ := Prod.ext_iff.mp ‹_ = (_, _)›) | split | (with_reducible refine (foldl_owners _ _ (fun s x => ?_) _).trans ?_) | (simp only [*]; done) | dsimp only | (simp [*]; done)))); clear_value zz) | clear_value zz) | (obtain ⟨rfl, rfl⟩ := Prod.ext_iff.mp ‹_ = (_, _)›) | (obtain ⟨rfl, -⟩ := Prod.ext_iff.mp ‹_ = (_, _)›) | split | (with_reducible refine (foldl_owners _ _ (fun s x => ?_) _).trans ?_) | (simp only [*]; done) | (simp [*]; done)))
@[simp] theorem execCapabilityAck_owners (port : Fin 24) (m : Ctl) (s : State) : ∀ res, execCapabilityAck port m s = .next res → res.owners = s.owners := by
  intro res h
  unfold execCapabilityAck at h
  repeat' (first | (have h := Host.Outcome.next.inj h; subst h; clear h) | (have h := Host.Outcome.next.inj h; subst h) | (simp only [reduceCtorEq] at h; done) | split at h | dsimp only at h | (cases h; done) | (obtain ⟨rfl⟩ := h))
  all_goals (repeat' (first | with_reducible rfl | with_reducible assumption | ((try lift_lets); intro zz; first | ((have hz : State.owners zz = State.owners s := by (dsimp only [zz]; repeat' (first | with_reducible rfl | with_reducible assumption | (obtain ⟨rfl, rfl⟩ := Prod.ext_iff.mp ‹_ = (_, _)›) | (obtain ⟨rfl, -⟩ := Prod.ext_iff.mp ‹_ = (_, _)›) | split | (with_reducible refine (foldl_owners _ _ (fun s x => ?_) _).trans ?_) | (simp only [*]; done) | dsimp only | (simp [*]; done)))); clear_value zz) | clear_value zz) | (obtain ⟨rfl, rfl⟩ := Prod.ext_iff.mp ‹_ = (_, _)›) | (obtain ⟨rfl, -⟩ := Prod.ext_iff.mp ‹_ = (_, _)›) | split | (with_reducible refine (foldl_owners _ _ (fun s x => ?_) _).trans ?_) | (simp only [*]; done) | (simp [*]; done)))
@[simp] theorem cp2Bytes_owners (s : State) (m : Ctl) : (cp2Bytes s m).owners = s.owners := by
  simp [cp2Bytes]
@[simp] theorem execCp2Command_owners (port : Fin 24) (m : Ctl) (s : State) : ∀ res, execCp2Command port m s = .next res → res.owners = s.owners := by
  intro res h
  unfold execCp2Command at h
  have e := receiveCtl_owners s port.val m
  generalize receiveCtl s port.val m = p at e h
  obtain ⟨a, b⟩ := p
  dsimp only at h
  repeat' split at h
  all_goals (have h := Host.Outcome.next.inj h; subst h; simpa using e)
@[simp] theorem execEndOfLink_owners (port : Fin 24) (m : Ctl) (s : State) : ∀ res, execEndOfLink port m s = .next res → res.owners = s.owners := by
  intro res h; simp only [execEndOfLink] at h; cases h; simp
@[simp] theorem execFailure_owners (port : Fin 24) (m : Ctl) (s : State) : ∀ res, execFailure port m s = .next res → res.owners = s.owners := by
  intro res h
  unfold execFailure at h
  repeat' (first | (have h := Host.Outcome.next.inj h; subst h; clear h) | (have h := Host.Outcome.next.inj h; subst h) | (simp only [reduceCtorEq] at h; done) | split at h | dsimp only at h | (cases h; done) | (obtain ⟨rfl⟩ := h))
  all_goals (repeat' (first | with_reducible rfl | with_reducible assumption | ((try lift_lets); intro zz; first | ((have hz : State.owners zz = State.owners s := by (dsimp only [zz]; repeat' (first | with_reducible rfl | with_reducible assumption | (obtain ⟨rfl, rfl⟩ := Prod.ext_iff.mp ‹_ = (_, _)›) | (obtain ⟨rfl, -⟩ := Prod.ext_iff.mp ‹_ = (_, _)›) | split | (with_reducible refine (foldl_owners _ _ (fun s x => ?_) _).trans ?_) | (simp only [*]; done) | dsimp only | (simp [*]; done)))); clear_value zz) | clear_value zz) | (obtain ⟨rfl, rfl⟩ := Prod.ext_iff.mp ‹_ = (_, _)›) | (obtain ⟨rfl, -⟩ := Prod.ext_iff.mp ‹_ = (_, _)›) | split | (with_reducible refine (foldl_owners _ _ (fun s x => ?_) _).trans ?_) | (simp only [*]; done) | (simp [*]; done)))
@[simp] theorem setPower_owners (s : State) (n : ℕ) (dir : ℕ) (st : ℕ) : (setPower s n dir st).owners = s.owners := by simp [setPower]
@[simp] theorem execPower_owners (port : Fin 24) (m : Ctl) (s : State) : ∀ res, execPower port m s = .next res → res.owners = s.owners := by
  intro res h
  unfold execPower at h
  repeat' (first | (have h := Host.Outcome.next.inj h; subst h; clear h) | (have h := Host.Outcome.next.inj h; subst h) | (simp only [reduceCtorEq] at h; done) | split at h | dsimp only at h | (cases h; done) | (obtain ⟨rfl⟩ := h))
  all_goals (repeat' (first | with_reducible rfl | with_reducible assumption | ((try lift_lets); intro zz; first | ((have hz : State.owners zz = State.owners s := by (dsimp only [zz]; repeat' (first | with_reducible rfl | with_reducible assumption | (obtain ⟨rfl, rfl⟩ := Prod.ext_iff.mp ‹_ = (_, _)›) | (obtain ⟨rfl, -⟩ := Prod.ext_iff.mp ‹_ = (_, _)›) | split | (with_reducible refine (foldl_owners _ _ (fun s x => ?_) _).trans ?_) | (simp only [*]; done) | dsimp only | (simp [*]; done)))); clear_value zz) | clear_value zz) | (obtain ⟨rfl, rfl⟩ := Prod.ext_iff.mp ‹_ = (_, _)›) | (obtain ⟨rfl, -⟩ := Prod.ext_iff.mp ‹_ = (_, _)›) | split | (with_reducible refine (foldl_owners _ _ (fun s x => ?_) _).trans ?_) | (simp only [*]; done) | (simp [*]; done)))
@[simp] theorem checkDone_owners (s : State) (n : ℕ) : (checkDone s n).owners = s.owners := by
  unfold checkDone; repeat' (first | with_reducible rfl | (simp; done) | split | dsimp only)
@[simp] theorem plkFallback_owners (s : State) (n : ℕ) (cause : ℕ) : (plkFallback s n cause).owners = s.owners := by simp [plkFallback]
@[simp] theorem trainDone_owners (s : State) (n : ℕ) : (trainDone s n).owners = s.owners := by simp [trainDone]
@[simp] theorem execTraining_owners (port : Fin 24) (m : Ctl) (s : State) : ∀ res, execTraining port m s = .next res → res.owners = s.owners := by
  intro res h
  unfold execTraining at h
  repeat' (first | (have h := Host.Outcome.next.inj h; subst h; clear h) | (have h := Host.Outcome.next.inj h; subst h) | (simp only [reduceCtorEq] at h; done) | split at h | dsimp only at h | (cases h; done) | (obtain ⟨rfl⟩ := h))
  all_goals (repeat' (first | with_reducible rfl | with_reducible assumption | ((try lift_lets); intro zz; first | ((have hz : State.owners zz = State.owners s := by (dsimp only [zz]; repeat' (first | with_reducible rfl | with_reducible assumption | (obtain ⟨rfl, rfl⟩ := Prod.ext_iff.mp ‹_ = (_, _)›) | (obtain ⟨rfl, -⟩ := Prod.ext_iff.mp ‹_ = (_, _)›) | split | (with_reducible refine (foldl_owners _ _ (fun s x => ?_) _).trans ?_) | (simp only [*]; done) | dsimp only | (simp [*]; done)))); clear_value zz) | clear_value zz) | (obtain ⟨rfl, rfl⟩ := Prod.ext_iff.mp ‹_ = (_, _)›) | (obtain ⟨rfl, -⟩ := Prod.ext_iff.mp ‹_ = (_, _)›) | split | (with_reducible refine (foldl_owners _ _ (fun s x => ?_) _).trans ?_) | (simp only [*]; done) | (simp [*]; done)))
@[simp] theorem takeControlPacket_owners (s : State) (port : Fin 24) (b : List Byte) : (takeControlPacket s port b).owners = s.owners := by
  unfold takeControlPacket
  split
  · simp
  · dsimp only
    split
    · exact stateOf_owners _ _ (execAck_owners _ _ _)
    · exact stateOf_owners _ _ (execCp2Command_owners _ _ _)
    · exact stateOf_owners _ _ (execPower_owners _ _ _)
    · exact stateOf_owners _ _ (execTraining_owners _ _ _)
    · exact stateOf_owners _ _ (execEndOfLink_owners _ _ _)
    · exact stateOf_owners _ _ (execCapabilityAck_owners _ _ _)
    · exact stateOf_owners _ _ (execFailure_owners _ _ _)
    · exact receiveCtl_owners _ _ _
@[simp] theorem takePacket_owners (s : State) (port : Fin 24) (b : List Byte) : (takePacket s port b).owners = s.owners := by
  unfold takePacket
  split
  · exact stateOf_owners _ _ (execVideoLine_owners _ _ _ _)
  · exact stateOf_owners _ _ (execTile_owners _ _ _ _)
  · exact stateOf_owners _ _ (execAudio_owners _ _ _)
  · exact stateOf_owners _ _ (execFence_owners _ _ _)
  · simp
  · exact stateOf_owners _ _ (execCapability_owners _ _ _)
  · exact stateOf_owners _ _ (execHeartbeat_owners _ _ _)
  · simp
@[simp] theorem takePayload_owners (s : State) (port : Fin 24) (x : BitVec 2 × List Byte) : (takePayload s port x).owners = s.owners := by
  simp [takePayload]
@[simp] theorem blocksArrive_owners (s : State) (port : Fin 24) (bs : List Block) : (blocksArrive s port bs).owners = s.owners := by
  unfold blocksArrive
  repeat' (first | with_reducible rfl | with_reducible assumption | ((try lift_lets); intro zz; first | ((have hz : State.owners zz = State.owners s := by (dsimp only [zz]; repeat' (first | with_reducible rfl | with_reducible assumption | (obtain ⟨rfl, rfl⟩ := Prod.ext_iff.mp ‹_ = (_, _)›) | (obtain ⟨rfl, -⟩ := Prod.ext_iff.mp ‹_ = (_, _)›) | split | (with_reducible refine (foldl_owners _ _ (fun s x => ?_) _).trans ?_) | (simp only [*]; done) | dsimp only | (simp [*]; done)))); clear_value zz) | clear_value zz) | (obtain ⟨rfl, rfl⟩ := Prod.ext_iff.mp ‹_ = (_, _)›) | (obtain ⟨rfl, -⟩ := Prod.ext_iff.mp ‹_ = (_, _)›) | split | (with_reducible refine (foldl_owners _ _ (fun s x => ?_) _).trans ?_) | (simp only [*]; done) | (simp [*]; done))
@[simp] theorem bootStaged_owners (s : State) (base : List Byte) (over_ : List Byte) (mode : ℕ) : (bootStaged s base over_ mode).owners = s.owners := by simp [bootStaged]
@[simp] theorem linkAll_owners (s : State) : (linkAll s).owners = s.owners := by simp [linkAll]
@[simp] theorem offUnready_owners (s : State) (ready : List Wing) : (offUnready s ready).owners = s.owners := by simp [offUnready]
@[simp] theorem bootApply_owners (s : State) (base : List Byte) (over_ : List Byte) (mode : ℕ) : (bootApply s base over_ mode).owners = s.owners := by simp [bootApply]
@[simp] theorem bootBare_owners (s : State) : (bootBare s).owners = s.owners := by simp [bootBare]
@[simp] theorem bootPorts_owners (s : State) (os : List ℕ) : (bootPorts s os).owners = s.owners := by simp [bootPorts]
@[simp] theorem dispatchAll_owners (s : State) : (dispatchAll s).owners = s.owners := by
  simp [dispatchAll]
@[simp] theorem seePulse_owners (s : State) (o : ℕ) : (seePulse s o).owners = s.owners := by
  unfold seePulse; repeat' (first | with_reducible rfl | (simp; done) | split | dsimp only)
@[simp] theorem seePulses_owners (s : State) : (seePulses s).owners = s.owners := by
  simp [seePulses]
@[simp] theorem setCsi_owners (s : State) (p : ℕ) (c : Csi) : (setCsi s p c).owners = s.owners := by simp [setCsi]
@[simp] theorem settleCsi_owners (s : State) : (settleCsi s).owners = s.owners := by simp [settleCsi]
@[simp] theorem settleHop_owners (s : State) (n : ℕ) : (settleHop s n).owners = s.owners := by
  unfold settleHop; repeat' (first | with_reducible rfl | (simp; done) | split | dsimp only)
@[simp] theorem settleHops_owners (s : State) : (settleHops s).owners = s.owners := by
  simp [settleHops]
@[simp] theorem stopStream_owners (s : State) (k : ℕ) : (stopStream s k).owners = s.owners := by simp [stopStream]
@[simp] theorem settleStreams_owners (s : State) : (settleStreams s).owners = s.owners := by simp [settleStreams]
@[simp] theorem tdmEvent_owners (s : State) (p : ℕ) (cause : ℕ) : (tdmEvent s p cause).owners = s.owners := by simp [tdmEvent]
@[simp] theorem settleTdms_owners (s : State) : (settleTdms s).owners = s.owners := by simp [settleTdms]
@[simp] theorem settleWindows_owners (s : State) : (settleWindows s).owners = s.owners := by simp [settleWindows]
@[simp] theorem settlePorts_owners (s : State) : (settlePorts s).owners = s.owners := by simp [settlePorts]
@[simp] theorem settleCand_owners (s : State) (c : ℕ) : (settleCand s c).owners = s.owners := by
  simp [settleCand]
@[simp] theorem settleCands_owners (s : State) : (settleCands s).owners = s.owners := by
  simp [settleCands]
@[simp] theorem settleFsyncs_owners (s : State) : (settleFsyncs s).owners = s.owners := by
  simp [settleFsyncs]
@[simp] theorem settleStep_owners (s : State) : (settleStep s).owners = s.owners := by
  unfold settleStep; repeat' (first | with_reducible rfl | (simp; done) | split | dsimp only)
@[simp] theorem settleRefs_owners (s : State) : (settleRefs s).owners = s.owners := by
  simp [settleRefs]
@[simp] theorem restLayer_owners (s : State) (b : ℕ) (n : ℕ) : (restLayer s b n).owners = s.owners := by simp [restLayer]
@[simp] theorem restLayers_owners (s : State) : (restLayers s).owners = s.owners := by simp [restLayers]
@[simp] theorem takeOutWords_owners (s : State) (o : ℕ) : (takeOutWords s o).1.owners = s.owners := by simp [takeOutWords]
@[simp] theorem vitTake_owners (s : State) (o : ℕ) : (vitTake s o).owners = s.owners := by simp [vitTake]
@[simp] theorem settleUnit_owners (s : State) (u : ℕ) : (settleUnit s u).owners = s.owners := by
  unfold settleUnit; repeat' (first | with_reducible rfl | (simp; done) | split | dsimp only)
@[simp] theorem settleFlips_owners (s : State) : (settleFlips s).owners = s.owners := by simp [settleFlips]
@[simp] theorem capWingStops_owners (s : State) (bank : ℕ) : (capWingStops s bank).owners = s.owners := by simp [capWingStops]
@[simp] theorem setSensor_owners (s : State) (i : ℕ) (x : Sensor) : (setSensor s i x).owners = s.owners := by simp [setSensor]
@[simp] theorem tellThrottle_owners (s : State) (by_ : ℕ) (w : Wing) : (tellThrottle s by_ w).owners = s.owners := by
  unfold tellThrottle; repeat' (first | with_reducible rfl | (simp; done) | split | dsimp only)
@[simp] theorem coolDown_owners (s : State) (w : Wing) : (coolDown s w).owners = s.owners := by simp [coolDown]
@[simp] theorem sleepUnused_owners (s : State) : (sleepUnused s).owners = s.owners := by simp [sleepUnused]
@[simp] theorem warpClear_owners (s : State) (bank : ℕ) : (warpClear s bank).owners = s.owners := by simp [warpClear]
@[simp] theorem powerDown_owners (s : State) (w : Wing) : (powerDown s w).owners = s.owners := by simp [powerDown]
@[simp] theorem settleMode_owners (s : State) : (settleMode s).owners = s.owners := by
  unfold settleMode; repeat' (first | with_reducible rfl | (simp; done) | split | dsimp only)
@[simp] theorem lyrEvent158_owners (s : State) (k : ℕ) (cause : ℕ) : (lyrEvent158 s k cause).owners = s.owners := by simp [lyrEvent158]
@[simp] theorem settleRewritten_owners (s : State) : (settleRewritten s).owners = s.owners := by simp [settleRewritten]
@[simp] theorem clrCommit_owners (s : State) (k : ℕ) : (clrCommit s k).owners = s.owners := by simp [clrCommit]
@[simp] theorem settleTables_owners (s : State) : (settleTables s).owners = s.owners := by simp [settleTables]
@[simp] theorem sweepBuffers_owners (s : State) : (sweepBuffers s).owners = s.owners := by simp [sweepBuffers]
@[simp] theorem sweepSets_owners (s : State) : (sweepSets s).owners = s.owners := by simp [sweepSets]
@[simp] theorem settleVideo_owners (s : State) : (settleVideo s).owners = s.owners := by simp [settleVideo]
@[simp] theorem settle_owners (s : State) : (settle s).owners = s.owners := by simp [settle]
@[simp] theorem bootBase_owners (s : State) : (bootBase s).owners = s.owners := by
  unfold bootBase; repeat' (first | with_reducible rfl | (simp; done) | split | dsimp only)
@[simp] theorem bootEvent_owners (s : State) (src : ℕ) (d : Word) : (bootEvent s src d).owners = s.owners := by simp [bootEvent]
@[simp] theorem bootRefused_owners (s : State) (mode : ℕ) (entered : ℕ) (r : Rej × ℕ) : (bootRefused s mode entered r).owners = s.owners := by simp [bootRefused]
@[simp] theorem bootEnter_owners (s : State) : (bootEnter s).1.owners = s.owners := by
  unfold bootEnter; repeat' (first | with_reducible rfl | (simp; done) | split | dsimp only)
@[simp] theorem startBootOuts_owners (s : State) (w : Wing) : (startBootOuts s w).owners = s.owners := by
  unfold startBootOuts
  refine (foldl_owners _ _ (fun s x => ?_) _).trans rfl
  dsimp only
  split <;> simp
@[simp] theorem bootOnB_owners (s : State) : (bootOnB s).owners = s.owners := by simp [bootOnB]
@[simp] theorem bootReady_owners (s : State) (w : Wing) : (bootReady s w).owners = s.owners := by simp [bootReady]
@[simp] theorem bootSyn_owners (s : State) (n : ℕ) (w : Word) : (bootSyn s n w).owners = s.owners := by simp [bootSyn]
@[simp] theorem bridgeAnswers_owners (s : State) (w : Wing) (origin : ℕ) : (bridgeAnswers s w origin).owners = s.owners := by simp [bridgeAnswers]
@[simp] theorem errorResponse_owners (s : State) : (errorResponse s).owners = s.owners := by simp [errorResponse]
@[simp] theorem bulkEnds_owners (s : State) : (bulkEnds s).owners = s.owners := by
  unfold bulkEnds; repeat' (first | with_reducible rfl | (simp; done) | split | dsimp only)
@[simp] theorem saturated_owners (s : State) (lane : ℕ) (bus : ℕ) (told : Option W64) : (saturated s lane bus told).1.owners = s.owners := by
  unfold saturated; repeat' (first | with_reducible rfl | (simp; done) | split | dsimp only)
@[simp] theorem busStep_owners (was : State) (s : State) (b : ℕ) : (busStep was s b).owners = s.owners := by simp [busStep]
@[simp] theorem capLost_owners (s : State) (k : ℕ) (y : ℕ) : (capLost s k y).owners = s.owners := by simp [capLost]
@[simp] theorem clearVault_owners (s : State) : (clearVault s).owners = s.owners := by simp [clearVault]
@[simp] theorem clockBack_owners (s : State) (w : Wing) : (clockBack s w).owners = s.owners := by
  simp [clockBack]
@[simp] theorem transact_owners (s : State) (p : Port) (code : Byte) (host : List Byte) (read : Bool) (back : List Byte) : (transact s p code host read back).owners = s.owners := by
  simp [transact]
@[simp] theorem clockPlacard_owners (s : State) (p : Port) (n : ℕ) : (clockPlacard s p n).owners = s.owners := by
  unfold clockPlacard; repeat' (first | with_reducible rfl | (simp; done) | split | dsimp only)
@[simp] theorem clockStatus_owners (s : State) (p : Port) (n : ℕ) : (clockStatus s p n).owners = s.owners := by
  simp [clockStatus]
@[simp] theorem imageRefused_owners (s : State) (port : Port) (kind : ℕ) (mode : ℕ) (r : Rej) : (imageRefused s port kind mode r).owners = s.owners := by simp [imageRefused]
@[simp] theorem stageImage_owners (s : State) (kind : ℕ) (mode : ℕ) (l : List Byte) : (stageImage s kind mode l).owners = s.owners := by simp [stageImage]
@[simp] theorem closeChecked_owners (s : State) (r : Run) (rest : List Run) (store : Bool) (b : Build) : (closeChecked s r rest store b).owners = s.owners := by
  unfold closeChecked
  repeat' (first | with_reducible rfl | with_reducible assumption | ((try lift_lets); intro zz; first | ((have hz : State.owners zz = State.owners s := by (dsimp only [zz]; repeat' (first | with_reducible rfl | with_reducible assumption | (obtain ⟨rfl, rfl⟩ := Prod.ext_iff.mp ‹_ = (_, _)›) | (obtain ⟨rfl, -⟩ := Prod.ext_iff.mp ‹_ = (_, _)›) | split | (with_reducible refine (foldl_owners _ _ (fun s x => ?_) _).trans ?_) | (simp only [*]; done) | dsimp only | (simp [*]; done)))); clear_value zz) | clear_value zz) | (obtain ⟨rfl, rfl⟩ := Prod.ext_iff.mp ‹_ = (_, _)›) | (obtain ⟨rfl, -⟩ := Prod.ext_iff.mp ‹_ = (_, _)›) | split | (with_reducible refine (foldl_owners _ _ (fun s x => ?_) _).trans ?_) | (simp only [*]; done) | (simp [*]; done))
@[simp] theorem edpTick_owners (s : State) (o : ℕ) : (edpTick s o).owners = s.owners := by simp [edpTick]
@[simp] theorem frameTrigger_owners (s : State) (o : ℕ) : (frameTrigger s o).owners = s.owners := by
  unfold frameTrigger; repeat' (first | with_reducible rfl | (simp; done) | split | dsimp only)
@[simp] theorem nextFrame_owners (s : State) (o : ℕ) : (nextFrame s o).owners = s.owners := by simp [nextFrame]
@[simp] theorem recentre_owners (s : State) (o : ℕ) : (recentre s o).owners = s.owners := by
  simp [recentre]
@[simp] theorem ditherTick_owners (s : State) (o : ℕ) : (ditherTick s o).owners = s.owners := by simp [ditherTick]
@[simp] theorem endBootFrame_owners (s : State) (o : ℕ) : (endBootFrame s o).owners = s.owners := by simp [endBootFrame]
@[simp] theorem expectFrame_owners (s : State) (o : ℕ) : (expectFrame s o).owners = s.owners := by
  unfold expectFrame
  have h := drawWord_owners s
  generalize drawWord s = p at h ⊢
  obtain ⟨a, b⟩ := p
  dsimp only
  repeat' (first | with_reducible rfl | split | (simp_all; done))
@[simp] theorem frcTick_owners (old : State) (s : State) (o : ℕ) : (frcTick old s o).owners = s.owners := by simp [frcTick]
@[simp] theorem freeTick_owners (s : State) (o : ℕ) : (freeTick s o).owners = s.owners := by simp [freeTick]
@[simp] theorem raiseBankCommit_owners (s : State) (bank : ℕ) (src : ℕ) (d : Word) : (raiseBankCommit s bank src d).owners = s.owners := by simp [raiseBankCommit]
@[simp] theorem heldSets_owners (s : State) (banks : List ℕ) (o : ℕ) : (heldSets s banks o).owners = s.owners := by simp [heldSets]
@[simp] theorem countSurfaceFail_owners (s : State) (b : ℕ) (base : ℕ) (fmt : ℕ) (tiles : ℕ) : (countSurfaceFail s b base fmt tiles).owners = s.owners := by simp [countSurfaceFail]
@[simp] theorem descriptorCheck_owners (s : State) (b : ℕ) (n : ℕ) (o : ℕ) : (descriptorCheck s b n o).owners = s.owners := by
  unfold descriptorCheck; repeat' (first | with_reducible rfl | (simp; done) | split | dsimp only)
@[simp] theorem judgeMiss_owners (s : State) (b : ℕ) (n : ℕ) (o : ℕ) (j : Judged) : (judgeMiss s b n o j).owners = s.owners := by
  unfold judgeMiss; repeat' (first | with_reducible rfl | (simp; done) | split | dsimp only)
@[simp] theorem rteEvent_owners (s : State) (src : ℕ) (b : ℕ) (r : ℕ) (o : ℕ) (none_ : Bool) (cause : ℕ) : (rteEvent s src b r o none_ cause).owners = s.owners := by simp [rteEvent]
@[simp] theorem pathCheck_owners (s : State) (b : ℕ) (n : ℕ) (o : ℕ) : (pathCheck s b n o).owners = s.owners := by
  unfold pathCheck; repeat' (first | with_reducible rfl | (simp; done) | split | dsimp only)
@[simp] theorem refusedEvent_owners (s : State) (b : ℕ) (n : ℕ) (o : ℕ) (leaves : ℕ) : (refusedEvent s b n o leaves).owners = s.owners := by
  unfold refusedEvent; repeat' (first | with_reducible rfl | (simp; done) | split | dsimp only)
@[simp] theorem judgeLayer_owners (s : State) (b : ℕ) (n : ℕ) (o : ℕ) (absent : List ℕ) : (judgeLayer s b n o absent).owners = s.owners := by simp [judgeLayer]
@[simp] theorem rescale_owners (s : State) (b : ℕ) : (rescale s b).owners = s.owners := by simp [rescale]
@[simp] theorem takeSwitch_owners (s : State) (b : ℕ) (r : ℕ) (o : ℕ) (cause : ℕ) : (takeSwitch s b r o cause).owners = s.owners := by simp [takeSwitch]
@[simp] theorem routeTick_owners (s : State) (b : ℕ) (r : ℕ) (o : ℕ) (bound : Bool) : (routeTick s b r o bound).owners = s.owners := by simp [routeTick]
@[simp] theorem routesAt_owners (s : State) (banks : List ℕ) (o : ℕ) : (routesAt s banks o).owners = s.owners := by simp [routesAt]
@[simp] theorem scalersAt_owners (s : State) (b : ℕ) (o : ℕ) : (scalersAt s b o).owners = s.owners := by
  unfold scalersAt
  repeat' (first | with_reducible rfl | with_reducible assumption | ((try lift_lets); intro zz; first | ((have hz : State.owners zz = State.owners s := by (dsimp only [zz]; repeat' (first | with_reducible rfl | with_reducible assumption | (obtain ⟨rfl, rfl⟩ := Prod.ext_iff.mp ‹_ = (_, _)›) | (obtain ⟨rfl, -⟩ := Prod.ext_iff.mp ‹_ = (_, _)›) | split | (with_reducible refine (foldl_owners _ _ (fun s x => ?_) _).trans ?_) | (simp only [*]; done) | dsimp only | (simp [*]; done)))); clear_value zz) | clear_value zz) | (obtain ⟨rfl, rfl⟩ := Prod.ext_iff.mp ‹_ = (_, _)›) | (obtain ⟨rfl, -⟩ := Prod.ext_iff.mp ‹_ = (_, _)›) | split | (with_reducible refine (foldl_owners _ _ (fun s x => ?_) _).trans ?_) | (simp only [*]; done) | (simp [*]; done))
@[simp] theorem takeLayersAt_owners (s : State) (banks : List ℕ) (o : ℕ) : (takeLayersAt s banks o).owners = s.owners := by
  unfold takeLayersAt
  repeat' (first | with_reducible rfl | with_reducible assumption | ((try lift_lets); intro zz; first | ((have hz : State.owners zz = State.owners s := by (dsimp only [zz]; repeat' (first | with_reducible rfl | with_reducible assumption | (obtain ⟨rfl, rfl⟩ := Prod.ext_iff.mp ‹_ = (_, _)›) | (obtain ⟨rfl, -⟩ := Prod.ext_iff.mp ‹_ = (_, _)›) | split | (with_reducible refine (foldl_owners _ _ (fun s x => ?_) _).trans ?_) | (simp only [*]; done) | dsimp only | (simp [*]; done)))); clear_value zz) | clear_value zz) | (obtain ⟨rfl, rfl⟩ := Prod.ext_iff.mp ‹_ = (_, _)›) | (obtain ⟨rfl, -⟩ := Prod.ext_iff.mp ‹_ = (_, _)›) | split | (with_reducible refine (foldl_owners _ _ (fun s x => ?_) _).trans ?_) | (simp only [*]; done) | (simp [*]; done))
@[simp] theorem layersAt_owners (s : State) (banks : List ℕ) (o : ℕ) (absent : List ℕ) : (layersAt s banks o absent).owners = s.owners := by simp [layersAt]
@[simp] theorem meshTakeAt_owners (s : State) (o : ℕ) : (meshTakeAt s o).owners = s.owners := by simp [meshTakeAt]
@[simp] theorem enterSafe_owners (s : State) (o : ℕ) (cause : ℕ) : (enterSafe s o cause).owners = s.owners := by simp [enterSafe]
@[simp] theorem safeTick_owners (s : State) (banks : List ℕ) (o : ℕ) : (safeTick s banks o).owners = s.owners := by simp [safeTick]
@[simp] theorem takeClr_owners (s : State) (banks : List ℕ) (o : ℕ) : (takeClr s banks o).owners = s.owners := by simp [takeClr]
@[simp] theorem takeFrc_owners (s : State) (banks : List ℕ) (o : ℕ) : (takeFrc s banks o).owners = s.owners := by simp [takeFrc]
@[simp] theorem takeHop_owners (s : State) (o : ℕ) : (takeHop s o).owners = s.owners := by
  unfold takeHop; repeat' (first | with_reducible rfl | (simp; done) | split | dsimp only)
@[simp] theorem takeModeEntries_owners (s : State) (o : ℕ) : (takeModeEntries s o).owners = s.owners := by simp [takeModeEntries]
@[simp] theorem showContent_owners (s : State) (o : ℕ) : (showContent s o).owners = s.owners := by simp [showContent]
@[simp] theorem vitTick_owners (s : State) (o : ℕ) (late : Bool) (safeLate : Bool) : (vitTick s o late safeLate).owners = s.owners := by
  unfold vitTick; repeat' (first | with_reducible rfl | (simp; done) | split | dsimp only)
@[simp] theorem tickWork_owners (s : State) (o : ℕ) (obs : TickObs) : (tickWork s o obs).1.owners = s.owners := by
  unfold tickWork
  dsimp -zeta only
  have e1 : (takeOutWords s o).1.owners = s.owners := by simp
  generalize (takeOutWords s o).1 = s1 at e1 ⊢
  lift_lets
  intro banks s2 s3 old x s4 s5 s6 x2 s7 s8 s9
  have e2 : s2.owners = s.owners := by simp [s2, e1]
  clear_value s2
  have e3 : s3.owners = s.owners := by simp [s3, e2]
  have e4 : s4.owners = s.owners := by simp only [s4]; split <;> simp [e3]
  clear_value s4
  have e5 : s5.owners = s.owners := by simp [s5, e4]
  clear_value s5
  have e6 : s6.owners = s.owners := by simp [s6, e5]
  clear_value s6
  have e7 : s7.owners = s.owners := by simp only [s7]; split <;> simp [e6]
  clear_value s7
  have e8 : s8.owners = s.owners := by simp [s8, e7]
  clear_value s8
  have e9 : s9.owners = s.owners := by simp only [s9]; split <;> simp [e8]
  clear_value s9
  simp [e9]
@[simp] theorem firstTick_owners (s : State) (o : ℕ) (obs : TickObs) : (firstTick s o obs).owners = s.owners := by
  unfold firstTick; repeat' (first | with_reducible rfl | (simp; done) | split | dsimp only)
@[simp] theorem flushArbs_owners (s : State) (o : ℕ) : (flushArbs s o).owners = s.owners := by simp [flushArbs]
@[simp] theorem routeDivergence_owners (s : State) (o : ℕ) : (routeDivergence s o).owners = s.owners := by
  unfold routeDivergence; repeat' (first | with_reducible rfl | (simp; done) | split | dsimp only)
@[simp] theorem outTo_owners (s : State) (n : ℕ) (st : OutState) : (outTo s n st).owners = s.owners := by simp [outTo]
@[simp] theorem tickState_owners (s : State) (o : ℕ) (restart : Bool) : (tickState s o restart).owners = s.owners := by
  unfold tickState; repeat' (first | with_reducible rfl | (simp; done) | split | dsimp only)
@[simp] theorem vitCheck_owners (s : State) (o : ℕ) (seen : Option Word) : (vitCheck s o seen).owners = s.owners := by
  unfold vitCheck; repeat' (first | with_reducible rfl | (simp; done) | split | dsimp only)
@[simp] theorem vitChecks_owners (s : State) (o : ℕ) (a : Option Word) (b : Option Word) : (vitChecks s o a b).owners = s.owners := by
  unfold vitChecks
  lift_lets
  intro x live bad note s1 w seen
  have hn (t : State) (w : Wing) (c : Option Word) : (note t w c).owners = t.owners := by
    simp only [note]; split <;> simp
  have h1 : s1.owners = s.owners := by simp only [s1, hn]
  clear_value s1
  split
  · exact h1
  · intro s2
    have h2 : s2.owners = s.owners := by simp [s2, h1]
    clear_value s2
    split <;> simp [h2]
@[simp] theorem vitEnd_owners (s : State) (o : ℕ) : (vitEnd s o).owners = s.owners := by simp [vitEnd]
@[simp] theorem runningTick_owners (s : State) (o : ℕ) (obs : TickObs) : (runningTick s o obs).owners = s.owners := by simp [runningTick]
@[simp] theorem commitTick_owners (s : State) (o : ℕ) (obs : TickObs) : (commitTick s o obs).owners = s.owners := by simp [commitTick]
@[simp] theorem ditherTickSyn_owners (s : State) (n : ℕ) : (ditherTickSyn s n).owners = s.owners := by
  simp [ditherTickSyn]
@[simp] theorem compareTick_owners (s : State) : (compareTick s).owners = s.owners := by
  simp [compareTick]
@[simp] theorem excludeTile_owners (s : State) (o : ℕ) (w : Wing) : (excludeTile s o w).owners = s.owners := by simp [excludeTile]
@[simp] theorem recompose_owners (s : State) (w : Wing) (o : ℕ) (row : ℕ) (col : ℕ) : (recompose s w o row col).owners = s.owners := by
  unfold recompose; repeat' (first | with_reducible rfl | (simp; done) | split | dsimp only)
@[simp] theorem compareTile_owners (s : State) (o : ℕ) (row : ℕ) (col : ℕ) (a : Option (Word × Bool)) (b : Option (Word × Bool)) : (compareTile s o row col a b).owners = s.owners := by
  simp [compareTile]
@[simp] theorem recordPort_owners (s : State) (w : Wing) (o : ℕ) (row : ℕ) (col : ℕ) : (recordPort s w o row col).2.owners = s.owners := by
  unfold recordPort; repeat' (first | with_reducible rfl | (simp; done) | split | dsimp only)
@[simp] theorem concealTile_owners (s : State) (w : Wing) (o : ℕ) (row : ℕ) (col : ℕ) : (concealTile s w o row col).1.owners = s.owners := by simp [concealTile]
@[simp] theorem convStep_owners (s : State) (k : ℕ) : (convStep s k).2.owners = s.owners := by
  unfold convStep
  have h := drawWord_owners s
  generalize drawWord s = p at h ⊢
  obtain ⟨a, b⟩ := p
  dsimp only
  repeat' (first | with_reducible rfl | with_reducible assumption | split | (simp_all; done))
@[simp] theorem convTake_owners (s : State) (k : ℕ) : (convTake s k).owners = s.owners := by simp [convTake]
@[simp] theorem judgeLevels_owners (s : State) (i : ℕ) (v : ℤ) : (judgeLevels s i v).owners = s.owners := by simp [judgeLevels]
@[simp] theorem judge_owners (s : State) (i : ℕ) (r : Option Half) : (judge s i r).owners = s.owners := by
  unfold judge; repeat' (first | with_reducible rfl | (simp; done) | split | dsimp only)
@[simp] theorem serveMeasures_owners (x0 : ℕ) (x1 : State) : (serveMeasures x0 x1).owners = x1.owners := by
  induction x0 generalizing x1 with
  | zero => rfl
  | succ n ih =>
    simp only [serveMeasures]
    split
    · rfl
    · simp [ih]
@[simp] theorem shutdownStep1_owners (s : State) (i : ℕ) (h : Half) : (shutdownStep1 s i h).owners = s.owners := by simp [shutdownStep1]
@[simp] theorem conversionEnds_owners (s : State) (mask : ℕ) (readings : List (Option Half)) : (conversionEnds s mask readings).owners = s.owners := by
  unfold conversionEnds
  repeat' (first | with_reducible rfl | with_reducible assumption | ((try lift_lets); intro zz; first | ((have hz : State.owners zz = State.owners s := by (dsimp only [zz]; repeat' (first | with_reducible rfl | with_reducible assumption | (obtain ⟨rfl, rfl⟩ := Prod.ext_iff.mp ‹_ = (_, _)›) | (obtain ⟨rfl, -⟩ := Prod.ext_iff.mp ‹_ = (_, _)›) | split | (with_reducible refine (foldl_owners _ _ (fun s x => ?_) _).trans ?_) | (simp only [*]; done) | dsimp only | (simp [*]; done)))); clear_value zz) | clear_value zz) | (obtain ⟨rfl, rfl⟩ := Prod.ext_iff.mp ‹_ = (_, _)›) | (obtain ⟨rfl, -⟩ := Prod.ext_iff.mp ‹_ = (_, _)›) | split | (with_reducible refine (foldl_owners _ _ (fun s x => ?_) _).trans ?_) | (simp only [*]; done) | (simp [*]; done))
@[simp] theorem countComparison_owners (s : State) (c : ℕ) (ps : ℤ) : (countComparison s c ps).owners = s.owners := by
  simp [countComparison]
@[simp] theorem countTick_owners (s : State) : (countTick s).owners = s.owners := by simp [countTick]
@[simp] theorem csiEnd_owners (s : State) (p : ℕ) (vc : ℕ) (drift : ℤ) : (csiEnd s p vc drift).owners = s.owners := by simp [csiEnd]
@[simp] theorem csiEvent_owners (s : State) (p : ℕ) (cause : ℕ) (vc : ℕ) (dt : ℕ) : (csiEvent s p cause vc dt).owners = s.owners := by simp [csiEvent]
@[simp] theorem csiHeader_owners (s : State) (p : ℕ) (hdr : Fin 3) : ∀ res, csiHeader s p hdr = some res → res.owners = s.owners := by
  intro res h
  unfold csiHeader at h
  repeat' (first | (have h := Host.Outcome.next.inj h; subst h; clear h) | (have h := Host.Outcome.next.inj h; subst h) | (simp only [reduceCtorEq] at h; done) | split at h | dsimp only at h | (cases h; done) | (obtain ⟨rfl⟩ := h))
  all_goals (repeat' (first | with_reducible rfl | with_reducible assumption | ((try lift_lets); intro zz; first | ((have hz : State.owners zz = State.owners s := by (dsimp only [zz]; repeat' (first | with_reducible rfl | with_reducible assumption | (obtain ⟨rfl, rfl⟩ := Prod.ext_iff.mp ‹_ = (_, _)›) | (obtain ⟨rfl, -⟩ := Prod.ext_iff.mp ‹_ = (_, _)›) | split | (with_reducible refine (foldl_owners _ _ (fun s x => ?_) _).trans ?_) | (simp only [*]; done) | dsimp only | (simp [*]; done)))); clear_value zz) | clear_value zz) | (obtain ⟨rfl, rfl⟩ := Prod.ext_iff.mp ‹_ = (_, _)›) | (obtain ⟨rfl, -⟩ := Prod.ext_iff.mp ‹_ = (_, _)›) | split | (with_reducible refine (foldl_owners _ _ (fun s x => ?_) _).trans ?_) | (simp only [*]; done) | (simp [*]; done)))
@[simp] theorem csiHeaderBad_owners (s : State) (p : ℕ) (vc : ℕ) : (csiHeaderBad s p vc).owners = s.owners := by simp [csiHeaderBad]
@[simp] theorem storeBytes_owners (s : State) (a : ℕ) (l : List Byte) : (storeBytes s a l).owners = s.owners := by simp [storeBytes]
@[simp] theorem cutGroups_owners (s : State) (r : LdgRun) (x2 : List ℕ) (x3 : Bool) : (cutGroups s r x2 x3).owners = s.owners := by
  induction x2 generalizing s x3 with
  | nil => rfl
  | cons a l ih => cases x3 <;> simp [cutGroups, ih]
@[simp] theorem cutRun_owners (s : State) (n : ℕ) (torn : Bool) : (cutRun s n torn).owners = s.owners := by
  unfold cutRun; repeat' (first | with_reducible rfl | (simp; done) | split | dsimp only)
@[simp] theorem cutWhole_owners (s : State) : (cutWhole s).owners = s.owners := by simp [cutWhole]
@[simp] theorem decideDue_owners (s : State) (t : ℕ) (now : Option Instr) (time : Bool) (p : Port) (entry : Option ℕ) : (decideDue s t now time p entry).1.owners = s.owners := by
  unfold decideDue; repeat' (first | with_reducible rfl | (simp; done) | split | dsimp only)
@[simp] theorem delayDue_owners (s : State) : (delayDue s).owners = s.owners := by simp [delayDue]
@[simp] theorem destStep_owners (inputs : Tab Word) (s : State) (d : ℕ) : (destStep inputs s d).owners = s.owners := by simp [destStep]
@[simp] theorem dpllReset_owners (old : State) (s : State) : (dpllReset old s).owners = s.owners := by
  simp [dpllReset]
@[simp] theorem drawBool_owners (s : State) : (drawBool s).2.owners = s.owners := by simp [drawBool]
@[simp] theorem drawSpan_owners (s : State) (n : ℕ) : (drawSpan s n).2.owners = s.owners := by simp [drawSpan]
@[simp] theorem sendHeartbeat_owners (s : State) (n : ℕ) : (sendHeartbeat s n).owners = s.owners := by
  simp [sendHeartbeat]
@[simp] theorem loopTraffic_owners (s : State) (n : ℕ) : (loopTraffic s n).owners = s.owners := by
  simp [loopTraffic]
@[simp] theorem driveBlocks_owners (s : State) (n : ℕ) : (driveBlocks s n).owners = s.owners := by
  simp [driveBlocks]
@[simp] theorem placeEntry_owners (s : State) (d : Due) (h : d.op.KeepsOwners) : (placeEntry s d).1.owners = s.owners := by
  simp [placeEntry, h.accept]
@[simp] theorem startRun_owners (s : State) (d : Due) (launched : Bool) : (startRun s d launched).owners = s.owners := by
  unfold startRun; repeat' (first | with_reducible rfl | (simp; done) | split | dsimp only)
@[simp] theorem dueEffect_owners (d : Due) (s : State) (h : d.op.KeepsOwners) : (dueEffect d s).1.owners = s.owners := by
  unfold dueEffect
  split
  · cases hl : d.op.launchRun with
    | none => simp [h.run]
    | some f => simp [h.launchRun f hl]
  · split
    · simp [h]
    · simp [h.run]
@[simp] theorem earlySteps_owners (s : State) (q : Req) (o : Op) : (earlySteps s q o).1.owners = s.owners := by
  unfold earlySteps
  have h := authStep_owners s q o
  repeat' (first | with_reducible rfl | split)
  all_goals (rename_i heq; rw [heq] at h; exact h)
@[simp] theorem dueRej_owners (d : Due) (s : State) : (dueRej d s).1.owners = s.owners := by
  unfold dueRej
  have h := earlySteps_owners s d.q d.op
  split
  · rfl
  · split <;> (rename_i heq; rw [heq] at h; exact h)
@[simp] theorem exchange_owners (s : State) (n : ℕ) (len : ℕ) : (exchange s n len).owners = s.owners := by simp [exchange]
@[simp] theorem tellInternal_owners (s : State) (r : Run) : (tellInternal s r).owners = s.owners := by simp [tellInternal]
@[simp] theorem dropRun_owners (s : State) (r : Run) : (dropRun s r).owners = s.owners := by
  unfold dropRun
  have h := drawBool_owners s
  generalize drawBool s = p at h ⊢
  obtain ⟨a, b⟩ := p
  simp only [tellInternal_owners]
  repeat' split
  all_goals simp_all
@[simp] theorem dropFrame_owners (s : State) (w : Wing) (o : ℕ) : (dropFrame s w o).owners = s.owners := by
  simp [dropFrame]
@[simp] theorem dropMgmtRuns_owners (s : State) : (dropMgmtRuns s).owners = s.owners := by
  simp [dropMgmtRuns]
@[simp] theorem sourceLost_owners (s : State) (src : ℕ × ℕ × ℕ) (reason : ℕ) : (sourceLost s src reason).owners = s.owners := by simp [sourceLost]
@[simp] theorem dropPayload_owners (s : State) (p : ℕ) (sub : ℕ) : (dropPayload s p sub).owners = s.owners := by simp [dropPayload]
@[simp] theorem dropRecomp_owners (s : State) (w : Wing) (o : ℕ) (row : ℕ) (col : ℕ) : (dropRecomp s w o row col).owners = s.owners := by
  simp [dropRecomp]
@[simp] theorem failTile_owners (s : State) (b : ℕ) (n : ℕ) (t : ℕ) (ok : Bool) : (failTile s b n t ok).owners = s.owners := by
  unfold failTile; repeat' (first | with_reducible rfl | (simp; done) | split | dsimp only)
@[simp] theorem tellFails_owners (s : State) (b : ℕ) (o : ℕ) (n : ℕ) : (tellFails s b o n).owners = s.owners := by
  unfold tellFails; repeat' (first | with_reducible rfl | (simp; done) | split | dsimp only)
@[simp] theorem failTiles_owners (s : State) (b : ℕ) (o : ℕ) (l : List (ℕ × ℕ × Bool)) : (failTiles s b o l).owners = s.owners := by
  simp [failTiles]
@[simp] theorem rowRead_owners (s : State) (w : Wing) (o : ℕ) (row : ℕ) (bad : List ℕ) : (rowRead s w o row bad).owners = s.owners := by
  unfold rowRead; repeat' (first | with_reducible rfl | (simp; done) | split | dsimp only)
@[simp] theorem windowFails_owners (s : State) (w : Wing) (o : ℕ) (row : ℕ) (col : ℕ) : (windowFails s w o row col).owners = s.owners := by
  simp [windowFails]
@[simp] theorem errorOutcome_owners (s : State) (slice : ℕ) (m : ℕ) (use : BusUse) : (errorOutcome s slice m use).owners = s.owners := by
  unfold errorOutcome; repeat' (first | with_reducible rfl | (simp; done) | split | dsimp only)
@[simp] theorem memEvent_owners (s : State) (p : ℕ) (cause : ℕ) : (memEvent s p cause).owners = s.owners := by simp [memEvent]
@[simp] theorem evenCapacity_owners (s : State) (w : Wing) : (evenCapacity s w).owners = s.owners := by simp [evenCapacity]
@[simp] theorem execAckTimer_owners (port : Fin 24) (s : State) : ∀ res, execAckTimer port s = .next res → res.owners = s.owners := by
  intro res h
  unfold execAckTimer at h
  repeat' (first | (have h := Host.Outcome.next.inj h; subst h; clear h) | (have h := Host.Outcome.next.inj h; subst h) | (simp only [reduceCtorEq] at h; done) | split at h | dsimp only at h | (cases h; done) | (obtain ⟨rfl⟩ := h))
  all_goals (repeat' (first | with_reducible rfl | with_reducible assumption | ((try lift_lets); intro zz; first | ((have hz : State.owners zz = State.owners s := by (dsimp only [zz]; repeat' (first | with_reducible rfl | with_reducible assumption | (obtain ⟨rfl, rfl⟩ := Prod.ext_iff.mp ‹_ = (_, _)›) | (obtain ⟨rfl, -⟩ := Prod.ext_iff.mp ‹_ = (_, _)›) | split | (with_reducible refine (foldl_owners _ _ (fun s x => ?_) _).trans ?_) | (simp only [*]; done) | dsimp only | (simp [*]; done)))); clear_value zz) | clear_value zz) | (obtain ⟨rfl, rfl⟩ := Prod.ext_iff.mp ‹_ = (_, _)›) | (obtain ⟨rfl, -⟩ := Prod.ext_iff.mp ‹_ = (_, _)›) | split | (with_reducible refine (foldl_owners _ _ (fun s x => ?_) _).trans ?_) | (simp only [*]; done) | (simp [*]; done)))
@[simp] theorem execAcquireAlarm_owners (s : State) : ∀ res, execAcquireAlarm s = .next res → res.owners = s.owners := by
  intro res h
  unfold execAcquireAlarm at h
  repeat' (first | (have h := Host.Outcome.next.inj h; subst h; clear h) | (have h := Host.Outcome.next.inj h; subst h) | (simp only [reduceCtorEq] at h; done) | split at h | dsimp only at h | (cases h; done) | (obtain ⟨rfl⟩ := h))
  all_goals (repeat' (first | with_reducible rfl | with_reducible assumption | ((try lift_lets); intro zz; first | ((have hz : State.owners zz = State.owners s := by (dsimp only [zz]; repeat' (first | with_reducible rfl | with_reducible assumption | (obtain ⟨rfl, rfl⟩ := Prod.ext_iff.mp ‹_ = (_, _)›) | (obtain ⟨rfl, -⟩ := Prod.ext_iff.mp ‹_ = (_, _)›) | split | (with_reducible refine (foldl_owners _ _ (fun s x => ?_) _).trans ?_) | (simp only [*]; done) | dsimp only | (simp [*]; done)))); clear_value zz) | clear_value zz) | (obtain ⟨rfl, rfl⟩ := Prod.ext_iff.mp ‹_ = (_, _)›) | (obtain ⟨rfl, -⟩ := Prod.ext_iff.mp ‹_ = (_, _)›) | split | (with_reducible refine (foldl_owners _ _ (fun s x => ?_) _).trans ?_) | (simp only [*]; done) | (simp [*]; done)))
@[simp] theorem execArbitrationResult_owners (o : Fin 20) (tile : TileAt) (w : Wing) (confirmed : Bool) (s : State) : ∀ res, execArbitrationResult o tile w confirmed s = .next res → res.owners = s.owners := by
  intro res h; simp only [execArbitrationResult] at h; cases h; simp
@[simp] theorem holdCredit_owners (s : State) (p : Port) (on : Bool) : (holdCredit s p on).owners = s.owners := by simp [holdCredit]
@[simp] theorem lateLaunch_owners (s : State) (e : ℕ) (q : Req) (cause : ℕ) : (lateLaunch s e q cause).owners = s.owners := by simp [lateLaunch]
@[simp] theorem perform_owners (s : State) (d : Due) (h : d.op.KeepsOwners) : (perform s d).owners = s.owners := by
  unfold perform
  dsimp only
  split
  · simp [h]
  · have e := dueEffect_owners d s h
    generalize dueEffect d s = p at e ⊢
    have e2 : (if isLate s d.q then lateLaunch p.1 65535 d.q 0 else p.1).owners = s.owners := by split <;> simp [e]
    generalize (if isLate s d.q then lateLaunch p.1 65535 d.q 0 else p.1) = s2 at e2 ⊢
    split
    · rw [settleKey_owners]; split <;> simp [e2]
    · split
      · simp [e2]
      · split <;> simp [e2]
@[simp] theorem rejEvent_owners (s : State) (p : Port) (r : Rej) : (rejEvent s p r).owners = s.owners := by
  unfold rejEvent; repeat' (first | with_reducible rfl | (simp; done) | split | dsimp only)
@[simp] theorem refuse_owners (s : State) (d : Due) (late : Bool) (r : Rej) (h : d.op.KeepsOwners) : (refuse s d late r).owners = s.owners := by
  unfold refuse
  dsimp only
  simp only [formPlacard_owners, holdCredit_owners]
  split <;> split <;> simp [h.refused]
@[simp] theorem runCommand_owners (c : Instr) (q : Req) (o : Op) (s : State) (h : o.KeepsOwners) : (runCommand c q o s).owners = s.owners := by
  unfold runCommand
  dsimp only
  split
  · rfl
  · have key (x : State × Option Rej) (hx : x.1.owners = s.owners) (late : Bool) :
        (settle (match x.2 with
          | some r => refuse x.1 { cmd := c, q := q, op := o } late r
          | none => if isFuture x.1 q && (freeSlot x.1).isNone then refuse x.1 { cmd := c, q := q, op := o } false (rejSt .noResource)
              else perform x.1 { cmd := c, q := q, op := o })).owners = s.owners := by
      rw [settle_owners]
      split
      · simp [h, hx]
      · split <;> simp [h, hx]
    have h0 : (if q.tick.isSome then s else holdCredit s q.port true).owners = s.owners := by split <;> simp
    generalize (if q.tick.isSome then s else holdCredit s q.port true) = s0 at h0 ⊢
    cases q.tick with
    | none => exact key (dueRej _ s0) (by simp [h0]) _
    | some t => exact key ((earlySteps (decideDue s0 t (some c) (setsTime c) q.port none).1 q o).1, _) (by simp [h0]) _
@[simp] theorem execAudSrcInWrite_owners (q : Req) (conv : Byte) (value : Word) (s : State) : ∀ res, execAudSrcInWrite q conv value s = .next res → res.owners = s.owners := by
  intro res h; simp only [execAudSrcInWrite] at h; cases h; simp
@[simp] theorem execAudTdmCfgWrite_owners (q : Req) (port : Byte) (value : Word) (s : State) : ∀ res, execAudTdmCfgWrite q port value s = .next res → res.owners = s.owners := by
  intro res h; simp only [execAudTdmCfgWrite] at h; cases h; simp
@[simp] theorem execAudXbar_owners (q : Req) (ramp : Bool) (entries : List XbarEntry) (s : State) : ∀ res, execAudXbar q ramp entries s = .next res → res.owners = s.owners := by
  intro res h; simp only [execAudXbar] at h; cases h; simp
@[simp] theorem execAudioSdp_owners (port : Fin 4) (sub : Fin 4) (channels : ℕ) (rate : ℕ) (frames : ℕ) (lpcm : Bool) (last : List Word) (s : State) : ∀ res, execAudioSdp port sub channels rate frames lpcm last s = .next res → res.owners = s.owners := by
  intro res h
  unfold execAudioSdp at h
  repeat' (first | (have h := Host.Outcome.next.inj h; subst h; clear h) | (have h := Host.Outcome.next.inj h; subst h) | (simp only [reduceCtorEq] at h; done) | split at h | dsimp only at h | (cases h; done) | (obtain ⟨rfl⟩ := h))
  all_goals (repeat' (first | with_reducible rfl | with_reducible assumption | ((try lift_lets); intro zz; first | ((have hz : State.owners zz = State.owners s := by (dsimp only [zz]; repeat' (first | with_reducible rfl | with_reducible assumption | (obtain ⟨rfl, rfl⟩ := Prod.ext_iff.mp ‹_ = (_, _)›) | (obtain ⟨rfl, -⟩ := Prod.ext_iff.mp ‹_ = (_, _)›) | split | (with_reducible refine (foldl_owners _ _ (fun s x => ?_) _).trans ?_) | (simp only [*]; done) | dsimp only | (simp [*]; done)))); clear_value zz) | clear_value zz) | (obtain ⟨rfl, rfl⟩ := Prod.ext_iff.mp ‹_ = (_, _)›) | (obtain ⟨rfl, -⟩ := Prod.ext_iff.mp ‹_ = (_, _)›) | split | (with_reducible refine (foldl_owners _ _ (fun s x => ?_) _).trans ?_) | (simp only [*]; done) | (simp [*]; done)))
@[simp] theorem execAuxRequest_owners (port : Fin 4) (kind : Fin 4) (addr : ℕ) (off : ℕ) (len : ℕ) (data : List Byte) (s : State) : ∀ res, execAuxRequest port kind addr off len data s = .next res → res.owners = s.owners := by
  intro res h
  unfold execAuxRequest at h
  repeat' (first | (have h := Host.Outcome.next.inj h; subst h; clear h) | (have h := Host.Outcome.next.inj h; subst h) | (simp only [reduceCtorEq] at h; done) | split at h | dsimp only at h | (cases h; done) | (obtain ⟨rfl⟩ := h))
  all_goals (repeat' (first | with_reducible rfl | with_reducible assumption | ((try lift_lets); intro zz; first | ((have hz : State.owners zz = State.owners s := by (dsimp only [zz]; repeat' (first | with_reducible rfl | with_reducible assumption | (obtain ⟨rfl, rfl⟩ := Prod.ext_iff.mp ‹_ = (_, _)›) | (obtain ⟨rfl, -⟩ := Prod.ext_iff.mp ‹_ = (_, _)›) | split | (with_reducible refine (foldl_owners _ _ (fun s x => ?_) _).trans ?_) | (simp only [*]; done) | dsimp only | (simp [*]; done)))); clear_value zz) | clear_value zz) | (obtain ⟨rfl, rfl⟩ := Prod.ext_iff.mp ‹_ = (_, _)›) | (obtain ⟨rfl, -⟩ := Prod.ext_iff.mp ‹_ = (_, _)›) | split | (with_reducible refine (foldl_owners _ _ (fun s x => ?_) _).trans ?_) | (simp only [*]; done) | (simp [*]; done)))
@[simp] theorem execBackoffEnd_owners (port : Fin 24) (s : State) : ∀ res, execBackoffEnd port s = .next res → res.owners = s.owners := by
  intro res h
  unfold execBackoffEnd at h
  repeat' (first | (have h := Host.Outcome.next.inj h; subst h; clear h) | (have h := Host.Outcome.next.inj h; subst h) | (simp only [reduceCtorEq] at h; done) | split at h | dsimp only at h | (cases h; done) | (obtain ⟨rfl⟩ := h))
  all_goals (repeat' (first | with_reducible rfl | with_reducible assumption | ((try lift_lets); intro zz; first | ((have hz : State.owners zz = State.owners s := by (dsimp only [zz]; repeat' (first | with_reducible rfl | with_reducible assumption | (obtain ⟨rfl, rfl⟩ := Prod.ext_iff.mp ‹_ = (_, _)›) | (obtain ⟨rfl, -⟩ := Prod.ext_iff.mp ‹_ = (_, _)›) | split | (with_reducible refine (foldl_owners _ _ (fun s x => ?_) _).trans ?_) | (simp only [*]; done) | dsimp only | (simp [*]; done)))); clear_value zz) | clear_value zz) | (obtain ⟨rfl, rfl⟩ := Prod.ext_iff.mp ‹_ = (_, _)›) | (obtain ⟨rfl, -⟩ := Prod.ext_iff.mp ‹_ = (_, _)›) | split | (with_reducible refine (foldl_owners _ _ (fun s x => ?_) _).trans ?_) | (simp only [*]; done) | (simp [*]; done)))
@[simp] theorem execBeacon_owners (port : Fin 24) (dir : Fin 2) (s : State) : ∀ res, execBeacon port dir s = .next res → res.owners = s.owners := by
  intro res h
  unfold execBeacon at h
  repeat' (first | (have h := Host.Outcome.next.inj h; subst h; clear h) | (have h := Host.Outcome.next.inj h; subst h) | (simp only [reduceCtorEq] at h; done) | split at h | dsimp only at h | (cases h; done) | (obtain ⟨rfl⟩ := h))
  all_goals (repeat' (first | with_reducible rfl | with_reducible assumption | ((try lift_lets); intro zz; first | ((have hz : State.owners zz = State.owners s := by (dsimp only [zz]; repeat' (first | with_reducible rfl | with_reducible assumption | (obtain ⟨rfl, rfl⟩ := Prod.ext_iff.mp ‹_ = (_, _)›) | (obtain ⟨rfl, -⟩ := Prod.ext_iff.mp ‹_ = (_, _)›) | split | (with_reducible refine (foldl_owners _ _ (fun s x => ?_) _).trans ?_) | (simp only [*]; done) | dsimp only | (simp [*]; done)))); clear_value zz) | clear_value zz) | (obtain ⟨rfl, rfl⟩ := Prod.ext_iff.mp ‹_ = (_, _)›) | (obtain ⟨rfl, -⟩ := Prod.ext_iff.mp ‹_ = (_, _)›) | split | (with_reducible refine (foldl_owners _ _ (fun s x => ?_) _).trans ?_) | (simp only [*]; done) | (simp [*]; done)))
@[simp] theorem execBlockRead_owners (q : Req) (addr : Addr) (bank : Byte) (count : Byte) (s : State) : ∀ res, execBlockRead q addr bank count s = .next res → res.owners = s.owners := by
  intro res h; simp only [execBlockRead] at h; cases h; simp
@[simp] theorem execBlockWrite_owners (q : Req) (addr : Addr) (bank : Byte) (values : List Word) (s : State) : ∀ res, execBlockWrite q addr bank values s = .next res → res.owners = s.owners := by
  intro res h; simp only [execBlockWrite] at h; cases h; simp
@[simp] theorem execBootModeApply_owners (s : State) : ∀ res, execBootModeApply s = .next res → res.owners = s.owners := by
  intro res h
  unfold execBootModeApply at h
  split at h
  · have h := Host.Outcome.next.inj h; subst h; rfl
  · simp -zeta only at h
    revert h
    lift_lets
    intro late b s1
    have e1 : (bootEnter s1).1.owners = s.owners := (bootEnter_owners s1).trans rfl
    generalize bootEnter s1 = p at e1 ⊢
    obtain ⟨p1, p2⟩ := p
    lift_lets
    intro s2 s3 ms s4 b2 h
    have h := Host.Outcome.next.inj h; subst h
    have e2 : s2.owners = s.owners := (foldl_owners _ _ (fun s x => by simp) _).trans e1
    have e3 : s3.owners = s.owners := by simp only [s3]; split <;> simp [e2]
    simp [s4, e3]
@[simp] theorem tellDpllReset_owners (s : State) : (tellDpllReset s).owners = s.owners := by
  unfold tellDpllReset; repeat' (first | with_reducible rfl | (simp; done) | split | dsimp only)
@[simp] theorem execBootStart_owners (strap : BitVec 3) (railA : Bool) (railB : Bool) (s : State) : ∀ res, execBootStart strap railA railB s = .next res → res.owners = s.owners := by
  intro res h
  unfold execBootStart at h
  repeat' (first | (have h := Host.Outcome.next.inj h; subst h; clear h) | (have h := Host.Outcome.next.inj h; subst h) | (simp only [reduceCtorEq] at h; done) | split at h | dsimp only at h | (cases h; done) | (obtain ⟨rfl⟩ := h))
  all_goals (repeat' (first | with_reducible rfl | with_reducible assumption | ((try lift_lets); intro zz; first | ((have hz : State.owners zz = State.owners s := by (dsimp only [zz]; repeat' (first | with_reducible rfl | with_reducible assumption | (obtain ⟨rfl, rfl⟩ := Prod.ext_iff.mp ‹_ = (_, _)›) | (obtain ⟨rfl, -⟩ := Prod.ext_iff.mp ‹_ = (_, _)›) | split | (with_reducible refine (foldl_owners _ _ (fun s x => ?_) _).trans ?_) | (simp only [*]; done) | dsimp only | (simp [*]; done)))); clear_value zz) | clear_value zz) | (obtain ⟨rfl, rfl⟩ := Prod.ext_iff.mp ‹_ = (_, _)›) | (obtain ⟨rfl, -⟩ := Prod.ext_iff.mp ‹_ = (_, _)›) | split | (with_reducible refine (foldl_owners _ _ (fun s x => ?_) _).trans ?_) | (simp only [*]; done) | (simp [*]; done)))
@[simp] theorem execBuildTimeout_owners (s : State) : ∀ res, execBuildTimeout s = .next res → res.owners = s.owners := by
  intro res h; simp only [execBuildTimeout] at h; cases h; simp
@[simp] theorem execBulkTransferComplete_owners (s : State) : ∀ res, execBulkTransferComplete s = .next res → res.owners = s.owners := by
  intro res h; simp only [execBulkTransferComplete] at h; cases h; simp
@[simp] theorem execCapModeWrite_owners (q : Req) (pipe : UnitRef) (value : Word) (s : State) : ∀ res, execCapModeWrite q pipe value s = .next res → res.owners = s.owners := by
  intro res h; simp only [execCapModeWrite] at h; cases h; simp
@[simp] theorem execCapabilityResend_owners (port : Fin 24) (s : State) : ∀ res, execCapabilityResend port s = .next res → res.owners = s.owners := by
  intro res h
  unfold execCapabilityResend at h
  repeat' (first | (have h := Host.Outcome.next.inj h; subst h; clear h) | (have h := Host.Outcome.next.inj h; subst h) | (simp only [reduceCtorEq] at h; done) | split at h | dsimp only at h | (cases h; done) | (obtain ⟨rfl⟩ := h))
  all_goals (repeat' (first | with_reducible rfl | with_reducible assumption | ((try lift_lets); intro zz; first | ((have hz : State.owners zz = State.owners s := by (dsimp only [zz]; repeat' (first | with_reducible rfl | with_reducible assumption | (obtain ⟨rfl, rfl⟩ := Prod.ext_iff.mp ‹_ = (_, _)›) | (obtain ⟨rfl, -⟩ := Prod.ext_iff.mp ‹_ = (_, _)›) | split | (with_reducible refine (foldl_owners _ _ (fun s x => ?_) _).trans ?_) | (simp only [*]; done) | dsimp only | (simp [*]; done)))); clear_value zz) | clear_value zz) | (obtain ⟨rfl, rfl⟩ := Prod.ext_iff.mp ‹_ = (_, _)›) | (obtain ⟨rfl, -⟩ := Prod.ext_iff.mp ‹_ = (_, _)›) | split | (with_reducible refine (foldl_owners _ _ (fun s x => ?_) _).trans ?_) | (simp only [*]; done) | (simp [*]; done)))
@[simp] theorem execCapabilityTimeout_owners (port : Fin 24) (s : State) : ∀ res, execCapabilityTimeout port s = .next res → res.owners = s.owners := by
  intro res h
  unfold execCapabilityTimeout at h
  repeat' (first | (have h := Host.Outcome.next.inj h; subst h; clear h) | (have h := Host.Outcome.next.inj h; subst h) | (simp only [reduceCtorEq] at h; done) | split at h | dsimp only at h | (cases h; done) | (obtain ⟨rfl⟩ := h))
  all_goals (repeat' (first | with_reducible rfl | with_reducible assumption | ((try lift_lets); intro zz; first | ((have hz : State.owners zz = State.owners s := by (dsimp only [zz]; repeat' (first | with_reducible rfl | with_reducible assumption | (obtain ⟨rfl, rfl⟩ := Prod.ext_iff.mp ‹_ = (_, _)›) | (obtain ⟨rfl, -⟩ := Prod.ext_iff.mp ‹_ = (_, _)›) | split | (with_reducible refine (foldl_owners _ _ (fun s x => ?_) _).trans ?_) | (simp only [*]; done) | dsimp only | (simp [*]; done)))); clear_value zz) | clear_value zz) | (obtain ⟨rfl, rfl⟩ := Prod.ext_iff.mp ‹_ = (_, _)›) | (obtain ⟨rfl, -⟩ := Prod.ext_iff.mp ‹_ = (_, _)›) | split | (with_reducible refine (foldl_owners _ _ (fun s x => ?_) _).trans ?_) | (simp only [*]; done) | (simp [*]; done)))
@[simp] theorem execCaptureStart_owners (q : Req) (pipe : UnitRef) (s : State) : ∀ res, execCaptureStart q pipe s = .next res → res.owners = s.owners := by
  intro res h; simp only [execCaptureStart] at h; cases h; simp
@[simp] theorem execCaptureStop_owners (q : Req) (pipe : UnitRef) (force : Bool) (s : State) : ∀ res, execCaptureStop q pipe force s = .next res → res.owners = s.owners := by
  intro res h; simp only [execCaptureStop] at h; cases h; simp
@[simp] theorem execClrTblWinWrite_owners (q : Req) (unit : UnitRef) (word : Byte) (value : Word) (s : State) : ∀ res, execClrTblWinWrite q unit word value s = .next res → res.owners = s.owners := by
  intro res h; simp only [execClrTblWinWrite] at h; cases h; simp
@[simp] theorem execCommitTick_owners (o : Fin 20) (obs : TickObs) (s : State) : ∀ res, execCommitTick o obs s = .next res → res.owners = s.owners := by
  intro res h
  unfold execCommitTick at h
  repeat' (first | (have h := Host.Outcome.next.inj h; subst h; clear h) | (have h := Host.Outcome.next.inj h; subst h) | (simp only [reduceCtorEq] at h; done) | split at h | dsimp only at h | (cases h; done) | (obtain ⟨rfl⟩ := h))
  all_goals (repeat' (first | with_reducible rfl | with_reducible assumption | ((try lift_lets); intro zz; first | ((have hz : State.owners zz = State.owners s := by (dsimp only [zz]; repeat' (first | with_reducible rfl | with_reducible assumption | (obtain ⟨rfl, rfl⟩ := Prod.ext_iff.mp ‹_ = (_, _)›) | (obtain ⟨rfl, -⟩ := Prod.ext_iff.mp ‹_ = (_, _)›) | split | (with_reducible refine (foldl_owners _ _ (fun s x => ?_) _).trans ?_) | (simp only [*]; done) | dsimp only | (simp [*]; done)))); clear_value zz) | clear_value zz) | (obtain ⟨rfl, rfl⟩ := Prod.ext_iff.mp ‹_ = (_, _)›) | (obtain ⟨rfl, -⟩ := Prod.ext_iff.mp ‹_ = (_, _)›) | split | (with_reducible refine (foldl_owners _ _ (fun s x => ?_) _).trans ?_) | (simp only [*]; done) | (simp [*]; done)))
@[simp] theorem execConverterLock_owners (k : Fin 64) (s : State) : ∀ res, execConverterLock k s = .next res → res.owners = s.owners := by
  intro res h
  unfold execConverterLock at h
  repeat' (first | (have h := Host.Outcome.next.inj h; subst h; clear h) | (have h := Host.Outcome.next.inj h; subst h) | (simp only [reduceCtorEq] at h; done) | split at h | dsimp only at h | (cases h; done) | (obtain ⟨rfl⟩ := h))
  all_goals (repeat' (first | with_reducible rfl | with_reducible assumption | ((try lift_lets); intro zz; first | ((have hz : State.owners zz = State.owners s := by (dsimp only [zz]; repeat' (first | with_reducible rfl | with_reducible assumption | (obtain ⟨rfl, rfl⟩ := Prod.ext_iff.mp ‹_ = (_, _)›) | (obtain ⟨rfl, -⟩ := Prod.ext_iff.mp ‹_ = (_, _)›) | split | (with_reducible refine (foldl_owners _ _ (fun s x => ?_) _).trans ?_) | (simp only [*]; done) | dsimp only | (simp [*]; done)))); clear_value zz) | clear_value zz) | (obtain ⟨rfl, rfl⟩ := Prod.ext_iff.mp ‹_ = (_, _)›) | (obtain ⟨rfl, -⟩ := Prod.ext_iff.mp ‹_ = (_, _)›) | split | (with_reducible refine (foldl_owners _ _ (fun s x => ?_) _).trans ?_) | (simp only [*]; done) | (simp [*]; done)))
@[simp] theorem execConverterRatioMeasure_owners (k : Fin 64) (ratio : Word) (s : State) : ∀ res, execConverterRatioMeasure k ratio s = .next res → res.owners = s.owners := by
  intro res h
  unfold execConverterRatioMeasure at h
  repeat' (first | (have h := Host.Outcome.next.inj h; subst h; clear h) | (have h := Host.Outcome.next.inj h; subst h) | (simp only [reduceCtorEq] at h; done) | split at h | dsimp only at h | (cases h; done) | (obtain ⟨rfl⟩ := h))
  all_goals (repeat' (first | with_reducible rfl | with_reducible assumption | ((try lift_lets); intro zz; first | ((have hz : State.owners zz = State.owners s := by (dsimp only [zz]; repeat' (first | with_reducible rfl | with_reducible assumption | (obtain ⟨rfl, rfl⟩ := Prod.ext_iff.mp ‹_ = (_, _)›) | (obtain ⟨rfl, -⟩ := Prod.ext_iff.mp ‹_ = (_, _)›) | split | (with_reducible refine (foldl_owners _ _ (fun s x => ?_) _).trans ?_) | (simp only [*]; done) | dsimp only | (simp [*]; done)))); clear_value zz) | clear_value zz) | (obtain ⟨rfl, rfl⟩ := Prod.ext_iff.mp ‹_ = (_, _)›) | (obtain ⟨rfl, -⟩ := Prod.ext_iff.mp ‹_ = (_, _)›) | split | (with_reducible refine (foldl_owners _ _ (fun s x => ?_) _).trans ?_) | (simp only [*]; done) | (simp [*]; done)))
@[simp] theorem queuesLost_owners (s : State) (os : List ℕ) : (queuesLost s os).owners = s.owners := by
  simp [queuesLost]
@[simp] theorem execCoreClockRegained_owners (g : CoreGen) (s : State) : ∀ res, execCoreClockRegained g s = .next res → res.owners = s.owners := by
  intro res h
  unfold execCoreClockRegained at h
  repeat' (first | (have h := Host.Outcome.next.inj h; subst h; clear h) | (have h := Host.Outcome.next.inj h; subst h) | (simp only [reduceCtorEq] at h; done) | split at h | dsimp only at h | (cases h; done) | (obtain ⟨rfl⟩ := h))
  all_goals (repeat' (first | with_reducible rfl | with_reducible assumption | ((try lift_lets); intro zz; first | ((have hz : State.owners zz = State.owners s := by (dsimp only [zz]; repeat' (first | with_reducible rfl | with_reducible assumption | (obtain ⟨rfl, rfl⟩ := Prod.ext_iff.mp ‹_ = (_, _)›) | (obtain ⟨rfl, -⟩ := Prod.ext_iff.mp ‹_ = (_, _)›) | split | (with_reducible refine (foldl_owners _ _ (fun s x => ?_) _).trans ?_) | (simp only [*]; done) | dsimp only | (simp [*]; done)))); clear_value zz) | clear_value zz) | (obtain ⟨rfl, rfl⟩ := Prod.ext_iff.mp ‹_ = (_, _)›) | (obtain ⟨rfl, -⟩ := Prod.ext_iff.mp ‹_ = (_, _)›) | split | (with_reducible refine (foldl_owners _ _ (fun s x => ?_) _).trans ?_) | (simp only [*]; done) | (simp [*]; done)))
@[simp] theorem execCp2LinkRetry_owners (s : State) : ∀ res, execCp2LinkRetry s = .next res → res.owners = s.owners := by
  intro res h
  unfold execCp2LinkRetry at h
  repeat' (first | (have h := Host.Outcome.next.inj h; subst h; clear h) | (have h := Host.Outcome.next.inj h; subst h) | (simp only [reduceCtorEq] at h; done) | split at h | dsimp only at h | (cases h; done) | (obtain ⟨rfl⟩ := h))
  all_goals (repeat' (first | with_reducible rfl | with_reducible assumption | ((try lift_lets); intro zz; first | ((have hz : State.owners zz = State.owners s := by (dsimp only [zz]; repeat' (first | with_reducible rfl | with_reducible assumption | (obtain ⟨rfl, rfl⟩ := Prod.ext_iff.mp ‹_ = (_, _)›) | (obtain ⟨rfl, -⟩ := Prod.ext_iff.mp ‹_ = (_, _)›) | split | (with_reducible refine (foldl_owners _ _ (fun s x => ?_) _).trans ?_) | (simp only [*]; done) | dsimp only | (simp [*]; done)))); clear_value zz) | clear_value zz) | (obtain ⟨rfl, rfl⟩ := Prod.ext_iff.mp ‹_ = (_, _)›) | (obtain ⟨rfl, -⟩ := Prod.ext_iff.mp ‹_ = (_, _)›) | split | (with_reducible refine (foldl_owners _ _ (fun s x => ?_) _).trans ?_) | (simp only [*]; done) | (simp [*]; done)))
@[simp] theorem execCp2PacketTimeout_owners (s : State) : ∀ res, execCp2PacketTimeout s = .next res → res.owners = s.owners := by
  intro res h
  unfold execCp2PacketTimeout at h
  repeat' (first | (have h := Host.Outcome.next.inj h; subst h; clear h) | (have h := Host.Outcome.next.inj h; subst h) | (simp only [reduceCtorEq] at h; done) | split at h | dsimp only at h | (cases h; done) | (obtain ⟨rfl⟩ := h))
  all_goals (repeat' (first | with_reducible rfl | with_reducible assumption | ((try lift_lets); intro zz; first | ((have hz : State.owners zz = State.owners s := by (dsimp only [zz]; repeat' (first | with_reducible rfl | with_reducible assumption | (obtain ⟨rfl, rfl⟩ := Prod.ext_iff.mp ‹_ = (_, _)›) | (obtain ⟨rfl, -⟩ := Prod.ext_iff.mp ‹_ = (_, _)›) | split | (with_reducible refine (foldl_owners _ _ (fun s x => ?_) _).trans ?_) | (simp only [*]; done) | dsimp only | (simp [*]; done)))); clear_value zz) | clear_value zz) | (obtain ⟨rfl, rfl⟩ := Prod.ext_iff.mp ‹_ = (_, _)›) | (obtain ⟨rfl, -⟩ := Prod.ext_iff.mp ‹_ = (_, _)›) | split | (with_reducible refine (foldl_owners _ _ (fun s x => ?_) _).trans ?_) | (simp only [*]; done) | (simp [*]; done)))
@[simp] theorem execCp2Placard_owners (port : Fin 24) (s : State) : ∀ res, execCp2Placard port s = .next res → res.owners = s.owners := by
  intro res h
  unfold execCp2Placard at h
  repeat' (first | (have h := Host.Outcome.next.inj h; subst h; clear h) | (have h := Host.Outcome.next.inj h; subst h) | (simp only [reduceCtorEq] at h; done) | split at h | dsimp only at h | (cases h; done) | (obtain ⟨rfl⟩ := h))
  all_goals (repeat' (first | with_reducible rfl | with_reducible assumption | ((try lift_lets); intro zz; first | ((have hz : State.owners zz = State.owners s := by (dsimp only [zz]; repeat' (first | with_reducible rfl | with_reducible assumption | (obtain ⟨rfl, rfl⟩ := Prod.ext_iff.mp ‹_ = (_, _)›) | (obtain ⟨rfl, -⟩ := Prod.ext_iff.mp ‹_ = (_, _)›) | split | (with_reducible refine (foldl_owners _ _ (fun s x => ?_) _).trans ?_) | (simp only [*]; done) | dsimp only | (simp [*]; done)))); clear_value zz) | clear_value zz) | (obtain ⟨rfl, rfl⟩ := Prod.ext_iff.mp ‹_ = (_, _)›) | (obtain ⟨rfl, -⟩ := Prod.ext_iff.mp ‹_ = (_, _)›) | split | (with_reducible refine (foldl_owners _ _ (fun s x => ?_) _).trans ?_) | (simp only [*]; done) | (simp [*]; done)))
@[simp] theorem strangeCode_owners (s : State) (p : Port) (code : Byte) : (strangeCode s p code).owners = s.owners := by
  simp [strangeCode]
@[simp] theorem execCp3SclTimeout_owners (cut : SclCut) (s : State) : ∀ res, execCp3SclTimeout cut s = .next res → res.owners = s.owners := by
  intro res h
  unfold execCp3SclTimeout at h
  repeat' (first | (have h := Host.Outcome.next.inj h; subst h; clear h) | (have h := Host.Outcome.next.inj h; subst h) | (simp only [reduceCtorEq] at h; done) | split at h | dsimp only at h | (cases h; done) | (obtain ⟨rfl⟩ := h))
  all_goals (repeat' (first | with_reducible rfl | with_reducible assumption | ((try lift_lets); intro zz; first | ((have hz : State.owners zz = State.owners s := by (dsimp only [zz]; repeat' (first | with_reducible rfl | with_reducible assumption | (obtain ⟨rfl, rfl⟩ := Prod.ext_iff.mp ‹_ = (_, _)›) | (obtain ⟨rfl, -⟩ := Prod.ext_iff.mp ‹_ = (_, _)›) | split | (with_reducible refine (foldl_owners _ _ (fun s x => ?_) _).trans ?_) | (simp only [*]; done) | dsimp only | (simp [*]; done)))); clear_value zz) | clear_value zz) | (obtain ⟨rfl, rfl⟩ := Prod.ext_iff.mp ‹_ = (_, _)›) | (obtain ⟨rfl, -⟩ := Prod.ext_iff.mp ‹_ = (_, _)›) | split | (with_reducible refine (foldl_owners _ _ (fun s x => ?_) _).trans ?_) | (simp only [*]; done) | (simp [*]; done)))
@[simp] theorem execCsiFrameEnd_owners (port : Fin 8) (vc : Fin 4) (hdr : Fin 3) (drift : ℤ) (s : State) : ∀ res, execCsiFrameEnd port vc hdr drift s = .next res → res.owners = s.owners := by
  intro res h
  unfold execCsiFrameEnd at h
  dsimp only at h
  split at h
  · have h := Host.Outcome.next.inj h; subst h; rfl
  split at h
  · have h := Host.Outcome.next.inj h; subst h; simp
  · rename_i s1 h1
    have h2 := csiHeader_owners _ _ _ _ h1
    have h := Host.Outcome.next.inj h; subst h
    split <;> simp [h2]
@[simp] theorem execCsiFrameStart_owners (port : Fin 8) (vc : Fin 4) (hdr : Fin 3) (s : State) : ∀ res, execCsiFrameStart port vc hdr s = .next res → res.owners = s.owners := by
  intro res h
  unfold execCsiFrameStart at h
  revert h
  lift_lets
  intro p v
  split
  · intro h; have h := Host.Outcome.next.inj h; subst h; rfl
  split
  · intro h; have h := Host.Outcome.next.inj h; subst h; simp
  · rename_i s1 h1
    have e1 := csiHeader_owners _ _ _ _ h1
    lift_lets
    intro s2 c ks first s3 s4 h
    have h := Host.Outcome.next.inj h; subst h
    have e2 : s2.owners = s.owners := by simp only [s2]; split <;> simp [e1]
    have e3 : s3.owners = s.owners := by simp [s3, e2]
    have e4 : s4.owners = s.owners := by simp only [s4]; split <;> simp [e3]
    exact (foldl_owners _ _ (fun s x => by simp) _).trans (by simp [e4])
@[simp] theorem execCsiLongPacket_owners (port : Fin 8) (vc : Fin 4) (hdr : Fin 3) (vcx : Bool) (dtype : ℕ) (count : ℕ) (good : Bool) (s : State) : ∀ res, execCsiLongPacket port vc hdr vcx dtype count good s = .next res → res.owners = s.owners := by
  intro res h
  unfold execCsiLongPacket at h
  dsimp only at h
  split at h
  · have h := Host.Outcome.next.inj h; subst h; rfl
  split at h
  · have h := Host.Outcome.next.inj h; subst h; simp
  · rename_i s1 h1
    have h2 := csiHeader_owners _ _ _ _ h1
    repeat' (first | split at h)
    all_goals (have h := Host.Outcome.next.inj h; subst h)
    all_goals (first | (simp [h2]; done) | (refine (foldl_owners _ _ (fun s x => by simp) _).trans ?_; simp [h2]))
@[simp] theorem execCsiUlpsEntry_owners (port : Fin 8) (s : State) : ∀ res, execCsiUlpsEntry port s = .next res → res.owners = s.owners := by
  intro res h
  unfold execCsiUlpsEntry at h
  repeat' (first | (have h := Host.Outcome.next.inj h; subst h; clear h) | (have h := Host.Outcome.next.inj h; subst h) | (simp only [reduceCtorEq] at h; done) | split at h | dsimp only at h | (cases h; done) | (obtain ⟨rfl⟩ := h))
  all_goals (repeat' (first | with_reducible rfl | with_reducible assumption | ((try lift_lets); intro zz; first | ((have hz : State.owners zz = State.owners s := by (dsimp only [zz]; repeat' (first | with_reducible rfl | with_reducible assumption | (obtain ⟨rfl, rfl⟩ := Prod.ext_iff.mp ‹_ = (_, _)›) | (obtain ⟨rfl, -⟩ := Prod.ext_iff.mp ‹_ = (_, _)›) | split | (with_reducible refine (foldl_owners _ _ (fun s x => ?_) _).trans ?_) | (simp only [*]; done) | dsimp only | (simp [*]; done)))); clear_value zz) | clear_value zz) | (obtain ⟨rfl, rfl⟩ := Prod.ext_iff.mp ‹_ = (_, _)›) | (obtain ⟨rfl, -⟩ := Prod.ext_iff.mp ‹_ = (_, _)›) | split | (with_reducible refine (foldl_owners _ _ (fun s x => ?_) _).trans ?_) | (simp only [*]; done) | (simp [*]; done)))
@[simp] theorem execDpLinkLoss_owners (port : Fin 4) (s : State) : ∀ res, execDpLinkLoss port s = .next res → res.owners = s.owners := by
  intro res h
  unfold execDpLinkLoss at h
  repeat' (first | (have h := Host.Outcome.next.inj h; subst h; clear h) | (have h := Host.Outcome.next.inj h; subst h) | (simp only [reduceCtorEq] at h; done) | split at h | dsimp only at h | (cases h; done) | (obtain ⟨rfl⟩ := h))
  all_goals (repeat' (first | with_reducible rfl | with_reducible assumption | ((try lift_lets); intro zz; first | ((have hz : State.owners zz = State.owners s := by (dsimp only [zz]; repeat' (first | with_reducible rfl | with_reducible assumption | (obtain ⟨rfl, rfl⟩ := Prod.ext_iff.mp ‹_ = (_, _)›) | (obtain ⟨rfl, -⟩ := Prod.ext_iff.mp ‹_ = (_, _)›) | split | (with_reducible refine (foldl_owners _ _ (fun s x => ?_) _).trans ?_) | (simp only [*]; done) | dsimp only | (simp [*]; done)))); clear_value zz) | clear_value zz) | (obtain ⟨rfl, rfl⟩ := Prod.ext_iff.mp ‹_ = (_, _)›) | (obtain ⟨rfl, -⟩ := Prod.ext_iff.mp ‹_ = (_, _)›) | split | (with_reducible refine (foldl_owners _ _ (fun s x => ?_) _).trans ?_) | (simp only [*]; done) | (simp [*]; done)))
@[simp] theorem execDpLinkTraining_owners (port : Fin 4) (rate : Fin 7) (lanes : Fin 3) (s : State) : ∀ res, execDpLinkTraining port rate lanes s = .next res → res.owners = s.owners := by
  intro res h
  unfold execDpLinkTraining at h
  repeat' (first | (have h := Host.Outcome.next.inj h; subst h; clear h) | (have h := Host.Outcome.next.inj h; subst h) | (simp only [reduceCtorEq] at h; done) | split at h | dsimp only at h | (cases h; done) | (obtain ⟨rfl⟩ := h))
  all_goals (repeat' (first | with_reducible rfl | with_reducible assumption | ((try lift_lets); intro zz; first | ((have hz : State.owners zz = State.owners s := by (dsimp only [zz]; repeat' (first | with_reducible rfl | with_reducible assumption | (obtain ⟨rfl, rfl⟩ := Prod.ext_iff.mp ‹_ = (_, _)›) | (obtain ⟨rfl, -⟩ := Prod.ext_iff.mp ‹_ = (_, _)›) | split | (with_reducible refine (foldl_owners _ _ (fun s x => ?_) _).trans ?_) | (simp only [*]; done) | dsimp only | (simp [*]; done)))); clear_value zz) | clear_value zz) | (obtain ⟨rfl, rfl⟩ := Prod.ext_iff.mp ‹_ = (_, _)›) | (obtain ⟨rfl, -⟩ := Prod.ext_iff.mp ‹_ = (_, _)›) | split | (with_reducible refine (foldl_owners _ _ (fun s x => ?_) _).trans ?_) | (simp only [*]; done) | (simp [*]; done)))
@[simp] theorem takeStep_owners (s : State) (ps : ℤ) : (takeStep s ps).owners = s.owners := by
  simp [takeStep]
@[simp] theorem execDpllComparison_owners (phase : ℤ) (s : State) : ∀ res, execDpllComparison phase s = .next res → res.owners = s.owners := by
  intro res h
  unfold execDpllComparison at h
  repeat' (first | (have h := Host.Outcome.next.inj h; subst h; clear h) | (have h := Host.Outcome.next.inj h; subst h) | (simp only [reduceCtorEq] at h; done) | split at h | dsimp only at h | (cases h; done) | (obtain ⟨rfl⟩ := h))
  all_goals (repeat' (first | with_reducible rfl | with_reducible assumption | ((try lift_lets); intro zz; first | ((have hz : State.owners zz = State.owners s := by (dsimp only [zz]; repeat' (first | with_reducible rfl | with_reducible assumption | (obtain ⟨rfl, rfl⟩ := Prod.ext_iff.mp ‹_ = (_, _)›) | (obtain ⟨rfl, -⟩ := Prod.ext_iff.mp ‹_ = (_, _)›) | split | (with_reducible refine (foldl_owners _ _ (fun s x => ?_) _).trans ?_) | (simp only [*]; done) | dsimp only | (simp [*]; done)))); clear_value zz) | clear_value zz) | (obtain ⟨rfl, rfl⟩ := Prod.ext_iff.mp ‹_ = (_, _)›) | (obtain ⟨rfl, -⟩ := Prod.ext_iff.mp ‹_ = (_, _)›) | split | (with_reducible refine (foldl_owners _ _ (fun s x => ?_) _).trans ?_) | (simp only [*]; done) | (simp [*]; done)))
@[simp] theorem execEdpHpdSettled_owners (port : Fin 4) (supports : Bool) (s : State) : ∀ res, execEdpHpdSettled port supports s = .next res → res.owners = s.owners := by
  intro res h
  unfold execEdpHpdSettled at h
  repeat' (first | (have h := Host.Outcome.next.inj h; subst h; clear h) | (have h := Host.Outcome.next.inj h; subst h) | (simp only [reduceCtorEq] at h; done) | split at h | dsimp only at h | (cases h; done) | (obtain ⟨rfl⟩ := h))
  all_goals (repeat' (first | with_reducible rfl | with_reducible assumption | ((try lift_lets); intro zz; first | ((have hz : State.owners zz = State.owners s := by (dsimp only [zz]; repeat' (first | with_reducible rfl | with_reducible assumption | (obtain ⟨rfl, rfl⟩ := Prod.ext_iff.mp ‹_ = (_, _)›) | (obtain ⟨rfl, -⟩ := Prod.ext_iff.mp ‹_ = (_, _)›) | split | (with_reducible refine (foldl_owners _ _ (fun s x => ?_) _).trans ?_) | (simp only [*]; done) | dsimp only | (simp [*]; done)))); clear_value zz) | clear_value zz) | (obtain ⟨rfl, rfl⟩ := Prod.ext_iff.mp ‹_ = (_, _)›) | (obtain ⟨rfl, -⟩ := Prod.ext_iff.mp ‹_ = (_, _)›) | split | (with_reducible refine (foldl_owners _ _ (fun s x => ?_) _).trans ?_) | (simp only [*]; done) | (simp [*]; done)))
@[simp] theorem execEdpIrqHpd_owners (port : Fin 4) (lost : Bool) (s : State) : ∀ res, execEdpIrqHpd port lost s = .next res → res.owners = s.owners := by
  intro res h
  unfold execEdpIrqHpd at h
  repeat' (first | (have h := Host.Outcome.next.inj h; subst h; clear h) | (have h := Host.Outcome.next.inj h; subst h) | (simp only [reduceCtorEq] at h; done) | split at h | dsimp only at h | (cases h; done) | (obtain ⟨rfl⟩ := h))
  all_goals (repeat' (first | with_reducible rfl | with_reducible assumption | ((try lift_lets); intro zz; first | ((have hz : State.owners zz = State.owners s := by (dsimp only [zz]; repeat' (first | with_reducible rfl | with_reducible assumption | (obtain ⟨rfl, rfl⟩ := Prod.ext_iff.mp ‹_ = (_, _)›) | (obtain ⟨rfl, -⟩ := Prod.ext_iff.mp ‹_ = (_, _)›) | split | (with_reducible refine (foldl_owners _ _ (fun s x => ?_) _).trans ?_) | (simp only [*]; done) | dsimp only | (simp [*]; done)))); clear_value zz) | clear_value zz) | (obtain ⟨rfl, rfl⟩ := Prod.ext_iff.mp ‹_ = (_, _)›) | (obtain ⟨rfl, -⟩ := Prod.ext_iff.mp ‹_ = (_, _)›) | split | (with_reducible refine (foldl_owners _ _ (fun s x => ?_) _).trans ?_) | (simp only [*]; done) | (simp [*]; done)))
@[simp] theorem execEdpPanelLoss_owners (port : Fin 4) (s : State) : ∀ res, execEdpPanelLoss port s = .next res → res.owners = s.owners := by
  intro res h
  unfold execEdpPanelLoss at h
  repeat' (first | (have h := Host.Outcome.next.inj h; subst h; clear h) | (have h := Host.Outcome.next.inj h; subst h) | (simp only [reduceCtorEq] at h; done) | split at h | dsimp only at h | (cases h; done) | (obtain ⟨rfl⟩ := h))
  all_goals (repeat' (first | with_reducible rfl | with_reducible assumption | ((try lift_lets); intro zz; first | ((have hz : State.owners zz = State.owners s := by (dsimp only [zz]; repeat' (first | with_reducible rfl | with_reducible assumption | (obtain ⟨rfl, rfl⟩ := Prod.ext_iff.mp ‹_ = (_, _)›) | (obtain ⟨rfl, -⟩ := Prod.ext_iff.mp ‹_ = (_, _)›) | split | (with_reducible refine (foldl_owners _ _ (fun s x => ?_) _).trans ?_) | (simp only [*]; done) | dsimp only | (simp [*]; done)))); clear_value zz) | clear_value zz) | (obtain ⟨rfl, rfl⟩ := Prod.ext_iff.mp ‹_ = (_, _)›) | (obtain ⟨rfl, -⟩ := Prod.ext_iff.mp ‹_ = (_, _)›) | split | (with_reducible refine (foldl_owners _ _ (fun s x => ?_) _).trans ?_) | (simp only [*]; done) | (simp [*]; done)))
@[simp] theorem execEdpTrainingDone_owners (port : Fin 4) (good : Bool) (s : State) : ∀ res, execEdpTrainingDone port good s = .next res → res.owners = s.owners := by
  intro res h
  unfold execEdpTrainingDone at h
  repeat' (first | (have h := Host.Outcome.next.inj h; subst h; clear h) | (have h := Host.Outcome.next.inj h; subst h) | (simp only [reduceCtorEq] at h; done) | split at h | dsimp only at h | (cases h; done) | (obtain ⟨rfl⟩ := h))
  all_goals (repeat' (first | with_reducible rfl | with_reducible assumption | ((try lift_lets); intro zz; first | ((have hz : State.owners zz = State.owners s := by (dsimp only [zz]; repeat' (first | with_reducible rfl | with_reducible assumption | (obtain ⟨rfl, rfl⟩ := Prod.ext_iff.mp ‹_ = (_, _)›) | (obtain ⟨rfl, -⟩ := Prod.ext_iff.mp ‹_ = (_, _)›) | split | (with_reducible refine (foldl_owners _ _ (fun s x => ?_) _).trans ?_) | (simp only [*]; done) | dsimp only | (simp [*]; done)))); clear_value zz) | clear_value zz) | (obtain ⟨rfl, rfl⟩ := Prod.ext_iff.mp ‹_ = (_, _)›) | (obtain ⟨rfl, -⟩ := Prod.ext_iff.mp ‹_ = (_, _)›) | split | (with_reducible refine (foldl_owners _ _ (fun s x => ?_) _).trans ?_) | (simp only [*]; done) | (simp [*]; done)))
@[simp] theorem execEqualiserTrainingDone_owners (port : Fin 24) (s : State) : ∀ res, execEqualiserTrainingDone port s = .next res → res.owners = s.owners := by
  intro res h
  simp only [execEqualiserTrainingDone] at h
  split at h
  · have h := Host.Outcome.next.inj h; subst h
    have e := drawBytes_owners s 9
    generalize drawBytes s 9 = p at e ⊢
    split <;> simp [e]
  · have h := Host.Outcome.next.inj h; subst h; rfl
@[simp] theorem execEvtAck_owners (q : Req) (mask : List Byte) (s : State) : ∀ res, execEvtAck q mask s = .next res → res.owners = s.owners := by
  intro res h; simp only [execEvtAck] at h; cases h; simp
@[simp] theorem execEvtCfgWrite_owners (q : Req) (source : Byte) (value : Word) (s : State) : ∀ res, execEvtCfgWrite q source value s = .next res → res.owners = s.owners := by
  intro res h; simp only [execEvtCfgWrite] at h; cases h; simp
@[simp] theorem execEvtRead_owners (q : Req) (count : Byte) (s : State) : ∀ res, execEvtRead q count s = .next res → res.owners = s.owners := by
  intro res h; simp only [execEvtRead] at h; cases h; simp
@[simp] theorem execEyeScan_owners (q : Req) (port : Byte) (lane : Byte) (dwell : Byte) (s : State) : ∀ res, execEyeScan q port lane dwell s = .next res → res.owners = s.owners := by
  intro res h; simp only [execEyeScan] at h; cases h; simp
@[simp] theorem execEyeScanComplete_owners (port : Fin 24) (counts : List Byte) (s : State) : ∀ res, execEyeScanComplete port counts s = .next res → res.owners = s.owners := by
  intro res h
  unfold execEyeScanComplete at h
  repeat' (first | (have h := Host.Outcome.next.inj h; subst h; clear h) | (have h := Host.Outcome.next.inj h; subst h) | (simp only [reduceCtorEq] at h; done) | split at h | dsimp only at h | (cases h; done) | (obtain ⟨rfl⟩ := h))
  all_goals (repeat' (first | with_reducible rfl | with_reducible assumption | ((try lift_lets); intro zz; first | ((have hz : State.owners zz = State.owners s := by (dsimp only [zz]; repeat' (first | with_reducible rfl | with_reducible assumption | (obtain ⟨rfl, rfl⟩ := Prod.ext_iff.mp ‹_ = (_, _)›) | (obtain ⟨rfl, -⟩ := Prod.ext_iff.mp ‹_ = (_, _)›) | split | (with_reducible refine (foldl_owners _ _ (fun s x => ?_) _).trans ?_) | (simp only [*]; done) | dsimp only | (simp [*]; done)))); clear_value zz) | clear_value zz) | (obtain ⟨rfl, rfl⟩ := Prod.ext_iff.mp ‹_ = (_, _)›) | (obtain ⟨rfl, -⟩ := Prod.ext_iff.mp ‹_ = (_, _)›) | split | (with_reducible refine (foldl_owners _ _ (fun s x => ?_) _).trans ?_) | (simp only [*]; done) | (simp [*]; done)))
@[simp] theorem execFailoverForce_owners (q : Req) (s : State) : ∀ res, execFailoverForce q s = .next res → res.owners = s.owners := by
  intro res h; simp only [execFailoverForce] at h; cases h; simp
@[simp] theorem execFaultLogRead_owners (q : Req) (first : Half) (count : Half) (s : State) : ∀ res, execFaultLogRead q first count s = .next res → res.owners = s.owners := by
  intro res h; simp only [execFaultLogRead] at h; cases h; simp
@[simp] theorem execFenceSdp_owners (port : Fin 4) (hb1 : Byte) (data : List Byte) (s : State) : ∀ res, execFenceSdp port hb1 data s = .next res → res.owners = s.owners := by
  intro res h
  unfold execFenceSdp at h
  repeat' (first | (have h := Host.Outcome.next.inj h; subst h; clear h) | (have h := Host.Outcome.next.inj h; subst h) | (simp only [reduceCtorEq] at h; done) | split at h | dsimp only at h | (cases h; done) | (obtain ⟨rfl⟩ := h))
  all_goals (repeat' (first | with_reducible rfl | with_reducible assumption | ((try lift_lets); intro zz; first | ((have hz : State.owners zz = State.owners s := by (dsimp only [zz]; repeat' (first | with_reducible rfl | with_reducible assumption | (obtain ⟨rfl, rfl⟩ := Prod.ext_iff.mp ‹_ = (_, _)›) | (obtain ⟨rfl, -⟩ := Prod.ext_iff.mp ‹_ = (_, _)›) | split | (with_reducible refine (foldl_owners _ _ (fun s x => ?_) _).trans ?_) | (simp only [*]; done) | dsimp only | (simp [*]; done)))); clear_value zz) | clear_value zz) | (obtain ⟨rfl, rfl⟩ := Prod.ext_iff.mp ‹_ = (_, _)›) | (obtain ⟨rfl, -⟩ := Prod.ext_iff.mp ‹_ = (_, _)›) | split | (with_reducible refine (foldl_owners _ _ (fun s x => ?_) _).trans ?_) | (simp only [*]; done) | (simp [*]; done)))
@[simp] theorem execFenceSignal_owners (q : Req) (fence : Half) (s : State) : ∀ res, execFenceSignal q fence s = .next res → res.owners = s.owners := by
  intro res h; simp only [execFenceSignal] at h; cases h; simp
@[simp] theorem execFillComplete_owners (pipe : Fin 80) (s : State) : ∀ res, execFillComplete pipe s = .next res → res.owners = s.owners := by
  intro res h
  unfold execFillComplete at h
  repeat' (first | (have h := Host.Outcome.next.inj h; subst h; clear h) | (have h := Host.Outcome.next.inj h; subst h) | (simp only [reduceCtorEq] at h; done) | split at h | dsimp only at h | (cases h; done) | (obtain ⟨rfl⟩ := h))
  all_goals (repeat' (first | with_reducible rfl | with_reducible assumption | ((try lift_lets); intro zz; first | ((have hz : State.owners zz = State.owners s := by (dsimp only [zz]; repeat' (first | with_reducible rfl | with_reducible assumption | (obtain ⟨rfl, rfl⟩ := Prod.ext_iff.mp ‹_ = (_, _)›) | (obtain ⟨rfl, -⟩ := Prod.ext_iff.mp ‹_ = (_, _)›) | split | (with_reducible refine (foldl_owners _ _ (fun s x => ?_) _).trans ?_) | (simp only [*]; done) | dsimp only | (simp [*]; done)))); clear_value zz) | clear_value zz) | (obtain ⟨rfl, rfl⟩ := Prod.ext_iff.mp ‹_ = (_, _)›) | (obtain ⟨rfl, -⟩ := Prod.ext_iff.mp ‹_ = (_, _)›) | split | (with_reducible refine (foldl_owners _ _ (fun s x => ?_) _).trans ?_) | (simp only [*]; done) | (simp [*]; done)))
@[simp] theorem loadLinks_owners (s : State) (c : List Byte) : (loadLinks s c).owners = s.owners := by
  unfold loadLinks; repeat' (first | with_reducible rfl | (simp; done) | split | dsimp only)
@[simp] theorem loadOverlays_owners (s : State) : (loadOverlays s).owners = s.owners := by
  unfold loadOverlays
  repeat' (first | with_reducible rfl | with_reducible assumption | ((try lift_lets); intro zz; first | ((have hz : State.owners zz = State.owners s := by (dsimp only [zz]; repeat' (first | with_reducible rfl | with_reducible assumption | (obtain ⟨rfl, rfl⟩ := Prod.ext_iff.mp ‹_ = (_, _)›) | (obtain ⟨rfl, -⟩ := Prod.ext_iff.mp ‹_ = (_, _)›) | split | (with_reducible refine (foldl_owners _ _ (fun s x => ?_) _).trans ?_) | (simp only [*]; done) | dsimp only | (simp [*]; done)))); clear_value zz) | clear_value zz) | (obtain ⟨rfl, rfl⟩ := Prod.ext_iff.mp ‹_ = (_, _)›) | (obtain ⟨rfl, -⟩ := Prod.ext_iff.mp ‹_ = (_, _)›) | split | (with_reducible refine (foldl_owners _ _ (fun s x => ?_) _).trans ?_) | (simp only [*]; done) | (simp [*]; done))
@[simp] theorem loadPrs_owners (s : State) : (loadPrs s).owners = s.owners := by simp [loadPrs]
@[simp] theorem loadVitrine_owners (s : State) (c : List Byte) : (loadVitrine s c).owners = s.owners := by
  unfold loadVitrine; repeat' (first | with_reducible rfl | (simp; done) | split | dsimp only)
@[simp] theorem settleTie_owners (s : State) (region : ℕ) (ring : ℕ) (t : Option (ℕ × ℕ)) : (settleTie s region ring t).owners = s.owners := by
  unfold settleTie; repeat' (first | with_reducible rfl | (simp; done) | split | dsimp only)
@[simp] theorem recoverImages_owners (s : State) : (recoverImages s).owners = s.owners := by simp [recoverImages]
@[simp] theorem recoverRecord_owners (s : State) (r : ℕ) (body : List Byte) : (recoverRecord s r body).owners = s.owners := by
  unfold recoverRecord; repeat' (first | with_reducible rfl | (simp; done) | split | dsimp only)
@[simp] theorem recoverOpen_owners (s : State) : (recoverOpen s).owners = s.owners := by
  unfold recoverOpen
  split
  · rfl
  · rename_i e h
    generalize journalOf e.2 = j
    obtain ⟨op, phase, first, count, item⟩ := j
    dsimp only
    split
    · rfl
    · simp only [raise_owners, setLedger_owners, recoverRecord_owners]
      split
      · simp
      · split
        · split <;> simp
        · simp
@[simp] theorem noRecord_owners (s : State) (r : ℕ) : (noRecord s r).owners = s.owners := by simp [noRecord]
@[simp] theorem recoverRings_owners (s : State) : (recoverRings s).owners = s.owners := by simp [recoverRings]
@[simp] theorem recover_owners (s : State) : (recover s).owners = s.owners := by simp [recover]
@[simp] theorem execFlashLoadComplete_owners (copy0 : List Byte) (copy1 : List Byte) (s : State) : ∀ res, execFlashLoadComplete copy0 copy1 s = .next res → res.owners = s.owners := by
  intro res h
  unfold execFlashLoadComplete at h
  repeat' (first | (have h := Host.Outcome.next.inj h; subst h; clear h) | (have h := Host.Outcome.next.inj h; subst h) | (simp only [reduceCtorEq] at h; done) | split at h | dsimp only at h | (cases h; done) | (obtain ⟨rfl⟩ := h))
  all_goals (repeat' (first | with_reducible rfl | with_reducible assumption | ((try lift_lets); intro zz; first | ((have hz : State.owners zz = State.owners s := by (dsimp only [zz]; repeat' (first | with_reducible rfl | with_reducible assumption | (obtain ⟨rfl, rfl⟩ := Prod.ext_iff.mp ‹_ = (_, _)›) | (obtain ⟨rfl, -⟩ := Prod.ext_iff.mp ‹_ = (_, _)›) | split | (with_reducible refine (foldl_owners _ _ (fun s x => ?_) _).trans ?_) | (simp only [*]; done) | dsimp only | (simp [*]; done)))); clear_value zz) | clear_value zz) | (obtain ⟨rfl, rfl⟩ := Prod.ext_iff.mp ‹_ = (_, _)›) | (obtain ⟨rfl, -⟩ := Prod.ext_iff.mp ‹_ = (_, _)›) | split | (with_reducible refine (foldl_owners _ _ (fun s x => ?_) _).trans ?_) | (simp only [*]; done) | (simp [*]; done)))
@[simp] theorem execFlashLoadRetry_owners (s : State) : ∀ res, execFlashLoadRetry s = .next res → res.owners = s.owners := by
  intro res h
  unfold execFlashLoadRetry at h
  repeat' (first | (have h := Host.Outcome.next.inj h; subst h; clear h) | (have h := Host.Outcome.next.inj h; subst h) | (simp only [reduceCtorEq] at h; done) | split at h | dsimp only at h | (cases h; done) | (obtain ⟨rfl⟩ := h))
  all_goals (repeat' (first | with_reducible rfl | with_reducible assumption | ((try lift_lets); intro zz; first | ((have hz : State.owners zz = State.owners s := by (dsimp only [zz]; repeat' (first | with_reducible rfl | with_reducible assumption | (obtain ⟨rfl, rfl⟩ := Prod.ext_iff.mp ‹_ = (_, _)›) | (obtain ⟨rfl, -⟩ := Prod.ext_iff.mp ‹_ = (_, _)›) | split | (with_reducible refine (foldl_owners _ _ (fun s x => ?_) _).trans ?_) | (simp only [*]; done) | dsimp only | (simp [*]; done)))); clear_value zz) | clear_value zz) | (obtain ⟨rfl, rfl⟩ := Prod.ext_iff.mp ‹_ = (_, _)›) | (obtain ⟨rfl, -⟩ := Prod.ext_iff.mp ‹_ = (_, _)›) | split | (with_reducible refine (foldl_owners _ _ (fun s x => ?_) _).trans ?_) | (simp only [*]; done) | (simp [*]; done)))
@[simp] theorem execFlip_owners (q : Req) (layer : UnitRef) (fence : Half) (surf : W64) (s : State) : ∀ res, execFlip q layer fence surf s = .next res → res.owners = s.owners := by
  intro res h; simp only [execFlip] at h; cases h; simp
@[simp] theorem execFsyncPulse_owners (n : Fin 8) (high : Bool) (s : State) : ∀ res, execFsyncPulse n high s = .next res → res.owners = s.owners := by
  intro res h
  unfold execFsyncPulse at h
  repeat' (first | (have h := Host.Outcome.next.inj h; subst h; clear h) | (have h := Host.Outcome.next.inj h; subst h) | (simp only [reduceCtorEq] at h; done) | split at h | dsimp only at h | (cases h; done) | (obtain ⟨rfl⟩ := h))
  all_goals (repeat' (first | with_reducible rfl | with_reducible assumption | ((try lift_lets); intro zz; first | ((have hz : State.owners zz = State.owners s := by (dsimp only [zz]; repeat' (first | with_reducible rfl | with_reducible assumption | (obtain ⟨rfl, rfl⟩ := Prod.ext_iff.mp ‹_ = (_, _)›) | (obtain ⟨rfl, -⟩ := Prod.ext_iff.mp ‹_ = (_, _)›) | split | (with_reducible refine (foldl_owners _ _ (fun s x => ?_) _).trans ?_) | (simp only [*]; done) | dsimp only | (simp [*]; done)))); clear_value zz) | clear_value zz) | (obtain ⟨rfl, rfl⟩ := Prod.ext_iff.mp ‹_ = (_, _)›) | (obtain ⟨rfl, -⟩ := Prod.ext_iff.mp ‹_ = (_, _)›) | split | (with_reducible refine (foldl_owners _ _ (fun s x => ?_) _).trans ?_) | (simp only [*]; done) | (simp [*]; done)))
@[simp] theorem execFsyncRealign_owners (q : Req) (mask : Byte) (s : State) : ∀ res, execFsyncRealign q mask s = .next res → res.owners = s.owners := by
  intro res h; simp only [execFsyncRealign] at h; cases h; simp
@[simp] theorem fillOutputs_owners (s : State) (w : Wing) : (fillOutputs s w).owners = s.owners := by simp [fillOutputs]
@[simp] theorem noTakeover_owners (s : State) (w : Wing) (cause : ℕ) (why : ℕ) : (noTakeover s w cause why).owners = s.owners := by simp [noTakeover]
@[simp] theorem giveUp_owners (s : State) (w : Wing) (cause : ℕ) (both : Bool) : (giveUp s w cause both).owners = s.owners := by simp [giveUp]
@[simp] theorem execGiveUp_owners (w : Wing) (both : Bool) (s : State) : ∀ res, execGiveUp w both s = .next res → res.owners = s.owners := by
  intro res h
  unfold execGiveUp at h
  repeat' (first | (have h := Host.Outcome.next.inj h; subst h; clear h) | (have h := Host.Outcome.next.inj h; subst h) | (simp only [reduceCtorEq] at h; done) | split at h | dsimp only at h | (cases h; done) | (obtain ⟨rfl⟩ := h))
  all_goals (repeat' (first | with_reducible rfl | with_reducible assumption | ((try lift_lets); intro zz; first | ((have hz : State.owners zz = State.owners s := by (dsimp only [zz]; repeat' (first | with_reducible rfl | with_reducible assumption | (obtain ⟨rfl, rfl⟩ := Prod.ext_iff.mp ‹_ = (_, _)›) | (obtain ⟨rfl, -⟩ := Prod.ext_iff.mp ‹_ = (_, _)›) | split | (with_reducible refine (foldl_owners _ _ (fun s x => ?_) _).trans ?_) | (simp only [*]; done) | dsimp only | (simp [*]; done)))); clear_value zz) | clear_value zz) | (obtain ⟨rfl, rfl⟩ := Prod.ext_iff.mp ‹_ = (_, _)›) | (obtain ⟨rfl, -⟩ := Prod.ext_iff.mp ‹_ = (_, _)›) | split | (with_reducible refine (foldl_owners _ _ (fun s x => ?_) _).trans ?_) | (simp only [*]; done) | (simp [*]; done)))
@[simp] theorem execGroupFlip_owners (q : Req) (fence : Half) (entries : List FlipEntry) (s : State) : ∀ res, execGroupFlip q fence entries s = .next res → res.owners = s.owners := by
  intro res h; simp only [execGroupFlip] at h; cases h; simp
@[simp] theorem execHealthReport_owners (q : Req) (wing : Byte) (s : State) : ∀ res, execHealthReport q wing s = .next res → res.owners = s.owners := by
  intro res h; simp only [execHealthReport] at h; cases h; simp
@[simp] theorem execHeartbeatSend_owners (port : Fin 24) (s : State) : ∀ res, execHeartbeatSend port s = .next res → res.owners = s.owners := by
  intro res h
  unfold execHeartbeatSend at h
  repeat' (first | (have h := Host.Outcome.next.inj h; subst h; clear h) | (have h := Host.Outcome.next.inj h; subst h) | (simp only [reduceCtorEq] at h; done) | split at h | dsimp only at h | (cases h; done) | (obtain ⟨rfl⟩ := h))
  all_goals (repeat' (first | with_reducible rfl | with_reducible assumption | ((try lift_lets); intro zz; first | ((have hz : State.owners zz = State.owners s := by (dsimp only [zz]; repeat' (first | with_reducible rfl | with_reducible assumption | (obtain ⟨rfl, rfl⟩ := Prod.ext_iff.mp ‹_ = (_, _)›) | (obtain ⟨rfl, -⟩ := Prod.ext_iff.mp ‹_ = (_, _)›) | split | (with_reducible refine (foldl_owners _ _ (fun s x => ?_) _).trans ?_) | (simp only [*]; done) | dsimp only | (simp [*]; done)))); clear_value zz) | clear_value zz) | (obtain ⟨rfl, rfl⟩ := Prod.ext_iff.mp ‹_ = (_, _)›) | (obtain ⟨rfl, -⟩ := Prod.ext_iff.mp ‹_ = (_, _)›) | split | (with_reducible refine (foldl_owners _ _ (fun s x => ?_) _).trans ?_) | (simp only [*]; done) | (simp [*]; done)))
@[simp] theorem heartbeatLost_owners (s : State) (n : ℕ) : (heartbeatLost s n).owners = s.owners := by simp [heartbeatLost]
@[simp] theorem execHeartbeatTimeout_owners (port : Fin 24) (s : State) : ∀ res, execHeartbeatTimeout port s = .next res → res.owners = s.owners := by
  intro res h
  unfold execHeartbeatTimeout at h
  repeat' (first | (have h := Host.Outcome.next.inj h; subst h; clear h) | (have h := Host.Outcome.next.inj h; subst h) | (simp only [reduceCtorEq] at h; done) | split at h | dsimp only at h | (cases h; done) | (obtain ⟨rfl⟩ := h))
  all_goals (repeat' (first | with_reducible rfl | with_reducible assumption | ((try lift_lets); intro zz; first | ((have hz : State.owners zz = State.owners s := by (dsimp only [zz]; repeat' (first | with_reducible rfl | with_reducible assumption | (obtain ⟨rfl, rfl⟩ := Prod.ext_iff.mp ‹_ = (_, _)›) | (obtain ⟨rfl, -⟩ := Prod.ext_iff.mp ‹_ = (_, _)›) | split | (with_reducible refine (foldl_owners _ _ (fun s x => ?_) _).trans ?_) | (simp only [*]; done) | dsimp only | (simp [*]; done)))); clear_value zz) | clear_value zz) | (obtain ⟨rfl, rfl⟩ := Prod.ext_iff.mp ‹_ = (_, _)›) | (obtain ⟨rfl, -⟩ := Prod.ext_iff.mp ‹_ = (_, _)›) | split | (with_reducible refine (foldl_owners _ _ (fun s x => ?_) _).trans ?_) | (simp only [*]; done) | (simp [*]; done)))
@[simp] theorem execHoldoverIntervalRecord_owners (avg : ℤ) (s : State) : ∀ res, execHoldoverIntervalRecord avg s = .next res → res.owners = s.owners := by
  intro res h
  unfold execHoldoverIntervalRecord at h
  repeat' (first | (have h := Host.Outcome.next.inj h; subst h; clear h) | (have h := Host.Outcome.next.inj h; subst h) | (simp only [reduceCtorEq] at h; done) | split at h | dsimp only at h | (cases h; done) | (obtain ⟨rfl⟩ := h))
  all_goals (repeat' (first | with_reducible rfl | with_reducible assumption | ((try lift_lets); intro zz; first | ((have hz : State.owners zz = State.owners s := by (dsimp only [zz]; repeat' (first | with_reducible rfl | with_reducible assumption | (obtain ⟨rfl, rfl⟩ := Prod.ext_iff.mp ‹_ = (_, _)›) | (obtain ⟨rfl, -⟩ := Prod.ext_iff.mp ‹_ = (_, _)›) | split | (with_reducible refine (foldl_owners _ _ (fun s x => ?_) _).trans ?_) | (simp only [*]; done) | dsimp only | (simp [*]; done)))); clear_value zz) | clear_value zz) | (obtain ⟨rfl, rfl⟩ := Prod.ext_iff.mp ‹_ = (_, _)›) | (obtain ⟨rfl, -⟩ := Prod.ext_iff.mp ‹_ = (_, _)›) | split | (with_reducible refine (foldl_owners _ _ (fun s x => ?_) _).trans ?_) | (simp only [*]; done) | (simp [*]; done)))
@[simp] theorem execIdentify_owners (q : Req) (s : State) : ∀ res, execIdentify q s = .next res → res.owners = s.owners := by
  intro res h; simp only [execIdentify] at h; cases h; simp
@[simp] theorem execImageClose_owners (q : Req) (action : Byte) (s : State) : ∀ res, execImageClose q action s = .next res → res.owners = s.owners := by
  intro res h; simp only [execImageClose] at h; cases h; simp
@[simp] theorem execImageCloseComplete_owners (s : State) : ∀ res, execImageCloseComplete s = .next res → res.owners = s.owners := by
  intro res h
  unfold execImageCloseComplete at h
  repeat' (first | (have h := Host.Outcome.next.inj h; subst h; clear h) | (have h := Host.Outcome.next.inj h; subst h) | (simp only [reduceCtorEq] at h; done) | split at h | dsimp only at h | (cases h; done) | (obtain ⟨rfl⟩ := h))
  all_goals (repeat' (first | with_reducible rfl | with_reducible assumption | ((try lift_lets); intro zz; first | ((have hz : State.owners zz = State.owners s := by (dsimp only [zz]; repeat' (first | with_reducible rfl | with_reducible assumption | (obtain ⟨rfl, rfl⟩ := Prod.ext_iff.mp ‹_ = (_, _)›) | (obtain ⟨rfl, -⟩ := Prod.ext_iff.mp ‹_ = (_, _)›) | split | (with_reducible refine (foldl_owners _ _ (fun s x => ?_) _).trans ?_) | (simp only [*]; done) | dsimp only | (simp [*]; done)))); clear_value zz) | clear_value zz) | (obtain ⟨rfl, rfl⟩ := Prod.ext_iff.mp ‹_ = (_, _)›) | (obtain ⟨rfl, -⟩ := Prod.ext_iff.mp ‹_ = (_, _)›) | split | (with_reducible refine (foldl_owners _ _ (fun s x => ?_) _).trans ?_) | (simp only [*]; done) | (simp [*]; done)))
@[simp] theorem execImageData_owners (q : Req) (offset : Word) (data : List Byte) (s : State) : ∀ res, execImageData q offset data s = .next res → res.owners = s.owners := by
  intro res h; simp only [execImageData] at h; cases h; simp
@[simp] theorem execImageOpen_owners (q : Req) (kind : Byte) (mode : Byte) (total : Word) (s : State) : ∀ res, execImageOpen q kind mode total s = .next res → res.owners = s.owners := by
  intro res h; simp only [execImageOpen] at h; cases h; simp
@[simp] theorem execImageStatus_owners (q : Req) (s : State) : ∀ res, execImageStatus q s = .next res → res.owners = s.owners := by
  intro res h; simp only [execImageStatus] at h; cases h; simp
@[simp] theorem jobCompare_owners (s : State) (w : Wing) (o : ℕ) (row : ℕ) (col : ℕ) (g1 : ℕ) (g2 : ℕ) (agree : Bool) (rerun : Option Bool) : (jobCompare s w o row col g1 g2 agree rerun).owners = s.owners := by
  unfold jobCompare; repeat' (first | with_reducible rfl | (simp; done) | split | dsimp only)
@[simp] theorem jobComplete_owners (s : State) (w : Wing) (o : ℕ) (row : ℕ) (col : ℕ) (agree : Bool) (rerun : Option Bool) (fails : List (ℕ × ℕ × Bool)) : (jobComplete s w o row col agree rerun fails).owners = s.owners := by
  simp [jobComplete]
@[simp] theorem execJobComplete_owners (w : Wing) (o : Fin 20) (row : ℕ) (col : ℕ) (fails lost : List (ℕ × ℕ)) (agree : Bool) (rerun : Option Bool) (s : State) : ∀ res, execJobComplete w o row col fails lost agree rerun s = .next res → res.owners = s.owners := by
  intro res h; simp only [execJobComplete] at h; cases h; simp
@[simp] theorem jobMiss_owners (s : State) (w : Wing) (o : ℕ) (row : ℕ) (col : ℕ) (late : Option ℕ) : (jobMiss s w o row col late).owners = s.owners := by
  unfold jobMiss; repeat' (first | with_reducible rfl | (simp; done) | split | dsimp only)
@[simp] theorem execJobDeadlineMiss_owners (w : Wing) (o : Fin 20) (row : ℕ) (col : ℕ) (late : Option (Fin 2)) (s : State) : ∀ res, execJobDeadlineMiss w o row col late s = .next res → res.owners = s.owners := by
  intro res h; simp only [execJobDeadlineMiss] at h; cases h; simp
@[simp] theorem launchOne_owners (s : State) (e : ℕ) (x : SchedEntry) (d : Due) (rej : Option Rej) (h : d.op.KeepsOwners) :
    (launchOne s e x d rej).owners = s.owners := by
  unfold launchOne
  dsimp only
  have h0 : (if x.late = 0 then s else lateLaunch s e d.q x.late).owners = s.owners := by split <;> simp
  generalize (if x.late = 0 then s else lateLaunch s e d.q x.late) = s0 at h0 ⊢
  split
  · simp [h.failed, h.refused, h0]
  · repeat' (first | (simp [h, h0]; done) | split)
@[simp] theorem execLdgMaint_owners (q : Req) (action : Byte) (region : Byte) (page : Half) (s : State) : ∀ res, execLdgMaint q action region page s = .next res → res.owners = s.owners := by
  intro res h; simp only [execLdgMaint] at h; cases h; simp
@[simp] theorem execLdgMaintComplete_owners (s : State) : ∀ res, execLdgMaintComplete s = .next res → res.owners = s.owners := by
  intro res h
  unfold execLdgMaintComplete at h
  repeat' (first | (have h := Host.Outcome.next.inj h; subst h; clear h) | (have h := Host.Outcome.next.inj h; subst h) | (simp only [reduceCtorEq] at h; done) | split at h | dsimp only at h | (cases h; done) | (obtain ⟨rfl⟩ := h))
  all_goals (repeat' (first | with_reducible rfl | with_reducible assumption | ((try lift_lets); intro zz; first | ((have hz : State.owners zz = State.owners s := by (dsimp only [zz]; repeat' (first | with_reducible rfl | with_reducible assumption | (obtain ⟨rfl, rfl⟩ := Prod.ext_iff.mp ‹_ = (_, _)›) | (obtain ⟨rfl, -⟩ := Prod.ext_iff.mp ‹_ = (_, _)›) | split | (with_reducible refine (foldl_owners _ _ (fun s x => ?_) _).trans ?_) | (simp only [*]; done) | dsimp only | (simp [*]; done)))); clear_value zz) | clear_value zz) | (obtain ⟨rfl, rfl⟩ := Prod.ext_iff.mp ‹_ = (_, _)›) | (obtain ⟨rfl, -⟩ := Prod.ext_iff.mp ‹_ = (_, _)›) | split | (with_reducible refine (foldl_owners _ _ (fun s x => ?_) _).trans ?_) | (simp only [*]; done) | (simp [*]; done)))
@[simp] theorem programmed_owners (s : State) (r : LdgRun) (bad : List ℕ) : (programmed s r bad).owners = s.owners := by simp [programmed]
@[simp] theorem retireSlots_owners (s : State) (r : ℕ) (failed : List ℕ) : (retireSlots s r failed).owners = s.owners := by simp [retireSlots]
@[simp] theorem wearOut_owners (s : State) (p : ℕ) : (wearOut s p).owners = s.owners := by simp [wearOut]
@[simp] theorem programEnd_owners (s : State) (r : LdgRun) (failed : List ℕ) : (programEnd s r failed).owners = s.owners := by
  unfold programEnd; repeat' (first | with_reducible rfl | (simp; done) | split | dsimp only)
@[simp] theorem execLdgProgramComplete_owners (failed : List ℕ) (s : State) : ∀ res, execLdgProgramComplete failed s = .next res → res.owners = s.owners := by
  intro res h
  unfold execLdgProgramComplete at h
  repeat' (first | (have h := Host.Outcome.next.inj h; subst h; clear h) | (have h := Host.Outcome.next.inj h; subst h) | (simp only [reduceCtorEq] at h; done) | split at h | dsimp only at h | (cases h; done) | (obtain ⟨rfl⟩ := h))
  all_goals (repeat' (first | with_reducible rfl | with_reducible assumption | ((try lift_lets); intro zz; first | ((have hz : State.owners zz = State.owners s := by (dsimp only [zz]; repeat' (first | with_reducible rfl | with_reducible assumption | (obtain ⟨rfl, rfl⟩ := Prod.ext_iff.mp ‹_ = (_, _)›) | (obtain ⟨rfl, -⟩ := Prod.ext_iff.mp ‹_ = (_, _)›) | split | (with_reducible refine (foldl_owners _ _ (fun s x => ?_) _).trans ?_) | (simp only [*]; done) | dsimp only | (simp [*]; done)))); clear_value zz) | clear_value zz) | (obtain ⟨rfl, rfl⟩ := Prod.ext_iff.mp ‹_ = (_, _)›) | (obtain ⟨rfl, -⟩ := Prod.ext_iff.mp ‹_ = (_, _)›) | split | (with_reducible refine (foldl_owners _ _ (fun s x => ?_) _).trans ?_) | (simp only [*]; done) | (simp [*]; done)))
@[simp] theorem execLdgRead_owners (q : Req) (page : Half) (offset : Byte) (count : Half) (s : State) : ∀ res, execLdgRead q page offset count s = .next res → res.owners = s.owners := by
  intro res h; simp only [execLdgRead] at h; cases h; simp
@[simp] theorem execLdgWear_owners (q : Req) (first : Half) (count : Half) (s : State) : ∀ res, execLdgWear q first count s = .next res → res.owners = s.owners := by
  intro res h; simp only [execLdgWear] at h; cases h; simp
@[simp] theorem execLdgWrite_owners (q : Req) (page : Half) (offset : Byte) (data : List Byte) (s : State) : ∀ res, execLdgWrite q page offset data s = .next res → res.owners = s.owners := by
  intro res h; simp only [execLdgWrite] at h; cases h; simp
@[simp] theorem execLinkDown_owners (q : Req) (port : Byte) (force : Bool) (s : State) : ∀ res, execLinkDown q port force s = .next res → res.owners = s.owners := by
  intro res h; simp only [execLinkDown] at h; cases h; simp
@[simp] theorem execLinkLoop_owners (q : Req) (port : Byte) (loop : Byte) (pair : Byte) (s : State) : ∀ res, execLinkLoop q port loop pair s = .next res → res.owners = s.owners := by
  intro res h; simp only [execLinkLoop] at h; cases h; simp
@[simp] theorem execLinkPower_owners (q : Req) (port : Byte) (dir : Byte) (state : Byte) (s : State) : ∀ res, execLinkPower q port dir state s = .next res → res.owners = s.owners := by
  intro res h; simp only [execLinkPower] at h; cases h; simp
@[simp] theorem execLinkStatus_owners (q : Req) (port : Byte) (s : State) : ∀ res, execLinkStatus q port s = .next res → res.owners = s.owners := by
  intro res h; simp only [execLinkStatus] at h; cases h; simp
@[simp] theorem execLinkUp_owners (q : Req) (port : Byte) (role : Byte) (step : Byte) (code : Byte) (s : State) : ∀ res, execLinkUp q port role step code s = .next res → res.owners = s.owners := by
  intro res h; simp only [execLinkUp] at h; cases h; simp
@[simp] theorem steerWord_owners (s : State) (syn : ℕ) (w : ℤ) : (steerWord s syn w).owners = s.owners := by simp [steerWord]
@[simp] theorem lockPoint_owners (s : State) (n : ℕ) (e : ℤ) : (lockPoint s n e).owners = s.owners := by
  unfold lockPoint
  repeat' (first | with_reducible rfl | with_reducible assumption | ((try lift_lets); intro zz; first | ((have hz : State.owners zz = State.owners s := by (dsimp only [zz]; repeat' (first | with_reducible rfl | with_reducible assumption | (obtain ⟨rfl, rfl⟩ := Prod.ext_iff.mp ‹_ = (_, _)›) | (obtain ⟨rfl, -⟩ := Prod.ext_iff.mp ‹_ = (_, _)›) | split | (with_reducible refine (foldl_owners _ _ (fun s x => ?_) _).trans ?_) | (simp only [*]; done) | dsimp only | (simp [*]; done)))); clear_value zz) | clear_value zz) | (obtain ⟨rfl, rfl⟩ := Prod.ext_iff.mp ‹_ = (_, _)›) | (obtain ⟨rfl, -⟩ := Prod.ext_iff.mp ‹_ = (_, _)›) | split | (with_reducible refine (foldl_owners _ _ (fun s x => ?_) _).trans ?_) | (simp only [*]; done) | (simp [*]; done))
@[simp] theorem execLockPoint_owners (o : Fin 20) (phase : Int) (s : State) : ∀ res, execLockPoint o phase s = .next res → res.owners = s.owners := by
  intro res h
  unfold execLockPoint at h
  repeat' (first | (have h := Host.Outcome.next.inj h; subst h; clear h) | (have h := Host.Outcome.next.inj h; subst h) | (simp only [reduceCtorEq] at h; done) | split at h | dsimp only at h | (cases h; done) | (obtain ⟨rfl⟩ := h))
  all_goals (repeat' (first | with_reducible rfl | with_reducible assumption | ((try lift_lets); intro zz; first | ((have hz : State.owners zz = State.owners s := by (dsimp only [zz]; repeat' (first | with_reducible rfl | with_reducible assumption | (obtain ⟨rfl, rfl⟩ := Prod.ext_iff.mp ‹_ = (_, _)›) | (obtain ⟨rfl, -⟩ := Prod.ext_iff.mp ‹_ = (_, _)›) | split | (with_reducible refine (foldl_owners _ _ (fun s x => ?_) _).trans ?_) | (simp only [*]; done) | dsimp only | (simp [*]; done)))); clear_value zz) | clear_value zz) | (obtain ⟨rfl, rfl⟩ := Prod.ext_iff.mp ‹_ = (_, _)›) | (obtain ⟨rfl, -⟩ := Prod.ext_iff.mp ‹_ = (_, _)›) | split | (with_reducible refine (foldl_owners _ _ (fun s x => ?_) _).trans ?_) | (simp only [*]; done) | (simp [*]; done)))
@[simp] theorem setPair_owners (s : State) (mgmt : Bool) (p : Pair) : (setPair s mgmt p).owners = s.owners := by simp [setPair]
@[simp] theorem execMarker_owners (port : Fin 24) (_lane : Fin 2) (count : Word) (corrected : ℕ) (uncorrectable : ℕ) (s : State) : ∀ res, execMarker port _lane count corrected uncorrectable s = .next res → res.owners = s.owners := by
  intro res h
  unfold execMarker at h
  repeat' (first | (have h := Host.Outcome.next.inj h; subst h; clear h) | (have h := Host.Outcome.next.inj h; subst h) | (simp only [reduceCtorEq] at h; done) | split at h | dsimp only at h | (cases h; done) | (obtain ⟨rfl⟩ := h))
  all_goals (repeat' (first | with_reducible rfl | with_reducible assumption | ((try lift_lets); intro zz; first | ((have hz : State.owners zz = State.owners s := by (dsimp only [zz]; repeat' (first | with_reducible rfl | with_reducible assumption | (obtain ⟨rfl, rfl⟩ := Prod.ext_iff.mp ‹_ = (_, _)›) | (obtain ⟨rfl, -⟩ := Prod.ext_iff.mp ‹_ = (_, _)›) | split | (with_reducible refine (foldl_owners _ _ (fun s x => ?_) _).trans ?_) | (simp only [*]; done) | dsimp only | (simp [*]; done)))); clear_value zz) | clear_value zz) | (obtain ⟨rfl, rfl⟩ := Prod.ext_iff.mp ‹_ = (_, _)›) | (obtain ⟨rfl, -⟩ := Prod.ext_iff.mp ‹_ = (_, _)›) | split | (with_reducible refine (foldl_owners _ _ (fun s x => ?_) _).trans ?_) | (simp only [*]; done) | (simp [*]; done)))
@[simp] theorem execMeasurementComplete_owners (readings : List (Option Half)) (s : State) : ∀ res, execMeasurementComplete readings s = .next res → res.owners = s.owners := by
  intro res h
  unfold execMeasurementComplete at h
  repeat' (first | (have h := Host.Outcome.next.inj h; subst h; clear h) | (have h := Host.Outcome.next.inj h; subst h) | (simp only [reduceCtorEq] at h; done) | split at h | dsimp only at h | (cases h; done) | (obtain ⟨rfl⟩ := h))
  all_goals (repeat' (first | with_reducible rfl | with_reducible assumption | ((try lift_lets); intro zz; first | ((have hz : State.owners zz = State.owners s := by (dsimp only [zz]; repeat' (first | with_reducible rfl | with_reducible assumption | (obtain ⟨rfl, rfl⟩ := Prod.ext_iff.mp ‹_ = (_, _)›) | (obtain ⟨rfl, -⟩ := Prod.ext_iff.mp ‹_ = (_, _)›) | split | (with_reducible refine (foldl_owners _ _ (fun s x => ?_) _).trans ?_) | (simp only [*]; done) | dsimp only | (simp [*]; done)))); clear_value zz) | clear_value zz) | (obtain ⟨rfl, rfl⟩ := Prod.ext_iff.mp ‹_ = (_, _)›) | (obtain ⟨rfl, -⟩ := Prod.ext_iff.mp ‹_ = (_, _)›) | split | (with_reducible refine (foldl_owners _ _ (fun s x => ?_) _).trans ?_) | (simp only [*]; done) | (simp [*]; done)))
@[simp] theorem memFailed_owners (s : State) (w : Wing) : (memFailed s w).owners = s.owners := by simp [memFailed]
@[simp] theorem execMemoryTrainingComplete_owners (port : Fin 4) (trained : Bool) (gib : ℕ) (s : State) : ∀ res, execMemoryTrainingComplete port trained gib s = .next res → res.owners = s.owners := by
  intro res h
  unfold execMemoryTrainingComplete at h
  repeat' (first | (have h := Host.Outcome.next.inj h; subst h; clear h) | (have h := Host.Outcome.next.inj h; subst h) | (simp only [reduceCtorEq] at h; done) | split at h | dsimp only at h | (cases h; done) | (obtain ⟨rfl⟩ := h))
  all_goals (repeat' (first | with_reducible rfl | with_reducible assumption | ((try lift_lets); intro zz; first | ((have hz : State.owners zz = State.owners s := by (dsimp only [zz]; repeat' (first | with_reducible rfl | with_reducible assumption | (obtain ⟨rfl, rfl⟩ := Prod.ext_iff.mp ‹_ = (_, _)›) | (obtain ⟨rfl, -⟩ := Prod.ext_iff.mp ‹_ = (_, _)›) | split | (with_reducible refine (foldl_owners _ _ (fun s x => ?_) _).trans ?_) | (simp only [*]; done) | dsimp only | (simp [*]; done)))); clear_value zz) | clear_value zz) | (obtain ⟨rfl, rfl⟩ := Prod.ext_iff.mp ‹_ = (_, _)›) | (obtain ⟨rfl, -⟩ := Prod.ext_iff.mp ‹_ = (_, _)›) | split | (with_reducible refine (foldl_owners _ _ (fun s x => ?_) _).trans ?_) | (simp only [*]; done) | (simp [*]; done)))
@[simp] theorem execMeshCommit_owners (q : Req) (meshes : List UnitRef) (s : State) : ∀ res, execMeshCommit q meshes s = .next res → res.owners = s.owners := by
  intro res h; simp only [execMeshCommit] at h; cases h; simp
@[simp] theorem execMeshData_owners (q : Req) (mesh : UnitRef) (first : Word) (entries : List Word) (s : State) : ∀ res, execMeshData q mesh first entries s = .next res → res.owners = s.owners := by
  intro res h; simp only [execMeshData] at h; cases h; simp
@[simp] theorem execMeshFromCapture_owners (q : Req) (mesh : UnitRef) (pipe : UnitRef) (first : Word) (count : Word) (every : Bool) (commit : Bool) (s : State) : ∀ res, execMeshFromCapture q mesh pipe first count every commit s = .next res → res.owners = s.owners := by
  intro res h; simp only [execMeshFromCapture] at h; cases h; simp
@[simp] theorem execModeCancel_owners (q : Req) (s : State) : ∀ res, execModeCancel q s = .next res → res.owners = s.owners := by
  intro res h; simp only [execModeCancel] at h; cases h; simp
@[simp] theorem execModeChange_owners (q : Req) (target : Byte) (trigger : Byte) (output : Byte) (s : State) : ∀ res, execModeChange q target trigger output s = .next res → res.owners = s.owners := by
  intro res h; simp only [execModeChange] at h; cases h; simp
@[simp] theorem execModeWakeWaitEnd_owners (s : State) : ∀ res, execModeWakeWaitEnd s = .next res → res.owners = s.owners := by
  intro res h
  unfold execModeWakeWaitEnd at h
  repeat' (first | (have h := Host.Outcome.next.inj h; subst h; clear h) | (have h := Host.Outcome.next.inj h; subst h) | (simp only [reduceCtorEq] at h; done) | split at h | dsimp only at h | (cases h; done) | (obtain ⟨rfl⟩ := h))
  all_goals (repeat' (first | with_reducible rfl | with_reducible assumption | ((try lift_lets); intro zz; first | ((have hz : State.owners zz = State.owners s := by (dsimp only [zz]; repeat' (first | with_reducible rfl | with_reducible assumption | (obtain ⟨rfl, rfl⟩ := Prod.ext_iff.mp ‹_ = (_, _)›) | (obtain ⟨rfl, -⟩ := Prod.ext_iff.mp ‹_ = (_, _)›) | split | (with_reducible refine (foldl_owners _ _ (fun s x => ?_) _).trans ?_) | (simp only [*]; done) | dsimp only | (simp [*]; done)))); clear_value zz) | clear_value zz) | (obtain ⟨rfl, rfl⟩ := Prod.ext_iff.mp ‹_ = (_, _)›) | (obtain ⟨rfl, -⟩ := Prod.ext_iff.mp ‹_ = (_, _)›) | split | (with_reducible refine (foldl_owners _ _ (fun s x => ?_) _).trans ?_) | (simp only [*]; done) | (simp [*]; done)))
@[simp] theorem execMr4RefreshPoll_owners (port : Fin 4) (code : Byte) (hot : Bool) (s : State) : ∀ res, execMr4RefreshPoll port code hot s = .next res → res.owners = s.owners := by
  intro res h
  unfold execMr4RefreshPoll at h
  repeat' (first | (have h := Host.Outcome.next.inj h; subst h; clear h) | (have h := Host.Outcome.next.inj h; subst h) | (simp only [reduceCtorEq] at h; done) | split at h | dsimp only at h | (cases h; done) | (obtain ⟨rfl⟩ := h))
  all_goals (repeat' (first | with_reducible rfl | with_reducible assumption | ((try lift_lets); intro zz; first | ((have hz : State.owners zz = State.owners s := by (dsimp only [zz]; repeat' (first | with_reducible rfl | with_reducible assumption | (obtain ⟨rfl, rfl⟩ := Prod.ext_iff.mp ‹_ = (_, _)›) | (obtain ⟨rfl, -⟩ := Prod.ext_iff.mp ‹_ = (_, _)›) | split | (with_reducible refine (foldl_owners _ _ (fun s x => ?_) _).trans ?_) | (simp only [*]; done) | dsimp only | (simp [*]; done)))); clear_value zz) | clear_value zz) | (obtain ⟨rfl, rfl⟩ := Prod.ext_iff.mp ‹_ = (_, _)›) | (obtain ⟨rfl, -⟩ := Prod.ext_iff.mp ‹_ = (_, _)›) | split | (with_reducible refine (foldl_owners _ _ (fun s x => ?_) _).trans ?_) | (simp only [*]; done) | (simp [*]; done)))
@[simp] theorem execMsa_owners (port : Fin 4) (sub : Fin 4) (m : MsaData) (s : State) : ∀ res, execMsa port sub m s = .next res → res.owners = s.owners := by
  intro res h
  unfold execMsa at h
  repeat' (first | (have h := Host.Outcome.next.inj h; subst h; clear h) | (have h := Host.Outcome.next.inj h; subst h) | (simp only [reduceCtorEq] at h; done) | split at h | dsimp only at h | (cases h; done) | (obtain ⟨rfl⟩ := h))
  all_goals (repeat' (first | with_reducible rfl | with_reducible assumption | ((try lift_lets); intro zz; first | ((have hz : State.owners zz = State.owners s := by (dsimp only [zz]; repeat' (first | with_reducible rfl | with_reducible assumption | (obtain ⟨rfl, rfl⟩ := Prod.ext_iff.mp ‹_ = (_, _)›) | (obtain ⟨rfl, -⟩ := Prod.ext_iff.mp ‹_ = (_, _)›) | split | (with_reducible refine (foldl_owners _ _ (fun s x => ?_) _).trans ?_) | (simp only [*]; done) | dsimp only | (simp [*]; done)))); clear_value zz) | clear_value zz) | (obtain ⟨rfl, rfl⟩ := Prod.ext_iff.mp ‹_ = (_, _)›) | (obtain ⟨rfl, -⟩ := Prod.ext_iff.mp ‹_ = (_, _)›) | split | (with_reducible refine (foldl_owners _ _ (fun s x => ?_) _).trans ?_) | (simp only [*]; done) | (simp [*]; done)))
@[simp] theorem execNop_owners (q : Req) (s : State) : ∀ res, execNop q s = .next res → res.owners = s.owners := by
  intro res h; simp only [execNop] at h; cases h; simp
@[simp] theorem execOutputAssign_owners (q : Req) (output : Byte) (wing : Byte) (s : State) : ∀ res, execOutputAssign q output wing s = .next res → res.owners = s.owners := by
  intro res h; simp only [execOutputAssign] at h; cases h; simp
@[simp] theorem gapEnd_owners (s : State) (o : ℕ) : (gapEnd s o).owners = s.owners := by
  unfold gapEnd; repeat' (first | with_reducible rfl | (simp; done) | split | dsimp only)
@[simp] theorem vitMoved_owners (s : State) (o : ℕ) : (vitMoved s o).owners = s.owners := by simp [vitMoved]
@[simp] theorem lineBoundary_owners (s : State) (o : ℕ) (line : ℕ) : (lineBoundary s o line).owners = s.owners := by
  unfold lineBoundary; repeat' (first | with_reducible rfl | (simp; done) | split | dsimp only)
@[simp] theorem execOutputLineBoundary_owners (o : Fin 20) (line : ℕ) (s : State) : ∀ res, execOutputLineBoundary o line s = .next res → res.owners = s.owners := by
  intro res h
  unfold execOutputLineBoundary at h
  repeat' (first | (have h := Host.Outcome.next.inj h; subst h; clear h) | (have h := Host.Outcome.next.inj h; subst h) | (simp only [reduceCtorEq] at h; done) | split at h | dsimp only at h | (cases h; done) | (obtain ⟨rfl⟩ := h))
  all_goals (repeat' (first | with_reducible rfl | with_reducible assumption | ((try lift_lets); intro zz; first | ((have hz : State.owners zz = State.owners s := by (dsimp only [zz]; repeat' (first | with_reducible rfl | with_reducible assumption | (obtain ⟨rfl, rfl⟩ := Prod.ext_iff.mp ‹_ = (_, _)›) | (obtain ⟨rfl, -⟩ := Prod.ext_iff.mp ‹_ = (_, _)›) | split | (with_reducible refine (foldl_owners _ _ (fun s x => ?_) _).trans ?_) | (simp only [*]; done) | dsimp only | (simp [*]; done)))); clear_value zz) | clear_value zz) | (obtain ⟨rfl, rfl⟩ := Prod.ext_iff.mp ‹_ = (_, _)›) | (obtain ⟨rfl, -⟩ := Prod.ext_iff.mp ‹_ = (_, _)›) | split | (with_reducible refine (foldl_owners _ _ (fun s x => ?_) _).trans ?_) | (simp only [*]; done) | (simp [*]; done)))
@[simp] theorem execOutputStart_owners (q : Req) (output : Byte) (wing : Byte) (s : State) : ∀ res, execOutputStart q output wing s = .next res → res.owners = s.owners := by
  intro res h; simp only [execOutputStart] at h; cases h; simp
@[simp] theorem execOutputStartInstant_owners (o : Fin 20) (s : State) : ∀ res, execOutputStartInstant o s = .next res → res.owners = s.owners := by
  intro res h
  unfold execOutputStartInstant at h
  repeat' (first | (have h := Host.Outcome.next.inj h; subst h; clear h) | (have h := Host.Outcome.next.inj h; subst h) | (simp only [reduceCtorEq] at h; done) | split at h | dsimp only at h | (cases h; done) | (obtain ⟨rfl⟩ := h))
  all_goals (repeat' (first | with_reducible rfl | with_reducible assumption | ((try lift_lets); intro zz; first | ((have hz : State.owners zz = State.owners s := by (dsimp only [zz]; repeat' (first | with_reducible rfl | with_reducible assumption | (obtain ⟨rfl, rfl⟩ := Prod.ext_iff.mp ‹_ = (_, _)›) | (obtain ⟨rfl, -⟩ := Prod.ext_iff.mp ‹_ = (_, _)›) | split | (with_reducible refine (foldl_owners _ _ (fun s x => ?_) _).trans ?_) | (simp only [*]; done) | dsimp only | (simp [*]; done)))); clear_value zz) | clear_value zz) | (obtain ⟨rfl, rfl⟩ := Prod.ext_iff.mp ‹_ = (_, _)›) | (obtain ⟨rfl, -⟩ := Prod.ext_iff.mp ‹_ = (_, _)›) | split | (with_reducible refine (foldl_owners _ _ (fun s x => ?_) _).trans ?_) | (simp only [*]; done) | (simp [*]; done)))
@[simp] theorem execOutputStop_owners (q : Req) (output : Byte) (force : Bool) (s : State) : ∀ res, execOutputStop q output force s = .next res → res.owners = s.owners := by
  intro res h; simp only [execOutputStop] at h; cases h; simp
@[simp] theorem execOwners_owners (q : Req) (cls : Byte) (first : Byte) (count : Byte) (bank : Byte) (s : State) : ∀ res, execOwners q cls first count bank s = .next res → res.owners = s.owners := by
  intro res h; simp only [execOwners] at h; cases h; simp
@[simp] theorem execPairBackInService_owners (mgmt : Bool) (s : State) : ∀ res, execPairBackInService mgmt s = .next res → res.owners = s.owners := by
  intro res h
  unfold execPairBackInService at h
  repeat' (first | (have h := Host.Outcome.next.inj h; subst h; clear h) | (have h := Host.Outcome.next.inj h; subst h) | (simp only [reduceCtorEq] at h; done) | split at h | dsimp only at h | (cases h; done) | (obtain ⟨rfl⟩ := h))
  all_goals (repeat' (first | with_reducible rfl | with_reducible assumption | ((try lift_lets); intro zz; first | ((have hz : State.owners zz = State.owners s := by (dsimp only [zz]; repeat' (first | with_reducible rfl | with_reducible assumption | (obtain ⟨rfl, rfl⟩ := Prod.ext_iff.mp ‹_ = (_, _)›) | (obtain ⟨rfl, -⟩ := Prod.ext_iff.mp ‹_ = (_, _)›) | split | (with_reducible refine (foldl_owners _ _ (fun s x => ?_) _).trans ?_) | (simp only [*]; done) | dsimp only | (simp [*]; done)))); clear_value zz) | clear_value zz) | (obtain ⟨rfl, rfl⟩ := Prod.ext_iff.mp ‹_ = (_, _)›) | (obtain ⟨rfl, -⟩ := Prod.ext_iff.mp ‹_ = (_, _)›) | split | (with_reducible refine (foldl_owners _ _ (fun s x => ?_) _).trans ?_) | (simp only [*]; done) | (simp [*]; done)))
@[simp] theorem execPlkAlignTimeout_owners (port : Fin 24) (s : State) : ∀ res, execPlkAlignTimeout port s = .next res → res.owners = s.owners := by
  intro res h
  unfold execPlkAlignTimeout at h
  repeat' (first | (have h := Host.Outcome.next.inj h; subst h; clear h) | (have h := Host.Outcome.next.inj h; subst h) | (simp only [reduceCtorEq] at h; done) | split at h | dsimp only at h | (cases h; done) | (obtain ⟨rfl⟩ := h))
  all_goals (repeat' (first | with_reducible rfl | with_reducible assumption | ((try lift_lets); intro zz; first | ((have hz : State.owners zz = State.owners s := by (dsimp only [zz]; repeat' (first | with_reducible rfl | with_reducible assumption | (obtain ⟨rfl, rfl⟩ := Prod.ext_iff.mp ‹_ = (_, _)›) | (obtain ⟨rfl, -⟩ := Prod.ext_iff.mp ‹_ = (_, _)›) | split | (with_reducible refine (foldl_owners _ _ (fun s x => ?_) _).trans ?_) | (simp only [*]; done) | dsimp only | (simp [*]; done)))); clear_value zz) | clear_value zz) | (obtain ⟨rfl, rfl⟩ := Prod.ext_iff.mp ‹_ = (_, _)›) | (obtain ⟨rfl, -⟩ := Prod.ext_iff.mp ‹_ = (_, _)›) | split | (with_reducible refine (foldl_owners _ _ (fun s x => ?_) _).trans ?_) | (simp only [*]; done) | (simp [*]; done)))
@[simp] theorem execPlkClockLost_owners (port : Fin 24) (s : State) : ∀ res, execPlkClockLost port s = .next res → res.owners = s.owners := by
  intro res h
  unfold execPlkClockLost at h
  repeat' (first | (have h := Host.Outcome.next.inj h; subst h; clear h) | (have h := Host.Outcome.next.inj h; subst h) | (simp only [reduceCtorEq] at h; done) | split at h | dsimp only at h | (cases h; done) | (obtain ⟨rfl⟩ := h))
  all_goals (repeat' (first | with_reducible rfl | with_reducible assumption | ((try lift_lets); intro zz; first | ((have hz : State.owners zz = State.owners s := by (dsimp only [zz]; repeat' (first | with_reducible rfl | with_reducible assumption | (obtain ⟨rfl, rfl⟩ := Prod.ext_iff.mp ‹_ = (_, _)›) | (obtain ⟨rfl, -⟩ := Prod.ext_iff.mp ‹_ = (_, _)›) | split | (with_reducible refine (foldl_owners _ _ (fun s x => ?_) _).trans ?_) | (simp only [*]; done) | dsimp only | (simp [*]; done)))); clear_value zz) | clear_value zz) | (obtain ⟨rfl, rfl⟩ := Prod.ext_iff.mp ‹_ = (_, _)›) | (obtain ⟨rfl, -⟩ := Prod.ext_iff.mp ‹_ = (_, _)›) | split | (with_reducible refine (foldl_owners _ _ (fun s x => ?_) _).trans ?_) | (simp only [*]; done) | (simp [*]; done)))
@[simp] theorem execPlkDetectClock_owners (port : Fin 24) (s : State) : ∀ res, execPlkDetectClock port s = .next res → res.owners = s.owners := by
  intro res h
  unfold execPlkDetectClock at h
  repeat' (first | (have h := Host.Outcome.next.inj h; subst h; clear h) | (have h := Host.Outcome.next.inj h; subst h) | (simp only [reduceCtorEq] at h; done) | split at h | dsimp only at h | (cases h; done) | (obtain ⟨rfl⟩ := h))
  all_goals (repeat' (first | with_reducible rfl | with_reducible assumption | ((try lift_lets); intro zz; first | ((have hz : State.owners zz = State.owners s := by (dsimp only [zz]; repeat' (first | with_reducible rfl | with_reducible assumption | (obtain ⟨rfl, rfl⟩ := Prod.ext_iff.mp ‹_ = (_, _)›) | (obtain ⟨rfl, -⟩ := Prod.ext_iff.mp ‹_ = (_, _)›) | split | (with_reducible refine (foldl_owners _ _ (fun s x => ?_) _).trans ?_) | (simp only [*]; done) | dsimp only | (simp [*]; done)))); clear_value zz) | clear_value zz) | (obtain ⟨rfl, rfl⟩ := Prod.ext_iff.mp ‹_ = (_, _)›) | (obtain ⟨rfl, -⟩ := Prod.ext_iff.mp ‹_ = (_, _)›) | split | (with_reducible refine (foldl_owners _ _ (fun s x => ?_) _).trans ?_) | (simp only [*]; done) | (simp [*]; done)))
@[simp] theorem execPlkDrainTimeout_owners (port : Fin 24) (s : State) : ∀ res, execPlkDrainTimeout port s = .next res → res.owners = s.owners := by
  intro res h
  unfold execPlkDrainTimeout at h
  repeat' (first | (have h := Host.Outcome.next.inj h; subst h; clear h) | (have h := Host.Outcome.next.inj h; subst h) | (simp only [reduceCtorEq] at h; done) | split at h | dsimp only at h | (cases h; done) | (obtain ⟨rfl⟩ := h))
  all_goals (repeat' (first | with_reducible rfl | with_reducible assumption | ((try lift_lets); intro zz; first | ((have hz : State.owners zz = State.owners s := by (dsimp only [zz]; repeat' (first | with_reducible rfl | with_reducible assumption | (obtain ⟨rfl, rfl⟩ := Prod.ext_iff.mp ‹_ = (_, _)›) | (obtain ⟨rfl, -⟩ := Prod.ext_iff.mp ‹_ = (_, _)›) | split | (with_reducible refine (foldl_owners _ _ (fun s x => ?_) _).trans ?_) | (simp only [*]; done) | dsimp only | (simp [*]; done)))); clear_value zz) | clear_value zz) | (obtain ⟨rfl, rfl⟩ := Prod.ext_iff.mp ‹_ = (_, _)›) | (obtain ⟨rfl, -⟩ := Prod.ext_iff.mp ‹_ = (_, _)›) | split | (with_reducible refine (foldl_owners _ _ (fun s x => ?_) _).trans ?_) | (simp only [*]; done) | (simp [*]; done)))
@[simp] theorem execPlkErrorWindowEnd_owners (port : Fin 24) (invalid : ℕ) (s : State) : ∀ res, execPlkErrorWindowEnd port invalid s = .next res → res.owners = s.owners := by
  intro res h
  unfold execPlkErrorWindowEnd at h
  repeat' (first | (have h := Host.Outcome.next.inj h; subst h; clear h) | (have h := Host.Outcome.next.inj h; subst h) | (simp only [reduceCtorEq] at h; done) | split at h | dsimp only at h | (cases h; done) | (obtain ⟨rfl⟩ := h))
  all_goals (repeat' (first | with_reducible rfl | with_reducible assumption | ((try lift_lets); intro zz; first | ((have hz : State.owners zz = State.owners s := by (dsimp only [zz]; repeat' (first | with_reducible rfl | with_reducible assumption | (obtain ⟨rfl, rfl⟩ := Prod.ext_iff.mp ‹_ = (_, _)›) | (obtain ⟨rfl, -⟩ := Prod.ext_iff.mp ‹_ = (_, _)›) | split | (with_reducible refine (foldl_owners _ _ (fun s x => ?_) _).trans ?_) | (simp only [*]; done) | dsimp only | (simp [*]; done)))); clear_value zz) | clear_value zz) | (obtain ⟨rfl, rfl⟩ := Prod.ext_iff.mp ‹_ = (_, _)›) | (obtain ⟨rfl, -⟩ := Prod.ext_iff.mp ‹_ = (_, _)›) | split | (with_reducible refine (foldl_owners _ _ (fun s x => ?_) _).trans ?_) | (simp only [*]; done) | (simp [*]; done)))
@[simp] theorem execPlkFallbackTimeout_owners (port : Fin 24) (s : State) : ∀ res, execPlkFallbackTimeout port s = .next res → res.owners = s.owners := by
  intro res h
  unfold execPlkFallbackTimeout at h
  repeat' (first | (have h := Host.Outcome.next.inj h; subst h; clear h) | (have h := Host.Outcome.next.inj h; subst h) | (simp only [reduceCtorEq] at h; done) | split at h | dsimp only at h | (cases h; done) | (obtain ⟨rfl⟩ := h))
  all_goals (repeat' (first | with_reducible rfl | with_reducible assumption | ((try lift_lets); intro zz; first | ((have hz : State.owners zz = State.owners s := by (dsimp only [zz]; repeat' (first | with_reducible rfl | with_reducible assumption | (obtain ⟨rfl, rfl⟩ := Prod.ext_iff.mp ‹_ = (_, _)›) | (obtain ⟨rfl, -⟩ := Prod.ext_iff.mp ‹_ = (_, _)›) | split | (with_reducible refine (foldl_owners _ _ (fun s x => ?_) _).trans ?_) | (simp only [*]; done) | dsimp only | (simp [*]; done)))); clear_value zz) | clear_value zz) | (obtain ⟨rfl, rfl⟩ := Prod.ext_iff.mp ‹_ = (_, _)›) | (obtain ⟨rfl, -⟩ := Prod.ext_iff.mp ‹_ = (_, _)›) | split | (with_reducible refine (foldl_owners _ _ (fun s x => ?_) _).trans ?_) | (simp only [*]; done) | (simp [*]; done)))
@[simp] theorem execPlkLaneLock_owners (port : Fin 24) (lane : Fin 3) (s : State) : ∀ res, execPlkLaneLock port lane s = .next res → res.owners = s.owners := by
  intro res h
  unfold execPlkLaneLock at h
  repeat' (first | (have h := Host.Outcome.next.inj h; subst h; clear h) | (have h := Host.Outcome.next.inj h; subst h) | (simp only [reduceCtorEq] at h; done) | split at h | dsimp only at h | (cases h; done) | (obtain ⟨rfl⟩ := h))
  all_goals (repeat' (first | with_reducible rfl | with_reducible assumption | ((try lift_lets); intro zz; first | ((have hz : State.owners zz = State.owners s := by (dsimp only [zz]; repeat' (first | with_reducible rfl | with_reducible assumption | (obtain ⟨rfl, rfl⟩ := Prod.ext_iff.mp ‹_ = (_, _)›) | (obtain ⟨rfl, -⟩ := Prod.ext_iff.mp ‹_ = (_, _)›) | split | (with_reducible refine (foldl_owners _ _ (fun s x => ?_) _).trans ?_) | (simp only [*]; done) | dsimp only | (simp [*]; done)))); clear_value zz) | clear_value zz) | (obtain ⟨rfl, rfl⟩ := Prod.ext_iff.mp ‹_ = (_, _)›) | (obtain ⟨rfl, -⟩ := Prod.ext_iff.mp ‹_ = (_, _)›) | split | (with_reducible refine (foldl_owners _ _ (fun s x => ?_) _).trans ?_) | (simp only [*]; done) | (simp [*]; done)))
@[simp] theorem execPlkLaneLockLost_owners (port : Fin 24) (lane : Fin 3) (invalid : ℕ) (s : State) : ∀ res, execPlkLaneLockLost port lane invalid s = .next res → res.owners = s.owners := by
  intro res h
  unfold execPlkLaneLockLost at h
  repeat' (first | (have h := Host.Outcome.next.inj h; subst h; clear h) | (have h := Host.Outcome.next.inj h; subst h) | (simp only [reduceCtorEq] at h; done) | split at h | dsimp only at h | (cases h; done) | (obtain ⟨rfl⟩ := h))
  all_goals (repeat' (first | with_reducible rfl | with_reducible assumption | ((try lift_lets); intro zz; first | ((have hz : State.owners zz = State.owners s := by (dsimp only [zz]; repeat' (first | with_reducible rfl | with_reducible assumption | (obtain ⟨rfl, rfl⟩ := Prod.ext_iff.mp ‹_ = (_, _)›) | (obtain ⟨rfl, -⟩ := Prod.ext_iff.mp ‹_ = (_, _)›) | split | (with_reducible refine (foldl_owners _ _ (fun s x => ?_) _).trans ?_) | (simp only [*]; done) | dsimp only | (simp [*]; done)))); clear_value zz) | clear_value zz) | (obtain ⟨rfl, rfl⟩ := Prod.ext_iff.mp ‹_ = (_, _)›) | (obtain ⟨rfl, -⟩ := Prod.ext_iff.mp ‹_ = (_, _)›) | split | (with_reducible refine (foldl_owners _ _ (fun s x => ?_) _).trans ?_) | (simp only [*]; done) | (simp [*]; done)))
@[simp] theorem execPlkRecoverTimeout_owners (port : Fin 24) (s : State) : ∀ res, execPlkRecoverTimeout port s = .next res → res.owners = s.owners := by
  intro res h
  unfold execPlkRecoverTimeout at h
  repeat' (first | (have h := Host.Outcome.next.inj h; subst h; clear h) | (have h := Host.Outcome.next.inj h; subst h) | (simp only [reduceCtorEq] at h; done) | split at h | dsimp only at h | (cases h; done) | (obtain ⟨rfl⟩ := h))
  all_goals (repeat' (first | with_reducible rfl | with_reducible assumption | ((try lift_lets); intro zz; first | ((have hz : State.owners zz = State.owners s := by (dsimp only [zz]; repeat' (first | with_reducible rfl | with_reducible assumption | (obtain ⟨rfl, rfl⟩ := Prod.ext_iff.mp ‹_ = (_, _)›) | (obtain ⟨rfl, -⟩ := Prod.ext_iff.mp ‹_ = (_, _)›) | split | (with_reducible refine (foldl_owners _ _ (fun s x => ?_) _).trans ?_) | (simp only [*]; done) | dsimp only | (simp [*]; done)))); clear_value zz) | clear_value zz) | (obtain ⟨rfl, rfl⟩ := Prod.ext_iff.mp ‹_ = (_, _)›) | (obtain ⟨rfl, -⟩ := Prod.ext_iff.mp ‹_ = (_, _)›) | split | (with_reducible refine (foldl_owners _ _ (fun s x => ?_) _).trans ?_) | (simp only [*]; done) | (simp [*]; done)))
@[simp] theorem execPlkStepTimeout_owners (port : Fin 24) (s : State) : ∀ res, execPlkStepTimeout port s = .next res → res.owners = s.owners := by
  intro res h
  unfold execPlkStepTimeout at h
  repeat' (first | (have h := Host.Outcome.next.inj h; subst h; clear h) | (have h := Host.Outcome.next.inj h; subst h) | (simp only [reduceCtorEq] at h; done) | split at h | dsimp only at h | (cases h; done) | (obtain ⟨rfl⟩ := h))
  all_goals (repeat' (first | with_reducible rfl | with_reducible assumption | ((try lift_lets); intro zz; first | ((have hz : State.owners zz = State.owners s := by (dsimp only [zz]; repeat' (first | with_reducible rfl | with_reducible assumption | (obtain ⟨rfl, rfl⟩ := Prod.ext_iff.mp ‹_ = (_, _)›) | (obtain ⟨rfl, -⟩ := Prod.ext_iff.mp ‹_ = (_, _)›) | split | (with_reducible refine (foldl_owners _ _ (fun s x => ?_) _).trans ?_) | (simp only [*]; done) | dsimp only | (simp [*]; done)))); clear_value zz) | clear_value zz) | (obtain ⟨rfl, rfl⟩ := Prod.ext_iff.mp ‹_ = (_, _)›) | (obtain ⟨rfl, -⟩ := Prod.ext_iff.mp ‹_ = (_, _)›) | split | (with_reducible refine (foldl_owners _ _ (fun s x => ?_) _).trans ?_) | (simp only [*]; done) | (simp [*]; done)))
@[simp] theorem execPlkTrainTimeout_owners (port : Fin 24) (s : State) : ∀ res, execPlkTrainTimeout port s = .next res → res.owners = s.owners := by
  intro res h
  unfold execPlkTrainTimeout at h
  repeat' (first | (have h := Host.Outcome.next.inj h; subst h; clear h) | (have h := Host.Outcome.next.inj h; subst h) | (simp only [reduceCtorEq] at h; done) | split at h | dsimp only at h | (cases h; done) | (obtain ⟨rfl⟩ := h))
  all_goals (repeat' (first | with_reducible rfl | with_reducible assumption | ((try lift_lets); intro zz; first | ((have hz : State.owners zz = State.owners s := by (dsimp only [zz]; repeat' (first | with_reducible rfl | with_reducible assumption | (obtain ⟨rfl, rfl⟩ := Prod.ext_iff.mp ‹_ = (_, _)›) | (obtain ⟨rfl, -⟩ := Prod.ext_iff.mp ‹_ = (_, _)›) | split | (with_reducible refine (foldl_owners _ _ (fun s x => ?_) _).trans ?_) | (simp only [*]; done) | dsimp only | (simp [*]; done)))); clear_value zz) | clear_value zz) | (obtain ⟨rfl, rfl⟩ := Prod.ext_iff.mp ‹_ = (_, _)›) | (obtain ⟨rfl, -⟩ := Prod.ext_iff.mp ‹_ = (_, _)›) | split | (with_reducible refine (foldl_owners _ _ (fun s x => ?_) _).trans ?_) | (simp only [*]; done) | (simp [*]; done)))
@[simp] theorem execPlkVerifyEnd_owners (port : Fin 24) (symbols : ℕ) (s : State) : ∀ res, execPlkVerifyEnd port symbols s = .next res → res.owners = s.owners := by
  intro res h
  unfold execPlkVerifyEnd at h
  repeat' (first | (have h := Host.Outcome.next.inj h; subst h; clear h) | (have h := Host.Outcome.next.inj h; subst h) | (simp only [reduceCtorEq] at h; done) | split at h | dsimp only at h | (cases h; done) | (obtain ⟨rfl⟩ := h))
  all_goals (repeat' (first | with_reducible rfl | with_reducible assumption | ((try lift_lets); intro zz; first | ((have hz : State.owners zz = State.owners s := by (dsimp only [zz]; repeat' (first | with_reducible rfl | with_reducible assumption | (obtain ⟨rfl, rfl⟩ := Prod.ext_iff.mp ‹_ = (_, _)›) | (obtain ⟨rfl, -⟩ := Prod.ext_iff.mp ‹_ = (_, _)›) | split | (with_reducible refine (foldl_owners _ _ (fun s x => ?_) _).trans ?_) | (simp only [*]; done) | dsimp only | (simp [*]; done)))); clear_value zz) | clear_value zz) | (obtain ⟨rfl, rfl⟩ := Prod.ext_iff.mp ‹_ = (_, _)›) | (obtain ⟨rfl, -⟩ := Prod.ext_iff.mp ‹_ = (_, _)›) | split | (with_reducible refine (foldl_owners _ _ (fun s x => ?_) _).trans ?_) | (simp only [*]; done) | (simp [*]; done)))
@[simp] theorem execPowerRequestTimeout_owners (port : Fin 24) (s : State) : ∀ res, execPowerRequestTimeout port s = .next res → res.owners = s.owners := by
  intro res h
  unfold execPowerRequestTimeout at h
  repeat' (first | (have h := Host.Outcome.next.inj h; subst h; clear h) | (have h := Host.Outcome.next.inj h; subst h) | (simp only [reduceCtorEq] at h; done) | split at h | dsimp only at h | (cases h; done) | (obtain ⟨rfl⟩ := h))
  all_goals (repeat' (first | with_reducible rfl | with_reducible assumption | ((try lift_lets); intro zz; first | ((have hz : State.owners zz = State.owners s := by (dsimp only [zz]; repeat' (first | with_reducible rfl | with_reducible assumption | (obtain ⟨rfl, rfl⟩ := Prod.ext_iff.mp ‹_ = (_, _)›) | (obtain ⟨rfl, -⟩ := Prod.ext_iff.mp ‹_ = (_, _)›) | split | (with_reducible refine (foldl_owners _ _ (fun s x => ?_) _).trans ?_) | (simp only [*]; done) | dsimp only | (simp [*]; done)))); clear_value zz) | clear_value zz) | (obtain ⟨rfl, rfl⟩ := Prod.ext_iff.mp ‹_ = (_, _)›) | (obtain ⟨rfl, -⟩ := Prod.ext_iff.mp ‹_ = (_, _)›) | split | (with_reducible refine (foldl_owners _ _ (fun s x => ?_) _).trans ?_) | (simp only [*]; done) | (simp [*]; done)))
@[simp] theorem execPrsWrite_owners (q : Req) (word : Byte) (value : Word) (s : State) : ∀ res, execPrsWrite q word value s = .next res → res.owners = s.owners := by
  intro res h; simp only [execPrsWrite] at h; cases h; simp
@[simp] theorem execRampStep_owners (n : Fin 12) (s : State) : ∀ res, execRampStep n s = .next res → res.owners = s.owners := by
  intro res h
  unfold execRampStep at h
  repeat' (first | (have h := Host.Outcome.next.inj h; subst h; clear h) | (have h := Host.Outcome.next.inj h; subst h) | (simp only [reduceCtorEq] at h; done) | split at h | dsimp only at h | (cases h; done) | (obtain ⟨rfl⟩ := h))
  all_goals (repeat' (first | with_reducible rfl | with_reducible assumption | ((try lift_lets); intro zz; first | ((have hz : State.owners zz = State.owners s := by (dsimp only [zz]; repeat' (first | with_reducible rfl | with_reducible assumption | (obtain ⟨rfl, rfl⟩ := Prod.ext_iff.mp ‹_ = (_, _)›) | (obtain ⟨rfl, -⟩ := Prod.ext_iff.mp ‹_ = (_, _)›) | split | (with_reducible refine (foldl_owners _ _ (fun s x => ?_) _).trans ?_) | (simp only [*]; done) | dsimp only | (simp [*]; done)))); clear_value zz) | clear_value zz) | (obtain ⟨rfl, rfl⟩ := Prod.ext_iff.mp ‹_ = (_, _)›) | (obtain ⟨rfl, -⟩ := Prod.ext_iff.mp ‹_ = (_, _)›) | split | (with_reducible refine (foldl_owners _ _ (fun s x => ?_) _).trans ?_) | (simp only [*]; done) | (simp [*]; done)))
@[simp] theorem execRead_owners (q : Req) (addr : Addr) (bank : Byte) (s : State) : ∀ res, execRead q addr bank s = .next res → res.owners = s.owners := by
  intro res h; simp only [execRead] at h; cases h; simp
@[simp] theorem stopCp3_owners (s : State) (p : Port) : (stopCp3 s p).owners = s.owners := by simp [stopCp3]
@[simp] theorem execReadPlacard_owners (port : Port) (n : ℕ) (s : State) : ∀ res, execReadPlacard port n s = .next res → res.owners = s.owners := by
  intro res h
  unfold execReadPlacard at h
  repeat' (first | (have h := Host.Outcome.next.inj h; subst h; clear h) | (have h := Host.Outcome.next.inj h; subst h) | (simp only [reduceCtorEq] at h; done) | split at h | dsimp only at h | (cases h; done) | (obtain ⟨rfl⟩ := h))
  all_goals (repeat' (first | with_reducible rfl | with_reducible assumption | ((try lift_lets); intro zz; first | ((have hz : State.owners zz = State.owners s := by (dsimp only [zz]; repeat' (first | with_reducible rfl | with_reducible assumption | (obtain ⟨rfl, rfl⟩ := Prod.ext_iff.mp ‹_ = (_, _)›) | (obtain ⟨rfl, -⟩ := Prod.ext_iff.mp ‹_ = (_, _)›) | split | (with_reducible refine (foldl_owners _ _ (fun s x => ?_) _).trans ?_) | (simp only [*]; done) | dsimp only | (simp [*]; done)))); clear_value zz) | clear_value zz) | (obtain ⟨rfl, rfl⟩ := Prod.ext_iff.mp ‹_ = (_, _)›) | (obtain ⟨rfl, -⟩ := Prod.ext_iff.mp ‹_ = (_, _)›) | split | (with_reducible refine (foldl_owners _ _ (fun s x => ?_) _).trans ?_) | (simp only [*]; done) | (simp [*]; done)))
@[simp] theorem execReadPortStatus_owners (port : Port) (n : ℕ) (s : State) : ∀ res, execReadPortStatus port n s = .next res → res.owners = s.owners := by
  intro res h
  unfold execReadPortStatus at h
  repeat' (first | (have h := Host.Outcome.next.inj h; subst h; clear h) | (have h := Host.Outcome.next.inj h; subst h) | (simp only [reduceCtorEq] at h; done) | split at h | dsimp only at h | (cases h; done) | (obtain ⟨rfl⟩ := h))
  all_goals (repeat' (first | with_reducible rfl | with_reducible assumption | ((try lift_lets); intro zz; first | ((have hz : State.owners zz = State.owners s := by (dsimp only [zz]; repeat' (first | with_reducible rfl | with_reducible assumption | (obtain ⟨rfl, rfl⟩ := Prod.ext_iff.mp ‹_ = (_, _)›) | (obtain ⟨rfl, -⟩ := Prod.ext_iff.mp ‹_ = (_, _)›) | split | (with_reducible refine (foldl_owners _ _ (fun s x => ?_) _).trans ?_) | (simp only [*]; done) | dsimp only | (simp [*]; done)))); clear_value zz) | clear_value zz) | (obtain ⟨rfl, rfl⟩ := Prod.ext_iff.mp ‹_ = (_, _)›) | (obtain ⟨rfl, -⟩ := Prod.ext_iff.mp ‹_ = (_, _)›) | split | (with_reducible refine (foldl_owners _ _ (fun s x => ?_) _).trans ?_) | (simp only [*]; done) | (simp [*]; done)))
@[simp] theorem execReadmissionMonitorClear_owners (w : Wing) (s : State) : ∀ res, execReadmissionMonitorClear w s = .next res → res.owners = s.owners := by
  intro res h
  unfold execReadmissionMonitorClear at h
  repeat' (first | (have h := Host.Outcome.next.inj h; subst h; clear h) | (have h := Host.Outcome.next.inj h; subst h) | (simp only [reduceCtorEq] at h; done) | split at h | dsimp only at h | (cases h; done) | (obtain ⟨rfl⟩ := h))
  all_goals (repeat' (first | with_reducible rfl | with_reducible assumption | ((try lift_lets); intro zz; first | ((have hz : State.owners zz = State.owners s := by (dsimp only [zz]; repeat' (first | with_reducible rfl | with_reducible assumption | (obtain ⟨rfl, rfl⟩ := Prod.ext_iff.mp ‹_ = (_, _)›) | (obtain ⟨rfl, -⟩ := Prod.ext_iff.mp ‹_ = (_, _)›) | split | (with_reducible refine (foldl_owners _ _ (fun s x => ?_) _).trans ?_) | (simp only [*]; done) | dsimp only | (simp [*]; done)))); clear_value zz) | clear_value zz) | (obtain ⟨rfl, rfl⟩ := Prod.ext_iff.mp ‹_ = (_, _)›) | (obtain ⟨rfl, -⟩ := Prod.ext_iff.mp ‹_ = (_, _)›) | split | (with_reducible refine (foldl_owners _ _ (fun s x => ?_) _).trans ?_) | (simp only [*]; done) | (simp [*]; done)))
@[simp] theorem holdOut_owners (s : State) (w : Wing) (why : ℕ) : (holdOut s w why).owners = s.owners := by simp [holdOut]
@[simp] theorem execReadmissionMonitorTimeout_owners (w : Wing) (s : State) : ∀ res, execReadmissionMonitorTimeout w s = .next res → res.owners = s.owners := by
  intro res h
  unfold execReadmissionMonitorTimeout at h
  repeat' (first | (have h := Host.Outcome.next.inj h; subst h; clear h) | (have h := Host.Outcome.next.inj h; subst h) | (simp only [reduceCtorEq] at h; done) | split at h | dsimp only at h | (cases h; done) | (obtain ⟨rfl⟩ := h))
  all_goals (repeat' (first | with_reducible rfl | with_reducible assumption | ((try lift_lets); intro zz; first | ((have hz : State.owners zz = State.owners s := by (dsimp only [zz]; repeat' (first | with_reducible rfl | with_reducible assumption | (obtain ⟨rfl, rfl⟩ := Prod.ext_iff.mp ‹_ = (_, _)›) | (obtain ⟨rfl, -⟩ := Prod.ext_iff.mp ‹_ = (_, _)›) | split | (with_reducible refine (foldl_owners _ _ (fun s x => ?_) _).trans ?_) | (simp only [*]; done) | dsimp only | (simp [*]; done)))); clear_value zz) | clear_value zz) | (obtain ⟨rfl, rfl⟩ := Prod.ext_iff.mp ‹_ = (_, _)›) | (obtain ⟨rfl, -⟩ := Prod.ext_iff.mp ‹_ = (_, _)›) | split | (with_reducible refine (foldl_owners _ _ (fun s x => ?_) _).trans ?_) | (simp only [*]; done) | (simp [*]; done)))
@[simp] theorem execReadmissionTestDone_owners (w : Wing) (failed : Option Byte) (s : State) : ∀ res, execReadmissionTestDone w failed s = .next res → res.owners = s.owners := by
  intro res h
  unfold execReadmissionTestDone at h
  dsimp only at h
  split at h
  · split at h
    · have h := Host.Outcome.next.inj h; subst h
      simp only [holdOut_owners, setWing_owners]
      split <;> simp
    · have h := Host.Outcome.next.inj h; subst h
      refine (foldl_owners _ _ (fun s x => by simp) _).trans ?_
      refine (foldl_owners _ _ (fun s x => by simp) _).trans ?_
      simp only [raise_owners, setWing_owners]
      split <;> simp
  · have h := Host.Outcome.next.inj h; subst h; rfl
@[simp] theorem sendTile_owners (s : State) (w : Wing) (o : ℕ) (row : ℕ) (col : ℕ) (crc : Word) : (sendTile s w o row col crc).owners = s.owners := by simp [sendTile]
@[simp] theorem recomposedTile_owners (s : State) (w : Wing) (o : ℕ) (row : ℕ) (col : ℕ) (crc : Option Word) : (recomposedTile s w o row col crc).owners = s.owners := by
  unfold recomposedTile; repeat' (first | with_reducible rfl | (simp; done) | split | dsimp only)
@[simp] theorem execRecomposedTileRead_owners (w : Wing) (o : Fin 20) (row : ℕ) (col : ℕ) (crc : Option Word) (s : State) : ∀ res, execRecomposedTileRead w o row col crc s = .next res → res.owners = s.owners := by
  intro res h; simp only [execRecomposedTileRead] at h; cases h; simp
@[simp] theorem execRefActivityLost_owners (c : Fin 16) (s : State) : ∀ res, execRefActivityLost c s = .next res → res.owners = s.owners := by
  intro res h
  unfold execRefActivityLost at h
  repeat' (first | (have h := Host.Outcome.next.inj h; subst h; clear h) | (have h := Host.Outcome.next.inj h; subst h) | (simp only [reduceCtorEq] at h; done) | split at h | dsimp only at h | (cases h; done) | (obtain ⟨rfl⟩ := h))
  all_goals (repeat' (first | with_reducible rfl | with_reducible assumption | ((try lift_lets); intro zz; first | ((have hz : State.owners zz = State.owners s := by (dsimp only [zz]; repeat' (first | with_reducible rfl | with_reducible assumption | (obtain ⟨rfl, rfl⟩ := Prod.ext_iff.mp ‹_ = (_, _)›) | (obtain ⟨rfl, -⟩ := Prod.ext_iff.mp ‹_ = (_, _)›) | split | (with_reducible refine (foldl_owners _ _ (fun s x => ?_) _).trans ?_) | (simp only [*]; done) | dsimp only | (simp [*]; done)))); clear_value zz) | clear_value zz) | (obtain ⟨rfl, rfl⟩ := Prod.ext_iff.mp ‹_ = (_, _)›) | (obtain ⟨rfl, -⟩ := Prod.ext_iff.mp ‹_ = (_, _)›) | split | (with_reducible refine (foldl_owners _ _ (fun s x => ?_) _).trans ?_) | (simp only [*]; done) | (simp [*]; done)))
@[simp] theorem execRefConfigWrite_owners (q : Req) (cand : Byte) (value : Word) (s : State) : ∀ res, execRefConfigWrite q cand value s = .next res → res.owners = s.owners := by
  intro res h; simp only [execRefConfigWrite] at h; cases h; simp
@[simp] theorem execRefFreqMeasurement_owners (c : Fin 16) (edges : ℕ) (s : State) : ∀ res, execRefFreqMeasurement c edges s = .next res → res.owners = s.owners := by
  intro res h
  unfold execRefFreqMeasurement at h
  repeat' (first | (have h := Host.Outcome.next.inj h; subst h; clear h) | (have h := Host.Outcome.next.inj h; subst h) | (simp only [reduceCtorEq] at h; done) | split at h | dsimp only at h | (cases h; done) | (obtain ⟨rfl⟩ := h))
  all_goals (repeat' (first | with_reducible rfl | with_reducible assumption | ((try lift_lets); intro zz; first | ((have hz : State.owners zz = State.owners s := by (dsimp only [zz]; repeat' (first | with_reducible rfl | with_reducible assumption | (obtain ⟨rfl, rfl⟩ := Prod.ext_iff.mp ‹_ = (_, _)›) | (obtain ⟨rfl, -⟩ := Prod.ext_iff.mp ‹_ = (_, _)›) | split | (with_reducible refine (foldl_owners _ _ (fun s x => ?_) _).trans ?_) | (simp only [*]; done) | dsimp only | (simp [*]; done)))); clear_value zz) | clear_value zz) | (obtain ⟨rfl, rfl⟩ := Prod.ext_iff.mp ‹_ = (_, _)›) | (obtain ⟨rfl, -⟩ := Prod.ext_iff.mp ‹_ = (_, _)›) | split | (with_reducible refine (foldl_owners _ _ (fun s x => ?_) _).trans ?_) | (simp only [*]; done) | (simp [*]; done)))
@[simp] theorem execRefPulse_owners (c : Fin 16) (interval : ℕ) (s : State) : ∀ res, execRefPulse c interval s = .next res → res.owners = s.owners := by
  intro res h; simp only [execRefPulse] at h; cases h; simp
@[simp] theorem runSelection_owners (s : State) : (runSelection s).owners = s.owners := by
  unfold runSelection; repeat' (first | with_reducible rfl | (simp; done) | split | dsimp only)
@[simp] theorem execRefQualified_owners (c : Fin 16) (s : State) : ∀ res, execRefQualified c s = .next res → res.owners = s.owners := by
  intro res h
  unfold execRefQualified at h
  repeat' (first | (have h := Host.Outcome.next.inj h; subst h; clear h) | (have h := Host.Outcome.next.inj h; subst h) | (simp only [reduceCtorEq] at h; done) | split at h | dsimp only at h | (cases h; done) | (obtain ⟨rfl⟩ := h))
  all_goals (repeat' (first | with_reducible rfl | with_reducible assumption | ((try lift_lets); intro zz; first | ((have hz : State.owners zz = State.owners s := by (dsimp only [zz]; repeat' (first | with_reducible rfl | with_reducible assumption | (obtain ⟨rfl, rfl⟩ := Prod.ext_iff.mp ‹_ = (_, _)›) | (obtain ⟨rfl, -⟩ := Prod.ext_iff.mp ‹_ = (_, _)›) | split | (with_reducible refine (foldl_owners _ _ (fun s x => ?_) _).trans ?_) | (simp only [*]; done) | dsimp only | (simp [*]; done)))); clear_value zz) | clear_value zz) | (obtain ⟨rfl, rfl⟩ := Prod.ext_iff.mp ‹_ = (_, _)›) | (obtain ⟨rfl, -⟩ := Prod.ext_iff.mp ‹_ = (_, _)›) | split | (with_reducible refine (foldl_owners _ _ (fun s x => ?_) _).trans ?_) | (simp only [*]; done) | (simp [*]; done)))
@[simp] theorem execRefRank_owners (q : Req) (cands : List Byte) (s : State) : ∀ res, execRefRank q cands s = .next res → res.owners = s.owners := by
  intro res h; simp only [execRefRank] at h; cases h; simp
@[simp] theorem execRefRankWordWrite_owners (q : Req) (hi : Bool) (value : Word) (s : State) : ∀ res, execRefRankWordWrite q hi value s = .next res → res.owners = s.owners := by
  intro res h; simp only [execRefRankWordWrite] at h; cases h; simp
@[simp] theorem execRefSelect_owners (q : Req) (cand : Byte) (s : State) : ∀ res, execRefSelect q cand s = .next res → res.owners = s.owners := by
  intro res h; simp only [execRefSelect] at h; cases h; simp
@[simp] theorem execRegisterWrite_owners (q : Req) (addr : Addr) (bank : Byte) (value : Word) (s : State) : ∀ res, execRegisterWrite q addr bank value s = .next res → res.owners = s.owners := by
  intro res h; simp only [execRegisterWrite] at h; cases h; simp
@[simp] theorem resendCtl_owners (s : State) (n : ℕ) (m : CtlOut) : (resendCtl s n m).owners = s.owners := by
  unfold resendCtl; repeat' (first | with_reducible rfl | (simp; done) | split | dsimp only)
@[simp] theorem execRetransmitTimeout_owners (port : Fin 24) (s : State) : ∀ res, execRetransmitTimeout port s = .next res → res.owners = s.owners := by
  intro res h
  unfold execRetransmitTimeout at h
  repeat' (first | (have h := Host.Outcome.next.inj h; subst h; clear h) | (have h := Host.Outcome.next.inj h; subst h) | (simp only [reduceCtorEq] at h; done) | split at h | dsimp only at h | (cases h; done) | (obtain ⟨rfl⟩ := h))
  all_goals (repeat' (first | with_reducible rfl | with_reducible assumption | ((try lift_lets); intro zz; first | ((have hz : State.owners zz = State.owners s := by (dsimp only [zz]; repeat' (first | with_reducible rfl | with_reducible assumption | (obtain ⟨rfl, rfl⟩ := Prod.ext_iff.mp ‹_ = (_, _)›) | (obtain ⟨rfl, -⟩ := Prod.ext_iff.mp ‹_ = (_, _)›) | split | (with_reducible refine (foldl_owners _ _ (fun s x => ?_) _).trans ?_) | (simp only [*]; done) | dsimp only | (simp [*]; done)))); clear_value zz) | clear_value zz) | (obtain ⟨rfl, rfl⟩ := Prod.ext_iff.mp ‹_ = (_, _)›) | (obtain ⟨rfl, -⟩ := Prod.ext_iff.mp ‹_ = (_, _)›) | split | (with_reducible refine (foldl_owners _ _ (fun s x => ?_) _).trans ?_) | (simp only [*]; done) | (simp [*]; done)))
@[simp] theorem execRouteSwitch_owners (q : Req) (route : UnitRef) (kind : Byte) (pipe : UnitRef) (s : State) : ∀ res, execRouteSwitch q route kind pipe s = .next res → res.owners = s.owners := by
  intro res h; simp only [execRouteSwitch] at h; cases h; simp
@[simp] theorem windowStep_owners (s : State) (o : ℕ) (rate : ℕ) : (windowStep s o rate).owners = s.owners := by
  unfold windowStep
  repeat' (first | with_reducible rfl | with_reducible assumption | ((try lift_lets); intro zz; first | ((have hz : State.owners zz = State.owners s := by (dsimp only [zz]; repeat' (first | with_reducible rfl | with_reducible assumption | (obtain ⟨rfl, rfl⟩ := Prod.ext_iff.mp ‹_ = (_, _)›) | (obtain ⟨rfl, -⟩ := Prod.ext_iff.mp ‹_ = (_, _)›) | split | (with_reducible refine (foldl_owners _ _ (fun s x => ?_) _).trans ?_) | (simp only [*]; done) | dsimp only | (simp [*]; done)))); clear_value zz) | clear_value zz) | (obtain ⟨rfl, rfl⟩ := Prod.ext_iff.mp ‹_ = (_, _)›) | (obtain ⟨rfl, -⟩ := Prod.ext_iff.mp ‹_ = (_, _)›) | split | (with_reducible refine (foldl_owners _ _ (fun s x => ?_) _).trans ?_) | (simp only [*]; done) | (simp [*]; done))
@[simp] theorem sampleBoundary_owners (s : State) (clk : ℕ) (rate : ℕ) (frames : List (ℕ × List Word)) : (sampleBoundary s clk rate frames).owners = s.owners := by
  simp [sampleBoundary]
@[simp] theorem execSampleBoundary_owners (syn9 : Bool) (rate : Fin 3) (frames : List (ℕ × List Word)) (s : State) : ∀ res, execSampleBoundary syn9 rate frames s = .next res → res.owners = s.owners := by
  intro res h; simp only [execSampleBoundary] at h; cases h; simp
@[simp] theorem execSchedCancel_owners (q : Req) (entry : Half) (tag : Byte) (s : State) : ∀ res, execSchedCancel q entry tag s = .next res → res.owners = s.owners := by
  intro res h; simp only [execSchedCancel] at h; cases h; simp
@[simp] theorem execSchedList_owners (q : Req) (first : Byte) (count : Byte) (s : State) : ∀ res, execSchedList q first count s = .next res → res.owners = s.owners := by
  intro res h; simp only [execSchedList] at h; cases h; simp
@[simp] theorem execSelftest_owners (q : Req) (cls : Byte) (target : Byte) (unit : Half) (s : State) : ∀ res, execSelftest q cls target unit s = .next res → res.owners = s.owners := by
  intro res h; simp only [execSelftest] at h; cases h; simp
@[simp] theorem execSelftestAbort_owners (q : Req) (target : Byte) (s : State) : ∀ res, execSelftestAbort q target s = .next res → res.owners = s.owners := by
  intro res h; simp only [execSelftestAbort] at h; cases h; simp
@[simp] theorem execSelftestComplete_owners (target : Fin 3) (failed : Option (Half × Word)) (s : State) : ∀ res, execSelftestComplete target failed s = .next res → res.owners = s.owners := by
  intro res h
  unfold execSelftestComplete at h
  repeat' (first | (have h := Host.Outcome.next.inj h; subst h; clear h) | (have h := Host.Outcome.next.inj h; subst h) | (simp only [reduceCtorEq] at h; done) | split at h | dsimp only at h | (cases h; done) | (obtain ⟨rfl⟩ := h))
  all_goals (repeat' (first | with_reducible rfl | with_reducible assumption | ((try lift_lets); intro zz; first | ((have hz : State.owners zz = State.owners s := by (dsimp only [zz]; repeat' (first | with_reducible rfl | with_reducible assumption | (obtain ⟨rfl, rfl⟩ := Prod.ext_iff.mp ‹_ = (_, _)›) | (obtain ⟨rfl, -⟩ := Prod.ext_iff.mp ‹_ = (_, _)›) | split | (with_reducible refine (foldl_owners _ _ (fun s x => ?_) _).trans ?_) | (simp only [*]; done) | dsimp only | (simp [*]; done)))); clear_value zz) | clear_value zz) | (obtain ⟨rfl, rfl⟩ := Prod.ext_iff.mp ‹_ = (_, _)›) | (obtain ⟨rfl, -⟩ := Prod.ext_iff.mp ‹_ = (_, _)›) | split | (with_reducible refine (foldl_owners _ _ (fun s x => ?_) _).trans ?_) | (simp only [*]; done) | (simp [*]; done)))
@[simp] theorem stepEvent_owners (s : State) (step : ℕ) : (stepEvent s step).owners = s.owners := by simp [stepEvent]
@[simp] theorem shutdownStep2_owners (s : State) (bound : Bool) : (shutdownStep2 s bound).owners = s.owners := by simp [shutdownStep2]
@[simp] theorem execShutdownStep2_owners (bound : Bool) (s : State) : ∀ res, execShutdownStep2 bound s = .next res → res.owners = s.owners := by
  intro res h
  unfold execShutdownStep2 at h
  repeat' (first | (have h := Host.Outcome.next.inj h; subst h; clear h) | (have h := Host.Outcome.next.inj h; subst h) | (simp only [reduceCtorEq] at h; done) | split at h | dsimp only at h | (cases h; done) | (obtain ⟨rfl⟩ := h))
  all_goals (repeat' (first | with_reducible rfl | with_reducible assumption | ((try lift_lets); intro zz; first | ((have hz : State.owners zz = State.owners s := by (dsimp only [zz]; repeat' (first | with_reducible rfl | with_reducible assumption | (obtain ⟨rfl, rfl⟩ := Prod.ext_iff.mp ‹_ = (_, _)›) | (obtain ⟨rfl, -⟩ := Prod.ext_iff.mp ‹_ = (_, _)›) | split | (with_reducible refine (foldl_owners _ _ (fun s x => ?_) _).trans ?_) | (simp only [*]; done) | dsimp only | (simp [*]; done)))); clear_value zz) | clear_value zz) | (obtain ⟨rfl, rfl⟩ := Prod.ext_iff.mp ‹_ = (_, _)›) | (obtain ⟨rfl, -⟩ := Prod.ext_iff.mp ‹_ = (_, _)›) | split | (with_reducible refine (foldl_owners _ _ (fun s x => ?_) _).trans ?_) | (simp only [*]; done) | (simp [*]; done)))
@[simp] theorem shutdownStep4_owners (s : State) : (shutdownStep4 s).owners = s.owners := by simp [shutdownStep4]
@[simp] theorem execShutdownStep4_owners (s : State) : ∀ res, execShutdownStep4 s = .next res → res.owners = s.owners := by
  intro res h
  unfold execShutdownStep4 at h
  repeat' (first | (have h := Host.Outcome.next.inj h; subst h; clear h) | (have h := Host.Outcome.next.inj h; subst h) | (simp only [reduceCtorEq] at h; done) | split at h | dsimp only at h | (cases h; done) | (obtain ⟨rfl⟩ := h))
  all_goals (repeat' (first | with_reducible rfl | with_reducible assumption | ((try lift_lets); intro zz; first | ((have hz : State.owners zz = State.owners s := by (dsimp only [zz]; repeat' (first | with_reducible rfl | with_reducible assumption | (obtain ⟨rfl, rfl⟩ := Prod.ext_iff.mp ‹_ = (_, _)›) | (obtain ⟨rfl, -⟩ := Prod.ext_iff.mp ‹_ = (_, _)›) | split | (with_reducible refine (foldl_owners _ _ (fun s x => ?_) _).trans ?_) | (simp only [*]; done) | dsimp only | (simp [*]; done)))); clear_value zz) | clear_value zz) | (obtain ⟨rfl, rfl⟩ := Prod.ext_iff.mp ‹_ = (_, _)›) | (obtain ⟨rfl, -⟩ := Prod.ext_iff.mp ‹_ = (_, _)›) | split | (with_reducible refine (foldl_owners _ _ (fun s x => ?_) _).trans ?_) | (simp only [*]; done) | (simp [*]; done)))
@[simp] theorem execSidebandMessage_owners (port : Fin 4) (m : SideReq) (s : State) : ∀ res, execSidebandMessage port m s = .next res → res.owners = s.owners := by
  intro res h
  unfold execSidebandMessage at h
  repeat' (first | (have h := Host.Outcome.next.inj h; subst h; clear h) | (have h := Host.Outcome.next.inj h; subst h) | (simp only [reduceCtorEq] at h; done) | split at h | dsimp only at h | (cases h; done) | (obtain ⟨rfl⟩ := h))
  all_goals (repeat' (first | with_reducible rfl | with_reducible assumption | ((try lift_lets); intro zz; first | ((have hz : State.owners zz = State.owners s := by (dsimp only [zz]; repeat' (first | with_reducible rfl | with_reducible assumption | (obtain ⟨rfl, rfl⟩ := Prod.ext_iff.mp ‹_ = (_, _)›) | (obtain ⟨rfl, -⟩ := Prod.ext_iff.mp ‹_ = (_, _)›) | split | (with_reducible refine (foldl_owners _ _ (fun s x => ?_) _).trans ?_) | (simp only [*]; done) | dsimp only | (simp [*]; done)))); clear_value zz) | clear_value zz) | (obtain ⟨rfl, rfl⟩ := Prod.ext_iff.mp ‹_ = (_, _)›) | (obtain ⟨rfl, -⟩ := Prod.ext_iff.mp ‹_ = (_, _)›) | split | (with_reducible refine (foldl_owners _ _ (fun s x => ?_) _).trans ?_) | (simp only [*]; done) | (simp [*]; done)))
@[simp] theorem execSourceLossTimeout_owners (pipe : Fin 80) (s : State) : ∀ res, execSourceLossTimeout pipe s = .next res → res.owners = s.owners := by
  intro res h
  unfold execSourceLossTimeout at h
  repeat' (first | (have h := Host.Outcome.next.inj h; subst h; clear h) | (have h := Host.Outcome.next.inj h; subst h) | (simp only [reduceCtorEq] at h; done) | split at h | dsimp only at h | (cases h; done) | (obtain ⟨rfl⟩ := h))
  all_goals (repeat' (first | with_reducible rfl | with_reducible assumption | ((try lift_lets); intro zz; first | ((have hz : State.owners zz = State.owners s := by (dsimp only [zz]; repeat' (first | with_reducible rfl | with_reducible assumption | (obtain ⟨rfl, rfl⟩ := Prod.ext_iff.mp ‹_ = (_, _)›) | (obtain ⟨rfl, -⟩ := Prod.ext_iff.mp ‹_ = (_, _)›) | split | (with_reducible refine (foldl_owners _ _ (fun s x => ?_) _).trans ?_) | (simp only [*]; done) | dsimp only | (simp [*]; done)))); clear_value zz) | clear_value zz) | (obtain ⟨rfl, rfl⟩ := Prod.ext_iff.mp ‹_ = (_, _)›) | (obtain ⟨rfl, -⟩ := Prod.ext_iff.mp ‹_ = (_, _)›) | split | (with_reducible refine (foldl_owners _ _ (fun s x => ?_) _).trans ?_) | (simp only [*]; done) | (simp [*]; done)))
@[simp] theorem execSwitchWaitBound_owners (bank : Fin 2) (route : Fin 64) (o : Fin 20) (s : State) : ∀ res, execSwitchWaitBound bank route o s = .next res → res.owners = s.owners := by
  intro res h
  unfold execSwitchWaitBound at h
  repeat' (first | (have h := Host.Outcome.next.inj h; subst h; clear h) | (have h := Host.Outcome.next.inj h; subst h) | (simp only [reduceCtorEq] at h; done) | split at h | dsimp only at h | (cases h; done) | (obtain ⟨rfl⟩ := h))
  all_goals (repeat' (first | with_reducible rfl | with_reducible assumption | ((try lift_lets); intro zz; first | ((have hz : State.owners zz = State.owners s := by (dsimp only [zz]; repeat' (first | with_reducible rfl | with_reducible assumption | (obtain ⟨rfl, rfl⟩ := Prod.ext_iff.mp ‹_ = (_, _)›) | (obtain ⟨rfl, -⟩ := Prod.ext_iff.mp ‹_ = (_, _)›) | split | (with_reducible refine (foldl_owners _ _ (fun s x => ?_) _).trans ?_) | (simp only [*]; done) | dsimp only | (simp [*]; done)))); clear_value zz) | clear_value zz) | (obtain ⟨rfl, rfl⟩ := Prod.ext_iff.mp ‹_ = (_, _)›) | (obtain ⟨rfl, -⟩ := Prod.ext_iff.mp ‹_ = (_, _)›) | split | (with_reducible refine (foldl_owners _ _ (fun s x => ?_) _).trans ?_) | (simp only [*]; done) | (simp [*]; done)))
@[simp] theorem execSynBandStore_owners (q : Req) (syn : Byte) (mem : Byte) (s : State) : ∀ res, execSynBandStore q syn mem s = .next res → res.owners = s.owners := by
  intro res h; simp only [execSynBandStore] at h; cases h; simp
@[simp] theorem execSynBandStoreComplete_owners (n : Fin 12) (s : State) : ∀ res, execSynBandStoreComplete n s = .next res → res.owners = s.owners := by
  intro res h
  unfold execSynBandStoreComplete at h
  repeat' (first | (have h := Host.Outcome.next.inj h; subst h; clear h) | (have h := Host.Outcome.next.inj h; subst h) | (simp only [reduceCtorEq] at h; done) | split at h | dsimp only at h | (cases h; done) | (obtain ⟨rfl⟩ := h))
  all_goals (repeat' (first | with_reducible rfl | with_reducible assumption | ((try lift_lets); intro zz; first | ((have hz : State.owners zz = State.owners s := by (dsimp only [zz]; repeat' (first | with_reducible rfl | with_reducible assumption | (obtain ⟨rfl, rfl⟩ := Prod.ext_iff.mp ‹_ = (_, _)›) | (obtain ⟨rfl, -⟩ := Prod.ext_iff.mp ‹_ = (_, _)›) | split | (with_reducible refine (foldl_owners _ _ (fun s x => ?_) _).trans ?_) | (simp only [*]; done) | dsimp only | (simp [*]; done)))); clear_value zz) | clear_value zz) | (obtain ⟨rfl, rfl⟩ := Prod.ext_iff.mp ‹_ = (_, _)›) | (obtain ⟨rfl, -⟩ := Prod.ext_iff.mp ‹_ = (_, _)›) | split | (with_reducible refine (foldl_owners _ _ (fun s x => ?_) _).trans ?_) | (simp only [*]; done) | (simp [*]; done)))
@[simp] theorem execSynDitherSeedWrite_owners (q : Req) (syn : Byte) (seed : Word) (s : State) : ∀ res, execSynDitherSeedWrite q syn seed s = .next res → res.owners = s.owners := by
  intro res h; simp only [execSynDitherSeedWrite] at h; cases h; simp
@[simp] theorem execSynEnWrite_owners (q : Req) (syn : Byte) (en : Bool) (s : State) : ∀ res, execSynEnWrite q syn en s = .next res → res.owners = s.owners := by
  intro res h; simp only [execSynEnWrite] at h; cases h; simp
@[simp] theorem execSynFreqWrite_owners (q : Req) (syn : Byte) (value : Word) (s : State) : ∀ res, execSynFreqWrite q syn value s = .next res → res.owners = s.owners := by
  intro res h; simp only [execSynFreqWrite] at h; cases h; simp
@[simp] theorem execSynHop_owners (q : Req) (syn : Byte) (mem : Byte) (word : Word) (s : State) : ∀ res, execSynHop q syn mem word s = .next res → res.owners = s.owners := by
  intro res h; simp only [execSynHop] at h; cases h; simp
@[simp] theorem execSynHopLockTimeout_owners (n : Fin 12) (s : State) : ∀ res, execSynHopLockTimeout n s = .next res → res.owners = s.owners := by
  intro res h
  unfold execSynHopLockTimeout at h
  repeat' (first | (have h := Host.Outcome.next.inj h; subst h; clear h) | (have h := Host.Outcome.next.inj h; subst h) | (simp only [reduceCtorEq] at h; done) | split at h | dsimp only at h | (cases h; done) | (obtain ⟨rfl⟩ := h))
  all_goals (repeat' (first | with_reducible rfl | with_reducible assumption | ((try lift_lets); intro zz; first | ((have hz : State.owners zz = State.owners s := by (dsimp only [zz]; repeat' (first | with_reducible rfl | with_reducible assumption | (obtain ⟨rfl, rfl⟩ := Prod.ext_iff.mp ‹_ = (_, _)›) | (obtain ⟨rfl, -⟩ := Prod.ext_iff.mp ‹_ = (_, _)›) | split | (with_reducible refine (foldl_owners _ _ (fun s x => ?_) _).trans ?_) | (simp only [*]; done) | dsimp only | (simp [*]; done)))); clear_value zz) | clear_value zz) | (obtain ⟨rfl, rfl⟩ := Prod.ext_iff.mp ‹_ = (_, _)›) | (obtain ⟨rfl, -⟩ := Prod.ext_iff.mp ‹_ = (_, _)›) | split | (with_reducible refine (foldl_owners _ _ (fun s x => ?_) _).trans ?_) | (simp only [*]; done) | (simp [*]; done)))
@[simp] theorem execSynLockAcquired_owners (n : Fin 12) (band : ℕ) (post : ℕ) (s : State) : ∀ res, execSynLockAcquired n band post s = .next res → res.owners = s.owners := by
  intro res h
  simp only [execSynLockAcquired] at h
  have e := drawWord_owners s
  generalize drawWord s = p at e h
  generalize (match (syn s n.val).task with | SynTask.hop m => _ | _ => _ : Band) = kept at h
  repeat' split at h
  all_goals (have h := Host.Outcome.next.inj h; subst h; simp [e])
@[simp] theorem haltOutputs_owners (s : State) (syn : ℕ) : (haltOutputs s syn).owners = s.owners := by
  unfold haltOutputs
  repeat' (first | with_reducible rfl | with_reducible assumption | ((try lift_lets); intro zz; first | ((have hz : State.owners zz = State.owners s := by (dsimp only [zz]; repeat' (first | with_reducible rfl | with_reducible assumption | (obtain ⟨rfl, rfl⟩ := Prod.ext_iff.mp ‹_ = (_, _)›) | (obtain ⟨rfl, -⟩ := Prod.ext_iff.mp ‹_ = (_, _)›) | split | (with_reducible refine (foldl_owners _ _ (fun s x => ?_) _).trans ?_) | (simp only [*]; done) | dsimp only | (simp [*]; done)))); clear_value zz) | clear_value zz) | (obtain ⟨rfl, rfl⟩ := Prod.ext_iff.mp ‹_ = (_, _)›) | (obtain ⟨rfl, -⟩ := Prod.ext_iff.mp ‹_ = (_, _)›) | split | (with_reducible refine (foldl_owners _ _ (fun s x => ?_) _).trans ?_) | (simp only [*]; done) | (simp [*]; done))
@[simp] theorem syn10Gated_owners (s : State) : (syn10Gated s).owners = s.owners := by simp [syn10Gated]
@[simp] theorem synLost_owners (s : State) (n : ℕ) : (synLost s n).owners = s.owners := by simp [synLost]
@[simp] theorem execSynLossOfLock_owners (n : Fin 12) (s : State) : ∀ res, execSynLossOfLock n s = .next res → res.owners = s.owners := by
  intro res h; simp only [execSynLossOfLock] at h; cases h; simp
@[simp] theorem execSynRampLoad_owners (q : Req) (syn : Byte) (segs : List Seg) (s : State) : ∀ res, execSynRampLoad q syn segs s = .next res → res.owners = s.owners := by
  intro res h; simp only [execSynRampLoad] at h; cases h; simp
@[simp] theorem execSynRampStart_owners (q : Req) (syn : Byte) (s : State) : ∀ res, execSynRampStart q syn s = .next res → res.owners = s.owners := by
  intro res h; simp only [execSynRampStart] at h; cases h; simp
@[simp] theorem execSynSearchTimeout_owners (n : Fin 12) (s : State) : ∀ res, execSynSearchTimeout n s = .next res → res.owners = s.owners := by
  intro res h
  unfold execSynSearchTimeout at h
  repeat' (first | (have h := Host.Outcome.next.inj h; subst h; clear h) | (have h := Host.Outcome.next.inj h; subst h) | (simp only [reduceCtorEq] at h; done) | split at h | dsimp only at h | (cases h; done) | (obtain ⟨rfl⟩ := h))
  all_goals (repeat' (first | with_reducible rfl | with_reducible assumption | ((try lift_lets); intro zz; first | ((have hz : State.owners zz = State.owners s := by (dsimp only [zz]; repeat' (first | with_reducible rfl | with_reducible assumption | (obtain ⟨rfl, rfl⟩ := Prod.ext_iff.mp ‹_ = (_, _)›) | (obtain ⟨rfl, -⟩ := Prod.ext_iff.mp ‹_ = (_, _)›) | split | (with_reducible refine (foldl_owners _ _ (fun s x => ?_) _).trans ?_) | (simp only [*]; done) | dsimp only | (simp [*]; done)))); clear_value zz) | clear_value zz) | (obtain ⟨rfl, rfl⟩ := Prod.ext_iff.mp ‹_ = (_, _)›) | (obtain ⟨rfl, -⟩ := Prod.ext_iff.mp ‹_ = (_, _)›) | split | (with_reducible refine (foldl_owners _ _ (fun s x => ?_) _).trans ?_) | (simp only [*]; done) | (simp [*]; done)))
@[simp] theorem execSynSpreadWrite_owners (q : Req) (syn : Byte) (mode : BitVec 2) (depth : Byte) (s : State) : ∀ res, execSynSpreadWrite q syn mode depth s = .next res → res.owners = s.owners := by
  intro res h; simp only [execSynSpreadWrite] at h; cases h; simp
@[simp] theorem restartHalted_owners (s : State) (syn : ℕ) : (restartHalted s syn).owners = s.owners := by simp [restartHalted]
@[simp] theorem execSynUngate_owners (n : Fin 12) (s : State) : ∀ res, execSynUngate n s = .next res → res.owners = s.owners := by
  intro res h
  unfold execSynUngate at h
  repeat' (first | (have h := Host.Outcome.next.inj h; subst h; clear h) | (have h := Host.Outcome.next.inj h; subst h) | (simp only [reduceCtorEq] at h; done) | split at h | dsimp only at h | (cases h; done) | (obtain ⟨rfl⟩ := h))
  all_goals (repeat' (first | with_reducible rfl | with_reducible assumption | ((try lift_lets); intro zz; first | ((have hz : State.owners zz = State.owners s := by (dsimp only [zz]; repeat' (first | with_reducible rfl | with_reducible assumption | (obtain ⟨rfl, rfl⟩ := Prod.ext_iff.mp ‹_ = (_, _)›) | (obtain ⟨rfl, -⟩ := Prod.ext_iff.mp ‹_ = (_, _)›) | split | (with_reducible refine (foldl_owners _ _ (fun s x => ?_) _).trans ?_) | (simp only [*]; done) | dsimp only | (simp [*]; done)))); clear_value zz) | clear_value zz) | (obtain ⟨rfl, rfl⟩ := Prod.ext_iff.mp ‹_ = (_, _)›) | (obtain ⟨rfl, -⟩ := Prod.ext_iff.mp ‹_ = (_, _)›) | split | (with_reducible refine (foldl_owners _ _ (fun s x => ?_) _).trans ?_) | (simp only [*]; done) | (simp [*]; done)))
@[simp] theorem execSysReset_owners (q : Req) (scope : Byte) (confirm : Word) (s : State) : ∀ res, execSysReset q scope confirm s = .next res → res.owners = s.owners := by
  intro res h; simp only [execSysReset] at h; cases h; simp
@[simp] theorem takeover_owners (s : State) (f : Failover) (checks : Bool) : (takeover s f checks).owners = s.owners := by simp [takeover]
@[simp] theorem execTakeover_owners (checks : Bool) (s : State) : ∀ res, execTakeover checks s = .next res → res.owners = s.owners := by
  intro res h
  unfold execTakeover at h
  repeat' (first | (have h := Host.Outcome.next.inj h; subst h; clear h) | (have h := Host.Outcome.next.inj h; subst h) | (simp only [reduceCtorEq] at h; done) | split at h | dsimp only at h | (cases h; done) | (obtain ⟨rfl⟩ := h))
  all_goals (repeat' (first | with_reducible rfl | with_reducible assumption | ((try lift_lets); intro zz; first | ((have hz : State.owners zz = State.owners s := by (dsimp only [zz]; repeat' (first | with_reducible rfl | with_reducible assumption | (obtain ⟨rfl, rfl⟩ := Prod.ext_iff.mp ‹_ = (_, _)›) | (obtain ⟨rfl, -⟩ := Prod.ext_iff.mp ‹_ = (_, _)›) | split | (with_reducible refine (foldl_owners _ _ (fun s x => ?_) _).trans ?_) | (simp only [*]; done) | dsimp only | (simp [*]; done)))); clear_value zz) | clear_value zz) | (obtain ⟨rfl, rfl⟩ := Prod.ext_iff.mp ‹_ = (_, _)›) | (obtain ⟨rfl, -⟩ := Prod.ext_iff.mp ‹_ = (_, _)›) | split | (with_reducible refine (foldl_owners _ _ (fun s x => ?_) _).trans ?_) | (simp only [*]; done) | (simp [*]; done)))
@[simp] theorem execTbPpsPulse_owners (high : Bool) (s : State) : ∀ res, execTbPpsPulse high s = .next res → res.owners = s.owners := by
  intro res h
  unfold execTbPpsPulse at h
  repeat' (first | (have h := Host.Outcome.next.inj h; subst h; clear h) | (have h := Host.Outcome.next.inj h; subst h) | (simp only [reduceCtorEq] at h; done) | split at h | dsimp only at h | (cases h; done) | (obtain ⟨rfl⟩ := h))
  all_goals (repeat' (first | with_reducible rfl | with_reducible assumption | ((try lift_lets); intro zz; first | ((have hz : State.owners zz = State.owners s := by (dsimp only [zz]; repeat' (first | with_reducible rfl | with_reducible assumption | (obtain ⟨rfl, rfl⟩ := Prod.ext_iff.mp ‹_ = (_, _)›) | (obtain ⟨rfl, -⟩ := Prod.ext_iff.mp ‹_ = (_, _)›) | split | (with_reducible refine (foldl_owners _ _ (fun s x => ?_) _).trans ?_) | (simp only [*]; done) | dsimp only | (simp [*]; done)))); clear_value zz) | clear_value zz) | (obtain ⟨rfl, rfl⟩ := Prod.ext_iff.mp ‹_ = (_, _)›) | (obtain ⟨rfl, -⟩ := Prod.ext_iff.mp ‹_ = (_, _)›) | split | (with_reducible refine (foldl_owners _ _ (fun s x => ?_) _).trans ?_) | (simp only [*]; done) | (simp [*]; done)))
@[simp] theorem execTbRead_owners (q : Req) (s : State) : ∀ res, execTbRead q s = .next res → res.owners = s.owners := by
  intro res h; simp only [execTbRead] at h; cases h; simp
@[simp] theorem execTbSet_owners (q : Req) (ns : W64) (frac : Half) (s : State) : ∀ res, execTbSet q ns frac s = .next res → res.owners = s.owners := by
  intro res h; simp only [execTbSet] at h; cases h; simp
@[simp] theorem execTdmPortStart_owners (p : Fin 8) (s : State) : ∀ res, execTdmPortStart p s = .next res → res.owners = s.owners := by
  intro res h
  unfold execTdmPortStart at h
  repeat' (first | (have h := Host.Outcome.next.inj h; subst h; clear h) | (have h := Host.Outcome.next.inj h; subst h) | (simp only [reduceCtorEq] at h; done) | split at h | dsimp only at h | (cases h; done) | (obtain ⟨rfl⟩ := h))
  all_goals (repeat' (first | with_reducible rfl | with_reducible assumption | ((try lift_lets); intro zz; first | ((have hz : State.owners zz = State.owners s := by (dsimp only [zz]; repeat' (first | with_reducible rfl | with_reducible assumption | (obtain ⟨rfl, rfl⟩ := Prod.ext_iff.mp ‹_ = (_, _)›) | (obtain ⟨rfl, -⟩ := Prod.ext_iff.mp ‹_ = (_, _)›) | split | (with_reducible refine (foldl_owners _ _ (fun s x => ?_) _).trans ?_) | (simp only [*]; done) | dsimp only | (simp [*]; done)))); clear_value zz) | clear_value zz) | (obtain ⟨rfl, rfl⟩ := Prod.ext_iff.mp ‹_ = (_, _)›) | (obtain ⟨rfl, -⟩ := Prod.ext_iff.mp ‹_ = (_, _)›) | split | (with_reducible refine (foldl_owners _ _ (fun s x => ?_) _).trans ?_) | (simp only [*]; done) | (simp [*]; done)))
@[simp] theorem execTdmPortStop_owners (p : Fin 8) (s : State) : ∀ res, execTdmPortStop p s = .next res → res.owners = s.owners := by
  intro res h
  unfold execTdmPortStop at h
  repeat' (first | (have h := Host.Outcome.next.inj h; subst h; clear h) | (have h := Host.Outcome.next.inj h; subst h) | (simp only [reduceCtorEq] at h; done) | split at h | dsimp only at h | (cases h; done) | (obtain ⟨rfl⟩ := h))
  all_goals (repeat' (first | with_reducible rfl | with_reducible assumption | ((try lift_lets); intro zz; first | ((have hz : State.owners zz = State.owners s := by (dsimp only [zz]; repeat' (first | with_reducible rfl | with_reducible assumption | (obtain ⟨rfl, rfl⟩ := Prod.ext_iff.mp ‹_ = (_, _)›) | (obtain ⟨rfl, -⟩ := Prod.ext_iff.mp ‹_ = (_, _)›) | split | (with_reducible refine (foldl_owners _ _ (fun s x => ?_) _).trans ?_) | (simp only [*]; done) | dsimp only | (simp [*]; done)))); clear_value zz) | clear_value zz) | (obtain ⟨rfl, rfl⟩ := Prod.ext_iff.mp ‹_ = (_, _)›) | (obtain ⟨rfl, -⟩ := Prod.ext_iff.mp ‹_ = (_, _)›) | split | (with_reducible refine (foldl_owners _ _ (fun s x => ?_) _).trans ?_) | (simp only [*]; done) | (simp [*]; done)))
@[simp] theorem execThermalWatch_owners (s : State) : ∀ res, execThermalWatch s = .next res → res.owners = s.owners := by
  intro res h
  unfold execThermalWatch at h
  repeat' (first | (have h := Host.Outcome.next.inj h; subst h; clear h) | (have h := Host.Outcome.next.inj h; subst h) | (simp only [reduceCtorEq] at h; done) | split at h | dsimp only at h | (cases h; done) | (obtain ⟨rfl⟩ := h))
  all_goals (repeat' (first | with_reducible rfl | with_reducible assumption | ((try lift_lets); intro zz; first | ((have hz : State.owners zz = State.owners s := by (dsimp only [zz]; repeat' (first | with_reducible rfl | with_reducible assumption | (obtain ⟨rfl, rfl⟩ := Prod.ext_iff.mp ‹_ = (_, _)›) | (obtain ⟨rfl, -⟩ := Prod.ext_iff.mp ‹_ = (_, _)›) | split | (with_reducible refine (foldl_owners _ _ (fun s x => ?_) _).trans ?_) | (simp only [*]; done) | dsimp only | (simp [*]; done)))); clear_value zz) | clear_value zz) | (obtain ⟨rfl, rfl⟩ := Prod.ext_iff.mp ‹_ = (_, _)›) | (obtain ⟨rfl, -⟩ := Prod.ext_iff.mp ‹_ = (_, _)›) | split | (with_reducible refine (foldl_owners _ _ (fun s x => ?_) _).trans ?_) | (simp only [*]; done) | (simp [*]; done)))
@[simp] theorem execThmMeasure_owners (q : Req) (mask : Half) (s : State) : ∀ res, execThmMeasure q mask s = .next res → res.owners = s.owners := by
  intro res h; simp only [execThmMeasure] at h; cases h; simp
@[simp] theorem execTileCompare_owners (o : Fin 20) (tile : TileAt) (a : Option (Word × Bool)) (b : Option (Word × Bool)) (s : State) : ∀ res, execTileCompare o tile a b s = .next res → res.owners = s.owners := by
  intro res h; simp only [execTileCompare] at h; cases h; simp
@[simp] theorem tileRow_owners (s : State) (w : Wing) (o : ℕ) (row : ℕ) (tiles : List (ℕ × Option Word)) : (tileRow s w o row tiles).owners = s.owners := by
  unfold tileRow
  repeat' (first | with_reducible rfl | with_reducible assumption | ((try lift_lets); intro zz; first | ((have hz : State.owners zz = State.owners s := by (dsimp only [zz]; repeat' (first | with_reducible rfl | with_reducible assumption | (obtain ⟨rfl, rfl⟩ := Prod.ext_iff.mp ‹_ = (_, _)›) | (obtain ⟨rfl, -⟩ := Prod.ext_iff.mp ‹_ = (_, _)›) | split | (with_reducible refine (foldl_owners _ _ (fun s x => ?_) _).trans ?_) | (simp only [*]; done) | dsimp only | (simp [*]; done)))); clear_value zz) | clear_value zz) | (obtain ⟨rfl, rfl⟩ := Prod.ext_iff.mp ‹_ = (_, _)›) | (obtain ⟨rfl, -⟩ := Prod.ext_iff.mp ‹_ = (_, _)›) | split | (with_reducible refine (foldl_owners _ _ (fun s x => ?_) _).trans ?_) | (simp only [*]; done) | (simp [*]; done))
@[simp] theorem execTileRowRead_owners (w : Wing) (o : Fin 20) (row : ℕ) (tiles : List (ℕ × Option Word)) (s : State) : ∀ res, execTileRowRead w o row tiles s = .next res → res.owners = s.owners := by
  intro res h; simp only [execTileRowRead] at h; cases h; simp
@[simp] theorem execTrafficIdleReturn_owners (port : Fin 24) (dir : Fin 2) (s : State) : ∀ res, execTrafficIdleReturn port dir s = .next res → res.owners = s.owners := by
  intro res h
  unfold execTrafficIdleReturn at h
  repeat' (first | (have h := Host.Outcome.next.inj h; subst h; clear h) | (have h := Host.Outcome.next.inj h; subst h) | (simp only [reduceCtorEq] at h; done) | split at h | dsimp only at h | (cases h; done) | (obtain ⟨rfl⟩ := h))
  all_goals (repeat' (first | with_reducible rfl | with_reducible assumption | ((try lift_lets); intro zz; first | ((have hz : State.owners zz = State.owners s := by (dsimp only [zz]; repeat' (first | with_reducible rfl | with_reducible assumption | (obtain ⟨rfl, rfl⟩ := Prod.ext_iff.mp ‹_ = (_, _)›) | (obtain ⟨rfl, -⟩ := Prod.ext_iff.mp ‹_ = (_, _)›) | split | (with_reducible refine (foldl_owners _ _ (fun s x => ?_) _).trans ?_) | (simp only [*]; done) | dsimp only | (simp [*]; done)))); clear_value zz) | clear_value zz) | (obtain ⟨rfl, rfl⟩ := Prod.ext_iff.mp ‹_ = (_, _)›) | (obtain ⟨rfl, -⟩ := Prod.ext_iff.mp ‹_ = (_, _)›) | split | (with_reducible refine (foldl_owners _ _ (fun s x => ?_) _).trans ?_) | (simp only [*]; done) | (simp [*]; done)))
@[simp] theorem execTransactionTimeout_owners (slice : Fin 3) (m : Fin 16) (target : BusTarget) (s : State) : ∀ res, execTransactionTimeout slice m target s = .next res → res.owners = s.owners := by
  intro res h
  unfold execTransactionTimeout at h
  repeat' (first | (have h := Host.Outcome.next.inj h; subst h; clear h) | (have h := Host.Outcome.next.inj h; subst h) | (simp only [reduceCtorEq] at h; done) | split at h | dsimp only at h | (cases h; done) | (obtain ⟨rfl⟩ := h))
  all_goals (repeat' (first | with_reducible rfl | with_reducible assumption | ((try lift_lets); intro zz; first | ((have hz : State.owners zz = State.owners s := by (dsimp only [zz]; repeat' (first | with_reducible rfl | with_reducible assumption | (obtain ⟨rfl, rfl⟩ := Prod.ext_iff.mp ‹_ = (_, _)›) | (obtain ⟨rfl, -⟩ := Prod.ext_iff.mp ‹_ = (_, _)›) | split | (with_reducible refine (foldl_owners _ _ (fun s x => ?_) _).trans ?_) | (simp only [*]; done) | dsimp only | (simp [*]; done)))); clear_value zz) | clear_value zz) | (obtain ⟨rfl, rfl⟩ := Prod.ext_iff.mp ‹_ = (_, _)›) | (obtain ⟨rfl, -⟩ := Prod.ext_iff.mp ‹_ = (_, _)›) | split | (with_reducible refine (foldl_owners _ _ (fun s x => ?_) _).trans ?_) | (simp only [*]; done) | (simp [*]; done)))
@[simp] theorem execTrigger_owners (q : Req) (port : Byte) (camera : Byte) (word : Word) (s : State) : ∀ res, execTrigger q port camera word s = .next res → res.owners = s.owners := by
  intro res h; simp only [execTrigger] at h; cases h; simp
@[simp] theorem execTriggerDeparture_owners (port : Fin 24) (offset : ℕ) (s : State) : ∀ res, execTriggerDeparture port offset s = .next res → res.owners = s.owners := by
  intro res h
  unfold execTriggerDeparture at h
  repeat' (first | (have h := Host.Outcome.next.inj h; subst h; clear h) | (have h := Host.Outcome.next.inj h; subst h) | (simp only [reduceCtorEq] at h; done) | split at h | dsimp only at h | (cases h; done) | (obtain ⟨rfl⟩ := h))
  all_goals (repeat' (first | with_reducible rfl | with_reducible assumption | ((try lift_lets); intro zz; first | ((have hz : State.owners zz = State.owners s := by (dsimp only [zz]; repeat' (first | with_reducible rfl | with_reducible assumption | (obtain ⟨rfl, rfl⟩ := Prod.ext_iff.mp ‹_ = (_, _)›) | (obtain ⟨rfl, -⟩ := Prod.ext_iff.mp ‹_ = (_, _)›) | split | (with_reducible refine (foldl_owners _ _ (fun s x => ?_) _).trans ?_) | (simp only [*]; done) | dsimp only | (simp [*]; done)))); clear_value zz) | clear_value zz) | (obtain ⟨rfl, rfl⟩ := Prod.ext_iff.mp ‹_ = (_, _)›) | (obtain ⟨rfl, -⟩ := Prod.ext_iff.mp ‹_ = (_, _)›) | split | (with_reducible refine (foldl_owners _ _ (fun s x => ?_) _).trans ?_) | (simp only [*]; done) | (simp [*]; done)))
@[simp] theorem execUnknownTransaction_owners (port : Port) (code : Byte) (s : State) : ∀ res, execUnknownTransaction port code s = .next res → res.owners = s.owners := by
  intro res h
  unfold execUnknownTransaction at h
  repeat' (first | (have h := Host.Outcome.next.inj h; subst h; clear h) | (have h := Host.Outcome.next.inj h; subst h) | (simp only [reduceCtorEq] at h; done) | split at h | dsimp only at h | (cases h; done) | (obtain ⟨rfl⟩ := h))
  all_goals (repeat' (first | with_reducible rfl | with_reducible assumption | ((try lift_lets); intro zz; first | ((have hz : State.owners zz = State.owners s := by (dsimp only [zz]; repeat' (first | with_reducible rfl | with_reducible assumption | (obtain ⟨rfl, rfl⟩ := Prod.ext_iff.mp ‹_ = (_, _)›) | (obtain ⟨rfl, -⟩ := Prod.ext_iff.mp ‹_ = (_, _)›) | split | (with_reducible refine (foldl_owners _ _ (fun s x => ?_) _).trans ?_) | (simp only [*]; done) | dsimp only | (simp [*]; done)))); clear_value zz) | clear_value zz) | (obtain ⟨rfl, rfl⟩ := Prod.ext_iff.mp ‹_ = (_, _)›) | (obtain ⟨rfl, -⟩ := Prod.ext_iff.mp ‹_ = (_, _)›) | split | (with_reducible refine (foldl_owners _ _ (fun s x => ?_) _).trans ?_) | (simp only [*]; done) | (simp [*]; done)))
@[simp] theorem execVbIdTransition_owners (port : Fin 4) (sub : Fin 4) (starts : Bool) (drift : ℤ) (s : State) : ∀ res, execVbIdTransition port sub starts drift s = .next res → res.owners = s.owners := by
  intro res h
  unfold execVbIdTransition at h
  repeat' (first | (have h := Host.Outcome.next.inj h; subst h; clear h) | (have h := Host.Outcome.next.inj h; subst h) | (simp only [reduceCtorEq] at h; done) | split at h | dsimp only at h | (cases h; done) | (obtain ⟨rfl⟩ := h))
  all_goals (repeat' (first | with_reducible rfl | with_reducible assumption | ((try lift_lets); intro zz; first | ((have hz : State.owners zz = State.owners s := by (dsimp only [zz]; repeat' (first | with_reducible rfl | with_reducible assumption | (obtain ⟨rfl, rfl⟩ := Prod.ext_iff.mp ‹_ = (_, _)›) | (obtain ⟨rfl, -⟩ := Prod.ext_iff.mp ‹_ = (_, _)›) | split | (with_reducible refine (foldl_owners _ _ (fun s x => ?_) _).trans ?_) | (simp only [*]; done) | dsimp only | (simp [*]; done)))); clear_value zz) | clear_value zz) | (obtain ⟨rfl, rfl⟩ := Prod.ext_iff.mp ‹_ = (_, _)›) | (obtain ⟨rfl, -⟩ := Prod.ext_iff.mp ‹_ = (_, _)›) | split | (with_reducible refine (foldl_owners _ _ (fun s x => ?_) _).trans ?_) | (simp only [*]; done) | (simp [*]; done)))
@[simp] theorem execVitCommit_owners (q : Req) (slot : Byte) (len : Word) (crc : Word) (s : State) : ∀ res, execVitCommit q slot len crc s = .next res → res.owners = s.owners := by
  intro res h; simp only [execVitCommit] at h; cases h; simp
@[simp] theorem execVitCommitComplete_owners (n : Fin 64) (s : State) : ∀ res, execVitCommitComplete n s = .next res → res.owners = s.owners := by
  intro res h
  unfold execVitCommitComplete at h
  repeat' (first | (have h := Host.Outcome.next.inj h; subst h; clear h) | (have h := Host.Outcome.next.inj h; subst h) | (simp only [reduceCtorEq] at h; done) | split at h | dsimp only at h | (cases h; done) | (obtain ⟨rfl⟩ := h))
  all_goals (repeat' (first | with_reducible rfl | with_reducible assumption | ((try lift_lets); intro zz; first | ((have hz : State.owners zz = State.owners s := by (dsimp only [zz]; repeat' (first | with_reducible rfl | with_reducible assumption | (obtain ⟨rfl, rfl⟩ := Prod.ext_iff.mp ‹_ = (_, _)›) | (obtain ⟨rfl, -⟩ := Prod.ext_iff.mp ‹_ = (_, _)›) | split | (with_reducible refine (foldl_owners _ _ (fun s x => ?_) _).trans ?_) | (simp only [*]; done) | dsimp only | (simp [*]; done)))); clear_value zz) | clear_value zz) | (obtain ⟨rfl, rfl⟩ := Prod.ext_iff.mp ‹_ = (_, _)›) | (obtain ⟨rfl, -⟩ := Prod.ext_iff.mp ‹_ = (_, _)›) | split | (with_reducible refine (foldl_owners _ _ (fun s x => ?_) _).trans ?_) | (simp only [*]; done) | (simp [*]; done)))
@[simp] theorem execVitData_owners (q : Req) (slot : Byte) (offset : Word) (data : List Byte) (s : State) : ∀ res, execVitData q slot offset data s = .next res → res.owners = s.owners := by
  intro res h; simp only [execVitData] at h; cases h; simp
@[simp] theorem execVltChallenge_owners (q : Req) (nonce : List Byte) (s : State) : ∀ res, execVltChallenge q nonce s = .next res → res.owners = s.owners := by
  intro res h; simp only [execVltChallenge] at h; cases h; simp
@[simp] theorem execVltChallengeComplete_owners (s : State) : ∀ res, execVltChallengeComplete s = .next res → res.owners = s.owners := by
  intro res h
  unfold execVltChallengeComplete at h
  repeat' (first | (have h := Host.Outcome.next.inj h; subst h; clear h) | (have h := Host.Outcome.next.inj h; subst h) | (simp only [reduceCtorEq] at h; done) | split at h | dsimp only at h | (cases h; done) | (obtain ⟨rfl⟩ := h))
  all_goals (repeat' (first | with_reducible rfl | with_reducible assumption | ((try lift_lets); intro zz; first | ((have hz : State.owners zz = State.owners s := by (dsimp only [zz]; repeat' (first | with_reducible rfl | with_reducible assumption | (obtain ⟨rfl, rfl⟩ := Prod.ext_iff.mp ‹_ = (_, _)›) | (obtain ⟨rfl, -⟩ := Prod.ext_iff.mp ‹_ = (_, _)›) | split | (with_reducible refine (foldl_owners _ _ (fun s x => ?_) _).trans ?_) | (simp only [*]; done) | dsimp only | (simp [*]; done)))); clear_value zz) | clear_value zz) | (obtain ⟨rfl, rfl⟩ := Prod.ext_iff.mp ‹_ = (_, _)›) | (obtain ⟨rfl, -⟩ := Prod.ext_iff.mp ‹_ = (_, _)›) | split | (with_reducible refine (foldl_owners _ _ (fun s x => ?_) _).trans ?_) | (simp only [*]; done) | (simp [*]; done)))
@[simp] theorem execVltDerive_owners (q : Req) (slot : Byte) (ctx : List Byte) (s : State) : ∀ res, execVltDerive q slot ctx s = .next res → res.owners = s.owners := by
  intro res h; simp only [execVltDerive] at h; cases h; simp
@[simp] theorem zeroCounters_owners (s : State) : (zeroCounters s).owners = s.owners := by simp [zeroCounters]
@[simp] theorem execVltDeriveComplete_owners (s : State) : ∀ res, execVltDeriveComplete s = .next res → res.owners = s.owners := by
  intro res h
  unfold execVltDeriveComplete at h
  repeat' (first | (have h := Host.Outcome.next.inj h; subst h; clear h) | (have h := Host.Outcome.next.inj h; subst h) | (simp only [reduceCtorEq] at h; done) | split at h | dsimp only at h | (cases h; done) | (obtain ⟨rfl⟩ := h))
  all_goals (repeat' (first | with_reducible rfl | with_reducible assumption | ((try lift_lets); intro zz; first | ((have hz : State.owners zz = State.owners s := by (dsimp only [zz]; repeat' (first | with_reducible rfl | with_reducible assumption | (obtain ⟨rfl, rfl⟩ := Prod.ext_iff.mp ‹_ = (_, _)›) | (obtain ⟨rfl, -⟩ := Prod.ext_iff.mp ‹_ = (_, _)›) | split | (with_reducible refine (foldl_owners _ _ (fun s x => ?_) _).trans ?_) | (simp only [*]; done) | dsimp only | (simp [*]; done)))); clear_value zz) | clear_value zz) | (obtain ⟨rfl, rfl⟩ := Prod.ext_iff.mp ‹_ = (_, _)›) | (obtain ⟨rfl, -⟩ := Prod.ext_iff.mp ‹_ = (_, _)›) | split | (with_reducible refine (foldl_owners _ _ (fun s x => ?_) _).trans ?_) | (simp only [*]; done) | (simp [*]; done)))
@[simp] theorem execVltInvalidate_owners (q : Req) (slot : Byte) (s : State) : ∀ res, execVltInvalidate q slot s = .next res → res.owners = s.owners := by
  intro res h; simp only [execVltInvalidate] at h; cases h; simp
@[simp] theorem execVltSecretWrite_owners (q : Req) (slot : Byte) (secret : List Byte) (s : State) : ∀ res, execVltSecretWrite q slot secret s = .next res → res.owners = s.owners := by
  intro res h; simp only [execVltSecretWrite] at h; cases h; simp
@[simp] theorem execVltStatus_owners (q : Req) (s : State) : ∀ res, execVltStatus q s = .next res → res.owners = s.owners := by
  intro res h; simp only [execVltStatus] at h; cases h; simp
@[simp] theorem execW1cClear_owners (q : Req) (addr : Addr) (bank : Byte) (ones : Word) (s : State) : ∀ res, execW1cClear q addr bank ones s = .next res → res.owners = s.owners := by
  intro res h; simp only [execW1cClear] at h; cases h; simp
@[simp] theorem execWakeTimeout_owners (w : Wing) (s : State) : ∀ res, execWakeTimeout w s = .next res → res.owners = s.owners := by
  intro res h
  unfold execWakeTimeout at h
  repeat' (first | (have h := Host.Outcome.next.inj h; subst h; clear h) | (have h := Host.Outcome.next.inj h; subst h) | (simp only [reduceCtorEq] at h; done) | split at h | dsimp only at h | (cases h; done) | (obtain ⟨rfl⟩ := h))
  all_goals (repeat' (first | with_reducible rfl | with_reducible assumption | ((try lift_lets); intro zz; first | ((have hz : State.owners zz = State.owners s := by (dsimp only [zz]; repeat' (first | with_reducible rfl | with_reducible assumption | (obtain ⟨rfl, rfl⟩ := Prod.ext_iff.mp ‹_ = (_, _)›) | (obtain ⟨rfl, -⟩ := Prod.ext_iff.mp ‹_ = (_, _)›) | split | (with_reducible refine (foldl_owners _ _ (fun s x => ?_) _).trans ?_) | (simp only [*]; done) | dsimp only | (simp [*]; done)))); clear_value zz) | clear_value zz) | (obtain ⟨rfl, rfl⟩ := Prod.ext_iff.mp ‹_ = (_, _)›) | (obtain ⟨rfl, -⟩ := Prod.ext_iff.mp ‹_ = (_, _)›) | split | (with_reducible refine (foldl_owners _ _ (fun s x => ?_) _).trans ?_) | (simp only [*]; done) | (simp [*]; done)))
@[simp] theorem execWakeTimeoutPlk_owners (port : Fin 24) (s : State) : ∀ res, execWakeTimeoutPlk port s = .next res → res.owners = s.owners := by
  intro res h
  unfold execWakeTimeoutPlk at h
  repeat' (first | (have h := Host.Outcome.next.inj h; subst h; clear h) | (have h := Host.Outcome.next.inj h; subst h) | (simp only [reduceCtorEq] at h; done) | split at h | dsimp only at h | (cases h; done) | (obtain ⟨rfl⟩ := h))
  all_goals (repeat' (first | with_reducible rfl | with_reducible assumption | ((try lift_lets); intro zz; first | ((have hz : State.owners zz = State.owners s := by (dsimp only [zz]; repeat' (first | with_reducible rfl | with_reducible assumption | (obtain ⟨rfl, rfl⟩ := Prod.ext_iff.mp ‹_ = (_, _)›) | (obtain ⟨rfl, -⟩ := Prod.ext_iff.mp ‹_ = (_, _)›) | split | (with_reducible refine (foldl_owners _ _ (fun s x => ?_) _).trans ?_) | (simp only [*]; done) | dsimp only | (simp [*]; done)))); clear_value zz) | clear_value zz) | (obtain ⟨rfl, rfl⟩ := Prod.ext_iff.mp ‹_ = (_, _)›) | (obtain ⟨rfl, -⟩ := Prod.ext_iff.mp ‹_ = (_, _)›) | split | (with_reducible refine (foldl_owners _ _ (fun s x => ?_) _).trans ?_) | (simp only [*]; done) | (simp [*]; done)))
@[simp] theorem execWingFault_owners (w : Wing) (cause : Fin 5) (s : State) : ∀ res, execWingFault w cause s = .next res → res.owners = s.owners := by
  intro res h; simp only [execWingFault] at h; cases h; simp
@[simp] theorem readmitReady_owners (s : State) (w : Wing) : (readmitReady s w).owners = s.owners := by simp [readmitReady]
@[simp] theorem wakeDone_owners (s : State) (w : Wing) : (wakeDone s w).owners = s.owners := by
  unfold wakeDone; repeat' (first | with_reducible rfl | (simp; done) | split | dsimp only)
@[simp] theorem execWingReady_owners (w : Wing) (s : State) : ∀ res, execWingReady w s = .next res → res.owners = s.owners := by
  intro res h
  unfold execWingReady at h
  repeat' (first | (have h := Host.Outcome.next.inj h; subst h; clear h) | (have h := Host.Outcome.next.inj h; subst h) | (simp only [reduceCtorEq] at h; done) | split at h | dsimp only at h | (cases h; done) | (obtain ⟨rfl⟩ := h))
  all_goals (repeat' (first | with_reducible rfl | with_reducible assumption | ((try lift_lets); intro zz; first | ((have hz : State.owners zz = State.owners s := by (dsimp only [zz]; repeat' (first | with_reducible rfl | with_reducible assumption | (obtain ⟨rfl, rfl⟩ := Prod.ext_iff.mp ‹_ = (_, _)›) | (obtain ⟨rfl, -⟩ := Prod.ext_iff.mp ‹_ = (_, _)›) | split | (with_reducible refine (foldl_owners _ _ (fun s x => ?_) _).trans ?_) | (simp only [*]; done) | dsimp only | (simp [*]; done)))); clear_value zz) | clear_value zz) | (obtain ⟨rfl, rfl⟩ := Prod.ext_iff.mp ‹_ = (_, _)›) | (obtain ⟨rfl, -⟩ := Prod.ext_iff.mp ‹_ = (_, _)›) | split | (with_reducible refine (foldl_owners _ _ (fun s x => ?_) _).trans ?_) | (simp only [*]; done) | (simp [*]; done)))
@[simp] theorem execWingSupplyFault_owners (w : Wing) (s : State) : ∀ res, execWingSupplyFault w s = .next res → res.owners = s.owners := by
  intro res h; simp only [execWingSupplyFault] at h; cases h; simp
@[simp] theorem execWrite_owners (q : Req) (addr : Addr) (bank : Byte) (value : Word) (s : State) : ∀ res, execWrite q addr bank value s = .next res → res.owners = s.owners := by
  intro res h; simp only [execWrite] at h; cases h; simp
@[simp] theorem execWriteMasked_owners (q : Req) (addr : Addr) (bank : Byte) (mask : Word) (value : Word) (s : State) : ∀ res, execWriteMasked q addr bank mask value s = .next res → res.owners = s.owners := by
  intro res h; simp only [execWriteMasked] at h; cases h; simp
@[simp] theorem execWritePacket_owners (port : Port) (bytes : List Byte) (s : State) : ∀ res, execWritePacket port bytes s = .next res → res.owners = s.owners := by
  intro res h
  unfold execWritePacket at h
  repeat' (first | (have h := Host.Outcome.next.inj h; subst h; clear h) | (have h := Host.Outcome.next.inj h; subst h) | (simp only [reduceCtorEq] at h; done) | split at h | dsimp only at h | (cases h; done) | (obtain ⟨rfl⟩ := h))
  all_goals (repeat' (first | with_reducible rfl | with_reducible assumption | ((try lift_lets); intro zz; first | ((have hz : State.owners zz = State.owners s := by (dsimp only [zz]; repeat' (first | with_reducible rfl | with_reducible assumption | (obtain ⟨rfl, rfl⟩ := Prod.ext_iff.mp ‹_ = (_, _)›) | (obtain ⟨rfl, -⟩ := Prod.ext_iff.mp ‹_ = (_, _)›) | split | (with_reducible refine (foldl_owners _ _ (fun s x => ?_) _).trans ?_) | (simp only [*]; done) | dsimp only | (simp [*]; done)))); clear_value zz) | clear_value zz) | (obtain ⟨rfl, rfl⟩ := Prod.ext_iff.mp ‹_ = (_, _)›) | (obtain ⟨rfl, -⟩ := Prod.ext_iff.mp ‹_ = (_, _)›) | split | (with_reducible refine (foldl_owners _ _ (fun s x => ?_) _).trans ?_) | (simp only [*]; done) | (simp [*]; done)))
@[simp] theorem reachBoundary_owners (s : State) (c : XChange) : (reachBoundary s c).1.owners = s.owners := by
  unfold reachBoundary; repeat' (first | with_reducible rfl | (simp; done) | split | dsimp only)
@[simp] theorem reachAll_owners (s : State) (x1 : List XChange) : (reachAll s x1).owners = s.owners := by
  induction x1 generalizing s with
  | nil => rfl
  | cons a l ih => simp [reachAll, ih]
@[simp] theorem execXbarChangeBoundary_owners (s : State) : ∀ res, execXbarChangeBoundary s = .next res → res.owners = s.owners := by
  intro res h; simp only [execXbarChangeBoundary] at h; cases h; simp
@[simp] theorem land_owners (s : State) (f : Flight) : (land s f).1.owners = s.owners := by
  unfold land; repeat' (first | with_reducible rfl | (simp; done) | split | dsimp only)
@[simp] theorem portTick_owners (s : State) (port : Fin 24) : (portTick s port).owners = s.owners := by
  simp [portTick]
@[simp] theorem linksTick_owners (s : State) : (linksTick s).owners = s.owners := by
  simp [linksTick]
@[simp] theorem takeSpread_owners (s : State) (n : ℕ) : (takeSpread s n).owners = s.owners := by simp [takeSpread]
@[simp] theorem spreadTick_owners (s : State) : (spreadTick s).owners = s.owners := by simp [spreadTick]

end Sys2Proof.Machine
end

