-- ==== Sys2Proof/Laws/Pipeline.lean ====
section
/-! SUPPORT. What the pipeline of Table 3-10 makes of a command that is alone on its tick, said once: where the ports are in reset, where a
step refuses it, where the schedule table takes it, and where it acts. -/

namespace Sys2Proof.Machine
open Sys2Proof

/-- In reset nothing takes commands (R624). -/
theorem runCommand_asleep (c : Instr) (q : Req) (o : Op) (s : State) (h : portsAwake s = false) : runCommand c q o s = s := by
  simp [runCommand, h]

/-- What an immediate command alone on its tick that passes leaves, if it answers at once. -/
theorem runCommand_taken (c : Instr) (q : Req) (o : Op) (s : State) (h : taken q o s = true) (hj : o.job = none) :
    runCommand c q o s = finished q o.opcode (admitted q o s).vault.key (o.run (admitted q o s)) := by
  simp only [taken, Bool.and_eq_true, Option.isNone_iff_eq_none, Bool.not_eq_true'] at h
  obtain ⟨⟨⟨⟨⟨haw, ht⟩, hs⟩, he⟩, hc⟩, hsh⟩ := h
  have hl : ∀ t, isLate t q = false := fun t => by simp [isLate, hs]
  have hf : ∀ t, isFuture t q = false := fun t => by simp [isFuture, hs]
  have hd : dueRej { cmd := c, q := q, op := o } (holdCredit s q.port true) = (admitted q o s, none) := by
    unfold admitted at *
    unfold dueRej
    dsimp only
    generalize earlySteps (holdCredit s q.port true) q o = e at *
    obtain ⟨e1, e2⟩ := e
    simp only at he hc hsh
    subst he
    simp [hc, hsh, hf, rejIf, firstRej]
  simp only [runCommand, haw, ht, Option.isSome_none, Bool.not_true, Bool.false_eq_true, if_false, hd]
  simp only [perform, hf, hl, dueEffect, startRun, hj, Option.isSome_none, Bool.false_and, Bool.false_eq_true, if_false, finished]
  split <;> rfl

/-- What a long-running command alone on its tick that passes leaves when it starts. -/
theorem runCommand_started (c : Instr) (q : Req) (o : Op) (s : State) (j : Job) (h : taken q o s = true) (hj : o.job = some j) :
    runCommand c q o s = started q o.opcode j (fun t => (o.run t).1) (admitted q o s) := by
  simp only [taken, Bool.and_eq_true, Option.isNone_iff_eq_none, Bool.not_eq_true'] at h
  obtain ⟨⟨⟨⟨⟨haw, ht⟩, hs⟩, he⟩, hc⟩, hsh⟩ := h
  have hl : ∀ t, isLate t q = false := fun t => by simp [isLate, hs]
  have hf : ∀ t, isFuture t q = false := fun t => by simp [isFuture, hs]
  have hd : dueRej { cmd := c, q := q, op := o } (holdCredit s q.port true) = (admitted q o s, none) := by
    unfold admitted at *
    unfold dueRej
    dsimp only
    generalize earlySteps (holdCredit s q.port true) q o = e at *
    obtain ⟨e1, e2⟩ := e
    simp only at he hc hsh
    subst he
    simp [hc, hsh, hf, rejIf, firstRej]
  simp only [runCommand, haw, ht, Option.isSome_none, Bool.not_true, Bool.false_eq_true, if_false, hd]
  simp only [perform, hf, hl, dueEffect, startRun, hj, Option.isSome_some, Bool.false_and, Bool.false_eq_true, if_false, if_true, started]

/-- What an immediate command alone on its tick leaves that steps 6 to 10 pass and one of its own checks refuses. -/
theorem runCommand_refused (c : Instr) (q : Req) (o : Op) (s : State) (r : Rej) (haw : portsAwake s = true) (ht : q.tick = none)
    (hs : q.sched = false) (he : (earlySteps (holdCredit s q.port true) q o).2 = none) (hc : o.check (admitted q o s) = some r) :
    runCommand c q o s = refusedWith q o (admitted q o s) r := by
  have hl : ∀ t, isLate t q = false := fun t => by simp [isLate, hs]
  have hf : ∀ t, isFuture t q = false := fun t => by simp [isFuture, hs]
  have hd : dueRej { cmd := c, q := q, op := o } (holdCredit s q.port true) = (admitted q o s, some r) := by
    unfold admitted at *
    unfold dueRej
    dsimp only
    generalize earlySteps (holdCredit s q.port true) q o = e at *
    obtain ⟨e1, e2⟩ := e
    simp only at he hc
    subst he
    simp [hc, firstRej]
  simp only [runCommand, haw, ht, Option.isSome_none, Bool.not_true, Bool.false_eq_true, if_false, hd]
  simp [refuse, hl, hf, refusedWith]

/-- What a command leaves that steps 6 to 10 refuse. -/
theorem runCommand_refused_early (c : Instr) (q : Req) (o : Op) (s : State) (r : Rej) (haw : portsAwake s = true) (ht : q.tick = none)
    (he : (earlySteps (holdCredit s q.port true) q o).2 = some r) (hn : r ≠ rejSt .noResource) :
    runCommand c q o s = refusedWith q o (admitted q o s) r := by
  have hd : dueRej { cmd := c, q := q, op := o } (holdCredit s q.port true) = (admitted q o s, some r) := by
    unfold admitted at *
    unfold dueRej
    dsimp only
    generalize earlySteps (holdCredit s q.port true) q o = e at *
    obtain ⟨e1, e2⟩ := e
    simp only at he
    subst he
    rfl
  simp only [runCommand, haw, ht, Option.isSome_none, Bool.not_true, Bool.false_eq_true, if_false, hd, he, Option.isSome_some, Bool.not_true, Bool.and_false]
  simp [refuse, hn, refusedWith]

/-- What a scheduled command alone on its tick leaves that passes every check before its launch tick. -/
theorem runCommand_scheduled (c : Instr) (q : Req) (o : Op) (s : State) (haw : portsAwake s = true) (ht : q.tick = none)
    (he : (earlySteps (holdCredit s q.port true) q o).2 = none) (hc : o.check (admitted q o s) = none)
    (hsh : shutRej (admitted q o s) o = none) (hf : isFuture (admitted q o s) q = true) (hr : (freeSlot (admitted q o s)).isSome = true) :
    runCommand c q o s = scheduled c q o (admitted q o s) := by
  have hd : dueRej { cmd := c, q := q, op := o } (holdCredit s q.port true) = (admitted q o s, none) := by
    unfold admitted at *
    unfold dueRej
    dsimp only
    generalize earlySteps (holdCredit s q.port true) q o = e at *
    obtain ⟨e1, e2⟩ := e
    simp only at he hc hsh hr hf
    subst he
    obtain ⟨n, hn⟩ := Option.isSome_iff_exists.mp hr
    simp [hc, hsh, hf, hn, rejIf, firstRej]
  simp only [runCommand, haw, ht, Option.isSome_none, Bool.not_true, Bool.false_eq_true, if_false, hd]
  have hn : (freeSlot (admitted q o s)).isNone = false := by cases hx : freeSlot (admitted q o s) <;> simp_all
  simp only [perform, hf, hn, Bool.and_false, Bool.false_eq_true, if_false, if_true, scheduled]

/-- Every row of an opcode is its operation, run at its effect instant. -/
theorem exec_of_opOf (c : Instr) (op : Byte) (q : Req) (o : Op) (s : State) (h1 : reqOf c = some (op, q)) (h2 : opOf c = some o) :
    exec c s = .next (runCommand c q o s) := by
  cases c <;> simp only [reqOf, reduceCtorEq, Option.some.injEq, Prod.mk.injEq] at h1 <;>
    (obtain ⟨_, rfl⟩ := h1; simp only [opOf, Option.some.injEq] at h2; subst h2; rfl)
/-- Taking a credit is no matter of the pairs. -/
theorem commandPairUp_holdCredit (s : State) (p : Port) (b : Bool) : commandPairUp (holdCredit s p b) = commandPairUp s := by
  unfold holdCredit setPort commandPairUp; cases p <;> rfl
/-- Steps 6 to 10 change the ports alone. -/
theorem admitted_ports (q : Req) (o : Op) (s : State) : ∃ p, admitted q o s = { s with ports := p } := by
  have h1 : ∀ (s : State) p c, ∃ x, setPort s p c = { s with ports := x } := by
    intro s p c; unfold setPort; cases p <;> exact ⟨_, rfl⟩
  have h2 : ∃ x, holdCredit s q.port true = { s with ports := x } := by
    unfold holdCredit; exact h1 _ _ _
  obtain ⟨x, hx⟩ := h2
  unfold admitted
  rw [hx]
  unfold earlySteps authStep
  split; · exact ⟨_, rfl⟩
  split; · exact ⟨_, rfl⟩
  split; · exact ⟨_, rfl⟩
  split <;> rename_i heq <;> dsimp only <;>
    (revert heq; split; · (intro h; injection h with h _; subst h; exact ⟨_, rfl⟩)) <;>
    (dsimp only; split; · (intro h; injection h with h _; subst h; exact ⟨_, rfl⟩)) <;> split <;>
    (try (intro h; injection h with h _; subst h; exact ⟨_, rfl⟩)) <;> split <;>
    (intro h; injection h with h _; subst h; first | exact ⟨_, rfl⟩ | exact h1 _ _ _)

/-- A command that answers at once completes with the effect its operation names. -/
theorem completes_of (c : Instr) (q : Req) (o : Op) (f : State → State × Reply) (hj : o.job = none)
    (he : ∀ s, exec c s = .next (runCommand c q o s)) (hr : o.run = f) : Completes c q o f := by
  intro s h
  rw [he, runCommand_taken _ _ _ _ h hj, hr]
/-- A long-running command starts with the effect its operation names. -/
theorem starts_of (c : Instr) (q : Req) (o : Op) (j : Job) (f : State → State) (hj : o.job = some j)
    (he : ∀ s, exec c s = .next (runCommand c q o s)) (hr : ∀ t, (o.run t).1 = f t) : Starts c q o j f := by
  intro s h
  rw [he, runCommand_started _ _ _ _ _ h hj]
  congr 2
  funext t
  exact hr t
/-- A taken command is no scheduled one, and is alone on its tick. -/
theorem taken_alone (q : Req) (o : Op) (s : State) (h : taken q o s = true) : q.sched = false ∧ q.tick = none := by
  simp only [taken, Bool.and_eq_true, Option.isNone_iff_eq_none, Bool.not_eq_true'] at h
  exact ⟨h.1.1.1.2, h.1.1.1.1.2⟩

end Sys2Proof.Machine
end

