-- ==== Sys2Proof/Laws/Queue.lean ====
section
/-! SUPPORT. What every operation of the model leaves alone: the queue of waiting commands. One lemma per function of a state, and one per command. -/

namespace Sys2Proof.Machine
open Sys2Proof
set_option linter.unusedTactic false
set_option linter.unreachableTactic false
set_option linter.unusedSimpArgs false
set_option linter.unusedVariables false

@[simp] theorem foldl_pending {α : Type} (l : List α) (g : State → α → State) (h : ∀ s x, (g s x).pending = s.pending) (s : State) :
    (l.foldl g s).pending = s.pending := by
  induction l generalizing s with
  | nil => rfl
  | cons a l ih => simp only [List.foldl_cons]; rw [ih, h]
/-- An operation's hooks leave the queue alone. -/
structure Op.Keeps (o : Op) : Prop where
  run : ∀ s, (o.run s).1.pending = s.pending
  accept : ∀ e s, (o.accept e s).pending = s.pending
  waits : ∀ s, (o.waits s).pending = s.pending
  refused : ∀ r s, (o.refused r s).pending = s.pending
  failed : ∀ r s, (o.failed r s).pending = s.pending
  launchRun : ∀ f, o.launchRun = some f → ∀ s, (f s).1.pending = s.pending
@[simp] theorem ite_pending (c : Prop) [Decidable c] (a b : State) : (if c then a else b).pending = if c then a.pending else b.pending := apply_ite _ _ _ _
@[simp] theorem done_pending (s : State) : (done s).1.pending = s.pending := by simp [done]
@[simp] theorem setDest_pending (s : State) (d : ℕ) (x : XDest) : (setDest s d x).pending = s.pending := by simp [setDest]
@[simp] theorem takeEntry_pending (s : State) (ramp : Bool) (rate : ℕ) (e : XbarEntry) : (takeEntry s ramp rate e).pending = s.pending := by simp [takeEntry]
@[simp] theorem takeEntries_pending (s : State) (ramp : Bool) (es : List XbarEntry) : (takeEntries s ramp es).pending = s.pending := by simp [takeEntries]
@[simp] theorem logRaise_pending (s : State) (src : ℕ) (d : Word) : (logRaise s src d).pending = s.pending := by simp [logRaise]
@[simp] theorem post_pending (s : State) (src : ℕ) (commit : Bool) (d : Word) : (post s src commit d).pending = s.pending := by simp [post]
@[simp] theorem raise_pending (s : State) (src : ℕ) (d : Word) : (raise s src d).pending = s.pending := by simp [raise]
@[simp] theorem xbarEvent_pending (s : State) (c : XChange) : (xbarEvent s c).pending = s.pending := by simp [xbarEvent]
@[simp] theorem opAudXbar_keeps (q : Req) (ramp : Bool) (es : List XbarEntry) : (opAudXbar q ramp es).Keeps := by
  constructor <;> intros <;> first | with_reducible rfl | (simp_all [opAudXbar, done, answer]; done) | (simp only [opAudXbar]; repeat' (first | with_reducible rfl | split | (simp_all [done, answer]; done) | dsimp only))
@[simp] theorem endDisagreement_pending (s : State) (c : ℕ) : (endDisagreement s c).pending = s.pending := by
  simp [endDisagreement]
@[simp] theorem dpllTo_pending (s : State) (new : ℕ) (cause : ℕ) : (dpllTo s new cause).pending = s.pending := by simp [dpllTo]
@[simp] theorem takePhase_pending (s : State) (c : ℕ) : (takePhase s c).pending = s.pending := by
  simp [takePhase]
@[simp] theorem follow_pending (s : State) (c : ℕ) (why : ℕ) : (follow s c why).pending = s.pending := by simp [follow]
@[simp] theorem loseAll_pending (s : State) : (loseAll s).pending = s.pending := by simp [loseAll]
@[simp] theorem setCand_pending (s : State) (c : ℕ) (x : Cand) : (setCand s c x).pending = s.pending := by simp [setCand]
@[simp] theorem disqualify_pending (s : State) (c : ℕ) (cause : ℕ) : (disqualify s c cause).pending = s.pending := by
  unfold disqualify; repeat' (first | with_reducible rfl | (simp; done) | split | dsimp only)
@[simp] theorem refWritten_pending (s : State) (i : ℕ) (w : ℕ) (old : Word) (new : Word) : (refWritten s i w old new).pending = s.pending := by simp [refWritten]
@[simp] theorem wput_pending (s : State) (bank : ℕ) (a : Addr) (v : Word) : (wput s bank a v).pending = s.pending := by simp [wput]
@[simp] theorem setWord_pending (s : State) (bank : ℕ) (cls : ℕ) (inst : ℕ) (w : ℕ) (v : Word) : (setWord s bank cls inst w v).pending = s.pending := by simp [setWord]
@[simp] theorem setConv_pending (s : State) (k : ℕ) (x : Conv) : (setConv s k x).pending = s.pending := by simp [setConv]
@[simp] theorem srcInWritten_pending (s : State) (k : ℕ) : (srcInWritten s k).pending = s.pending := by simp [srcInWritten]
@[simp] theorem rateChanged_pending (s : State) (kind : ℕ) (port : ℕ) : (rateChanged s kind port).pending = s.pending := by simp [rateChanged]
@[simp] theorem stdPortWritten_pending (s : State) (cls : ℕ) (p : ℕ) (w : ℕ) (old : Word) (new : Word) : (stdPortWritten s cls p w old new).pending = s.pending := by simp [stdPortWritten]
@[simp] theorem setSyn_pending (s : State) (n : ℕ) (x : Syn) : (setSyn s n x).pending = s.pending := by simp [setSyn]
@[simp] theorem beginTask_pending (s : State) (n : ℕ) (t : SynTask) : (beginTask s n t).pending = s.pending := by simp [beginTask]
@[simp] theorem drawByte_pending (s : State) : (drawByte s).2.pending = s.pending := by simp [drawByte]
@[simp] theorem synWritten_pending (s : State) (n : ℕ) (w : ℕ) (old : Word) (new : Word) : (synWritten s n w old new).pending = s.pending := by
  unfold synWritten; repeat' (first | with_reducible rfl | (simp; done) | split | dsimp only)
@[simp] theorem setTdm_pending (s : State) (p : ℕ) (x : Tdm) : (setTdm s p x).pending = s.pending := by simp [setTdm]
@[simp] theorem tdmWritten_pending (s : State) (p : ℕ) (old : Word) (new : Word) : (tdmWritten s p old new).pending = s.pending := by simp [tdmWritten]
@[simp] theorem applyRw_pending (s : State) (bank : ℕ) (cls : ℕ) (i : ℕ) (w : ℕ) (m : Word) (v : Word) : (applyRw s bank cls i w m v).pending = s.pending := by
  unfold applyRw; repeat' (first | with_reducible rfl | (simp; done) | split | dsimp only)
@[simp] theorem raiseBank_pending (s : State) (bank : ℕ) (src : ℕ) (d : Word) : (raiseBank s bank src d).pending = s.pending := by simp [raiseBank]
@[simp] theorem capEvent_pending (s : State) (k : ℕ) (cause : ℕ) (reason : ℕ) : (capEvent s k cause reason).pending = s.pending := by simp [capEvent]
@[simp] theorem setCap_pending (s : State) (k : ℕ) (c : Cap) : (setCap s k c).pending = s.pending := by simp [setCap]
@[simp] theorem capTo_pending (s : State) (k : ℕ) (st : ℕ) (ev : Option (ℕ × ℕ)) : (capTo s k st ev).pending = s.pending := by
  unfold capTo; repeat' (first | with_reducible rfl | (simp; done) | split | dsimp only)
@[simp] theorem dpsEvent_pending (s : State) (p : ℕ) (cause : ℕ) (sub : ℕ) : (dpsEvent s p cause sub).pending = s.pending := by simp [dpsEvent]
@[simp] theorem setDps_pending (s : State) (p : ℕ) (d : Dps) : (setDps s p d).pending = s.pending := by simp [setDps]
@[simp] theorem irqHpd_pending (s : State) (p : ℕ) : (irqHpd s p).pending = s.pending := by simp [irqHpd]
@[simp] theorem settleHpd_pending (s : State) : (settleHpd s).pending = s.pending := by simp [settleHpd]
@[simp] theorem takeWs_pending (s : State) (bank : ℕ) (cls : ℕ) (inst : ℕ) (w : ℕ) : (takeWs s bank cls inst w).pending = s.pending := by simp [takeWs]
@[simp] theorem takeUnit_pending (s : State) (bank : ℕ) (cls : ℕ) (inst : ℕ) : (takeUnit s bank cls inst).pending = s.pending := by simp [takeUnit]
@[simp] theorem capCommit_pending (s : State) (k : ℕ) : (capCommit s k).pending = s.pending := by simp [capCommit]
@[simp] theorem capPlaced_pending (s : State) (k : ℕ) : (capPlaced s k).pending = s.pending := by simp [capPlaced]
@[simp] theorem setFset_pending (s : State) (i : ℕ) (x : FSet) : (setFset s i x).pending = s.pending := by simp [setFset]
@[simp] theorem setLyr_pending (s : State) (bank : ℕ) (n : ℕ) (x : Lyr) : (setLyr s bank n x).pending = s.pending := by simp [setLyr]
@[simp] theorem setLyrAt_pending (s : State) (k : ℕ) (x : Lyr) : (setLyrAt s k x).pending = s.pending := by simp [setLyrAt]
@[simp] theorem joinSet_pending (s : State) (k : ℕ) (p : Port) : (joinSet s k p).pending = s.pending := by
  unfold joinSet; repeat' (first | with_reducible rfl | (simp; done) | split | dsimp only)
@[simp] theorem leaveSet_pending (s : State) (k : ℕ) : (leaveSet s k).pending = s.pending := by
  unfold leaveSet; repeat' (first | with_reducible rfl | (simp; done) | split | dsimp only)
@[simp] theorem takeFlip_pending (s : State) (k : ℕ) : (takeFlip s k).pending = s.pending := by
  unfold takeFlip; repeat' (first | with_reducible rfl | (simp; done) | split | dsimp only)
@[simp] theorem takeLayer_pending (s : State) (k : ℕ) : (takeLayer s k).pending = s.pending := by simp [takeLayer]
@[simp] theorem releaseOne_pending (s : State) (i : ℕ) : (releaseOne s i).pending = s.pending := by simp [releaseOne]
@[simp] theorem releaseSets_pending (s : State) : (releaseSets s).pending = s.pending := by simp [releaseSets]
@[simp] theorem dropUnit_pending (s : State) (bank : ℕ) (cls : ℕ) (inst : ℕ) : (dropUnit s bank cls inst).pending = s.pending := by simp [dropUnit]
@[simp] theorem takeClear_pending (s : State) (k : ℕ) : (takeClear s k).pending = s.pending := by simp [takeClear]
@[simp] theorem lyrPlaced_pending (s : State) (k : ℕ) (p : Port) (cleared : Bool) : (lyrPlaced s k p cleared).pending = s.pending := by simp [lyrPlaced]
@[simp] theorem setRte_pending (s : State) (b : ℕ) (r : ℕ) (o : ℕ) (x : RteOut) : (setRte s b r o x).pending = s.pending := by simp [setRte]
@[simp] theorem settleRoute_pending (s : State) (b : ℕ) (r : ℕ) : (settleRoute s b r).pending = s.pending := by simp [settleRoute]
@[simp] theorem placeRoute_pending (s : State) (b : ℕ) (r : ℕ) : (placeRoute s b r).pending = s.pending := by simp [placeRoute]
@[simp] theorem placeWs_pending (s : State) (bank : ℕ) (cls : ℕ) (inst : ℕ) (w : ℕ) (mask : Word) (v : Word) : (placeWs s bank cls inst w mask v).pending = s.pending := by simp [placeWs]
@[simp] theorem setVit_pending (s : State) (o : ℕ) (v : Vit) : (setVit s o v).pending = s.pending := by simp [setVit]
@[simp] theorem applyWs_pending (s : State) (p : Option Port) (bank : ℕ) (cls : ℕ) (i : ℕ) (w : ℕ) (m : Word) (v : Word) : (applyWs s p bank cls i w m v).pending = s.pending := by
  unfold applyWs; repeat' (first | with_reducible rfl | (simp; done) | split | dsimp only)
@[simp] theorem setClr_pending (s : State) (k : ℕ) (x : ClrTab) : (setClr s k x).pending = s.pending := by simp [setClr]
@[simp] theorem clrTblWrite_pending (s : State) (bank : ℕ) (i : ℕ) (w : ℕ) (mask : Word) (v : Word) : (clrTblWrite s bank i w mask v).pending = s.pending := by simp [clrTblWrite]
@[simp] theorem applyWord_pending (s : State) (p : Option Port) (bank : ℕ) (cls : ℕ) (i : ℕ) (w : ℕ) (mask : Word) (v : Word) : (applyWord s p bank cls i w mask v).pending = s.pending := by simp [applyWord]
@[simp] theorem applyItems_pending (s : State) (p : Option Port) (l : List WItem) : (applyItems s p l).pending = s.pending := by simp [applyItems]
@[simp] theorem setLedger_pending (s : State) (f : Ledger → Ledger) : (setLedger s f).pending = s.pending := by simp [setLedger]
@[simp] theorem logStep_pending (s : State) : ∀ res, logStep s = some res → res.2.pending = s.pending := by
  intro res h
  unfold logStep at h
  repeat' (first | (have h := Host.Outcome.next.inj h; subst h; clear h) | (have h := Host.Outcome.next.inj h; subst h) | (simp only [reduceCtorEq] at h; done) | split at h | dsimp only at h | (cases h; done) | (obtain ⟨rfl⟩ := h))
  all_goals (repeat' (first | with_reducible rfl | with_reducible assumption | ((try lift_lets); intro zz; first | ((have hz : State.pending zz = State.pending s := by (dsimp only [zz]; repeat' (first | with_reducible rfl | with_reducible assumption | (obtain ⟨rfl, rfl⟩ := Prod.ext_iff.mp ‹_ = (_, _)›) | (obtain ⟨rfl, -⟩ := Prod.ext_iff.mp ‹_ = (_, _)›) | split | (with_reducible refine (foldl_pending _ _ (fun s x => ?_) _).trans ?_) | (simp only [*]; done) | dsimp only | (simp [*]; done)))); clear_value zz) | clear_value zz) | (obtain ⟨rfl, rfl⟩ := Prod.ext_iff.mp ‹_ = (_, _)›) | (obtain ⟨rfl, -⟩ := Prod.ext_iff.mp ‹_ = (_, _)›) | split | (with_reducible refine (foldl_pending _ _ (fun s x => ?_) _).trans ?_) | (simp only [*]; done) | (simp [*]; done)))
@[simp] theorem pickStep_pending (s : State) : ∀ res, pickStep s = some res → res.2.pending = s.pending := by
  intro res h
  unfold pickStep at h
  dsimp only at h
  split at h
  · simp only [Option.some.injEq] at h; subst h; simp
  · split at h
    · simp only [Option.map_eq_some_iff] at h
      obtain ⟨a, h2, rfl⟩ := h
      simpa using logStep_pending _ _ h2
    · split at h
      · simp only [Option.some.injEq] at h; subst h; simp
      · split at h <;> (simp only [Option.some.injEq] at h; subst h; simp)
      · simp only [Option.some.injEq] at h; subst h; simp
      · split at h
        · simp only [Option.some.injEq] at h; subst h; simp
        · split at h
          · exact logStep_pending _ _ h
          · cases h
      · split at h
        · exact logStep_pending _ _ h
        · cases h
@[simp] theorem wearEvent_pending (s : State) (p : ℕ) (cause : ℕ) : (wearEvent s p cause).pending = s.pending := by simp [wearEvent]
@[simp] theorem countPage_pending (s : State) (p : ℕ) : (countPage s p).pending = s.pending := by simp [countPage]
@[simp] theorem noSlot_pending (s : State) (r : ℕ) : (noSlot s r).pending = s.pending := by simp [noSlot]
@[simp] theorem recordRun_pending (s : State) (step : LdgStep) (r : ℕ) (i : ℕ) (seq : ℕ) (body : List Byte) (failed : List ℕ) : (recordRun s step r i seq body failed).pending = s.pending := by simp [recordRun]
@[simp] theorem startStep_pending (s : State) (step : LdgStep) : (startStep s step).1.pending = s.pending := by
  unfold startStep; repeat' (first | with_reducible rfl | (simp; done) | split | dsimp only)
@[simp] theorem setPort_pending (s : State) (p : Port) (c : CmdPort) : (setPort s p c).pending = s.pending := by
  unfold setPort; repeat' (first | with_reducible rfl | (simp; done) | split | dsimp only)
@[simp] theorem countDiscard_pending (s : State) (p : Port) : (countDiscard s p).pending = s.pending := by simp [countDiscard]
@[simp] theorem noteStatus_pending (s : State) (p : Port) (st : Byte) : (noteStatus s p st).pending = s.pending := by simp [noteStatus]
@[simp] theorem setPlk_pending (s : State) (n : ℕ) (p : Plk) : (setPlk s n p).pending = s.pending := by simp [setPlk]
@[simp] theorem sendPacket_pending (s : State) (n : ℕ) (rank : ℕ) (b : List Byte) : (sendPacket s n rank b).pending = s.pending := by
  simp [sendPacket]
@[simp] theorem transmitCtl_pending (s : State) (n : ℕ) (rank : ℕ) (m : CtlOut) : (transmitCtl s n rank m).pending = s.pending := by
  simp [transmitCtl]
@[simp] theorem launchCtl_pending (s : State) (n : ℕ) (m : CtlOut) : (launchCtl s n m).pending = s.pending := by
  simp [launchCtl]
@[simp] theorem plkEvent_pending (s : State) (n : ℕ) (cause : ℕ) (pwr : ℕ) (back : Bool) : (plkEvent s n cause pwr back).pending = s.pending := by simp [plkEvent]
@[simp] theorem setPwr_pending (s : State) (n : ℕ) (dir : ℕ) (st : ℕ) : (setPwr s n dir st).pending = s.pending := by
  simp [setPwr]
@[simp] theorem wakeTx_pending (s : State) (n : ℕ) : (wakeTx s n).pending = s.pending := by
  simp [wakeTx]
@[simp] theorem wakeForTraffic_pending (s : State) (n : ℕ) : (wakeForTraffic s n).pending = s.pending := by
  simp [wakeForTraffic]
@[simp] theorem postCtl_pending (s : State) (n : ℕ) (m : CtlOut) : (postCtl s n m).pending = s.pending := by
  simp [postCtl]
@[simp] theorem cp2Flush_pending (s : State) : (cp2Flush s).pending = s.pending := by
  unfold cp2Flush; repeat' (first | with_reducible rfl | (simp; done) | split | dsimp only)
@[simp] theorem queuePlacard_pending (s : State) (p : Port) (pl : Placard) (reserve : Bool) : (queuePlacard s p pl reserve).pending = s.pending := by simp [queuePlacard]
@[simp] theorem formLaunchPlacard_pending (s : State) (q : Req) (opcode : Byte) (st : Status) (data : List Byte) : (formLaunchPlacard s q opcode st data).pending = s.pending := by simp [formLaunchPlacard]
@[simp] theorem formPlacard_pending (s : State) (q : Req) (opcode : Byte) (st : Status) (data : List Byte) : (formPlacard s q opcode st data).pending = s.pending := by simp [formPlacard]
@[simp] theorem settleKey_pending (s : State) : (settleKey s).pending = s.pending := by
  unfold settleKey; repeat' (first | with_reducible rfl | (simp; done) | split | dsimp only)
@[simp] theorem tellRevoked_pending (s : State) (q : Req) (opcode : Byte) : (tellRevoked s q opcode).pending = s.pending := by simp [tellRevoked]
@[simp] theorem finishRun_pending (s : State) (r : Run) (st : Status) (data : List Byte) : (finishRun s r st data).pending = s.pending := by simp [finishRun]
@[simp] theorem dropTie_pending (s : State) (region : ℕ) (ring : ℕ) : (dropTie s region ring).pending = s.pending := by simp [dropTie]
@[simp] theorem markTie_pending (s : State) (r : Run) (region : ℕ) (ring : ℕ) : (markTie s r region ring).1.pending = s.pending := by
  unfold markTie; repeat' (first | with_reducible rfl | (simp; done) | split | dsimp only)
@[simp] theorem disownCp2_pending (s : State) : (disownCp2 s).pending = s.pending := by
  simp [disownCp2]
@[simp] theorem cp2Unsent_pending (s : State) (n : ℕ) : (cp2Unsent s n).pending = s.pending := by
  simp [cp2Unsent]
@[simp] theorem abandonScan_pending (s : State) (n : ℕ) : (abandonScan s n).pending = s.pending := by
  unfold abandonScan; repeat' (first | with_reducible rfl | (simp; done) | split | dsimp only)
@[simp] theorem intakeError_pending (s : State) (p : Port) : (intakeError s p).pending = s.pending := by simp [intakeError]
@[simp] theorem discard_pending (s : State) (p : Port) : (discard s p).pending = s.pending := by simp [discard]
@[simp] theorem formReserve_pending (s : State) (p : Port) (opcode : Byte) (tag : Byte) (st : Status) : (formReserve s p opcode tag st).pending = s.pending := by simp [formReserve]
@[simp] theorem arrive_pending (s : State) (p : Port) (b : List Byte) : (arrive s p b).pending = s.pending := by simp [arrive]
@[simp] theorem releaseBuild_pending (s : State) : (releaseBuild s).pending = s.pending := by
  unfold releaseBuild; repeat' (first | with_reducible rfl | (simp; done) | split | dsimp only)
@[simp] theorem cp2Dropped_pending (s : State) : (cp2Dropped s).pending = s.pending := by
  unfold cp2Dropped; repeat' (first | with_reducible rfl | (simp; done) | split | dsimp only)
@[simp] theorem freeAllocs_pending (s : State) (w : Wing) (kind : ℕ) (owner : ℕ) (keep : ℕ → Bool) : (freeAllocs s w kind owner keep).pending = s.pending := by simp [freeAllocs]
@[simp] theorem capFree_pending (s : State) (k : ℕ) : (capFree s k).pending = s.pending := by simp [capFree]
@[simp] theorem capStopped_pending (s : State) (k : ℕ) (tell : Bool) : (capStopped s k tell).pending = s.pending := by simp [capStopped]
@[simp] theorem capLose_pending (s : State) (k : ℕ) (reason : ℕ) : (capLose s k reason).pending = s.pending := by
  unfold capLose; repeat' (first | with_reducible rfl | (simp; done) | split | dsimp only)
@[simp] theorem portLost_pending (s : State) (kind : ℕ) (port : ℕ) (reason : ℕ) : (portLost s kind port reason).pending = s.pending := by simp [portLost]
@[simp] theorem plkMove_pending (s : State) (n : ℕ) (st : ℕ) (cause : ℕ) : (plkMove s n st cause).pending = s.pending := by
  simp [plkMove]
@[simp] theorem endPair_pending (s : State) (n : ℕ) (cause : ℕ) : (endPair s n cause).pending = s.pending := by simp [endPair]
@[simp] theorem plkTo_pending (s : State) (n : ℕ) (st : ℕ) (cause : ℕ) : (plkTo s n st cause).pending = s.pending := by simp [plkTo]
@[simp] theorem plkBackoff_pending (s : State) (n : ℕ) (cause : ℕ) : (plkBackoff s n cause).pending = s.pending := by simp [plkBackoff]
@[simp] theorem linkUpNow_pending (s : State) (n : ℕ) (role : ℕ) (step : ℕ) (code : Bool) : (linkUpNow s n role step code).pending = s.pending := by simp [linkUpNow]
@[simp] theorem ensureCp2_pending (s : State) : (ensureCp2 s).pending = s.pending := by
  unfold ensureCp2; repeat' (first | with_reducible rfl | (simp; done) | split | dsimp only)
@[simp] theorem settleCp2_pending (s : State) (old : Word) : (settleCp2 s old).pending = s.pending := by simp [settleCp2]
@[simp] theorem prsDone_pending (s : State) (w : ℕ) (ok : Bool) : (prsDone s w ok).pending = s.pending := by
  unfold prsDone
  split
  · rfl
  · rename_i r rest h
    dsimp only
    have hf (l : List (ℕ × Word)) (t : State) : (l.foldl (fun s x => setWord s 0 0x26 0 x.1 (prsStored s x.1)) t).pending = t.pending :=
      foldl_pending _ _ (fun s x => by simp) _
    cases ok
    · simp only [Bool.false_eq_true, if_false]
      repeat' (first | (simp [hf]; done) | split)
    · simp only [if_true]
      repeat' (first | (simp [hf]; done) | split)
@[simp] theorem beginCopy_pending (s : State) (op : ℕ) (img : ℕ) (c : ℕ) (l : List Byte) : (beginCopy s op img c l).pending = s.pending := by simp [beginCopy]
@[simp] theorem beginRewrites_pending (s : State) (x1 : List (ℕ × ℕ)) : (beginRewrites s x1).pending = s.pending := by
  induction x1 generalizing s with
  | nil => simp [beginRewrites]
  | cons a l ih =>
    obtain ⟨img, c⟩ := a
    simp only [beginRewrites]
    split
    · simp [ih]
    · split
      · rw [ih]; refine (foldl_pending _ _ (fun s x => ?_) _).trans ?_ <;> simp
      · split <;> simp [ih]
@[simp] theorem taskEnd_pending (s : State) : (taskEnd s).pending = s.pending := by simp [taskEnd]
@[simp] theorem taskStep_pending (s : State) (step : LdgStep) (ok : Bool) : (taskStep s step ok).pending = s.pending := by simp [taskStep]
@[simp] theorem vaultDone_pending (s : State) (k : ℕ) (st : ℕ) (p : Port) (ok : Bool) : (vaultDone s k st p ok).pending = s.pending := by
  unfold vaultDone; repeat' (first | with_reducible rfl | (simp; done) | split | dsimp only)
@[simp] theorem stepDone_pending (s : State) (step : LdgStep) (ok : Bool) : (stepDone s step ok).pending = s.pending := by
  unfold stepDone; repeat' (first | with_reducible rfl | (simp; done) | split | dsimp only)
@[simp] theorem pumpN_pending (x0 : ℕ) (x1 : State) : (pumpN x0 x1).pending = x1.pending := by
  induction x0 generalizing x1 with
  | zero => rfl
  | succ n ih =>
    simp only [pumpN]
    split
    · rfl
    · split
      · rfl
      · rename_i t s2 h2
        have h3 := pickStep_pending _ _ h2
        split
        · simpa [ih] using h3
        · split
          · rename_i s3 h4
            have h5 := startStep_pending s2 t
            rw [h4] at h5; simpa using h5.trans h3
          · rename_i s3 h4
            have h5 := startStep_pending s2 t
            rw [h4] at h5; simpa [ih] using h5.trans h3
@[simp] theorem pump_pending (s : State) : (pump s).pending = s.pending := by simp [pump]
@[simp] theorem queuePrs_pending (s : State) (ws : List (ℕ × Word)) : (queuePrs s ws).pending = s.pending := by simp [queuePrs]
@[simp] theorem prsWriteNow_pending (s : State) (l : List WItem) : (prsWriteNow s l).pending = s.pending := by simp [prsWriteNow]
@[simp] theorem allocate_pending (s : State) (w : Wing) (size : ℕ) (kind : ℕ) (owner : ℕ) : ∀ res, allocate s w size kind owner = some res → res.1.pending = s.pending := by
  intro res h
  simp only [allocate, Option.map_eq_some_iff] at h
  obtain ⟨b, _, rfl⟩ := h
  rfl
@[simp] theorem reserveRecords_pending (s : State) (n : ℕ) (size : ℕ) (x3 : List ℕ) : ∀ res, reserveRecords s n size x3 = some res → res.pending = s.pending := by
  induction x3 generalizing s with
  | nil => intro res h; simp only [reserveRecords, Option.some.injEq] at h; subst h; rfl
  | cons a l ih =>
    intro res h
    simp only [reserveRecords] at h
    split at h
    · simpa using ih _ _ h
    · split at h
      · cases h
      · rename_i s2 n2 h2
        have h3 := allocate_pending _ _ _ _ _ _ h2
        exact (ih _ _ h).trans (h3.trans (by simp))
@[simp] theorem reserveRecords_getD_pending (s : State) (n size : ℕ) (l : List ℕ) : ((reserveRecords s n size l).getD s).pending = s.pending := by
  cases h : reserveRecords s n size l with
  | none => rfl
  | some t => exact reserveRecords_pending _ _ _ _ _ h
@[simp] theorem reserveMoved_pending (s : State) (rd : Rd) (x2 : List ℕ) : ∀ res, reserveMoved s rd x2 = .ok res → res.pending = s.pending := by
  induction x2 generalizing s with
  | nil => intro res h; simp only [reserveMoved, Except.ok.injEq] at h; subst h; rfl
  | cons a l ih =>
    intro res h
    simp only [reserveMoved] at h
    split at h
    · split at h
      · rename_i s2 h2
        rw [ih _ _ h]; exact reserveRecords_pending _ _ _ _ _ h2
      · cases h
    · exact ih _ _ h
@[simp] theorem writeNow_pending (s : State) (p : Port) (l : List WItem) : (writeNow s p l).pending = s.pending := by
  unfold writeNow
  dsimp only
  split
  · rename_i s2 h; simp [reserveMoved_pending _ _ _ _ h]
  · simp
@[simp] theorem recordShort_pending (s : State) (n : ℕ) (size : ℕ) (banks : List ℕ) : (recordShort s n size banks).pending = s.pending := by simp [recordShort]
@[simp] theorem writeRefused_pending (l : List WItem) (r : Rej) (s : State) : (writeRefused l r s).pending = s.pending := by
  unfold writeRefused; repeat' (first | with_reducible rfl | (simp; done) | split | dsimp only)
@[simp] theorem opWriteWords_keeps (opcode : Byte) (q : Req) (addr : Addr) (bank : Byte) (ws : List (Word × Word)) : (opWriteWords opcode q addr bank ws).Keeps := by
  constructor <;> intros <;> first | with_reducible rfl | (simp_all [opWriteWords, done, answer]; done) | (simp only [opWriteWords]; repeat' (first | with_reducible rfl | split | (simp_all [done, answer]; done) | dsimp only))
@[simp] theorem opBlockWrite_keeps (q : Req) (addr : Addr) (bank : Byte) (vs : List Word) : (opBlockWrite q addr bank vs).Keeps := by
  exact opWriteWords_keeps 0x14 q addr bank _
@[simp] theorem opCaptureStart_keeps (q : Req) (r : UnitRef) : (opCaptureStart q r).Keeps := by
  constructor <;> intros <;> first | with_reducible rfl | (simp_all [opCaptureStart, done, answer]; done) | (simp only [opCaptureStart]; repeat' (first | with_reducible rfl | split | (simp_all [done, answer]; done) | dsimp only))
@[simp] theorem capForceFill_pending (s : State) (k : ℕ) : (capForceFill s k).pending = s.pending := by simp [capForceFill]
@[simp] theorem capStopNow_pending (s : State) (force : Bool) (k : ℕ) : (capStopNow s force k).pending = s.pending := by
  unfold capStopNow; repeat' (first | with_reducible rfl | (simp; done) | split | dsimp only)
@[simp] theorem opCaptureStop_keeps (q : Req) (r : UnitRef) (force : Bool) : (opCaptureStop q r force).Keeps := by
  constructor <;> intros <;> first | with_reducible rfl | (simp_all [opCaptureStop, done, answer]; done) | (simp only [opCaptureStop]; repeat' (first | with_reducible rfl | split | (simp_all [done, answer]; done) | dsimp only))
@[simp] theorem setOwner_pending (s : State) (bank : ℕ) (cls : ℕ) (inst : ℕ) (p : Option Port) : (setOwner s bank cls inst p).pending = s.pending := by simp [setOwner]
@[simp] theorem setOwners_pending (s : State) (p : Port) (cls : ℕ) (new : Option Port) (x4 : List (ℕ × ℕ)) : (setOwners s p cls new x4).pending = s.pending := by
  induction x4 generalizing s with
  | nil => rfl
  | cons a l ih =>
    obtain ⟨b, i⟩ := a
    simp only [setOwners, ih]
    split
    · split <;> simp
    · simp
@[simp] theorem opClaim_keeps (q : Req) (cls : Byte) (first : Byte) (count : Byte) (bank : Byte) (force : Bool) : (opClaim q cls first count bank force).Keeps := by
  constructor <;> intros <;> first | with_reducible rfl | (simp_all [opClaim, done, answer]; done) | (simp only [opClaim]; repeat' (first | with_reducible rfl | split | (simp_all [done, answer]; done) | dsimp only))
@[simp] theorem opEvtAck_keeps (q : Req) (mask : List Byte) : (opEvtAck q mask).Keeps := by
  constructor <;> intros <;> first | with_reducible rfl | (simp_all [opEvtAck, done, answer]; done) | (simp only [opEvtAck]; repeat' (first | with_reducible rfl | split | (simp_all [done, answer]; done) | dsimp only))
@[simp] theorem opEvtRead_keeps (n : Byte) : (opEvtRead n).Keeps := by
  constructor <;> intros <;> first | with_reducible rfl | (simp_all [opEvtRead, done, answer]; done) | (simp only [opEvtRead]; repeat' (first | with_reducible rfl | split | (simp_all [done, answer]; done) | dsimp only))
@[simp] theorem opEyeScan_keeps (q : Req) (port : Byte) (lane : Byte) (dwell : Byte) : (opEyeScan q port lane dwell).Keeps := by
  constructor <;> intros <;> first | with_reducible rfl | (simp_all [opEyeScan, done, answer]; done) | (simp only [opEyeScan]; repeat' (first | with_reducible rfl | split | (simp_all [done, answer]; done) | dsimp only))
@[simp] theorem setWing_pending (s : State) (w : Wing) (x : WingSt) : (setWing s w x).pending = s.pending := by
  unfold setWing; repeat' (first | with_reducible rfl | (simp; done) | split | dsimp only)
@[simp] theorem mustGiveUp_pending (s : State) (w : Wing) (cause : ℕ) : (mustGiveUp s w cause).pending = s.pending := by simp [mustGiveUp]
@[simp] theorem opFailoverForce_keeps : (opFailoverForce).Keeps := by
  constructor <;> intros <;> first | with_reducible rfl | (simp_all [opFailoverForce, done, answer]; done) | (simp only [opFailoverForce]; repeat' (first | with_reducible rfl | split | (simp_all [done, answer]; done) | dsimp only))
@[simp] theorem answer_pending (s : State) (d : List Byte) : (answer s d).1.pending = s.pending := by simp [answer]
@[simp] theorem opFaultLogRead_keeps (first : Half) (count : Half) : (opFaultLogRead first count).Keeps := by
  constructor <;> intros <;> first | with_reducible rfl | (simp_all [opFaultLogRead, done, answer]; done) | (simp only [opFaultLogRead]; repeat' (first | with_reducible rfl | split | (simp_all [done, answer]; done) | dsimp only))
@[simp] theorem signalFence_pending (s : State) (n : ℕ) (by_ : ℕ) (port : ℕ) : (signalFence s n by_ port).pending = s.pending := by simp [signalFence]
@[simp] theorem opFenceSignal_keeps (q : Req) (f : Half) : (opFenceSignal q f).Keeps := by
  constructor <;> intros <;> first | with_reducible rfl | (simp_all [opFenceSignal, done, answer]; done) | (simp only [opFenceSignal]; repeat' (first | with_reducible rfl | split | (simp_all [done, answer]; done) | dsimp only))
@[simp] theorem formSet_pending (s : State) (ks : List ℕ) (x : FSet) : (formSet s ks x).pending = s.pending := by simp [formSet]
@[simp] theorem placeFlip_pending (s : State) (k : ℕ) (fence : Option ℕ) (addr : W64) : (placeFlip s k fence addr).pending = s.pending := by
  unfold placeFlip; repeat' (first | with_reducible rfl | (simp; done) | split | dsimp only)
@[simp] theorem withdraw_pending (s : State) (ks : List ℕ) : (withdraw s ks).pending = s.pending := by simp [withdraw]
@[simp] theorem flipLayers_pending (s : State) (q : Req) (ks : List ℕ) (fence : Option ℕ) (addr : W64) : (flipLayers s q ks fence addr).pending = s.pending := by simp [flipLayers]
@[simp] theorem opFlip_keeps (q : Req) (r : UnitRef) (f : Half) (addr : W64) : (opFlip q r f addr).Keeps := by
  constructor <;> intros <;> first | with_reducible rfl | (simp_all [opFlip, done, answer]; done) | (simp only [opFlip]; repeat' (first | with_reducible rfl | split | (simp_all [done, answer]; done) | dsimp only))
@[simp] theorem opFsyncRealign_keeps (mask : Byte) : (opFsyncRealign mask).Keeps := by
  constructor <;> intros <;> first | with_reducible rfl | (simp_all [opFsyncRealign, done, answer]; done) | (simp only [opFsyncRealign]; repeat' (first | with_reducible rfl | split | (simp_all [done, answer]; done) | dsimp only))
@[simp] theorem opGroupFlip_keeps (q : Req) (f : Half) (es : List FlipEntry) : (opGroupFlip q f es).Keeps := by
  constructor <;> intros <;> first | with_reducible rfl | (simp_all [opGroupFlip, done, answer]; done) | (simp only [opGroupFlip]; repeat' (first | with_reducible rfl | split | (simp_all [done, answer]; done) | dsimp only))
@[simp] theorem opHealthReport_keeps (w : Byte) : (opHealthReport w).Keeps := by
  constructor <;> intros <;> first | with_reducible rfl | (simp_all [opHealthReport, done, answer]; done) | (simp only [opHealthReport]; repeat' (first | with_reducible rfl | split | (simp_all [done, answer]; done) | dsimp only))
@[simp] theorem hopNow_pending (s : State) (n : ℕ) (mem : ℕ) (w : Word) : (hopNow s n mem w).pending = s.pending := by simp [hopNow]
@[simp] theorem opSynHop_keeps (q : Req) (n : Byte) (mem : Byte) (w : Word) : (opSynHop q n mem w).Keeps := by
  constructor <;> intros <;> first | with_reducible rfl | (simp_all [opSynHop, done, answer]; done) | (simp only [opSynHop]; repeat' (first | with_reducible rfl | split | (simp_all [done, answer]; done) | dsimp only))
@[simp] theorem opHop_keeps (q : Req) (n : Byte) (mem : Byte) (w : Word) : (opHop q n mem w).Keeps := by
  have h := opSynHop_keeps q n mem w
  exact ⟨h.run, h.accept, h.waits, h.refused, h.failed, h.launchRun⟩
@[simp] theorem opIdentify_keeps : (opIdentify).Keeps := by
  constructor <;> intros <;> first | with_reducible rfl | (simp_all [opIdentify, done, answer]; done) | (simp only [opIdentify]; repeat' (first | with_reducible rfl | split | (simp_all [done, answer]; done) | dsimp only))
@[simp] theorem opImageClose_keeps (q : Req) (action : Byte) : (opImageClose q action).Keeps := by
  constructor <;> intros <;> first | with_reducible rfl | (simp_all [opImageClose, done, answer]; done) | (simp only [opImageClose]; repeat' (first | with_reducible rfl | split | (simp_all [done, answer]; done) | dsimp only))
@[simp] theorem bulkPush_pending (s : State) (q : Req) (opcode : Byte) (ws : List ℕ) : (bulkPush s q opcode ws).pending = s.pending := by simp [bulkPush]
@[simp] theorem opImageData_keeps (q : Req) (off : Word) (data : List Byte) : (opImageData q off data).Keeps := by
  constructor <;> intros <;> first | with_reducible rfl | (simp_all [opImageData, done, answer]; done) | (simp only [opImageData]; repeat' (first | with_reducible rfl | split | (simp_all [done, answer]; done) | dsimp only))
@[simp] theorem opImageOpen_keeps (q : Req) (kind : Byte) (mode : Byte) (total : Word) : (opImageOpen q kind mode total).Keeps := by
  constructor <;> intros <;> first | with_reducible rfl | (simp_all [opImageOpen, done, answer]; done) | (simp only [opImageOpen]; repeat' (first | with_reducible rfl | split | (simp_all [done, answer]; done) | dsimp only))
@[simp] theorem opImageStatus_keeps : (opImageStatus).Keeps := by
  constructor <;> intros <;> first | with_reducible rfl | (simp_all [opImageStatus, done, answer]; done) | (simp only [opImageStatus]; repeat' (first | with_reducible rfl | split | (simp_all [done, answer]; done) | dsimp only))
@[simp] theorem beginMaint_pending (s : State) (action : ℕ) (region : ℕ) (page : ℕ) : (beginMaint s action region page).pending = s.pending := by simp [beginMaint]
@[simp] theorem opLdgMaint_keeps (action : Byte) (region : Byte) (page : Half) : (opLdgMaint action region page).Keeps := by
  constructor <;> intros <;> first | with_reducible rfl | (simp_all [opLdgMaint, done, answer]; done) | (simp only [opLdgMaint]; repeat' (first | with_reducible rfl | split | (simp_all [done, answer]; done) | dsimp only))
@[simp] theorem opLdgRead_keeps (page : Half) (off : Byte) (count : Half) : (opLdgRead page off count).Keeps := by
  constructor <;> intros <;> first | with_reducible rfl | (simp_all [opLdgRead, done, answer]; done) | (simp only [opLdgRead]; repeat' (first | with_reducible rfl | split | (simp_all [done, answer]; done) | dsimp only))
@[simp] theorem opLdgWear_keeps (first : Half) (count : Half) : (opLdgWear first count).Keeps := by
  constructor <;> intros <;> first | with_reducible rfl | (simp_all [opLdgWear, done, answer]; done) | (simp only [opLdgWear]; repeat' (first | with_reducible rfl | split | (simp_all [done, answer]; done) | dsimp only))
@[simp] theorem opLdgWrite_keeps (page : Half) (off : Byte) (data : List Byte) : (opLdgWrite page off data).Keeps := by
  constructor <;> intros <;> first | with_reducible rfl | (simp_all [opLdgWrite, done, answer]; done) | (simp only [opLdgWrite]; repeat' (first | with_reducible rfl | split | (simp_all [done, answer]; done) | dsimp only))
@[simp] theorem plkDown_pending (s : State) (n : ℕ) (cause : ℕ) : (plkDown s n cause).pending = s.pending := by simp [plkDown]
@[simp] theorem sendCtl_pending (s : State) (n : ℕ) (sub : Byte) (data : List Byte) : (sendCtl s n sub data).pending = s.pending := by simp [sendCtl]
@[simp] theorem drainCheck_pending (s : State) (n : ℕ) : (drainCheck s n).pending = s.pending := by simp [drainCheck]
@[simp] theorem edpEvent_pending (s : State) (p : ℕ) (cause : ℕ) : (edpEvent s p cause).pending = s.pending := by simp [edpEvent]
@[simp] theorem setEdp_pending (s : State) (p : ℕ) (e : Edp) : (setEdp s p e).pending = s.pending := by simp [setEdp]
@[simp] theorem edpDark_pending (s : State) (p : ℕ) : (edpDark s p).pending = s.pending := by simp [edpDark]
@[simp] theorem edpRest_pending (s : State) (p : ℕ) : (edpRest s p).pending = s.pending := by simp [edpRest]
@[simp] theorem freeRecords_pending (s : State) (n : ℕ) : (freeRecords s n).pending = s.pending := by simp [freeRecords]
@[simp] theorem raiseCommit_pending (s : State) (src : ℕ) (d : Word) : (raiseCommit s src d).pending = s.pending := by simp [raiseCommit]
@[simp] theorem outEvent_pending (s : State) (n : ℕ) (cause : ℕ) (b2 : ℕ) (b3 : ℕ) : (outEvent s n cause b2 b3).pending = s.pending := by simp [outEvent]
@[simp] theorem setOut_pending (s : State) (n : ℕ) (o : Out) : (setOut s n o).pending = s.pending := by simp [setOut]
@[simp] theorem finishStop_pending (s : State) (n : ℕ) (why : ℕ) : (finishStop s n why).pending = s.pending := by simp [finishStop]
@[simp] theorem stopOutput_pending (s : State) (n : ℕ) (force : Bool) : (stopOutput s n force).pending = s.pending := by
  unfold stopOutput; repeat' (first | with_reducible rfl | (simp; done) | split | dsimp only)
@[simp] theorem linkDownNow_pending (s : State) (n : ℕ) (force : Bool) : (linkDownNow s n force).pending = s.pending := by simp [linkDownNow]
@[simp] theorem opLinkDown_keeps (q : Req) (port : Byte) (force : Bool) : (opLinkDown q port force).Keeps := by
  constructor <;> intros <;> first | with_reducible rfl | (simp_all [opLinkDown, done, answer]; done) | (simp only [opLinkDown]; repeat' (first | with_reducible rfl | split | (simp_all [done, answer]; done) | dsimp only))
@[simp] theorem endLoop_pending (s : State) (n : ℕ) (cause : ℕ) : (endLoop s n cause).pending = s.pending := by simp [endLoop]
@[simp] theorem startLoop_pending (s : State) (n : ℕ) (loop : ℕ) (pair : ℕ) : (startLoop s n loop pair).pending = s.pending := by simp [startLoop]
@[simp] theorem opLinkLoop_keeps (q : Req) (port : Byte) (loop : Byte) (pair : Byte) : (opLinkLoop q port loop pair).Keeps := by
  constructor <;> intros <;> first | with_reducible rfl | (simp_all [opLinkLoop, done, answer]; done) | (simp only [opLinkLoop]; repeat' (first | with_reducible rfl | split | (simp_all [done, answer]; done) | dsimp only))
@[simp] theorem sendPower_pending (s : State) (n : ℕ) (dir : ℕ) (st : ℕ) (kind : ℕ) : (sendPower s n dir st kind).pending = s.pending := by
  simp [sendPower]
@[simp] theorem scanDirCheck_pending (s : State) (n : ℕ) (dir : ℕ) : (scanDirCheck s n dir).pending = s.pending := by
  simp [scanDirCheck]
@[simp] theorem startCheck_pending (s : State) (n : ℕ) : (startCheck s n).pending = s.pending := by
  simp [startCheck]
@[simp] theorem setDir_pending (s : State) (n : ℕ) (dir : ℕ) (st : ℕ) : (setDir s n dir st).pending = s.pending := by
  simp [setDir]
@[simp] theorem idleTx_pending (s : State) (n : ℕ) (st : ℕ) : (idleTx s n st).pending = s.pending := by
  simp [idleTx]
@[simp] theorem changePower_pending (s : State) (n : ℕ) (dir : ℕ) (st : ℕ) : (changePower s n dir st).pending = s.pending := by simp [changePower]
@[simp] theorem opLinkPower_keeps (q : Req) (port : Byte) (dir : Byte) (state : Byte) : (opLinkPower q port dir state).Keeps := by
  constructor <;> intros <;> first | with_reducible rfl | (simp_all [opLinkPower, done, answer]; done) | (simp only [opLinkPower]; repeat' (first | with_reducible rfl | split | (simp_all [done, answer]; done) | dsimp only))
@[simp] theorem opLinkStatus_keeps (port : Byte) : (opLinkStatus port).Keeps := by
  constructor <;> intros <;> first | with_reducible rfl | (simp_all [opLinkStatus, done, answer]; done) | (simp only [opLinkStatus]; repeat' (first | with_reducible rfl | split | (simp_all [done, answer]; done) | dsimp only))
@[simp] theorem opLinkUp_keeps (q : Req) (port : Byte) (role : Byte) (step : Byte) (code : Byte) : (opLinkUp q port role step code).Keeps := by
  constructor <;> intros <;> first | with_reducible rfl | (simp_all [opLinkUp, done, answer]; done) | (simp only [opLinkUp]; repeat' (first | with_reducible rfl | split | (simp_all [done, answer]; done) | dsimp only))
@[simp] theorem setMesh_pending (s : State) (k : ℕ) (m : Mesh) : (setMesh s k m).pending = s.pending := by simp [setMesh]
@[simp] theorem meshSwap_pending (s : State) (k : ℕ) : (meshSwap s k).pending = s.pending := by simp [meshSwap]
@[simp] theorem setWarpUsed_pending (s : State) (bank : ℕ) (n : ℕ) : (setWarpUsed s bank n).pending = s.pending := by simp [setWarpUsed]
@[simp] theorem opMeshCommit_keeps (q : Req) (ms : List UnitRef) : (opMeshCommit q ms).Keeps := by
  constructor <;> intros <;> first | with_reducible rfl | (simp_all [opMeshCommit, done, answer]; done) | (simp only [opMeshCommit]; repeat' (first | with_reducible rfl | split | (simp_all [done, answer]; done) | dsimp only))
@[simp] theorem warpSet_pending (s : State) (bank : ℕ) (entry : ℕ) (v : Word) : (warpSet s bank entry v).pending = s.pending := by simp [warpSet]
@[simp] theorem warpFill_pending (s : State) (bank : ℕ) (entry : ℕ) (x3 : List Word) : (warpFill s bank entry x3).pending = s.pending := by
  induction x3 generalizing s entry with
  | nil => rfl
  | cons a l ih => simp [warpFill, ih]
@[simp] theorem meshWrite_pending (s : State) (k : ℕ) (first : ℕ) (vs : List Word) : (meshWrite s k first vs).pending = s.pending := by simp [meshWrite]
@[simp] theorem opMeshData_keeps (q : Req) (m : UnitRef) (first : Word) (vs : List Word) : (opMeshData q m first vs).Keeps := by
  constructor <;> intros <;> first | with_reducible rfl | (simp_all [opMeshData, done, answer]; done) | (simp only [opMeshData]; repeat' (first | with_reducible rfl | split | (simp_all [done, answer]; done) | dsimp only))
@[simp] theorem opMeshFromCapture_keeps (q : Req) (m : UnitRef) (pipe : UnitRef) (first : Word) (count : Word) (every : Bool) (commit : Bool) : (opMeshFromCapture q m pipe first count every commit).Keeps := by
  constructor <;> intros <;> first | with_reducible rfl | (simp_all [opMeshFromCapture, done, answer]; done) | (simp only [opMeshFromCapture]; repeat' (first | with_reducible rfl | split | (simp_all [done, answer]; done) | dsimp only))
@[simp] theorem freeEntry_pending (s : State) (t : ModeTrigger) : (freeEntry s t).pending = s.pending := by
  unfold freeEntry; repeat' (first | with_reducible rfl | (simp; done) | split | dsimp only)
@[simp] theorem memSleep_pending (s : State) (w : Wing) (on : Bool) : (memSleep s w on).pending = s.pending := by
  simp [memSleep]
@[simp] theorem dropChange_pending (s : State) : (dropChange s).pending = s.pending := by
  unfold dropChange; repeat' (first | with_reducible rfl | (simp; done) | split | dsimp only)
@[simp] theorem opModeCancel_keeps : (opModeCancel).Keeps := by
  constructor <;> intros <;> first | with_reducible rfl | (simp_all [opModeCancel, done, answer]; done) | (simp only [opModeCancel]; repeat' (first | with_reducible rfl | split | (simp_all [done, answer]; done) | dsimp only))
@[simp] theorem beginChange_pending (s : State) (q : Req) (mode : ℕ) (t : ModeTrigger) : (beginChange s q mode t).pending = s.pending := by
  unfold beginChange; repeat' (first | with_reducible rfl | (simp; done) | split | dsimp only)
@[simp] theorem endLoops_pending (s : State) : (endLoops s).pending = s.pending := by simp [endLoops]
@[simp] theorem edpStart_pending (s : State) (p : ℕ) (o : ℕ) : (edpStart s p o).pending = s.pending := by simp [edpStart]
@[simp] theorem gridCheck_pending (s : State) (n : ℕ) : (gridCheck s n).pending = s.pending := by simp [gridCheck]
@[simp] theorem enterStarting_pending (s : State) (n : ℕ) : (enterStarting s n).pending = s.pending := by simp [enterStarting]
@[simp] theorem startOutput_pending (s : State) (n : ℕ) (w : Wing) : (startOutput s n w).pending = s.pending := by simp [startOutput]
@[simp] theorem modeOutputs_pending (s : State) (rd : Rd) (mode : ℕ) : (modeOutputs s rd mode).pending = s.pending := by
  unfold modeOutputs
  refine (foldl_pending _ _ (fun s x => ?_) _).trans rfl
  dsimp only
  split
  · split
    · split <;> simp
    · split
      · split <;> simp
      · split <;> simp
  · split <;> simp
@[simp] theorem placeWords_pending (s : State) (ws : List (ℕ × ℕ × ℕ × ℕ)) (m : Rd) (v : Rd) : (placeWords s ws m v).pending = s.pending := by simp [placeWords]
@[simp] theorem disarm_pending (s : State) (w : Wing) (reason : ℕ) : (disarm s w reason).pending = s.pending := by simp [disarm]
@[simp] theorem takeRole_pending (s : State) (w : Wing) (role : ℕ) : (takeRole s w role).pending = s.pending := by simp [takeRole]
@[simp] theorem takeRoles_pending (s : State) (mode : ℕ) (off : Option Wing) : (takeRoles s mode off).pending = s.pending := by simp [takeRoles]
@[simp] theorem applyMode_pending (s : State) (mode : ℕ) : (applyMode s mode).pending = s.pending := by simp [applyMode]
@[simp] theorem refuseChange_pending (s : State) (why : ℕ) (st : Status) (a : Addr) : (refuseChange s why st a).pending = s.pending := by
  unfold refuseChange; repeat' (first | with_reducible rfl | (simp; done) | split | dsimp only)
@[simp] theorem launchChange_pending (s : State) : (launchChange s).pending = s.pending := by
  unfold launchChange; repeat' (first | with_reducible rfl | (simp; done) | split | dsimp only)
@[simp] theorem opModeChange_keeps (q : Req) (target : Byte) (trigger : Byte) (o : Byte) : (opModeChange q target trigger o).Keeps := by
  constructor
  · intro s; simp only [opModeChange]; split <;> simp [done]
  · intros; simp [opModeChange]
  · intros; simp [opModeChange]
  · intros; simp [opModeChange]
  · intros; simp [opModeChange]
  · intro f h; cases h; intro s; simp [done]
@[simp] theorem opNop_keeps : (opNop).Keeps := by
  constructor <;> intros <;> first | with_reducible rfl | (simp_all [opNop, done, answer]; done) | (simp only [opNop]; repeat' (first | with_reducible rfl | split | (simp_all [done, answer]; done) | dsimp only))
@[simp] theorem moveOutput_pending (s : State) (n : ℕ) (w : Wing) : (moveOutput s n w).pending = s.pending := by simp [moveOutput]
@[simp] theorem opOutputAssign_keeps (q : Req) (o : Byte) (w : Byte) : (opOutputAssign q o w).Keeps := by
  constructor <;> intros <;> first | with_reducible rfl | (simp_all [opOutputAssign, done, answer]; done) | (simp only [opOutputAssign]; repeat' (first | with_reducible rfl | split | (simp_all [done, answer]; done) | dsimp only))
@[simp] theorem opOutputStart_keeps (q : Req) (o : Byte) (w : Byte) : (opOutputStart q o w).Keeps := by
  constructor <;> intros <;> first | with_reducible rfl | (simp_all [opOutputStart, done, answer]; done) | (simp only [opOutputStart]; repeat' (first | with_reducible rfl | split | (simp_all [done, answer]; done) | dsimp only))
@[simp] theorem opOutputStop_keeps (q : Req) (o : Byte) (force : Bool) : (opOutputStop q o force).Keeps := by
  constructor <;> intros <;> first | with_reducible rfl | (simp_all [opOutputStop, done, answer]; done) | (simp only [opOutputStop]; repeat' (first | with_reducible rfl | split | (simp_all [done, answer]; done) | dsimp only))
@[simp] theorem opOwners_keeps (cls : Byte) (first : Byte) (count : Byte) (bank : Byte) : (opOwners cls first count bank).Keeps := by
  constructor <;> intros <;> first | with_reducible rfl | (simp_all [opOwners, done, answer]; done) | (simp only [opOwners]; repeat' (first | with_reducible rfl | split | (simp_all [done, answer]; done) | dsimp only))
@[simp] theorem rampNow_pending (s : State) (n : ℕ) (segs : List Seg) : (rampNow s n segs).pending = s.pending := by
  simp [rampNow]
@[simp] theorem opSynRampStart_keeps (q : Req) (n : Byte) : (opSynRampStart q n).Keeps := by
  constructor <;> intros <;> first | with_reducible rfl | (simp_all [opSynRampStart, done, answer]; done) | (simp only [opSynRampStart]; repeat' (first | with_reducible rfl | split | (simp_all [done, answer]; done) | dsimp only))
@[simp] theorem opRampStart_keeps (q : Req) (n : Byte) : (opRampStart q n).Keeps := by
  have h := opSynRampStart_keeps q n
  exact ⟨h.run, h.accept, h.waits, h.refused, h.failed, h.launchRun⟩
@[simp] theorem opReadWords_keeps (opcode : Byte) (addr : Addr) (bank : Byte) (n : ℕ) : (opReadWords opcode addr bank n).Keeps := by
  constructor <;> intros <;> first | with_reducible rfl | (simp_all [opReadWords, done, answer]; done) | (simp only [opReadWords]; repeat' (first | with_reducible rfl | split | (simp_all [done, answer]; done) | dsimp only))
@[simp] theorem opRefRank_keeps (cs : List Byte) : (opRefRank cs).Keeps := by
  constructor <;> intros <;> first | with_reducible rfl | (simp_all [opRefRank, done, answer]; done) | (simp only [opRefRank]; repeat' (first | with_reducible rfl | split | (simp_all [done, answer]; done) | dsimp only))
@[simp] theorem opRefSelect_keeps (c : Byte) : (opRefSelect c).Keeps := by
  refine ⟨fun s => ?_, fun _ _ => rfl, fun _ => rfl, fun _ _ => rfl, fun _ _ => rfl, fun _ h => nomatch h⟩
  simp only [opRefSelect]
  split <;> simp [done]
@[simp] theorem opRelease_keeps (q : Req) (cls : Byte) (first : Byte) (count : Byte) (bank : Byte) (force : Bool) : (opRelease q cls first count bank force).Keeps := by
  constructor <;> intros <;> first | with_reducible rfl | (simp_all [opRelease, done, answer]; done) | (simp only [opRelease]; repeat' (first | with_reducible rfl | split | (simp_all [done, answer]; done) | dsimp only))
@[simp] theorem opRouteSwitch_keeps (q : Req) (r : UnitRef) (kind : Byte) (pipe : UnitRef) : (opRouteSwitch q r kind pipe).Keeps := by
  constructor <;> intros <;> first | with_reducible rfl | (simp_all [opRouteSwitch, done, answer]; done) | (simp only [opRouteSwitch]; repeat' (first | with_reducible rfl | split | (simp_all [done, answer]; done) | dsimp only))
@[simp] theorem setEntry_pending (s : State) (e : ℕ) (x : Option SchedEntry) : (setEntry s e x).pending = s.pending := by simp [setEntry]
@[simp] theorem opSchedCancel_keeps (q : Req) (e : Half) (tag : Byte) : (opSchedCancel q e tag).Keeps := by
  constructor <;> intros <;> first | with_reducible rfl | (simp_all [opSchedCancel, done, answer]; done) | (simp only [opSchedCancel]; repeat' (first | with_reducible rfl | split | (simp_all [done, answer]; done) | dsimp only))
@[simp] theorem opSchedList_keeps (first : Byte) (count : Byte) : (opSchedList first count).Keeps := by
  constructor <;> intros <;> first | with_reducible rfl | (simp_all [opSchedList, done, answer]; done) | (simp only [opSchedList]; repeat' (first | with_reducible rfl | split | (simp_all [done, answer]; done) | dsimp only))
@[simp] theorem opSelftest_keeps (q : Req) (cls : Byte) (target : Byte) (unit : Half) : (opSelftest q cls target unit).Keeps := by
  constructor <;> intros <;> first | with_reducible rfl | (simp_all [opSelftest, done, answer]; done) | (simp only [opSelftest]; repeat' (first | with_reducible rfl | split | (simp_all [done, answer]; done) | dsimp only))
@[simp] theorem drawBytes_pending (s : State) (n : ℕ) : (drawBytes s n).2.pending = s.pending := by simp [drawBytes]
@[simp] theorem endTest_pending (s : State) (t : ℕ) (outcome : ℕ) (unit : ℕ) (detail : Word) : (endTest s t outcome unit detail).pending = s.pending := by
  unfold endTest; repeat' (first | with_reducible rfl | (simp; done) | split | dsimp only)
@[simp] theorem opSelftestAbort_keeps (target : Byte) : (opSelftestAbort target).Keeps := by
  constructor <;> intros <;> first | with_reducible rfl | (simp_all [opSelftestAbort, done, answer]; done) | (simp only [opSelftestAbort]; repeat' (first | with_reducible rfl | split | (simp_all [done, answer]; done) | dsimp only))
@[simp] theorem drawWord_pending (s : State) : (drawWord s).2.pending = s.pending := by simp [drawWord]
@[simp] theorem bandRecord_pending (s : State) (n : ℕ) : (bandRecord s n).2.pending = s.pending := by
  simp [bandRecord]
@[simp] theorem opSynBandStore_keeps (q : Req) (n : Byte) (mem : Byte) : (opSynBandStore q n mem).Keeps := by
  constructor <;> intros <;> first | with_reducible rfl | (simp_all [opSynBandStore, done, answer]; done) | (simp only [opSynBandStore]; repeat' (first | with_reducible rfl | split | (simp_all [done, answer]; done) | dsimp only))
@[simp] theorem opSynRampLoad_keeps (q : Req) (n : Byte) (segs : List Seg) : (opSynRampLoad q n segs).Keeps := by
  constructor <;> intros <;> first | with_reducible rfl | (simp_all [opSynRampLoad, done, answer]; done) | (simp only [opSynRampLoad]; repeat' (first | with_reducible rfl | split | (simp_all [done, answer]; done) | dsimp only))
@[simp] theorem opSysReset_keeps (scope : Byte) (confirm : Word) : (opSysReset scope confirm).Keeps := by
  constructor <;> intros <;> first | with_reducible rfl | (simp_all [opSysReset, done, answer]; done) | (simp only [opSysReset]; repeat' (first | with_reducible rfl | split | (simp_all [done, answer]; done) | dsimp only))
@[simp] theorem opTbRead_keeps : (opTbRead).Keeps := by
  constructor <;> intros <;> first | with_reducible rfl | (simp_all [opTbRead, done, answer]; done) | (simp only [opTbRead]; repeat' (first | with_reducible rfl | split | (simp_all [done, answer]; done) | dsimp only))
@[simp] theorem passOver_pending (s : State) (new : W64) : (passOver s new).1.pending = s.pending := rfl
@[simp] theorem setTimebase_pending (s : State) (q : Req) (ns : W64) (frac : Half) : (setTimebase s q ns frac).pending = s.pending := by simp [setTimebase]
@[simp] theorem opTbSet_keeps (q : Req) (ns : W64) (frac : Half) : (opTbSet q ns frac).Keeps := by
  constructor <;> intros <;> first | with_reducible rfl | (simp_all [opTbSet, done, answer]; done) | (simp only [opTbSet]; repeat' (first | with_reducible rfl | split | (simp_all [done, answer]; done) | dsimp only))
@[simp] theorem setThermal_pending (s : State) (f : Thermal → Thermal) : (setThermal s f).pending = s.pending := by simp [setThermal]
@[simp] theorem requestMeasure_pending (s : State) (mask : ℕ) (own : Bool) : (requestMeasure s mask own).pending = s.pending := by simp [requestMeasure]
@[simp] theorem opThmMeasure_keeps (mask : Half) : (opThmMeasure mask).Keeps := by
  constructor <;> intros <;> first | with_reducible rfl | (simp_all [opThmMeasure, done, answer]; done) | (simp only [opThmMeasure]; repeat' (first | with_reducible rfl | split | (simp_all [done, answer]; done) | dsimp only))
@[simp] theorem triggerNow_pending (s : State) (n : ℕ) (cam : ℕ) (w : Word) (launch : W64) : (triggerNow s n cam w launch).pending = s.pending := by simp [triggerNow]
@[simp] theorem opTrigger_keeps (q : Req) (port : Byte) (camera : Byte) (w : Word) : (opTrigger q port camera w).Keeps := by
  constructor <;> intros <;> first | with_reducible rfl | (simp_all [opTrigger, done, answer]; done) | (simp only [opTrigger]; repeat' (first | with_reducible rfl | split | (simp_all [done, answer]; done) | dsimp only))
@[simp] theorem opVitCommit_keeps (n : Byte) (len : Word) (crc : Word) : (opVitCommit n len crc).Keeps := by
  constructor <;> intros <;> first | with_reducible rfl | (simp_all [opVitCommit, done, answer]; done) | (simp only [opVitCommit]; repeat' (first | with_reducible rfl | split | (simp_all [done, answer]; done) | dsimp only))
@[simp] theorem setSlot_pending (s : State) (n : ℕ) (x : Slot) : (setSlot s n x).pending = s.pending := by simp [setSlot]
@[simp] theorem opVitData_keeps (q : Req) (n : Byte) (off : Word) (data : List Byte) : (opVitData q n off data).Keeps := by
  constructor <;> intros <;> first | with_reducible rfl | (simp_all [opVitData, done, answer]; done) | (simp only [opVitData]; repeat' (first | with_reducible rfl | split | (simp_all [done, answer]; done) | dsimp only))
@[simp] theorem opVltChallenge_keeps (nonce : List Byte) : (opVltChallenge nonce).Keeps := by
  constructor <;> intros <;> first | with_reducible rfl | (simp_all [opVltChallenge, done, answer]; done) | (simp only [opVltChallenge]; repeat' (first | with_reducible rfl | split | (simp_all [done, answer]; done) | dsimp only))
@[simp] theorem opVltDerive_keeps (q : Req) (slot : Byte) (ctx : List Byte) : (opVltDerive q slot ctx).Keeps := by
  constructor <;> intros <;> first | with_reducible rfl | (simp_all [opVltDerive, done, answer]; done) | (simp only [opVltDerive]; repeat' (first | with_reducible rfl | split | (simp_all [done, answer]; done) | dsimp only))
@[simp] theorem queueVault_pending (s : State) (k : ℕ) (st : ℕ) (secret : List Byte) (p : Port) : (queueVault s k st secret p).pending = s.pending := by simp [queueVault]
@[simp] theorem launchFailed_pending (s : State) (e : ℕ) (q : Req) (st : Status) : (launchFailed s e q st).pending = s.pending := by simp [launchFailed]
@[simp] theorem discardKeyed_pending (s : State) : (discardKeyed s).pending = s.pending := by
  unfold discardKeyed
  refine (foldl_pending _ _ (fun s x => ?_) _).trans rfl
  generalize entryReq x.2 = p
  obtain ⟨a, b⟩ := p
  simp only [launchFailed_pending, formLaunchPlacard_pending, setEntry_pending]
  have hc (c : Instr) : (match c with | .modeChange .. => dropChange s | _ => s).pending = s.pending := by
    split <;> simp
  exact hc _
@[simp] theorem revokeRuns_pending (s : State) : (revokeRuns s).pending = s.pending := by simp [revokeRuns]
@[simp] theorem revokeKey_pending (s : State) (p : Port) : (revokeKey s p).pending = s.pending := by
  unfold revokeKey; repeat' (first | with_reducible rfl | (simp; done) | split | dsimp only)
@[simp] theorem slotChanged_pending (s : State) (k : ℕ) (p : Port) : (slotChanged s k p).pending = s.pending := by simp [slotChanged]
@[simp] theorem opVltInvalidate_keeps (q : Req) (slot : Byte) : (opVltInvalidate q slot).Keeps := by
  refine ⟨fun s => ?_, fun _ _ => rfl, fun _ => rfl, fun _ _ => rfl, fun _ _ => rfl, fun _ h => nomatch h⟩
  simp only [opVltInvalidate]
  repeat' (first | with_reducible rfl | split | simp [done])
@[simp] theorem opVltSecretWrite_keeps (q : Req) (slot : Byte) (secret : List Byte) : (opVltSecretWrite q slot secret).Keeps := by
  constructor <;> intros <;> first | with_reducible rfl | (simp_all [opVltSecretWrite, done, answer]; done) | (simp only [opVltSecretWrite]; repeat' (first | with_reducible rfl | split | (simp_all [done, answer]; done) | dsimp only))
@[simp] theorem opVltStatus_keeps : (opVltStatus).Keeps := by
  constructor <;> intros <;> first | with_reducible rfl | (simp_all [opVltStatus, done, answer]; done) | (simp only [opVltStatus]; repeat' (first | with_reducible rfl | split | (simp_all [done, answer]; done) | dsimp only))
@[simp] theorem opWrite_keeps (q : Req) (addr : Addr) (bank : Byte) (v : Word) : (opWrite q addr bank v).Keeps := by
  have h := opWriteWords_keeps 0x11 q addr bank [(allOnes, v)]
  exact ⟨h.run, h.accept, h.waits, h.refused, h.failed, h.launchRun⟩
@[simp] theorem opWriteMasked_keeps (q : Req) (addr : Addr) (bank : Byte) (mask : Word) (v : Word) : (opWriteMasked q addr bank mask v).Keeps := by
  have h := opWriteWords_keeps 0x12 q addr bank [(mask, v)]
  exact ⟨h.run, h.accept, h.waits, h.refused, h.failed, h.launchRun⟩
theorem opOf_keeps (c : Instr) (o : Op) (h : opOf c = some o) : o.Keeps := by
  cases c <;> simp only [opOf, Option.some.injEq, reduceCtorEq] at h <;> subst h <;> simp
theorem dueOf_keeps (c : Instr) (d : Due) (h : dueOf c = some d) : d.op.Keeps := by
  unfold dueOf at h
  split at h
  · rename_i heq; cases h; exact opOf_keeps _ _ heq
  · cases h
@[simp] theorem absenceCheck_pending (s : State) (n : ℕ) : (absenceCheck s n).pending = s.pending := by simp [absenceCheck]
@[simp] theorem addStep_pending (s : State) (ps : ℤ) : (addStep s ps).pending = s.pending := by simp [addStep]
@[simp] theorem sendCapability_pending (s : State) (n : ℕ) : (sendCapability s n).pending = s.pending := by simp [sendCapability]
@[simp] theorem alignDone_pending (s : State) (n : ℕ) : (alignDone s n).pending = s.pending := by
  simp [alignDone]
@[simp] theorem alignFsyncs_pending (s : State) (c : ℕ) : (alignFsyncs s c).pending = s.pending := by
  unfold alignFsyncs
  repeat' (first | with_reducible rfl | with_reducible assumption | ((try lift_lets); intro zz; first | ((have hz : State.pending zz = State.pending s := by (dsimp only [zz]; repeat' (first | with_reducible rfl | with_reducible assumption | (obtain ⟨rfl, rfl⟩ := Prod.ext_iff.mp ‹_ = (_, _)›) | (obtain ⟨rfl, -⟩ := Prod.ext_iff.mp ‹_ = (_, _)›) | split | (with_reducible refine (foldl_pending _ _ (fun s x => ?_) _).trans ?_) | (simp only [*]; done) | dsimp only | (simp [*]; done)))); clear_value zz) | clear_value zz) | (obtain ⟨rfl, rfl⟩ := Prod.ext_iff.mp ‹_ = (_, _)›) | (obtain ⟨rfl, -⟩ := Prod.ext_iff.mp ‹_ = (_, _)›) | split | (with_reducible refine (foldl_pending _ _ (fun s x => ?_) _).trans ?_) | (simp only [*]; done) | (simp [*]; done))
@[simp] theorem noStep_pending (s : State) (n : ℕ) : (noStep s n).pending = s.pending := by
  simp [noStep]
@[simp] theorem takeRemain_pending (s : State) (n : ℕ) : (takeRemain s n).pending = s.pending := by simp [takeRemain]
@[simp] theorem alignTo_pending (s : State) (n : ℕ) (d : ℤ) : (alignTo s n d).pending = s.pending := by simp [alignTo]
@[simp] theorem alignTick_pending (s : State) (o : ℕ) : (alignTick s o).pending = s.pending := by
  unfold alignTick; repeat' (first | with_reducible rfl | (simp; done) | split | dsimp only)
@[simp] theorem allocBuffers_pending (s : State) (k : ℕ) (size : ℕ) (x3 : ℕ) : ∀ res, allocBuffers s k size x3 = some res → res.1.pending = s.pending := by
  induction x3 generalizing s with
  | zero => intro res h; simp only [allocBuffers, Option.some.injEq] at h; subst h; rfl
  | succ n ih =>
    intro res h
    simp only [allocBuffers] at h
    split at h
    · cases h
    · rename_i s2 b h2
      simp only [Option.map_eq_some_iff] at h
      obtain ⟨a, h3, rfl⟩ := h
      exact (ih _ _ h3).trans (allocate_pending _ _ _ _ _ _ h2)
@[simp] theorem applyBase_pending (s : State) (l : List Byte) : (applyBase s l).pending = s.pending := by simp [applyBase]
@[simp] theorem arbEvent_pending (s : State) (o : ℕ) (row : ℕ) (outcome : ℕ) : (arbEvent s o row outcome).pending = s.pending := by simp [arbEvent]
@[simp] theorem setDispatcher_pending (s : State) (w : Wing) (d : Dispatcher) : (setDispatcher s w d).pending = s.pending := by
  unfold setDispatcher; repeat' (first | with_reducible rfl | (simp; done) | split | dsimp only)
@[simp] theorem dispatch_pending (s : State) (w : Wing) : (dispatch s w).pending = s.pending := by
  simp [dispatch]
@[simp] theorem finishEngine_pending (s : State) (w : Wing) (e : ℕ) : (finishEngine s w e).pending = s.pending := by
  simp [finishEngine]
@[simp] theorem finishJob_pending (s : State) (w : Wing) (o : ℕ) (row : ℕ) (col : ℕ) : (finishJob s w o row col).pending = s.pending := by
  simp [finishJob]
@[simp] theorem setHealth_pending (s : State) (w : Wing) (f : Health → Health) : (setHealth s w f).pending = s.pending := by simp [setHealth]
@[simp] theorem dirtyFrame_pending (s : State) (o : ℕ) : (dirtyFrame s o).pending = s.pending := by
  unfold dirtyFrame; repeat' (first | with_reducible rfl | (simp; done) | split | dsimp only)
@[simp] theorem unresolved_pending (s : State) (o : ℕ) (row : ℕ) : (unresolved s o row).pending = s.pending := by simp [unresolved]
@[simp] theorem wingFault_pending (s : State) (w : Wing) (cause : ℕ) : (wingFault s w cause).pending = s.pending := by simp [wingFault]
@[simp] theorem arbitrate_pending (s : State) (o : ℕ) (row : ℕ) (col : ℕ) (w : Wing) (confirmed : Bool) : (arbitrate s o row col w confirmed).pending = s.pending := by
  unfold arbitrate; repeat' (first | with_reducible rfl | (simp; done) | split | dsimp only)
@[simp] theorem armAt_pending (s : State) (o : ℕ) : (armAt s o).pending = s.pending := by
  unfold armAt; repeat' (first | with_reducible rfl | (simp; done) | split | dsimp only)
@[simp] theorem armFsyncs_pending (s : State) (c : ℕ) : (armFsyncs s c).pending = s.pending := by simp [armFsyncs]
@[simp] theorem setStream_pending (s : State) (k : ℕ) (x : Stream) : (setStream s k x).pending = s.pending := by simp [setStream]
@[simp] theorem streamEvent_pending (s : State) (k : ℕ) (cause : ℕ) (channels : ℕ) : (streamEvent s k cause channels).pending = s.pending := by simp [streamEvent]
@[simp] theorem streamGap_pending (s : State) (k : ℕ) (missing : ℕ) (why : ℕ) : (streamGap s k missing why).pending = s.pending := by simp [streamGap]
@[simp] theorem audioArrives_pending (s : State) (k : ℕ) (channels : ℕ) (rate : ℕ) (seq : Option ℕ) (frames : ℕ) (pt : W64) (last : List Word) : (audioArrives s k channels rate seq frames pt last).pending = s.pending := by
  unfold audioArrives
  repeat' (first | with_reducible rfl | with_reducible assumption | ((try lift_lets); intro zz; first | ((have hz : State.pending zz = State.pending s := by (dsimp only [zz]; repeat' (first | with_reducible rfl | with_reducible assumption | (obtain ⟨rfl, rfl⟩ := Prod.ext_iff.mp ‹_ = (_, _)›) | (obtain ⟨rfl, -⟩ := Prod.ext_iff.mp ‹_ = (_, _)›) | split | (with_reducible refine (foldl_pending _ _ (fun s x => ?_) _).trans ?_) | (simp only [*]; done) | dsimp only | (simp [*]; done)))); clear_value zz) | clear_value zz) | (obtain ⟨rfl, rfl⟩ := Prod.ext_iff.mp ‹_ = (_, _)›) | (obtain ⟨rfl, -⟩ := Prod.ext_iff.mp ‹_ = (_, _)›) | split | (with_reducible refine (foldl_pending _ _ (fun s x => ?_) _).trans ?_) | (simp only [*]; done) | (simp [*]; done))
@[simp] theorem setAudioClock_pending (s : State) (n : ℕ) (c : AudioClock) : (setAudioClock s n c).pending = s.pending := by
  simp [setAudioClock]
@[simp] theorem audioTick_pending (s : State) (n : ℕ) : (audioTick s n).pending = s.pending := by
  simp [audioTick]
@[simp] theorem authStep_pending (s : State) (q : Req) (o : Op) : (authStep s q o).1.pending = s.pending := by
  unfold authStep
  dsimp only
  repeat' (first | with_reducible rfl | split | (simp; done))
@[simp] theorem countFst_pending (s : State) (p : ℕ) (w : ℕ) (n : ℕ) : (countFst s p w n).pending = s.pending := by simp [countFst]
@[simp] theorem raiseWing_pending (s : State) (w : Wing) (src : ℕ) (d : Word) : (raiseWing s w src d).pending = s.pending := by simp [raiseWing]
@[simp] theorem bandwidthMiss_pending (s : State) (w : Wing) (o : ℕ) (port : ℕ) : (bandwidthMiss s w o port).pending = s.pending := by simp [bandwidthMiss]
@[simp] theorem beginFrame_pending (s : State) (k : ℕ) : (beginFrame s k).pending = s.pending := by
  unfold beginFrame; repeat' (first | with_reducible rfl | (simp; done) | split | dsimp only)
@[simp] theorem beginJobs_pending (s : State) (o : ℕ) : (beginJobs s o).pending = s.pending := by
  simp [beginJobs]
@[simp] theorem plkCount_pending (s : State) (n : ℕ) (crc : ℕ) (hdr : ℕ) (corr : ℕ) (uncorr : ℕ) (retx : ℕ) : (plkCount s n crc hdr corr uncorr retx).pending = s.pending := by simp [plkCount]
@[simp] theorem laneLost_pending (s : State) (n : ℕ) (lane : ℕ) (hdr : ℕ) : (laneLost s n lane hdr).pending = s.pending := by
  simp [laneLost]
@[simp] theorem sendAck_pending (s : State) (n : ℕ) : (sendAck s n).pending = s.pending := by
  simp [sendAck]
@[simp] theorem sendTraining_pending (s : State) (n : ℕ) (req : ℕ) (step : ℕ) (preset : ℕ) (pre : Byte) (post : Byte) : (sendTraining s n req step preset pre post).pending = s.pending := by
  simp [sendTraining]
@[simp] theorem toTrain_pending (s : State) (n : ℕ) : (toTrain s n).pending = s.pending := by
  simp [toTrain]
@[simp] theorem lanesLocked_pending (s : State) (n : ℕ) : (lanesLocked s n).pending = s.pending := by
  unfold lanesLocked; repeat' (first | with_reducible rfl | (simp; done) | split | dsimp only)
@[simp] theorem headerArrives_pending (s : State) (n : ℕ) (lane : ℕ) (h : BitVec 2) : (headerArrives s n lane h).pending = s.pending := by
  unfold headerArrives; repeat' (first | with_reducible rfl | (simp; done) | split | dsimp only)
@[simp] theorem cp2Delivered_pending (s : State) (k : ℕ) : (cp2Delivered s k).pending = s.pending := by
  simp [cp2Delivered]
@[simp] theorem takeAck_pending (s : State) (n : ℕ) (upTo : Byte) : (takeAck s n upTo).pending = s.pending := by simp [takeAck]
@[simp] theorem validPacket_pending (s : State) (n : ℕ) : (validPacket s n).pending = s.pending := by
  simp [validPacket]
@[simp] theorem receiveCtl_pending (s : State) (n : ℕ) (m : Ctl) : (receiveCtl s n m).2.pending = s.pending := by
  unfold receiveCtl; repeat' (first | with_reducible rfl | (simp; done) | split | dsimp only)
@[simp] theorem execUrgent_pending (port : Fin 24) (m : Ctl) (s : State) : ∀ res, execUrgent port m s = .next res → res.pending = s.pending := by
  intro res h; simp only [execUrgent] at h; cases h; simp
theorem stateOf_pending (s : State) (r : Host.Outcome State Fault Refusal) (h : ∀ res, r = .next res → res.pending = s.pending) : (stateOf s r).pending = s.pending := by
  cases r with
  | next t => exact h t rfl
  | fault _ => rfl
  | refused _ => rfl
@[simp] theorem takeControlBlock_pending (s : State) (port : Fin 24) (b : List Byte) : (takeControlBlock s port b).pending = s.pending := by
  unfold takeControlBlock
  split
  · simp
  · exact stateOf_pending _ _ (execUrgent_pending _ _ _)
  · rfl
@[simp] theorem packetFailed_pending (s : State) (n : ℕ) : (packetFailed s n).pending = s.pending := by simp [packetFailed]
@[simp] theorem execAudio_pending (port : Fin 24) (packet : List Byte) (s : State) : ∀ res, execAudio port packet s = .next res → res.pending = s.pending := by
  intro res h
  unfold execAudio at h
  repeat' (first | (have h := Host.Outcome.next.inj h; subst h; clear h) | (have h := Host.Outcome.next.inj h; subst h) | (simp only [reduceCtorEq] at h; done) | split at h | dsimp only at h | (cases h; done) | (obtain ⟨rfl⟩ := h))
  all_goals (repeat' (first | with_reducible rfl | with_reducible assumption | ((try lift_lets); intro zz; first | ((have hz : State.pending zz = State.pending s := by (dsimp only [zz]; repeat' (first | with_reducible rfl | with_reducible assumption | (obtain ⟨rfl, rfl⟩ := Prod.ext_iff.mp ‹_ = (_, _)›) | (obtain ⟨rfl, -⟩ := Prod.ext_iff.mp ‹_ = (_, _)›) | split | (with_reducible refine (foldl_pending _ _ (fun s x => ?_) _).trans ?_) | (simp only [*]; done) | dsimp only | (simp [*]; done)))); clear_value zz) | clear_value zz) | (obtain ⟨rfl, rfl⟩ := Prod.ext_iff.mp ‹_ = (_, _)›) | (obtain ⟨rfl, -⟩ := Prod.ext_iff.mp ‹_ = (_, _)›) | split | (with_reducible refine (foldl_pending _ _ (fun s x => ?_) _).trans ?_) | (simp only [*]; done) | (simp [*]; done)))
@[simp] theorem plkRunning_pending (s : State) (n : ℕ) (cause : ℕ) : (plkRunning s n cause).pending = s.pending := by simp [plkRunning]
@[simp] theorem toStep_pending (s : State) (n : ℕ) : (toStep s n).pending = s.pending := by
  simp [toStep]
@[simp] theorem capDone_pending (s : State) (n : ℕ) : (capDone s n).pending = s.pending := by simp [capDone]
@[simp] theorem judgeCapability_pending (s : State) (n : ℕ) (b : List Byte) : (judgeCapability s n b).pending = s.pending := by
  simp [judgeCapability]
@[simp] theorem execCapability_pending (port : Fin 24) (packet : List Byte) (s : State) : ∀ res, execCapability port packet s = .next res → res.pending = s.pending := by
  intro res h
  simp only [execCapability] at h
  split at h
  · have h := Host.Outcome.next.inj h; subst h; rfl
  · split at h
    · have h := Host.Outcome.next.inj h; subst h; simp
    · rename_i b _
      have e : (sendCtl (validPacket s port.val) port.val 0x07 (leBytes 4 (crc32c b).toNat)).pending = s.pending := by simp
      generalize sendCtl (validPacket s port.val) port.val 0x07 (leBytes 4 (crc32c b).toNat) = t at h e
      split at h <;> (have h := Host.Outcome.next.inj h; subst h; simp [e])
@[simp] theorem execFence_pending (port : Fin 24) (packet : List Byte) (s : State) : ∀ res, execFence port packet s = .next res → res.pending = s.pending := by
  intro res h
  unfold execFence at h
  repeat' (first | (have h := Host.Outcome.next.inj h; subst h; clear h) | (have h := Host.Outcome.next.inj h; subst h) | (simp only [reduceCtorEq] at h; done) | split at h | dsimp only at h | (cases h; done) | (obtain ⟨rfl⟩ := h))
  all_goals (repeat' (first | with_reducible rfl | with_reducible assumption | ((try lift_lets); intro zz; first | ((have hz : State.pending zz = State.pending s := by (dsimp only [zz]; repeat' (first | with_reducible rfl | with_reducible assumption | (obtain ⟨rfl, rfl⟩ := Prod.ext_iff.mp ‹_ = (_, _)›) | (obtain ⟨rfl, -⟩ := Prod.ext_iff.mp ‹_ = (_, _)›) | split | (with_reducible refine (foldl_pending _ _ (fun s x => ?_) _).trans ?_) | (simp only [*]; done) | dsimp only | (simp [*]; done)))); clear_value zz) | clear_value zz) | (obtain ⟨rfl, rfl⟩ := Prod.ext_iff.mp ‹_ = (_, _)›) | (obtain ⟨rfl, -⟩ := Prod.ext_iff.mp ‹_ = (_, _)›) | split | (with_reducible refine (foldl_pending _ _ (fun s x => ?_) _).trans ?_) | (simp only [*]; done) | (simp [*]; done)))
@[simp] theorem execHeartbeat_pending (port : Fin 24) (packet : List Byte) (s : State) : ∀ res, execHeartbeat port packet s = .next res → res.pending = s.pending := by
  intro res h
  unfold execHeartbeat at h
  repeat' (first | (have h := Host.Outcome.next.inj h; subst h; clear h) | (have h := Host.Outcome.next.inj h; subst h) | (simp only [reduceCtorEq] at h; done) | split at h | dsimp only at h | (cases h; done) | (obtain ⟨rfl⟩ := h))
  all_goals (repeat' (first | with_reducible rfl | with_reducible assumption | ((try lift_lets); intro zz; first | ((have hz : State.pending zz = State.pending s := by (dsimp only [zz]; repeat' (first | with_reducible rfl | with_reducible assumption | (obtain ⟨rfl, rfl⟩ := Prod.ext_iff.mp ‹_ = (_, _)›) | (obtain ⟨rfl, -⟩ := Prod.ext_iff.mp ‹_ = (_, _)›) | split | (with_reducible refine (foldl_pending _ _ (fun s x => ?_) _).trans ?_) | (simp only [*]; done) | dsimp only | (simp [*]; done)))); clear_value zz) | clear_value zz) | (obtain ⟨rfl, rfl⟩ := Prod.ext_iff.mp ‹_ = (_, _)›) | (obtain ⟨rfl, -⟩ := Prod.ext_iff.mp ‹_ = (_, _)›) | split | (with_reducible refine (foldl_pending _ _ (fun s x => ?_) _).trans ?_) | (simp only [*]; done) | (simp [*]; done)))
@[simp] theorem forcedLine_pending (s : State) (n : ℕ) (k : ℕ) : (forcedLine s n k).pending = s.pending := by
  simp [forcedLine]
@[simp] theorem countConcealed_pending (s : State) (k : ℕ) (n : ℕ) : (countConcealed s k n).pending = s.pending := by simp [countConcealed]
@[simp] theorem streamSeq_pending (s : State) (k : ℕ) (seq : ℕ) : (streamSeq s k seq).pending = s.pending := by simp [streamSeq]
@[simp] theorem lossNotice_pending (s : State) (k : ℕ) (seq : ℕ) : (lossNotice s k seq).pending = s.pending := by simp [lossNotice]
@[simp] theorem drainAll_pending (s : State) : (drainAll s).pending = s.pending := by simp [drainAll]
@[simp] theorem settleDrains_pending (s : State) : (settleDrains s).pending = s.pending := by simp [settleDrains]
@[simp] theorem checkTier_pending (s : State) (c : ℕ) : (checkTier s c).pending = s.pending := by
  unfold checkTier; repeat' (first | with_reducible rfl | (simp; done) | split | dsimp only)
@[simp] theorem measured_pending (s : State) (c : ℕ) (m : ℕ × ℕ) (r : ℕ × ℕ) : (measured s c m r).pending = s.pending := by simp [measured]
@[simp] theorem refPulseNow_pending (s : State) (n : ℕ) (interval : ℕ) : (refPulseNow s n interval).pending = s.pending := by simp [refPulseNow]
@[simp] theorem sourceRefPulse_pending (s : State) (src : ℕ × ℕ × ℕ) : (sourceRefPulse s src).pending = s.pending := by simp [sourceRefPulse]
@[simp] theorem streamCand_pending (s : State) (p : ℕ) (st : ℕ) (num : ℕ) : (streamCand s p st num).pending = s.pending := by
  simp [streamCand]
@[simp] theorem capChange_pending (s : State) (k : ℕ) : (capChange s k).pending = s.pending := by simp [capChange]
@[simp] theorem capLock_pending (s : State) (k : ℕ) (drift : ℤ) : (capLock s k drift).pending = s.pending := by simp [capLock]
@[simp] theorem capPairCheck_pending (s : State) (k : ℕ) : (capPairCheck s k).pending = s.pending := by simp [capPairCheck]
@[simp] theorem meshFromFrame_pending (s : State) (pixel : ℕ → Word) (size : ℕ) (x3 : List MeshReq) : (meshFromFrame s pixel size x3).1.pending = s.pending := by
  induction x3 generalizing s with
  | nil => rfl
  | cons a l ih =>
    simp only [meshFromFrame, ih]
    split <;> split <;> simp
@[simp] theorem capPublish_pending (s : State) (k : ℕ) : (capPublish s k).pending = s.pending := by
  unfold capPublish; repeat' (first | with_reducible rfl | (simp; done) | split | dsimp only)
@[simp] theorem followRamp_pending (s : State) (n : ℕ) (target : ℕ) (us : ℕ) : (followRamp s n target us).pending = s.pending := by simp [followRamp]
@[simp] theorem followOne_pending (s : State) (period : ℕ) (o : ℕ) : (followOne s period o).pending = s.pending := by
  unfold followOne; repeat' (first | with_reducible rfl | (simp; done) | split | dsimp only)
@[simp] theorem followSource_pending (s : State) (bank : ℕ) (pipe : ℕ) (period : ℕ) : (followSource s bank pipe period).pending = s.pending := by simp [followSource]
@[simp] theorem capFrameEnd_pending (s : State) (k : ℕ) (drift : ℤ) : (capFrameEnd s k drift).pending = s.pending := by
  unfold capFrameEnd; repeat' (first | with_reducible rfl | (simp; done) | split | dsimp only)
@[simp] theorem capJudge_pending (s : State) (k : ℕ) : (capJudge s k).pending = s.pending := by simp [capJudge]
@[simp] theorem capKnow_pending (s : State) (k : ℕ) (fmt : ℕ) (w : ℕ) : (capKnow s k fmt w).pending = s.pending := by simp [capKnow]
@[simp] theorem capTile_pending (s : State) (k : ℕ) (col : ℕ) (row : ℕ) (record : List Byte) : (capTile s k col row record).pending = s.pending := by
  unfold capTile; repeat' (first | with_reducible rfl | (simp; done) | split | dsimp only)
@[simp] theorem capEnter_pending (s : State) (k : ℕ) (fmt : ℕ) (w : ℕ) (h : ℕ) : (capEnter s k fmt w h).pending = s.pending := by
  unfold capEnter
  dsimp only
  split
  · split <;> simp
  · split
    · split <;> simp
    · rename_i s2 l h2
      have h3 := allocBuffers_pending _ _ _ _ _ h2
      simpa using h3
@[simp] theorem capPulse_pending (s : State) (k : ℕ) (fmt : ℕ) (w : ℕ) (num : Option ℕ) : (capPulse s k fmt w num).pending = s.pending := by
  unfold capPulse; repeat' (first | with_reducible rfl | (simp; done) | split | dsimp only)
@[simp] theorem streamPulse_pending (s : State) (k : ℕ) (num : ℕ) (fmt : ℕ) (w : ℕ) : (streamPulse s k num fmt w).pending = s.pending := by simp [streamPulse]
@[simp] theorem tileForPipe_pending (s : State) (src : ℕ × ℕ × ℕ) (k : ℕ) (seq : ℕ) (b : List Byte) (drift : ℤ) : (tileForPipe s src k seq b drift).pending = s.pending := by simp [tileForPipe]
@[simp] theorem execTile_pending (port : Fin 24) (packet : List Byte) (drift : ℤ) (s : State) : ∀ res, execTile port packet drift s = .next res → res.pending = s.pending := by
  intro res h
  unfold execTile at h
  repeat' (first | (have h := Host.Outcome.next.inj h; subst h; clear h) | (have h := Host.Outcome.next.inj h; subst h) | (simp only [reduceCtorEq] at h; done) | split at h | dsimp only at h | (cases h; done) | (obtain ⟨rfl⟩ := h))
  all_goals (repeat' (first | with_reducible rfl | with_reducible assumption | ((try lift_lets); intro zz; first | ((have hz : State.pending zz = State.pending s := by (dsimp only [zz]; repeat' (first | with_reducible rfl | with_reducible assumption | (obtain ⟨rfl, rfl⟩ := Prod.ext_iff.mp ‹_ = (_, _)›) | (obtain ⟨rfl, -⟩ := Prod.ext_iff.mp ‹_ = (_, _)›) | split | (with_reducible refine (foldl_pending _ _ (fun s x => ?_) _).trans ?_) | (simp only [*]; done) | dsimp only | (simp [*]; done)))); clear_value zz) | clear_value zz) | (obtain ⟨rfl, rfl⟩ := Prod.ext_iff.mp ‹_ = (_, _)›) | (obtain ⟨rfl, -⟩ := Prod.ext_iff.mp ‹_ = (_, _)›) | split | (with_reducible refine (foldl_pending _ _ (fun s x => ?_) _).trans ?_) | (simp only [*]; done) | (simp [*]; done)))
@[simp] theorem capPixels_pending (s : State) (k : ℕ) (y : ℕ) (x : ℕ) (n : ℕ) (src : SpanSrc) : (capPixels s k y x n src).pending = s.pending := by
  unfold capPixels; repeat' (first | with_reducible rfl | (simp; done) | split | dsimp only)
@[simp] theorem lineForPipe_pending (s : State) (src : ℕ × ℕ × ℕ) (k : ℕ) (seq : ℕ) (b : List Byte) (drift : ℤ) : (lineForPipe s src k seq b drift).pending = s.pending := by simp [lineForPipe]
@[simp] theorem execVideoLine_pending (port : Fin 24) (packet : List Byte) (drift : ℤ) (s : State) : ∀ res, execVideoLine port packet drift s = .next res → res.pending = s.pending := by
  intro res h
  unfold execVideoLine at h
  repeat' (first | (have h := Host.Outcome.next.inj h; subst h; clear h) | (have h := Host.Outcome.next.inj h; subst h) | (simp only [reduceCtorEq] at h; done) | split at h | dsimp only at h | (cases h; done) | (obtain ⟨rfl⟩ := h))
  all_goals (repeat' (first | with_reducible rfl | with_reducible assumption | ((try lift_lets); intro zz; first | ((have hz : State.pending zz = State.pending s := by (dsimp only [zz]; repeat' (first | with_reducible rfl | with_reducible assumption | (obtain ⟨rfl, rfl⟩ := Prod.ext_iff.mp ‹_ = (_, _)›) | (obtain ⟨rfl, -⟩ := Prod.ext_iff.mp ‹_ = (_, _)›) | split | (with_reducible refine (foldl_pending _ _ (fun s x => ?_) _).trans ?_) | (simp only [*]; done) | dsimp only | (simp [*]; done)))); clear_value zz) | clear_value zz) | (obtain ⟨rfl, rfl⟩ := Prod.ext_iff.mp ‹_ = (_, _)›) | (obtain ⟨rfl, -⟩ := Prod.ext_iff.mp ‹_ = (_, _)›) | split | (with_reducible refine (foldl_pending _ _ (fun s x => ?_) _).trans ?_) | (simp only [*]; done) | (simp [*]; done)))
@[simp] theorem execAck_pending (port : Fin 24) (upTo : Byte) (s : State) : ∀ res, execAck port upTo s = .next res → res.pending = s.pending := by
  intro res h
  unfold execAck at h
  repeat' (first | (have h := Host.Outcome.next.inj h; subst h; clear h) | (have h := Host.Outcome.next.inj h; subst h) | (simp only [reduceCtorEq] at h; done) | split at h | dsimp only at h | (cases h; done) | (obtain ⟨rfl⟩ := h))
  all_goals (repeat' (first | with_reducible rfl | with_reducible assumption | ((try lift_lets); intro zz; first | ((have hz : State.pending zz = State.pending s := by (dsimp only [zz]; repeat' (first | with_reducible rfl | with_reducible assumption | (obtain ⟨rfl, rfl⟩ := Prod.ext_iff.mp ‹_ = (_, _)›) | (obtain ⟨rfl, -⟩ := Prod.ext_iff.mp ‹_ = (_, _)›) | split | (with_reducible refine (foldl_pending _ _ (fun s x => ?_) _).trans ?_) | (simp only [*]; done) | dsimp only | (simp [*]; done)))); clear_value zz) | clear_value zz) | (obtain ⟨rfl, rfl⟩ := Prod.ext_iff.mp ‹_ = (_, _)›) | (obtain ⟨rfl, -⟩ := Prod.ext_iff.mp ‹_ = (_, _)›) | split | (with_reducible refine (foldl_pending _ _ (fun s x => ?_) _).trans ?_) | (simp only [*]; done) | (simp [*]; done)))
@[simp] theorem execCapabilityAck_pending (port : Fin 24) (m : Ctl) (s : State) : ∀ res, execCapabilityAck port m s = .next res → res.pending = s.pending := by
  intro res h
  unfold execCapabilityAck at h
  repeat' (first | (have h := Host.Outcome.next.inj h; subst h; clear h) | (have h := Host.Outcome.next.inj h; subst h) | (simp only [reduceCtorEq] at h; done) | split at h | dsimp only at h | (cases h; done) | (obtain ⟨rfl⟩ := h))
  all_goals (repeat' (first | with_reducible rfl | with_reducible assumption | ((try lift_lets); intro zz; first | ((have hz : State.pending zz = State.pending s := by (dsimp only [zz]; repeat' (first | with_reducible rfl | with_reducible assumption | (obtain ⟨rfl, rfl⟩ := Prod.ext_iff.mp ‹_ = (_, _)›) | (obtain ⟨rfl, -⟩ := Prod.ext_iff.mp ‹_ = (_, _)›) | split | (with_reducible refine (foldl_pending _ _ (fun s x => ?_) _).trans ?_) | (simp only [*]; done) | dsimp only | (simp [*]; done)))); clear_value zz) | clear_value zz) | (obtain ⟨rfl, rfl⟩ := Prod.ext_iff.mp ‹_ = (_, _)›) | (obtain ⟨rfl, -⟩ := Prod.ext_iff.mp ‹_ = (_, _)›) | split | (with_reducible refine (foldl_pending _ _ (fun s x => ?_) _).trans ?_) | (simp only [*]; done) | (simp [*]; done)))
@[simp] theorem cp2Bytes_pending (s : State) (m : Ctl) : (cp2Bytes s m).pending = s.pending := by
  simp [cp2Bytes]
@[simp] theorem execCp2Command_pending (port : Fin 24) (m : Ctl) (s : State) : ∀ res, execCp2Command port m s = .next res → res.pending = s.pending := by
  intro res h
  unfold execCp2Command at h
  have e := receiveCtl_pending s port.val m
  generalize receiveCtl s port.val m = p at e h
  obtain ⟨a, b⟩ := p
  dsimp only at h
  repeat' split at h
  all_goals (have h := Host.Outcome.next.inj h; subst h; simpa using e)
@[simp] theorem execEndOfLink_pending (port : Fin 24) (m : Ctl) (s : State) : ∀ res, execEndOfLink port m s = .next res → res.pending = s.pending := by
  intro res h; simp only [execEndOfLink] at h; cases h; simp
@[simp] theorem execFailure_pending (port : Fin 24) (m : Ctl) (s : State) : ∀ res, execFailure port m s = .next res → res.pending = s.pending := by
  intro res h
  unfold execFailure at h
  repeat' (first | (have h := Host.Outcome.next.inj h; subst h; clear h) | (have h := Host.Outcome.next.inj h; subst h) | (simp only [reduceCtorEq] at h; done) | split at h | dsimp only at h | (cases h; done) | (obtain ⟨rfl⟩ := h))
  all_goals (repeat' (first | with_reducible rfl | with_reducible assumption | ((try lift_lets); intro zz; first | ((have hz : State.pending zz = State.pending s := by (dsimp only [zz]; repeat' (first | with_reducible rfl | with_reducible assumption | (obtain ⟨rfl, rfl⟩ := Prod.ext_iff.mp ‹_ = (_, _)›) | (obtain ⟨rfl, -⟩ := Prod.ext_iff.mp ‹_ = (_, _)›) | split | (with_reducible refine (foldl_pending _ _ (fun s x => ?_) _).trans ?_) | (simp only [*]; done) | dsimp only | (simp [*]; done)))); clear_value zz) | clear_value zz) | (obtain ⟨rfl, rfl⟩ := Prod.ext_iff.mp ‹_ = (_, _)›) | (obtain ⟨rfl, -⟩ := Prod.ext_iff.mp ‹_ = (_, _)›) | split | (with_reducible refine (foldl_pending _ _ (fun s x => ?_) _).trans ?_) | (simp only [*]; done) | (simp [*]; done)))
@[simp] theorem setPower_pending (s : State) (n : ℕ) (dir : ℕ) (st : ℕ) : (setPower s n dir st).pending = s.pending := by simp [setPower]
@[simp] theorem execPower_pending (port : Fin 24) (m : Ctl) (s : State) : ∀ res, execPower port m s = .next res → res.pending = s.pending := by
  intro res h
  unfold execPower at h
  repeat' (first | (have h := Host.Outcome.next.inj h; subst h; clear h) | (have h := Host.Outcome.next.inj h; subst h) | (simp only [reduceCtorEq] at h; done) | split at h | dsimp only at h | (cases h; done) | (obtain ⟨rfl⟩ := h))
  all_goals (repeat' (first | with_reducible rfl | with_reducible assumption | ((try lift_lets); intro zz; first | ((have hz : State.pending zz = State.pending s := by (dsimp only [zz]; repeat' (first | with_reducible rfl | with_reducible assumption | (obtain ⟨rfl, rfl⟩ := Prod.ext_iff.mp ‹_ = (_, _)›) | (obtain ⟨rfl, -⟩ := Prod.ext_iff.mp ‹_ = (_, _)›) | split | (with_reducible refine (foldl_pending _ _ (fun s x => ?_) _).trans ?_) | (simp only [*]; done) | dsimp only | (simp [*]; done)))); clear_value zz) | clear_value zz) | (obtain ⟨rfl, rfl⟩ := Prod.ext_iff.mp ‹_ = (_, _)›) | (obtain ⟨rfl, -⟩ := Prod.ext_iff.mp ‹_ = (_, _)›) | split | (with_reducible refine (foldl_pending _ _ (fun s x => ?_) _).trans ?_) | (simp only [*]; done) | (simp [*]; done)))
@[simp] theorem checkDone_pending (s : State) (n : ℕ) : (checkDone s n).pending = s.pending := by
  unfold checkDone; repeat' (first | with_reducible rfl | (simp; done) | split | dsimp only)
@[simp] theorem plkFallback_pending (s : State) (n : ℕ) (cause : ℕ) : (plkFallback s n cause).pending = s.pending := by simp [plkFallback]
@[simp] theorem trainDone_pending (s : State) (n : ℕ) : (trainDone s n).pending = s.pending := by simp [trainDone]
@[simp] theorem execTraining_pending (port : Fin 24) (m : Ctl) (s : State) : ∀ res, execTraining port m s = .next res → res.pending = s.pending := by
  intro res h
  unfold execTraining at h
  repeat' (first | (have h := Host.Outcome.next.inj h; subst h; clear h) | (have h := Host.Outcome.next.inj h; subst h) | (simp only [reduceCtorEq] at h; done) | split at h | dsimp only at h | (cases h; done) | (obtain ⟨rfl⟩ := h))
  all_goals (repeat' (first | with_reducible rfl | with_reducible assumption | ((try lift_lets); intro zz; first | ((have hz : State.pending zz = State.pending s := by (dsimp only [zz]; repeat' (first | with_reducible rfl | with_reducible assumption | (obtain ⟨rfl, rfl⟩ := Prod.ext_iff.mp ‹_ = (_, _)›) | (obtain ⟨rfl, -⟩ := Prod.ext_iff.mp ‹_ = (_, _)›) | split | (with_reducible refine (foldl_pending _ _ (fun s x => ?_) _).trans ?_) | (simp only [*]; done) | dsimp only | (simp [*]; done)))); clear_value zz) | clear_value zz) | (obtain ⟨rfl, rfl⟩ := Prod.ext_iff.mp ‹_ = (_, _)›) | (obtain ⟨rfl, -⟩ := Prod.ext_iff.mp ‹_ = (_, _)›) | split | (with_reducible refine (foldl_pending _ _ (fun s x => ?_) _).trans ?_) | (simp only [*]; done) | (simp [*]; done)))
@[simp] theorem takeControlPacket_pending (s : State) (port : Fin 24) (b : List Byte) : (takeControlPacket s port b).pending = s.pending := by
  unfold takeControlPacket
  split
  · simp
  · dsimp only
    split
    · exact stateOf_pending _ _ (execAck_pending _ _ _)
    · exact stateOf_pending _ _ (execCp2Command_pending _ _ _)
    · exact stateOf_pending _ _ (execPower_pending _ _ _)
    · exact stateOf_pending _ _ (execTraining_pending _ _ _)
    · exact stateOf_pending _ _ (execEndOfLink_pending _ _ _)
    · exact stateOf_pending _ _ (execCapabilityAck_pending _ _ _)
    · exact stateOf_pending _ _ (execFailure_pending _ _ _)
    · exact receiveCtl_pending _ _ _
@[simp] theorem takePacket_pending (s : State) (port : Fin 24) (b : List Byte) : (takePacket s port b).pending = s.pending := by
  unfold takePacket
  split
  · exact stateOf_pending _ _ (execVideoLine_pending _ _ _ _)
  · exact stateOf_pending _ _ (execTile_pending _ _ _ _)
  · exact stateOf_pending _ _ (execAudio_pending _ _ _)
  · exact stateOf_pending _ _ (execFence_pending _ _ _)
  · simp
  · exact stateOf_pending _ _ (execCapability_pending _ _ _)
  · exact stateOf_pending _ _ (execHeartbeat_pending _ _ _)
  · simp
@[simp] theorem takePayload_pending (s : State) (port : Fin 24) (x : BitVec 2 × List Byte) : (takePayload s port x).pending = s.pending := by
  simp [takePayload]
@[simp] theorem blocksArrive_pending (s : State) (port : Fin 24) (bs : List Block) : (blocksArrive s port bs).pending = s.pending := by
  unfold blocksArrive
  repeat' (first | with_reducible rfl | with_reducible assumption | ((try lift_lets); intro zz; first | ((have hz : State.pending zz = State.pending s := by (dsimp only [zz]; repeat' (first | with_reducible rfl | with_reducible assumption | (obtain ⟨rfl, rfl⟩ := Prod.ext_iff.mp ‹_ = (_, _)›) | (obtain ⟨rfl, -⟩ := Prod.ext_iff.mp ‹_ = (_, _)›) | split | (with_reducible refine (foldl_pending _ _ (fun s x => ?_) _).trans ?_) | (simp only [*]; done) | dsimp only | (simp [*]; done)))); clear_value zz) | clear_value zz) | (obtain ⟨rfl, rfl⟩ := Prod.ext_iff.mp ‹_ = (_, _)›) | (obtain ⟨rfl, -⟩ := Prod.ext_iff.mp ‹_ = (_, _)›) | split | (with_reducible refine (foldl_pending _ _ (fun s x => ?_) _).trans ?_) | (simp only [*]; done) | (simp [*]; done))
@[simp] theorem bootStaged_pending (s : State) (base : List Byte) (over_ : List Byte) (mode : ℕ) : (bootStaged s base over_ mode).pending = s.pending := by simp [bootStaged]
@[simp] theorem linkAll_pending (s : State) : (linkAll s).pending = s.pending := by simp [linkAll]
@[simp] theorem offUnready_pending (s : State) (ready : List Wing) : (offUnready s ready).pending = s.pending := by simp [offUnready]
@[simp] theorem bootApply_pending (s : State) (base : List Byte) (over_ : List Byte) (mode : ℕ) : (bootApply s base over_ mode).pending = s.pending := by simp [bootApply]
@[simp] theorem bootBare_pending (s : State) : (bootBare s).pending = s.pending := by simp [bootBare]
@[simp] theorem bootPorts_pending (s : State) (os : List ℕ) : (bootPorts s os).pending = s.pending := by simp [bootPorts]
@[simp] theorem dispatchAll_pending (s : State) : (dispatchAll s).pending = s.pending := by
  simp [dispatchAll]
@[simp] theorem seePulse_pending (s : State) (o : ℕ) : (seePulse s o).pending = s.pending := by
  unfold seePulse; repeat' (first | with_reducible rfl | (simp; done) | split | dsimp only)
@[simp] theorem seePulses_pending (s : State) : (seePulses s).pending = s.pending := by
  simp [seePulses]
@[simp] theorem setCsi_pending (s : State) (p : ℕ) (c : Csi) : (setCsi s p c).pending = s.pending := by simp [setCsi]
@[simp] theorem settleCsi_pending (s : State) : (settleCsi s).pending = s.pending := by simp [settleCsi]
@[simp] theorem settleHop_pending (s : State) (n : ℕ) : (settleHop s n).pending = s.pending := by
  unfold settleHop; repeat' (first | with_reducible rfl | (simp; done) | split | dsimp only)
@[simp] theorem settleHops_pending (s : State) : (settleHops s).pending = s.pending := by
  simp [settleHops]
@[simp] theorem stopStream_pending (s : State) (k : ℕ) : (stopStream s k).pending = s.pending := by simp [stopStream]
@[simp] theorem settleStreams_pending (s : State) : (settleStreams s).pending = s.pending := by simp [settleStreams]
@[simp] theorem tdmEvent_pending (s : State) (p : ℕ) (cause : ℕ) : (tdmEvent s p cause).pending = s.pending := by simp [tdmEvent]
@[simp] theorem settleTdms_pending (s : State) : (settleTdms s).pending = s.pending := by simp [settleTdms]
@[simp] theorem settleWindows_pending (s : State) : (settleWindows s).pending = s.pending := by simp [settleWindows]
@[simp] theorem settlePorts_pending (s : State) : (settlePorts s).pending = s.pending := by simp [settlePorts]
@[simp] theorem settleCand_pending (s : State) (c : ℕ) : (settleCand s c).pending = s.pending := by
  simp [settleCand]
@[simp] theorem settleCands_pending (s : State) : (settleCands s).pending = s.pending := by
  simp [settleCands]
@[simp] theorem settleFsyncs_pending (s : State) : (settleFsyncs s).pending = s.pending := by
  simp [settleFsyncs]
@[simp] theorem settleStep_pending (s : State) : (settleStep s).pending = s.pending := by
  unfold settleStep; repeat' (first | with_reducible rfl | (simp; done) | split | dsimp only)
@[simp] theorem settleRefs_pending (s : State) : (settleRefs s).pending = s.pending := by
  simp [settleRefs]
@[simp] theorem restLayer_pending (s : State) (b : ℕ) (n : ℕ) : (restLayer s b n).pending = s.pending := by simp [restLayer]
@[simp] theorem restLayers_pending (s : State) : (restLayers s).pending = s.pending := by simp [restLayers]
@[simp] theorem takeOutWords_pending (s : State) (o : ℕ) : (takeOutWords s o).1.pending = s.pending := by simp [takeOutWords]
@[simp] theorem vitTake_pending (s : State) (o : ℕ) : (vitTake s o).pending = s.pending := by simp [vitTake]
@[simp] theorem settleUnit_pending (s : State) (u : ℕ) : (settleUnit s u).pending = s.pending := by
  unfold settleUnit; repeat' (first | with_reducible rfl | (simp; done) | split | dsimp only)
@[simp] theorem settleFlips_pending (s : State) : (settleFlips s).pending = s.pending := by simp [settleFlips]
@[simp] theorem capWingStops_pending (s : State) (bank : ℕ) : (capWingStops s bank).pending = s.pending := by simp [capWingStops]
@[simp] theorem setSensor_pending (s : State) (i : ℕ) (x : Sensor) : (setSensor s i x).pending = s.pending := by simp [setSensor]
@[simp] theorem tellThrottle_pending (s : State) (by_ : ℕ) (w : Wing) : (tellThrottle s by_ w).pending = s.pending := by
  unfold tellThrottle; repeat' (first | with_reducible rfl | (simp; done) | split | dsimp only)
@[simp] theorem coolDown_pending (s : State) (w : Wing) : (coolDown s w).pending = s.pending := by simp [coolDown]
@[simp] theorem sleepUnused_pending (s : State) : (sleepUnused s).pending = s.pending := by simp [sleepUnused]
@[simp] theorem warpClear_pending (s : State) (bank : ℕ) : (warpClear s bank).pending = s.pending := by simp [warpClear]
@[simp] theorem powerDown_pending (s : State) (w : Wing) : (powerDown s w).pending = s.pending := by simp [powerDown]
@[simp] theorem settleMode_pending (s : State) : (settleMode s).pending = s.pending := by
  unfold settleMode; repeat' (first | with_reducible rfl | (simp; done) | split | dsimp only)
@[simp] theorem lyrEvent158_pending (s : State) (k : ℕ) (cause : ℕ) : (lyrEvent158 s k cause).pending = s.pending := by simp [lyrEvent158]
@[simp] theorem settleRewritten_pending (s : State) : (settleRewritten s).pending = s.pending := by simp [settleRewritten]
@[simp] theorem clrCommit_pending (s : State) (k : ℕ) : (clrCommit s k).pending = s.pending := by simp [clrCommit]
@[simp] theorem settleTables_pending (s : State) : (settleTables s).pending = s.pending := by simp [settleTables]
@[simp] theorem sweepBuffers_pending (s : State) : (sweepBuffers s).pending = s.pending := by simp [sweepBuffers]
@[simp] theorem sweepSets_pending (s : State) : (sweepSets s).pending = s.pending := by simp [sweepSets]
@[simp] theorem settleVideo_pending (s : State) : (settleVideo s).pending = s.pending := by simp [settleVideo]
@[simp] theorem settle_pending (s : State) : (settle s).pending = s.pending := by simp [settle]
@[simp] theorem bootBase_pending (s : State) : (bootBase s).pending = s.pending := by
  unfold bootBase; repeat' (first | with_reducible rfl | (simp; done) | split | dsimp only)
@[simp] theorem bootEvent_pending (s : State) (src : ℕ) (d : Word) : (bootEvent s src d).pending = s.pending := by simp [bootEvent]
@[simp] theorem bootRefused_pending (s : State) (mode : ℕ) (entered : ℕ) (r : Rej × ℕ) : (bootRefused s mode entered r).pending = s.pending := by simp [bootRefused]
@[simp] theorem bootEnter_pending (s : State) : (bootEnter s).1.pending = s.pending := by
  unfold bootEnter; repeat' (first | with_reducible rfl | (simp; done) | split | dsimp only)
@[simp] theorem startBootOuts_pending (s : State) (w : Wing) : (startBootOuts s w).pending = s.pending := by
  unfold startBootOuts
  refine (foldl_pending _ _ (fun s x => ?_) _).trans rfl
  dsimp only
  split <;> simp
@[simp] theorem bootOnB_pending (s : State) : (bootOnB s).pending = s.pending := by simp [bootOnB]
@[simp] theorem bootReady_pending (s : State) (w : Wing) : (bootReady s w).pending = s.pending := by simp [bootReady]
@[simp] theorem bootSyn_pending (s : State) (n : ℕ) (w : Word) : (bootSyn s n w).pending = s.pending := by simp [bootSyn]
@[simp] theorem bridgeAnswers_pending (s : State) (w : Wing) (origin : ℕ) : (bridgeAnswers s w origin).pending = s.pending := by simp [bridgeAnswers]
@[simp] theorem errorResponse_pending (s : State) : (errorResponse s).pending = s.pending := by simp [errorResponse]
@[simp] theorem bulkEnds_pending (s : State) : (bulkEnds s).pending = s.pending := by
  unfold bulkEnds; repeat' (first | with_reducible rfl | (simp; done) | split | dsimp only)
@[simp] theorem saturated_pending (s : State) (lane : ℕ) (bus : ℕ) (told : Option W64) : (saturated s lane bus told).1.pending = s.pending := by
  unfold saturated; repeat' (first | with_reducible rfl | (simp; done) | split | dsimp only)
@[simp] theorem busStep_pending (was : State) (s : State) (b : ℕ) : (busStep was s b).pending = s.pending := by simp [busStep]
@[simp] theorem capLost_pending (s : State) (k : ℕ) (y : ℕ) : (capLost s k y).pending = s.pending := by simp [capLost]
@[simp] theorem clearVault_pending (s : State) : (clearVault s).pending = s.pending := by simp [clearVault]
@[simp] theorem clockBack_pending (s : State) (w : Wing) : (clockBack s w).pending = s.pending := by
  simp [clockBack]
@[simp] theorem transact_pending (s : State) (p : Port) (code : Byte) (host : List Byte) (read : Bool) (back : List Byte) : (transact s p code host read back).pending = s.pending := by
  simp [transact]
@[simp] theorem clockPlacard_pending (s : State) (p : Port) (n : ℕ) : (clockPlacard s p n).pending = s.pending := by
  unfold clockPlacard; repeat' (first | with_reducible rfl | (simp; done) | split | dsimp only)
@[simp] theorem clockStatus_pending (s : State) (p : Port) (n : ℕ) : (clockStatus s p n).pending = s.pending := by
  simp [clockStatus]
@[simp] theorem imageRefused_pending (s : State) (port : Port) (kind : ℕ) (mode : ℕ) (r : Rej) : (imageRefused s port kind mode r).pending = s.pending := by simp [imageRefused]
@[simp] theorem stageImage_pending (s : State) (kind : ℕ) (mode : ℕ) (l : List Byte) : (stageImage s kind mode l).pending = s.pending := by simp [stageImage]
@[simp] theorem closeChecked_pending (s : State) (r : Run) (rest : List Run) (store : Bool) (b : Build) : (closeChecked s r rest store b).pending = s.pending := by
  unfold closeChecked
  repeat' (first | with_reducible rfl | with_reducible assumption | ((try lift_lets); intro zz; first | ((have hz : State.pending zz = State.pending s := by (dsimp only [zz]; repeat' (first | with_reducible rfl | with_reducible assumption | (obtain ⟨rfl, rfl⟩ := Prod.ext_iff.mp ‹_ = (_, _)›) | (obtain ⟨rfl, -⟩ := Prod.ext_iff.mp ‹_ = (_, _)›) | split | (with_reducible refine (foldl_pending _ _ (fun s x => ?_) _).trans ?_) | (simp only [*]; done) | dsimp only | (simp [*]; done)))); clear_value zz) | clear_value zz) | (obtain ⟨rfl, rfl⟩ := Prod.ext_iff.mp ‹_ = (_, _)›) | (obtain ⟨rfl, -⟩ := Prod.ext_iff.mp ‹_ = (_, _)›) | split | (with_reducible refine (foldl_pending _ _ (fun s x => ?_) _).trans ?_) | (simp only [*]; done) | (simp [*]; done))
@[simp] theorem edpTick_pending (s : State) (o : ℕ) : (edpTick s o).pending = s.pending := by simp [edpTick]
@[simp] theorem frameTrigger_pending (s : State) (o : ℕ) : (frameTrigger s o).pending = s.pending := by
  unfold frameTrigger; repeat' (first | with_reducible rfl | (simp; done) | split | dsimp only)
@[simp] theorem nextFrame_pending (s : State) (o : ℕ) : (nextFrame s o).pending = s.pending := by simp [nextFrame]
@[simp] theorem recentre_pending (s : State) (o : ℕ) : (recentre s o).pending = s.pending := by
  simp [recentre]
@[simp] theorem ditherTick_pending (s : State) (o : ℕ) : (ditherTick s o).pending = s.pending := by simp [ditherTick]
@[simp] theorem endBootFrame_pending (s : State) (o : ℕ) : (endBootFrame s o).pending = s.pending := by simp [endBootFrame]
@[simp] theorem expectFrame_pending (s : State) (o : ℕ) : (expectFrame s o).pending = s.pending := by
  unfold expectFrame
  have h := drawWord_pending s
  generalize drawWord s = p at h ⊢
  obtain ⟨a, b⟩ := p
  dsimp only
  repeat' (first | with_reducible rfl | split | (simp_all; done))
@[simp] theorem frcTick_pending (old : State) (s : State) (o : ℕ) : (frcTick old s o).pending = s.pending := by simp [frcTick]
@[simp] theorem freeTick_pending (s : State) (o : ℕ) : (freeTick s o).pending = s.pending := by simp [freeTick]
@[simp] theorem raiseBankCommit_pending (s : State) (bank : ℕ) (src : ℕ) (d : Word) : (raiseBankCommit s bank src d).pending = s.pending := by simp [raiseBankCommit]
@[simp] theorem heldSets_pending (s : State) (banks : List ℕ) (o : ℕ) : (heldSets s banks o).pending = s.pending := by simp [heldSets]
@[simp] theorem countSurfaceFail_pending (s : State) (b : ℕ) (base : ℕ) (fmt : ℕ) (tiles : ℕ) : (countSurfaceFail s b base fmt tiles).pending = s.pending := by simp [countSurfaceFail]
@[simp] theorem descriptorCheck_pending (s : State) (b : ℕ) (n : ℕ) (o : ℕ) : (descriptorCheck s b n o).pending = s.pending := by
  unfold descriptorCheck; repeat' (first | with_reducible rfl | (simp; done) | split | dsimp only)
@[simp] theorem judgeMiss_pending (s : State) (b : ℕ) (n : ℕ) (o : ℕ) (j : Judged) : (judgeMiss s b n o j).pending = s.pending := by
  unfold judgeMiss; repeat' (first | with_reducible rfl | (simp; done) | split | dsimp only)
@[simp] theorem rteEvent_pending (s : State) (src : ℕ) (b : ℕ) (r : ℕ) (o : ℕ) (none_ : Bool) (cause : ℕ) : (rteEvent s src b r o none_ cause).pending = s.pending := by simp [rteEvent]
@[simp] theorem pathCheck_pending (s : State) (b : ℕ) (n : ℕ) (o : ℕ) : (pathCheck s b n o).pending = s.pending := by
  unfold pathCheck; repeat' (first | with_reducible rfl | (simp; done) | split | dsimp only)
@[simp] theorem refusedEvent_pending (s : State) (b : ℕ) (n : ℕ) (o : ℕ) (leaves : ℕ) : (refusedEvent s b n o leaves).pending = s.pending := by
  unfold refusedEvent; repeat' (first | with_reducible rfl | (simp; done) | split | dsimp only)
@[simp] theorem judgeLayer_pending (s : State) (b : ℕ) (n : ℕ) (o : ℕ) (absent : List ℕ) : (judgeLayer s b n o absent).pending = s.pending := by simp [judgeLayer]
@[simp] theorem rescale_pending (s : State) (b : ℕ) : (rescale s b).pending = s.pending := by simp [rescale]
@[simp] theorem takeSwitch_pending (s : State) (b : ℕ) (r : ℕ) (o : ℕ) (cause : ℕ) : (takeSwitch s b r o cause).pending = s.pending := by simp [takeSwitch]
@[simp] theorem routeTick_pending (s : State) (b : ℕ) (r : ℕ) (o : ℕ) (bound : Bool) : (routeTick s b r o bound).pending = s.pending := by simp [routeTick]
@[simp] theorem routesAt_pending (s : State) (banks : List ℕ) (o : ℕ) : (routesAt s banks o).pending = s.pending := by simp [routesAt]
@[simp] theorem scalersAt_pending (s : State) (b : ℕ) (o : ℕ) : (scalersAt s b o).pending = s.pending := by
  unfold scalersAt
  repeat' (first | with_reducible rfl | with_reducible assumption | ((try lift_lets); intro zz; first | ((have hz : State.pending zz = State.pending s := by (dsimp only [zz]; repeat' (first | with_reducible rfl | with_reducible assumption | (obtain ⟨rfl, rfl⟩ := Prod.ext_iff.mp ‹_ = (_, _)›) | (obtain ⟨rfl, -⟩ := Prod.ext_iff.mp ‹_ = (_, _)›) | split | (with_reducible refine (foldl_pending _ _ (fun s x => ?_) _).trans ?_) | (simp only [*]; done) | dsimp only | (simp [*]; done)))); clear_value zz) | clear_value zz) | (obtain ⟨rfl, rfl⟩ := Prod.ext_iff.mp ‹_ = (_, _)›) | (obtain ⟨rfl, -⟩ := Prod.ext_iff.mp ‹_ = (_, _)›) | split | (with_reducible refine (foldl_pending _ _ (fun s x => ?_) _).trans ?_) | (simp only [*]; done) | (simp [*]; done))
@[simp] theorem takeLayersAt_pending (s : State) (banks : List ℕ) (o : ℕ) : (takeLayersAt s banks o).pending = s.pending := by
  unfold takeLayersAt
  repeat' (first | with_reducible rfl | with_reducible assumption | ((try lift_lets); intro zz; first | ((have hz : State.pending zz = State.pending s := by (dsimp only [zz]; repeat' (first | with_reducible rfl | with_reducible assumption | (obtain ⟨rfl, rfl⟩ := Prod.ext_iff.mp ‹_ = (_, _)›) | (obtain ⟨rfl, -⟩ := Prod.ext_iff.mp ‹_ = (_, _)›) | split | (with_reducible refine (foldl_pending _ _ (fun s x => ?_) _).trans ?_) | (simp only [*]; done) | dsimp only | (simp [*]; done)))); clear_value zz) | clear_value zz) | (obtain ⟨rfl, rfl⟩ := Prod.ext_iff.mp ‹_ = (_, _)›) | (obtain ⟨rfl, -⟩ := Prod.ext_iff.mp ‹_ = (_, _)›) | split | (with_reducible refine (foldl_pending _ _ (fun s x => ?_) _).trans ?_) | (simp only [*]; done) | (simp [*]; done))
@[simp] theorem layersAt_pending (s : State) (banks : List ℕ) (o : ℕ) (absent : List ℕ) : (layersAt s banks o absent).pending = s.pending := by simp [layersAt]
@[simp] theorem meshTakeAt_pending (s : State) (o : ℕ) : (meshTakeAt s o).pending = s.pending := by simp [meshTakeAt]
@[simp] theorem enterSafe_pending (s : State) (o : ℕ) (cause : ℕ) : (enterSafe s o cause).pending = s.pending := by simp [enterSafe]
@[simp] theorem safeTick_pending (s : State) (banks : List ℕ) (o : ℕ) : (safeTick s banks o).pending = s.pending := by simp [safeTick]
@[simp] theorem takeClr_pending (s : State) (banks : List ℕ) (o : ℕ) : (takeClr s banks o).pending = s.pending := by simp [takeClr]
@[simp] theorem takeFrc_pending (s : State) (banks : List ℕ) (o : ℕ) : (takeFrc s banks o).pending = s.pending := by simp [takeFrc]
@[simp] theorem takeHop_pending (s : State) (o : ℕ) : (takeHop s o).pending = s.pending := by
  unfold takeHop; repeat' (first | with_reducible rfl | (simp; done) | split | dsimp only)
@[simp] theorem takeModeEntries_pending (s : State) (o : ℕ) : (takeModeEntries s o).pending = s.pending := by simp [takeModeEntries]
@[simp] theorem showContent_pending (s : State) (o : ℕ) : (showContent s o).pending = s.pending := by simp [showContent]
@[simp] theorem vitTick_pending (s : State) (o : ℕ) (late : Bool) (safeLate : Bool) : (vitTick s o late safeLate).pending = s.pending := by
  unfold vitTick; repeat' (first | with_reducible rfl | (simp; done) | split | dsimp only)
@[simp] theorem tickWork_pending (s : State) (o : ℕ) (obs : TickObs) : (tickWork s o obs).1.pending = s.pending := by
  unfold tickWork
  dsimp -zeta only
  have e1 : (takeOutWords s o).1.pending = s.pending := by simp
  generalize (takeOutWords s o).1 = s1 at e1 ⊢
  lift_lets
  intro banks s2 s3 old x s4 s5 s6 x2 s7 s8 s9
  have e2 : s2.pending = s.pending := by simp [s2, e1]
  clear_value s2
  have e3 : s3.pending = s.pending := by simp [s3, e2]
  have e4 : s4.pending = s.pending := by simp only [s4]; split <;> simp [e3]
  clear_value s4
  have e5 : s5.pending = s.pending := by simp [s5, e4]
  clear_value s5
  have e6 : s6.pending = s.pending := by simp [s6, e5]
  clear_value s6
  have e7 : s7.pending = s.pending := by simp only [s7]; split <;> simp [e6]
  clear_value s7
  have e8 : s8.pending = s.pending := by simp [s8, e7]
  clear_value s8
  have e9 : s9.pending = s.pending := by simp only [s9]; split <;> simp [e8]
  clear_value s9
  simp [e9]
@[simp] theorem firstTick_pending (s : State) (o : ℕ) (obs : TickObs) : (firstTick s o obs).pending = s.pending := by
  unfold firstTick; repeat' (first | with_reducible rfl | (simp; done) | split | dsimp only)
@[simp] theorem flushArbs_pending (s : State) (o : ℕ) : (flushArbs s o).pending = s.pending := by simp [flushArbs]
@[simp] theorem routeDivergence_pending (s : State) (o : ℕ) : (routeDivergence s o).pending = s.pending := by
  unfold routeDivergence; repeat' (first | with_reducible rfl | (simp; done) | split | dsimp only)
@[simp] theorem outTo_pending (s : State) (n : ℕ) (st : OutState) : (outTo s n st).pending = s.pending := by simp [outTo]
@[simp] theorem tickState_pending (s : State) (o : ℕ) (restart : Bool) : (tickState s o restart).pending = s.pending := by
  unfold tickState; repeat' (first | with_reducible rfl | (simp; done) | split | dsimp only)
@[simp] theorem vitCheck_pending (s : State) (o : ℕ) (seen : Option Word) : (vitCheck s o seen).pending = s.pending := by
  unfold vitCheck; repeat' (first | with_reducible rfl | (simp; done) | split | dsimp only)
@[simp] theorem vitChecks_pending (s : State) (o : ℕ) (a : Option Word) (b : Option Word) : (vitChecks s o a b).pending = s.pending := by
  unfold vitChecks
  lift_lets
  intro x live bad note s1 w seen
  have hn (t : State) (w : Wing) (c : Option Word) : (note t w c).pending = t.pending := by
    simp only [note]; split <;> simp
  have h1 : s1.pending = s.pending := by simp only [s1, hn]
  clear_value s1
  split
  · exact h1
  · intro s2
    have h2 : s2.pending = s.pending := by simp [s2, h1]
    clear_value s2
    split <;> simp [h2]
@[simp] theorem vitEnd_pending (s : State) (o : ℕ) : (vitEnd s o).pending = s.pending := by simp [vitEnd]
@[simp] theorem runningTick_pending (s : State) (o : ℕ) (obs : TickObs) : (runningTick s o obs).pending = s.pending := by simp [runningTick]
@[simp] theorem commitTick_pending (s : State) (o : ℕ) (obs : TickObs) : (commitTick s o obs).pending = s.pending := by simp [commitTick]
@[simp] theorem ditherTickSyn_pending (s : State) (n : ℕ) : (ditherTickSyn s n).pending = s.pending := by
  simp [ditherTickSyn]
@[simp] theorem compareTick_pending (s : State) : (compareTick s).pending = s.pending := by
  simp [compareTick]
@[simp] theorem excludeTile_pending (s : State) (o : ℕ) (w : Wing) : (excludeTile s o w).pending = s.pending := by simp [excludeTile]
@[simp] theorem recompose_pending (s : State) (w : Wing) (o : ℕ) (row : ℕ) (col : ℕ) : (recompose s w o row col).pending = s.pending := by
  unfold recompose; repeat' (first | with_reducible rfl | (simp; done) | split | dsimp only)
@[simp] theorem compareTile_pending (s : State) (o : ℕ) (row : ℕ) (col : ℕ) (a : Option (Word × Bool)) (b : Option (Word × Bool)) : (compareTile s o row col a b).pending = s.pending := by
  simp [compareTile]
@[simp] theorem recordPort_pending (s : State) (w : Wing) (o : ℕ) (row : ℕ) (col : ℕ) : (recordPort s w o row col).2.pending = s.pending := by
  unfold recordPort; repeat' (first | with_reducible rfl | (simp; done) | split | dsimp only)
@[simp] theorem concealTile_pending (s : State) (w : Wing) (o : ℕ) (row : ℕ) (col : ℕ) : (concealTile s w o row col).1.pending = s.pending := by simp [concealTile]
@[simp] theorem convStep_pending (s : State) (k : ℕ) : (convStep s k).2.pending = s.pending := by
  unfold convStep
  have h := drawWord_pending s
  generalize drawWord s = p at h ⊢
  obtain ⟨a, b⟩ := p
  dsimp only
  repeat' (first | with_reducible rfl | with_reducible assumption | split | (simp_all; done))
@[simp] theorem convTake_pending (s : State) (k : ℕ) : (convTake s k).pending = s.pending := by simp [convTake]
@[simp] theorem judgeLevels_pending (s : State) (i : ℕ) (v : ℤ) : (judgeLevels s i v).pending = s.pending := by simp [judgeLevels]
@[simp] theorem judge_pending (s : State) (i : ℕ) (r : Option Half) : (judge s i r).pending = s.pending := by
  unfold judge; repeat' (first | with_reducible rfl | (simp; done) | split | dsimp only)
@[simp] theorem serveMeasures_pending (x0 : ℕ) (x1 : State) : (serveMeasures x0 x1).pending = x1.pending := by
  induction x0 generalizing x1 with
  | zero => rfl
  | succ n ih =>
    simp only [serveMeasures]
    split
    · rfl
    · simp [ih]
@[simp] theorem shutdownStep1_pending (s : State) (i : ℕ) (h : Half) : (shutdownStep1 s i h).pending = s.pending := by simp [shutdownStep1]
@[simp] theorem conversionEnds_pending (s : State) (mask : ℕ) (readings : List (Option Half)) : (conversionEnds s mask readings).pending = s.pending := by
  unfold conversionEnds
  repeat' (first | with_reducible rfl | with_reducible assumption | ((try lift_lets); intro zz; first | ((have hz : State.pending zz = State.pending s := by (dsimp only [zz]; repeat' (first | with_reducible rfl | with_reducible assumption | (obtain ⟨rfl, rfl⟩ := Prod.ext_iff.mp ‹_ = (_, _)›) | (obtain ⟨rfl, -⟩ := Prod.ext_iff.mp ‹_ = (_, _)›) | split | (with_reducible refine (foldl_pending _ _ (fun s x => ?_) _).trans ?_) | (simp only [*]; done) | dsimp only | (simp [*]; done)))); clear_value zz) | clear_value zz) | (obtain ⟨rfl, rfl⟩ := Prod.ext_iff.mp ‹_ = (_, _)›) | (obtain ⟨rfl, -⟩ := Prod.ext_iff.mp ‹_ = (_, _)›) | split | (with_reducible refine (foldl_pending _ _ (fun s x => ?_) _).trans ?_) | (simp only [*]; done) | (simp [*]; done))
@[simp] theorem countComparison_pending (s : State) (c : ℕ) (ps : ℤ) : (countComparison s c ps).pending = s.pending := by
  simp [countComparison]
@[simp] theorem countTick_pending (s : State) : (countTick s).pending = s.pending := by simp [countTick]
@[simp] theorem csiEnd_pending (s : State) (p : ℕ) (vc : ℕ) (drift : ℤ) : (csiEnd s p vc drift).pending = s.pending := by simp [csiEnd]
@[simp] theorem csiEvent_pending (s : State) (p : ℕ) (cause : ℕ) (vc : ℕ) (dt : ℕ) : (csiEvent s p cause vc dt).pending = s.pending := by simp [csiEvent]
@[simp] theorem csiHeader_pending (s : State) (p : ℕ) (hdr : Fin 3) : ∀ res, csiHeader s p hdr = some res → res.pending = s.pending := by
  intro res h
  unfold csiHeader at h
  repeat' (first | (have h := Host.Outcome.next.inj h; subst h; clear h) | (have h := Host.Outcome.next.inj h; subst h) | (simp only [reduceCtorEq] at h; done) | split at h | dsimp only at h | (cases h; done) | (obtain ⟨rfl⟩ := h))
  all_goals (repeat' (first | with_reducible rfl | with_reducible assumption | ((try lift_lets); intro zz; first | ((have hz : State.pending zz = State.pending s := by (dsimp only [zz]; repeat' (first | with_reducible rfl | with_reducible assumption | (obtain ⟨rfl, rfl⟩ := Prod.ext_iff.mp ‹_ = (_, _)›) | (obtain ⟨rfl, -⟩ := Prod.ext_iff.mp ‹_ = (_, _)›) | split | (with_reducible refine (foldl_pending _ _ (fun s x => ?_) _).trans ?_) | (simp only [*]; done) | dsimp only | (simp [*]; done)))); clear_value zz) | clear_value zz) | (obtain ⟨rfl, rfl⟩ := Prod.ext_iff.mp ‹_ = (_, _)›) | (obtain ⟨rfl, -⟩ := Prod.ext_iff.mp ‹_ = (_, _)›) | split | (with_reducible refine (foldl_pending _ _ (fun s x => ?_) _).trans ?_) | (simp only [*]; done) | (simp [*]; done)))
@[simp] theorem csiHeaderBad_pending (s : State) (p : ℕ) (vc : ℕ) : (csiHeaderBad s p vc).pending = s.pending := by simp [csiHeaderBad]
@[simp] theorem storeBytes_pending (s : State) (a : ℕ) (l : List Byte) : (storeBytes s a l).pending = s.pending := by simp [storeBytes]
@[simp] theorem cutGroups_pending (s : State) (r : LdgRun) (x2 : List ℕ) (x3 : Bool) : (cutGroups s r x2 x3).pending = s.pending := by
  induction x2 generalizing s x3 with
  | nil => rfl
  | cons a l ih => cases x3 <;> simp [cutGroups, ih]
@[simp] theorem cutRun_pending (s : State) (n : ℕ) (torn : Bool) : (cutRun s n torn).pending = s.pending := by
  unfold cutRun; repeat' (first | with_reducible rfl | (simp; done) | split | dsimp only)
@[simp] theorem cutWhole_pending (s : State) : (cutWhole s).pending = s.pending := by simp [cutWhole]
@[simp] theorem decideDue_pending (s : State) (t : ℕ) (now : Option Instr) (time : Bool) (p : Port) (entry : Option ℕ) : (decideDue s t now time p entry).1.pending = s.pending := by
  unfold decideDue; repeat' (first | with_reducible rfl | (simp; done) | split | dsimp only)
@[simp] theorem delayDue_pending (s : State) : (delayDue s).pending = s.pending := by simp [delayDue]
@[simp] theorem destStep_pending (inputs : Tab Word) (s : State) (d : ℕ) : (destStep inputs s d).pending = s.pending := by simp [destStep]
@[simp] theorem dpllReset_pending (old : State) (s : State) : (dpllReset old s).pending = s.pending := by
  simp [dpllReset]
@[simp] theorem drawBool_pending (s : State) : (drawBool s).2.pending = s.pending := by simp [drawBool]
@[simp] theorem drawSpan_pending (s : State) (n : ℕ) : (drawSpan s n).2.pending = s.pending := by simp [drawSpan]
@[simp] theorem sendHeartbeat_pending (s : State) (n : ℕ) : (sendHeartbeat s n).pending = s.pending := by
  simp [sendHeartbeat]
@[simp] theorem loopTraffic_pending (s : State) (n : ℕ) : (loopTraffic s n).pending = s.pending := by
  simp [loopTraffic]
@[simp] theorem driveBlocks_pending (s : State) (n : ℕ) : (driveBlocks s n).pending = s.pending := by
  simp [driveBlocks]
@[simp] theorem placeEntry_pending (s : State) (d : Due) (h : d.op.Keeps) : (placeEntry s d).1.pending = s.pending := by
  simp [placeEntry, h.accept]
@[simp] theorem startRun_pending (s : State) (d : Due) (launched : Bool) : (startRun s d launched).pending = s.pending := by
  unfold startRun; repeat' (first | with_reducible rfl | (simp; done) | split | dsimp only)
@[simp] theorem dueEffect_pending (d : Due) (s : State) (h : d.op.Keeps) : (dueEffect d s).1.pending = s.pending := by
  unfold dueEffect
  split
  · cases hl : d.op.launchRun with
    | none => simp [h.run]
    | some f => simp [h.launchRun f hl]
  · split
    · simp [h]
    · simp [h.run]
@[simp] theorem earlySteps_pending (s : State) (q : Req) (o : Op) : (earlySteps s q o).1.pending = s.pending := by
  unfold earlySteps
  have h := authStep_pending s q o
  repeat' (first | with_reducible rfl | split)
  all_goals (rename_i heq; rw [heq] at h; exact h)
@[simp] theorem dueRej_pending (d : Due) (s : State) : (dueRej d s).1.pending = s.pending := by
  unfold dueRej
  have h := earlySteps_pending s d.q d.op
  split
  · rfl
  · split <;> (rename_i heq; rw [heq] at h; exact h)
@[simp] theorem heldEffect_pending (s : State) (c : Instr) : (heldEffect s c).pending = s.pending := by
  unfold heldEffect
  split
  · rfl
  · rename_i d hd
    have h := dueRej_pending d s
    split
    · rename_i heq; rw [heq] at h; simp only [dueEffect_pending _ _ (dueOf_keeps _ _ hd)]; exact h
    · rename_i heq; rw [heq] at h; exact h
@[simp] theorem dropFlight_pending (s : State) (f : Flight) : (dropFlight s f).pending = s.pending := by
  unfold dropFlight
  have h := drawBool_pending s
  generalize drawBool s = p at h ⊢
  obtain ⟨a, b⟩ := p
  simp only [formPlacard_pending]
  split
  · split <;> simp_all
  · exact h
@[simp] theorem exchange_pending (s : State) (n : ℕ) (len : ℕ) : (exchange s n len).pending = s.pending := by simp [exchange]
@[simp] theorem tellInternal_pending (s : State) (r : Run) : (tellInternal s r).pending = s.pending := by simp [tellInternal]
@[simp] theorem dropRun_pending (s : State) (r : Run) : (dropRun s r).pending = s.pending := by
  unfold dropRun
  have h := drawBool_pending s
  generalize drawBool s = p at h ⊢
  obtain ⟨a, b⟩ := p
  simp only [tellInternal_pending]
  repeat' split
  all_goals simp_all
@[simp] theorem dropCommands_pending (s : State) : (dropCommands s).pending = s.pending := by
  unfold dropCommands
  simp only [settleKey_pending]
  refine (foldl_pending _ _ (fun s x => dropRun_pending s x) _).trans ?_
  exact foldl_pending _ _ (fun s x => dropFlight_pending s x) _
@[simp] theorem dropFrame_pending (s : State) (w : Wing) (o : ℕ) : (dropFrame s w o).pending = s.pending := by
  simp [dropFrame]
@[simp] theorem dropMgmtRuns_pending (s : State) : (dropMgmtRuns s).pending = s.pending := by
  simp [dropMgmtRuns]
@[simp] theorem sourceLost_pending (s : State) (src : ℕ × ℕ × ℕ) (reason : ℕ) : (sourceLost s src reason).pending = s.pending := by simp [sourceLost]
@[simp] theorem dropPayload_pending (s : State) (p : ℕ) (sub : ℕ) : (dropPayload s p sub).pending = s.pending := by simp [dropPayload]
@[simp] theorem dropRecomp_pending (s : State) (w : Wing) (o : ℕ) (row : ℕ) (col : ℕ) : (dropRecomp s w o row col).pending = s.pending := by
  simp [dropRecomp]
@[simp] theorem failTile_pending (s : State) (b : ℕ) (n : ℕ) (t : ℕ) (ok : Bool) : (failTile s b n t ok).pending = s.pending := by
  unfold failTile; repeat' (first | with_reducible rfl | (simp; done) | split | dsimp only)
@[simp] theorem tellFails_pending (s : State) (b : ℕ) (o : ℕ) (n : ℕ) : (tellFails s b o n).pending = s.pending := by
  unfold tellFails; repeat' (first | with_reducible rfl | (simp; done) | split | dsimp only)
@[simp] theorem failTiles_pending (s : State) (b : ℕ) (o : ℕ) (l : List (ℕ × ℕ × Bool)) : (failTiles s b o l).pending = s.pending := by
  simp [failTiles]
@[simp] theorem rowRead_pending (s : State) (w : Wing) (o : ℕ) (row : ℕ) (bad : List ℕ) : (rowRead s w o row bad).pending = s.pending := by
  unfold rowRead; repeat' (first | with_reducible rfl | (simp; done) | split | dsimp only)
@[simp] theorem windowFails_pending (s : State) (w : Wing) (o : ℕ) (row : ℕ) (col : ℕ) : (windowFails s w o row col).pending = s.pending := by
  simp [windowFails]
@[simp] theorem errorOutcome_pending (s : State) (slice : ℕ) (m : ℕ) (use : BusUse) : (errorOutcome s slice m use).pending = s.pending := by
  unfold errorOutcome; repeat' (first | with_reducible rfl | (simp; done) | split | dsimp only)
@[simp] theorem memEvent_pending (s : State) (p : ℕ) (cause : ℕ) : (memEvent s p cause).pending = s.pending := by simp [memEvent]
@[simp] theorem evenCapacity_pending (s : State) (w : Wing) : (evenCapacity s w).pending = s.pending := by simp [evenCapacity]
@[simp] theorem execAckTimer_pending (port : Fin 24) (s : State) : ∀ res, execAckTimer port s = .next res → res.pending = s.pending := by
  intro res h
  unfold execAckTimer at h
  repeat' (first | (have h := Host.Outcome.next.inj h; subst h; clear h) | (have h := Host.Outcome.next.inj h; subst h) | (simp only [reduceCtorEq] at h; done) | split at h | dsimp only at h | (cases h; done) | (obtain ⟨rfl⟩ := h))
  all_goals (repeat' (first | with_reducible rfl | with_reducible assumption | ((try lift_lets); intro zz; first | ((have hz : State.pending zz = State.pending s := by (dsimp only [zz]; repeat' (first | with_reducible rfl | with_reducible assumption | (obtain ⟨rfl, rfl⟩ := Prod.ext_iff.mp ‹_ = (_, _)›) | (obtain ⟨rfl, -⟩ := Prod.ext_iff.mp ‹_ = (_, _)›) | split | (with_reducible refine (foldl_pending _ _ (fun s x => ?_) _).trans ?_) | (simp only [*]; done) | dsimp only | (simp [*]; done)))); clear_value zz) | clear_value zz) | (obtain ⟨rfl, rfl⟩ := Prod.ext_iff.mp ‹_ = (_, _)›) | (obtain ⟨rfl, -⟩ := Prod.ext_iff.mp ‹_ = (_, _)›) | split | (with_reducible refine (foldl_pending _ _ (fun s x => ?_) _).trans ?_) | (simp only [*]; done) | (simp [*]; done)))
@[simp] theorem execAcquireAlarm_pending (s : State) : ∀ res, execAcquireAlarm s = .next res → res.pending = s.pending := by
  intro res h
  unfold execAcquireAlarm at h
  repeat' (first | (have h := Host.Outcome.next.inj h; subst h; clear h) | (have h := Host.Outcome.next.inj h; subst h) | (simp only [reduceCtorEq] at h; done) | split at h | dsimp only at h | (cases h; done) | (obtain ⟨rfl⟩ := h))
  all_goals (repeat' (first | with_reducible rfl | with_reducible assumption | ((try lift_lets); intro zz; first | ((have hz : State.pending zz = State.pending s := by (dsimp only [zz]; repeat' (first | with_reducible rfl | with_reducible assumption | (obtain ⟨rfl, rfl⟩ := Prod.ext_iff.mp ‹_ = (_, _)›) | (obtain ⟨rfl, -⟩ := Prod.ext_iff.mp ‹_ = (_, _)›) | split | (with_reducible refine (foldl_pending _ _ (fun s x => ?_) _).trans ?_) | (simp only [*]; done) | dsimp only | (simp [*]; done)))); clear_value zz) | clear_value zz) | (obtain ⟨rfl, rfl⟩ := Prod.ext_iff.mp ‹_ = (_, _)›) | (obtain ⟨rfl, -⟩ := Prod.ext_iff.mp ‹_ = (_, _)›) | split | (with_reducible refine (foldl_pending _ _ (fun s x => ?_) _).trans ?_) | (simp only [*]; done) | (simp [*]; done)))
@[simp] theorem execArbitrationResult_pending (o : Fin 20) (tile : TileAt) (w : Wing) (confirmed : Bool) (s : State) : ∀ res, execArbitrationResult o tile w confirmed s = .next res → res.pending = s.pending := by
  intro res h; simp only [execArbitrationResult] at h; cases h; simp
@[simp] theorem resetAll_pending (s : State) (b : Boot) (th : Thermal) : (resetAll s b th).pending = s.pending := rfl
@[simp] theorem powerOnReset_pending (s : State) (ph : BootPhase) : (powerOnReset s ph).pending = s.pending := by
  simp [powerOnReset, cutWhole, drawWord]
theorem execAtrSupplyFault_pending (s : State) : ∀ res, execAtrSupplyFault s = .next res → res.pending = s.pending := by
  intro res h
  have h := Host.Outcome.next.inj h
  subst h
  simp
@[simp] theorem holdCredit_pending (s : State) (p : Port) (on : Bool) : (holdCredit s p on).pending = s.pending := by simp [holdCredit]
@[simp] theorem lateLaunch_pending (s : State) (e : ℕ) (q : Req) (cause : ℕ) : (lateLaunch s e q cause).pending = s.pending := by simp [lateLaunch]
@[simp] theorem perform_pending (s : State) (d : Due) (h : d.op.Keeps) : (perform s d).pending = s.pending := by
  unfold perform
  dsimp only
  split
  · simp [h]
  · have e := dueEffect_pending d s h
    generalize dueEffect d s = p at e ⊢
    have e2 : (if isLate s d.q then lateLaunch p.1 65535 d.q 0 else p.1).pending = s.pending := by split <;> simp [e]
    generalize (if isLate s d.q then lateLaunch p.1 65535 d.q 0 else p.1) = s2 at e2 ⊢
    split
    · rw [settleKey_pending]; split <;> simp [e2]
    · split
      · simp [e2]
      · split <;> simp [e2]
@[simp] theorem rejEvent_pending (s : State) (p : Port) (r : Rej) : (rejEvent s p r).pending = s.pending := by
  unfold rejEvent; repeat' (first | with_reducible rfl | (simp; done) | split | dsimp only)
@[simp] theorem refuse_pending (s : State) (d : Due) (late : Bool) (r : Rej) (h : d.op.Keeps) : (refuse s d late r).pending = s.pending := by
  unfold refuse
  dsimp only
  simp only [formPlacard_pending, holdCredit_pending]
  split <;> split <;> simp [h.refused]
@[simp] theorem runCommand_pending (c : Instr) (q : Req) (o : Op) (s : State) (h : o.Keeps) : (runCommand c q o s).pending = s.pending := by
  unfold runCommand
  dsimp only
  split
  · rfl
  · have key (x : State × Option Rej) (hx : x.1.pending = s.pending) (late : Bool) :
        (settle (match x.2 with
          | some r => refuse x.1 { cmd := c, q := q, op := o } late r
          | none => if isFuture x.1 q && (freeSlot x.1).isNone then refuse x.1 { cmd := c, q := q, op := o } false (rejSt .noResource)
              else perform x.1 { cmd := c, q := q, op := o })).pending = s.pending := by
      rw [settle_pending]
      split
      · simp [h, hx]
      · split <;> simp [h, hx]
    have h0 : (if q.tick.isSome then s else holdCredit s q.port true).pending = s.pending := by split <;> simp
    generalize (if q.tick.isSome then s else holdCredit s q.port true) = s0 at h0 ⊢
    cases q.tick with
    | none => exact key (dueRej _ s0) (by simp [h0]) _
    | some t => exact key ((earlySteps (decideDue s0 t (some c) (setsTime c) q.port none).1 q o).1, _) (by simp [h0]) _
@[simp] theorem execAudSrcInWrite_pending (q : Req) (conv : Byte) (value : Word) (s : State) : ∀ res, execAudSrcInWrite q conv value s = .next res → res.pending = s.pending := by
  intro res h; simp only [execAudSrcInWrite] at h; cases h; simp
@[simp] theorem execAudTdmCfgWrite_pending (q : Req) (port : Byte) (value : Word) (s : State) : ∀ res, execAudTdmCfgWrite q port value s = .next res → res.pending = s.pending := by
  intro res h; simp only [execAudTdmCfgWrite] at h; cases h; simp
@[simp] theorem execAudXbar_pending (q : Req) (ramp : Bool) (entries : List XbarEntry) (s : State) : ∀ res, execAudXbar q ramp entries s = .next res → res.pending = s.pending := by
  intro res h; simp only [execAudXbar] at h; cases h; simp
@[simp] theorem execAudioSdp_pending (port : Fin 4) (sub : Fin 4) (channels : ℕ) (rate : ℕ) (frames : ℕ) (lpcm : Bool) (last : List Word) (s : State) : ∀ res, execAudioSdp port sub channels rate frames lpcm last s = .next res → res.pending = s.pending := by
  intro res h
  unfold execAudioSdp at h
  repeat' (first | (have h := Host.Outcome.next.inj h; subst h; clear h) | (have h := Host.Outcome.next.inj h; subst h) | (simp only [reduceCtorEq] at h; done) | split at h | dsimp only at h | (cases h; done) | (obtain ⟨rfl⟩ := h))
  all_goals (repeat' (first | with_reducible rfl | with_reducible assumption | ((try lift_lets); intro zz; first | ((have hz : State.pending zz = State.pending s := by (dsimp only [zz]; repeat' (first | with_reducible rfl | with_reducible assumption | (obtain ⟨rfl, rfl⟩ := Prod.ext_iff.mp ‹_ = (_, _)›) | (obtain ⟨rfl, -⟩ := Prod.ext_iff.mp ‹_ = (_, _)›) | split | (with_reducible refine (foldl_pending _ _ (fun s x => ?_) _).trans ?_) | (simp only [*]; done) | dsimp only | (simp [*]; done)))); clear_value zz) | clear_value zz) | (obtain ⟨rfl, rfl⟩ := Prod.ext_iff.mp ‹_ = (_, _)›) | (obtain ⟨rfl, -⟩ := Prod.ext_iff.mp ‹_ = (_, _)›) | split | (with_reducible refine (foldl_pending _ _ (fun s x => ?_) _).trans ?_) | (simp only [*]; done) | (simp [*]; done)))
@[simp] theorem execAuxRequest_pending (port : Fin 4) (kind : Fin 4) (addr : ℕ) (off : ℕ) (len : ℕ) (data : List Byte) (s : State) : ∀ res, execAuxRequest port kind addr off len data s = .next res → res.pending = s.pending := by
  intro res h
  unfold execAuxRequest at h
  repeat' (first | (have h := Host.Outcome.next.inj h; subst h; clear h) | (have h := Host.Outcome.next.inj h; subst h) | (simp only [reduceCtorEq] at h; done) | split at h | dsimp only at h | (cases h; done) | (obtain ⟨rfl⟩ := h))
  all_goals (repeat' (first | with_reducible rfl | with_reducible assumption | ((try lift_lets); intro zz; first | ((have hz : State.pending zz = State.pending s := by (dsimp only [zz]; repeat' (first | with_reducible rfl | with_reducible assumption | (obtain ⟨rfl, rfl⟩ := Prod.ext_iff.mp ‹_ = (_, _)›) | (obtain ⟨rfl, -⟩ := Prod.ext_iff.mp ‹_ = (_, _)›) | split | (with_reducible refine (foldl_pending _ _ (fun s x => ?_) _).trans ?_) | (simp only [*]; done) | dsimp only | (simp [*]; done)))); clear_value zz) | clear_value zz) | (obtain ⟨rfl, rfl⟩ := Prod.ext_iff.mp ‹_ = (_, _)›) | (obtain ⟨rfl, -⟩ := Prod.ext_iff.mp ‹_ = (_, _)›) | split | (with_reducible refine (foldl_pending _ _ (fun s x => ?_) _).trans ?_) | (simp only [*]; done) | (simp [*]; done)))
@[simp] theorem execBackoffEnd_pending (port : Fin 24) (s : State) : ∀ res, execBackoffEnd port s = .next res → res.pending = s.pending := by
  intro res h
  unfold execBackoffEnd at h
  repeat' (first | (have h := Host.Outcome.next.inj h; subst h; clear h) | (have h := Host.Outcome.next.inj h; subst h) | (simp only [reduceCtorEq] at h; done) | split at h | dsimp only at h | (cases h; done) | (obtain ⟨rfl⟩ := h))
  all_goals (repeat' (first | with_reducible rfl | with_reducible assumption | ((try lift_lets); intro zz; first | ((have hz : State.pending zz = State.pending s := by (dsimp only [zz]; repeat' (first | with_reducible rfl | with_reducible assumption | (obtain ⟨rfl, rfl⟩ := Prod.ext_iff.mp ‹_ = (_, _)›) | (obtain ⟨rfl, -⟩ := Prod.ext_iff.mp ‹_ = (_, _)›) | split | (with_reducible refine (foldl_pending _ _ (fun s x => ?_) _).trans ?_) | (simp only [*]; done) | dsimp only | (simp [*]; done)))); clear_value zz) | clear_value zz) | (obtain ⟨rfl, rfl⟩ := Prod.ext_iff.mp ‹_ = (_, _)›) | (obtain ⟨rfl, -⟩ := Prod.ext_iff.mp ‹_ = (_, _)›) | split | (with_reducible refine (foldl_pending _ _ (fun s x => ?_) _).trans ?_) | (simp only [*]; done) | (simp [*]; done)))
@[simp] theorem execBeacon_pending (port : Fin 24) (dir : Fin 2) (s : State) : ∀ res, execBeacon port dir s = .next res → res.pending = s.pending := by
  intro res h
  unfold execBeacon at h
  repeat' (first | (have h := Host.Outcome.next.inj h; subst h; clear h) | (have h := Host.Outcome.next.inj h; subst h) | (simp only [reduceCtorEq] at h; done) | split at h | dsimp only at h | (cases h; done) | (obtain ⟨rfl⟩ := h))
  all_goals (repeat' (first | with_reducible rfl | with_reducible assumption | ((try lift_lets); intro zz; first | ((have hz : State.pending zz = State.pending s := by (dsimp only [zz]; repeat' (first | with_reducible rfl | with_reducible assumption | (obtain ⟨rfl, rfl⟩ := Prod.ext_iff.mp ‹_ = (_, _)›) | (obtain ⟨rfl, -⟩ := Prod.ext_iff.mp ‹_ = (_, _)›) | split | (with_reducible refine (foldl_pending _ _ (fun s x => ?_) _).trans ?_) | (simp only [*]; done) | dsimp only | (simp [*]; done)))); clear_value zz) | clear_value zz) | (obtain ⟨rfl, rfl⟩ := Prod.ext_iff.mp ‹_ = (_, _)›) | (obtain ⟨rfl, -⟩ := Prod.ext_iff.mp ‹_ = (_, _)›) | split | (with_reducible refine (foldl_pending _ _ (fun s x => ?_) _).trans ?_) | (simp only [*]; done) | (simp [*]; done)))
@[simp] theorem execBlockRead_pending (q : Req) (addr : Addr) (bank : Byte) (count : Byte) (s : State) : ∀ res, execBlockRead q addr bank count s = .next res → res.pending = s.pending := by
  intro res h; simp only [execBlockRead] at h; cases h; simp
@[simp] theorem execBlockWrite_pending (q : Req) (addr : Addr) (bank : Byte) (values : List Word) (s : State) : ∀ res, execBlockWrite q addr bank values s = .next res → res.pending = s.pending := by
  intro res h; simp only [execBlockWrite] at h; cases h; simp
@[simp] theorem execBootModeApply_pending (s : State) : ∀ res, execBootModeApply s = .next res → res.pending = s.pending := by
  intro res h
  unfold execBootModeApply at h
  split at h
  · have h := Host.Outcome.next.inj h; subst h; rfl
  · simp -zeta only at h
    revert h
    lift_lets
    intro late b s1
    have e1 : (bootEnter s1).1.pending = s.pending := (bootEnter_pending s1).trans rfl
    generalize bootEnter s1 = p at e1 ⊢
    obtain ⟨p1, p2⟩ := p
    lift_lets
    intro s2 s3 ms s4 b2 h
    have h := Host.Outcome.next.inj h; subst h
    have e2 : s2.pending = s.pending := (foldl_pending _ _ (fun s x => by simp) _).trans e1
    have e3 : s3.pending = s.pending := by simp only [s3]; split <;> simp [e2]
    simp [s4, e3]
@[simp] theorem tellDpllReset_pending (s : State) : (tellDpllReset s).pending = s.pending := by
  unfold tellDpllReset; repeat' (first | with_reducible rfl | (simp; done) | split | dsimp only)
@[simp] theorem execBootStart_pending (strap : BitVec 3) (railA : Bool) (railB : Bool) (s : State) : ∀ res, execBootStart strap railA railB s = .next res → res.pending = s.pending := by
  intro res h
  unfold execBootStart at h
  repeat' (first | (have h := Host.Outcome.next.inj h; subst h; clear h) | (have h := Host.Outcome.next.inj h; subst h) | (simp only [reduceCtorEq] at h; done) | split at h | dsimp only at h | (cases h; done) | (obtain ⟨rfl⟩ := h))
  all_goals (repeat' (first | with_reducible rfl | with_reducible assumption | ((try lift_lets); intro zz; first | ((have hz : State.pending zz = State.pending s := by (dsimp only [zz]; repeat' (first | with_reducible rfl | with_reducible assumption | (obtain ⟨rfl, rfl⟩ := Prod.ext_iff.mp ‹_ = (_, _)›) | (obtain ⟨rfl, -⟩ := Prod.ext_iff.mp ‹_ = (_, _)›) | split | (with_reducible refine (foldl_pending _ _ (fun s x => ?_) _).trans ?_) | (simp only [*]; done) | dsimp only | (simp [*]; done)))); clear_value zz) | clear_value zz) | (obtain ⟨rfl, rfl⟩ := Prod.ext_iff.mp ‹_ = (_, _)›) | (obtain ⟨rfl, -⟩ := Prod.ext_iff.mp ‹_ = (_, _)›) | split | (with_reducible refine (foldl_pending _ _ (fun s x => ?_) _).trans ?_) | (simp only [*]; done) | (simp [*]; done)))
@[simp] theorem execBuildTimeout_pending (s : State) : ∀ res, execBuildTimeout s = .next res → res.pending = s.pending := by
  intro res h; simp only [execBuildTimeout] at h; cases h; simp
@[simp] theorem execBulkTransferComplete_pending (s : State) : ∀ res, execBulkTransferComplete s = .next res → res.pending = s.pending := by
  intro res h; simp only [execBulkTransferComplete] at h; cases h; simp
@[simp] theorem execCapModeWrite_pending (q : Req) (pipe : UnitRef) (value : Word) (s : State) : ∀ res, execCapModeWrite q pipe value s = .next res → res.pending = s.pending := by
  intro res h; simp only [execCapModeWrite] at h; cases h; simp
@[simp] theorem execCapabilityResend_pending (port : Fin 24) (s : State) : ∀ res, execCapabilityResend port s = .next res → res.pending = s.pending := by
  intro res h
  unfold execCapabilityResend at h
  repeat' (first | (have h := Host.Outcome.next.inj h; subst h; clear h) | (have h := Host.Outcome.next.inj h; subst h) | (simp only [reduceCtorEq] at h; done) | split at h | dsimp only at h | (cases h; done) | (obtain ⟨rfl⟩ := h))
  all_goals (repeat' (first | with_reducible rfl | with_reducible assumption | ((try lift_lets); intro zz; first | ((have hz : State.pending zz = State.pending s := by (dsimp only [zz]; repeat' (first | with_reducible rfl | with_reducible assumption | (obtain ⟨rfl, rfl⟩ := Prod.ext_iff.mp ‹_ = (_, _)›) | (obtain ⟨rfl, -⟩ := Prod.ext_iff.mp ‹_ = (_, _)›) | split | (with_reducible refine (foldl_pending _ _ (fun s x => ?_) _).trans ?_) | (simp only [*]; done) | dsimp only | (simp [*]; done)))); clear_value zz) | clear_value zz) | (obtain ⟨rfl, rfl⟩ := Prod.ext_iff.mp ‹_ = (_, _)›) | (obtain ⟨rfl, -⟩ := Prod.ext_iff.mp ‹_ = (_, _)›) | split | (with_reducible refine (foldl_pending _ _ (fun s x => ?_) _).trans ?_) | (simp only [*]; done) | (simp [*]; done)))
@[simp] theorem execCapabilityTimeout_pending (port : Fin 24) (s : State) : ∀ res, execCapabilityTimeout port s = .next res → res.pending = s.pending := by
  intro res h
  unfold execCapabilityTimeout at h
  repeat' (first | (have h := Host.Outcome.next.inj h; subst h; clear h) | (have h := Host.Outcome.next.inj h; subst h) | (simp only [reduceCtorEq] at h; done) | split at h | dsimp only at h | (cases h; done) | (obtain ⟨rfl⟩ := h))
  all_goals (repeat' (first | with_reducible rfl | with_reducible assumption | ((try lift_lets); intro zz; first | ((have hz : State.pending zz = State.pending s := by (dsimp only [zz]; repeat' (first | with_reducible rfl | with_reducible assumption | (obtain ⟨rfl, rfl⟩ := Prod.ext_iff.mp ‹_ = (_, _)›) | (obtain ⟨rfl, -⟩ := Prod.ext_iff.mp ‹_ = (_, _)›) | split | (with_reducible refine (foldl_pending _ _ (fun s x => ?_) _).trans ?_) | (simp only [*]; done) | dsimp only | (simp [*]; done)))); clear_value zz) | clear_value zz) | (obtain ⟨rfl, rfl⟩ := Prod.ext_iff.mp ‹_ = (_, _)›) | (obtain ⟨rfl, -⟩ := Prod.ext_iff.mp ‹_ = (_, _)›) | split | (with_reducible refine (foldl_pending _ _ (fun s x => ?_) _).trans ?_) | (simp only [*]; done) | (simp [*]; done)))
@[simp] theorem execCaptureStart_pending (q : Req) (pipe : UnitRef) (s : State) : ∀ res, execCaptureStart q pipe s = .next res → res.pending = s.pending := by
  intro res h; simp only [execCaptureStart] at h; cases h; simp
@[simp] theorem execCaptureStop_pending (q : Req) (pipe : UnitRef) (force : Bool) (s : State) : ∀ res, execCaptureStop q pipe force s = .next res → res.pending = s.pending := by
  intro res h; simp only [execCaptureStop] at h; cases h; simp
@[simp] theorem execClaim_pending (q : Req) (cls : Byte) (first : Byte) (count : Byte) (bank : Byte) (force : Bool) (s : State) : ∀ res, execClaim q cls first count bank force s = .next res → res.pending = s.pending := by
  intro res h; simp only [execClaim] at h; cases h; simp
@[simp] theorem execClrTblWinWrite_pending (q : Req) (unit : UnitRef) (word : Byte) (value : Word) (s : State) : ∀ res, execClrTblWinWrite q unit word value s = .next res → res.pending = s.pending := by
  intro res h; simp only [execClrTblWinWrite] at h; cases h; simp
@[simp] theorem execCommitTick_pending (o : Fin 20) (obs : TickObs) (s : State) : ∀ res, execCommitTick o obs s = .next res → res.pending = s.pending := by
  intro res h
  unfold execCommitTick at h
  repeat' (first | (have h := Host.Outcome.next.inj h; subst h; clear h) | (have h := Host.Outcome.next.inj h; subst h) | (simp only [reduceCtorEq] at h; done) | split at h | dsimp only at h | (cases h; done) | (obtain ⟨rfl⟩ := h))
  all_goals (repeat' (first | with_reducible rfl | with_reducible assumption | ((try lift_lets); intro zz; first | ((have hz : State.pending zz = State.pending s := by (dsimp only [zz]; repeat' (first | with_reducible rfl | with_reducible assumption | (obtain ⟨rfl, rfl⟩ := Prod.ext_iff.mp ‹_ = (_, _)›) | (obtain ⟨rfl, -⟩ := Prod.ext_iff.mp ‹_ = (_, _)›) | split | (with_reducible refine (foldl_pending _ _ (fun s x => ?_) _).trans ?_) | (simp only [*]; done) | dsimp only | (simp [*]; done)))); clear_value zz) | clear_value zz) | (obtain ⟨rfl, rfl⟩ := Prod.ext_iff.mp ‹_ = (_, _)›) | (obtain ⟨rfl, -⟩ := Prod.ext_iff.mp ‹_ = (_, _)›) | split | (with_reducible refine (foldl_pending _ _ (fun s x => ?_) _).trans ?_) | (simp only [*]; done) | (simp [*]; done)))
@[simp] theorem execConverterLock_pending (k : Fin 64) (s : State) : ∀ res, execConverterLock k s = .next res → res.pending = s.pending := by
  intro res h
  unfold execConverterLock at h
  repeat' (first | (have h := Host.Outcome.next.inj h; subst h; clear h) | (have h := Host.Outcome.next.inj h; subst h) | (simp only [reduceCtorEq] at h; done) | split at h | dsimp only at h | (cases h; done) | (obtain ⟨rfl⟩ := h))
  all_goals (repeat' (first | with_reducible rfl | with_reducible assumption | ((try lift_lets); intro zz; first | ((have hz : State.pending zz = State.pending s := by (dsimp only [zz]; repeat' (first | with_reducible rfl | with_reducible assumption | (obtain ⟨rfl, rfl⟩ := Prod.ext_iff.mp ‹_ = (_, _)›) | (obtain ⟨rfl, -⟩ := Prod.ext_iff.mp ‹_ = (_, _)›) | split | (with_reducible refine (foldl_pending _ _ (fun s x => ?_) _).trans ?_) | (simp only [*]; done) | dsimp only | (simp [*]; done)))); clear_value zz) | clear_value zz) | (obtain ⟨rfl, rfl⟩ := Prod.ext_iff.mp ‹_ = (_, _)›) | (obtain ⟨rfl, -⟩ := Prod.ext_iff.mp ‹_ = (_, _)›) | split | (with_reducible refine (foldl_pending _ _ (fun s x => ?_) _).trans ?_) | (simp only [*]; done) | (simp [*]; done)))
@[simp] theorem execConverterRatioMeasure_pending (k : Fin 64) (ratio : Word) (s : State) : ∀ res, execConverterRatioMeasure k ratio s = .next res → res.pending = s.pending := by
  intro res h
  unfold execConverterRatioMeasure at h
  repeat' (first | (have h := Host.Outcome.next.inj h; subst h; clear h) | (have h := Host.Outcome.next.inj h; subst h) | (simp only [reduceCtorEq] at h; done) | split at h | dsimp only at h | (cases h; done) | (obtain ⟨rfl⟩ := h))
  all_goals (repeat' (first | with_reducible rfl | with_reducible assumption | ((try lift_lets); intro zz; first | ((have hz : State.pending zz = State.pending s := by (dsimp only [zz]; repeat' (first | with_reducible rfl | with_reducible assumption | (obtain ⟨rfl, rfl⟩ := Prod.ext_iff.mp ‹_ = (_, _)›) | (obtain ⟨rfl, -⟩ := Prod.ext_iff.mp ‹_ = (_, _)›) | split | (with_reducible refine (foldl_pending _ _ (fun s x => ?_) _).trans ?_) | (simp only [*]; done) | dsimp only | (simp [*]; done)))); clear_value zz) | clear_value zz) | (obtain ⟨rfl, rfl⟩ := Prod.ext_iff.mp ‹_ = (_, _)›) | (obtain ⟨rfl, -⟩ := Prod.ext_iff.mp ‹_ = (_, _)›) | split | (with_reducible refine (foldl_pending _ _ (fun s x => ?_) _).trans ?_) | (simp only [*]; done) | (simp [*]; done)))
@[simp] theorem queuesLost_pending (s : State) (os : List ℕ) : (queuesLost s os).pending = s.pending := by
  simp [queuesLost]
@[simp] theorem warmReset_pending (s : State) (c : ℕ) : (warmReset s c).pending = s.pending := by simp [warmReset, cutWhole, drawWord]
theorem execCoreClockLoss_pending (g : CoreGen) (s : State) : ∀ res, execCoreClockLoss g s = .next res → res.pending = s.pending := by
  intro res h
  unfold execCoreClockLoss at h
  split at h <;> split at h <;> (have h := Host.Outcome.next.inj h; subst h; simp)
theorem heldOrSettle_pending (s : State) (p : Prop) [Decidable p] :
    (if p then warmReset s 4 else settle s).pending = s.pending := by split <;> simp
@[simp] theorem execCoreClockRegained_pending (g : CoreGen) (s : State) : ∀ res, execCoreClockRegained g s = .next res → res.pending = s.pending := by
  intro res h
  unfold execCoreClockRegained at h
  repeat' (first | (have h := Host.Outcome.next.inj h; subst h; clear h) | (have h := Host.Outcome.next.inj h; subst h) | (simp only [reduceCtorEq] at h; done) | split at h | dsimp only at h | (cases h; done) | (obtain ⟨rfl⟩ := h))
  all_goals (repeat' (first | with_reducible rfl | with_reducible assumption | ((try lift_lets); intro zz; first | ((have hz : State.pending zz = State.pending s := by (dsimp only [zz]; repeat' (first | with_reducible rfl | with_reducible assumption | (obtain ⟨rfl, rfl⟩ := Prod.ext_iff.mp ‹_ = (_, _)›) | (obtain ⟨rfl, -⟩ := Prod.ext_iff.mp ‹_ = (_, _)›) | split | (with_reducible refine (foldl_pending _ _ (fun s x => ?_) _).trans ?_) | (simp only [*]; done) | dsimp only | (simp [*]; done)))); clear_value zz) | clear_value zz) | (obtain ⟨rfl, rfl⟩ := Prod.ext_iff.mp ‹_ = (_, _)›) | (obtain ⟨rfl, -⟩ := Prod.ext_iff.mp ‹_ = (_, _)›) | split | (with_reducible refine (foldl_pending _ _ (fun s x => ?_) _).trans ?_) | (simp only [*]; done) | (simp [*]; done)))
@[simp] theorem execCp2LinkRetry_pending (s : State) : ∀ res, execCp2LinkRetry s = .next res → res.pending = s.pending := by
  intro res h
  unfold execCp2LinkRetry at h
  repeat' (first | (have h := Host.Outcome.next.inj h; subst h; clear h) | (have h := Host.Outcome.next.inj h; subst h) | (simp only [reduceCtorEq] at h; done) | split at h | dsimp only at h | (cases h; done) | (obtain ⟨rfl⟩ := h))
  all_goals (repeat' (first | with_reducible rfl | with_reducible assumption | ((try lift_lets); intro zz; first | ((have hz : State.pending zz = State.pending s := by (dsimp only [zz]; repeat' (first | with_reducible rfl | with_reducible assumption | (obtain ⟨rfl, rfl⟩ := Prod.ext_iff.mp ‹_ = (_, _)›) | (obtain ⟨rfl, -⟩ := Prod.ext_iff.mp ‹_ = (_, _)›) | split | (with_reducible refine (foldl_pending _ _ (fun s x => ?_) _).trans ?_) | (simp only [*]; done) | dsimp only | (simp [*]; done)))); clear_value zz) | clear_value zz) | (obtain ⟨rfl, rfl⟩ := Prod.ext_iff.mp ‹_ = (_, _)›) | (obtain ⟨rfl, -⟩ := Prod.ext_iff.mp ‹_ = (_, _)›) | split | (with_reducible refine (foldl_pending _ _ (fun s x => ?_) _).trans ?_) | (simp only [*]; done) | (simp [*]; done)))
@[simp] theorem execCp2PacketTimeout_pending (s : State) : ∀ res, execCp2PacketTimeout s = .next res → res.pending = s.pending := by
  intro res h
  unfold execCp2PacketTimeout at h
  repeat' (first | (have h := Host.Outcome.next.inj h; subst h; clear h) | (have h := Host.Outcome.next.inj h; subst h) | (simp only [reduceCtorEq] at h; done) | split at h | dsimp only at h | (cases h; done) | (obtain ⟨rfl⟩ := h))
  all_goals (repeat' (first | with_reducible rfl | with_reducible assumption | ((try lift_lets); intro zz; first | ((have hz : State.pending zz = State.pending s := by (dsimp only [zz]; repeat' (first | with_reducible rfl | with_reducible assumption | (obtain ⟨rfl, rfl⟩ := Prod.ext_iff.mp ‹_ = (_, _)›) | (obtain ⟨rfl, -⟩ := Prod.ext_iff.mp ‹_ = (_, _)›) | split | (with_reducible refine (foldl_pending _ _ (fun s x => ?_) _).trans ?_) | (simp only [*]; done) | dsimp only | (simp [*]; done)))); clear_value zz) | clear_value zz) | (obtain ⟨rfl, rfl⟩ := Prod.ext_iff.mp ‹_ = (_, _)›) | (obtain ⟨rfl, -⟩ := Prod.ext_iff.mp ‹_ = (_, _)›) | split | (with_reducible refine (foldl_pending _ _ (fun s x => ?_) _).trans ?_) | (simp only [*]; done) | (simp [*]; done)))
@[simp] theorem execCp2Placard_pending (port : Fin 24) (s : State) : ∀ res, execCp2Placard port s = .next res → res.pending = s.pending := by
  intro res h
  unfold execCp2Placard at h
  repeat' (first | (have h := Host.Outcome.next.inj h; subst h; clear h) | (have h := Host.Outcome.next.inj h; subst h) | (simp only [reduceCtorEq] at h; done) | split at h | dsimp only at h | (cases h; done) | (obtain ⟨rfl⟩ := h))
  all_goals (repeat' (first | with_reducible rfl | with_reducible assumption | ((try lift_lets); intro zz; first | ((have hz : State.pending zz = State.pending s := by (dsimp only [zz]; repeat' (first | with_reducible rfl | with_reducible assumption | (obtain ⟨rfl, rfl⟩ := Prod.ext_iff.mp ‹_ = (_, _)›) | (obtain ⟨rfl, -⟩ := Prod.ext_iff.mp ‹_ = (_, _)›) | split | (with_reducible refine (foldl_pending _ _ (fun s x => ?_) _).trans ?_) | (simp only [*]; done) | dsimp only | (simp [*]; done)))); clear_value zz) | clear_value zz) | (obtain ⟨rfl, rfl⟩ := Prod.ext_iff.mp ‹_ = (_, _)›) | (obtain ⟨rfl, -⟩ := Prod.ext_iff.mp ‹_ = (_, _)›) | split | (with_reducible refine (foldl_pending _ _ (fun s x => ?_) _).trans ?_) | (simp only [*]; done) | (simp [*]; done)))
@[simp] theorem strangeCode_pending (s : State) (p : Port) (code : Byte) : (strangeCode s p code).pending = s.pending := by
  simp [strangeCode]
@[simp] theorem execCp3SclTimeout_pending (cut : SclCut) (s : State) : ∀ res, execCp3SclTimeout cut s = .next res → res.pending = s.pending := by
  intro res h
  unfold execCp3SclTimeout at h
  repeat' (first | (have h := Host.Outcome.next.inj h; subst h; clear h) | (have h := Host.Outcome.next.inj h; subst h) | (simp only [reduceCtorEq] at h; done) | split at h | dsimp only at h | (cases h; done) | (obtain ⟨rfl⟩ := h))
  all_goals (repeat' (first | with_reducible rfl | with_reducible assumption | ((try lift_lets); intro zz; first | ((have hz : State.pending zz = State.pending s := by (dsimp only [zz]; repeat' (first | with_reducible rfl | with_reducible assumption | (obtain ⟨rfl, rfl⟩ := Prod.ext_iff.mp ‹_ = (_, _)›) | (obtain ⟨rfl, -⟩ := Prod.ext_iff.mp ‹_ = (_, _)›) | split | (with_reducible refine (foldl_pending _ _ (fun s x => ?_) _).trans ?_) | (simp only [*]; done) | dsimp only | (simp [*]; done)))); clear_value zz) | clear_value zz) | (obtain ⟨rfl, rfl⟩ := Prod.ext_iff.mp ‹_ = (_, _)›) | (obtain ⟨rfl, -⟩ := Prod.ext_iff.mp ‹_ = (_, _)›) | split | (with_reducible refine (foldl_pending _ _ (fun s x => ?_) _).trans ?_) | (simp only [*]; done) | (simp [*]; done)))
@[simp] theorem execCsiFrameEnd_pending (port : Fin 8) (vc : Fin 4) (hdr : Fin 3) (drift : ℤ) (s : State) : ∀ res, execCsiFrameEnd port vc hdr drift s = .next res → res.pending = s.pending := by
  intro res h
  unfold execCsiFrameEnd at h
  dsimp only at h
  split at h
  · have h := Host.Outcome.next.inj h; subst h; rfl
  split at h
  · have h := Host.Outcome.next.inj h; subst h; simp
  · rename_i s1 h1
    have h2 := csiHeader_pending _ _ _ _ h1
    have h := Host.Outcome.next.inj h; subst h
    split <;> simp [h2]
@[simp] theorem execCsiFrameStart_pending (port : Fin 8) (vc : Fin 4) (hdr : Fin 3) (s : State) : ∀ res, execCsiFrameStart port vc hdr s = .next res → res.pending = s.pending := by
  intro res h
  unfold execCsiFrameStart at h
  revert h
  lift_lets
  intro p v
  split
  · intro h; have h := Host.Outcome.next.inj h; subst h; rfl
  split
  · intro h; have h := Host.Outcome.next.inj h; subst h; simp
  · rename_i s1 h1
    have e1 := csiHeader_pending _ _ _ _ h1
    lift_lets
    intro s2 c ks first s3 s4 h
    have h := Host.Outcome.next.inj h; subst h
    have e2 : s2.pending = s.pending := by simp only [s2]; split <;> simp [e1]
    have e3 : s3.pending = s.pending := by simp [s3, e2]
    have e4 : s4.pending = s.pending := by simp only [s4]; split <;> simp [e3]
    exact (foldl_pending _ _ (fun s x => by simp) _).trans (by simp [e4])
@[simp] theorem execCsiLongPacket_pending (port : Fin 8) (vc : Fin 4) (hdr : Fin 3) (vcx : Bool) (dtype : ℕ) (count : ℕ) (good : Bool) (s : State) : ∀ res, execCsiLongPacket port vc hdr vcx dtype count good s = .next res → res.pending = s.pending := by
  intro res h
  unfold execCsiLongPacket at h
  dsimp only at h
  split at h
  · have h := Host.Outcome.next.inj h; subst h; rfl
  split at h
  · have h := Host.Outcome.next.inj h; subst h; simp
  · rename_i s1 h1
    have h2 := csiHeader_pending _ _ _ _ h1
    repeat' (first | split at h)
    all_goals (have h := Host.Outcome.next.inj h; subst h)
    all_goals (first | (simp [h2]; done) | (refine (foldl_pending _ _ (fun s x => by simp) _).trans ?_; simp [h2]))
@[simp] theorem execCsiUlpsEntry_pending (port : Fin 8) (s : State) : ∀ res, execCsiUlpsEntry port s = .next res → res.pending = s.pending := by
  intro res h
  unfold execCsiUlpsEntry at h
  repeat' (first | (have h := Host.Outcome.next.inj h; subst h; clear h) | (have h := Host.Outcome.next.inj h; subst h) | (simp only [reduceCtorEq] at h; done) | split at h | dsimp only at h | (cases h; done) | (obtain ⟨rfl⟩ := h))
  all_goals (repeat' (first | with_reducible rfl | with_reducible assumption | ((try lift_lets); intro zz; first | ((have hz : State.pending zz = State.pending s := by (dsimp only [zz]; repeat' (first | with_reducible rfl | with_reducible assumption | (obtain ⟨rfl, rfl⟩ := Prod.ext_iff.mp ‹_ = (_, _)›) | (obtain ⟨rfl, -⟩ := Prod.ext_iff.mp ‹_ = (_, _)›) | split | (with_reducible refine (foldl_pending _ _ (fun s x => ?_) _).trans ?_) | (simp only [*]; done) | dsimp only | (simp [*]; done)))); clear_value zz) | clear_value zz) | (obtain ⟨rfl, rfl⟩ := Prod.ext_iff.mp ‹_ = (_, _)›) | (obtain ⟨rfl, -⟩ := Prod.ext_iff.mp ‹_ = (_, _)›) | split | (with_reducible refine (foldl_pending _ _ (fun s x => ?_) _).trans ?_) | (simp only [*]; done) | (simp [*]; done)))
theorem execCuratorWatchdog_pending (s : State) : ∀ res, execCuratorWatchdog s = .next res → res.pending = s.pending := by
  intro res h
  unfold execCuratorWatchdog at h
  split at h <;> (have h := Host.Outcome.next.inj h; subst h; simp)
@[simp] theorem execDpLinkLoss_pending (port : Fin 4) (s : State) : ∀ res, execDpLinkLoss port s = .next res → res.pending = s.pending := by
  intro res h
  unfold execDpLinkLoss at h
  repeat' (first | (have h := Host.Outcome.next.inj h; subst h; clear h) | (have h := Host.Outcome.next.inj h; subst h) | (simp only [reduceCtorEq] at h; done) | split at h | dsimp only at h | (cases h; done) | (obtain ⟨rfl⟩ := h))
  all_goals (repeat' (first | with_reducible rfl | with_reducible assumption | ((try lift_lets); intro zz; first | ((have hz : State.pending zz = State.pending s := by (dsimp only [zz]; repeat' (first | with_reducible rfl | with_reducible assumption | (obtain ⟨rfl, rfl⟩ := Prod.ext_iff.mp ‹_ = (_, _)›) | (obtain ⟨rfl, -⟩ := Prod.ext_iff.mp ‹_ = (_, _)›) | split | (with_reducible refine (foldl_pending _ _ (fun s x => ?_) _).trans ?_) | (simp only [*]; done) | dsimp only | (simp [*]; done)))); clear_value zz) | clear_value zz) | (obtain ⟨rfl, rfl⟩ := Prod.ext_iff.mp ‹_ = (_, _)›) | (obtain ⟨rfl, -⟩ := Prod.ext_iff.mp ‹_ = (_, _)›) | split | (with_reducible refine (foldl_pending _ _ (fun s x => ?_) _).trans ?_) | (simp only [*]; done) | (simp [*]; done)))
@[simp] theorem execDpLinkTraining_pending (port : Fin 4) (rate : Fin 7) (lanes : Fin 3) (s : State) : ∀ res, execDpLinkTraining port rate lanes s = .next res → res.pending = s.pending := by
  intro res h
  unfold execDpLinkTraining at h
  repeat' (first | (have h := Host.Outcome.next.inj h; subst h; clear h) | (have h := Host.Outcome.next.inj h; subst h) | (simp only [reduceCtorEq] at h; done) | split at h | dsimp only at h | (cases h; done) | (obtain ⟨rfl⟩ := h))
  all_goals (repeat' (first | with_reducible rfl | with_reducible assumption | ((try lift_lets); intro zz; first | ((have hz : State.pending zz = State.pending s := by (dsimp only [zz]; repeat' (first | with_reducible rfl | with_reducible assumption | (obtain ⟨rfl, rfl⟩ := Prod.ext_iff.mp ‹_ = (_, _)›) | (obtain ⟨rfl, -⟩ := Prod.ext_iff.mp ‹_ = (_, _)›) | split | (with_reducible refine (foldl_pending _ _ (fun s x => ?_) _).trans ?_) | (simp only [*]; done) | dsimp only | (simp [*]; done)))); clear_value zz) | clear_value zz) | (obtain ⟨rfl, rfl⟩ := Prod.ext_iff.mp ‹_ = (_, _)›) | (obtain ⟨rfl, -⟩ := Prod.ext_iff.mp ‹_ = (_, _)›) | split | (with_reducible refine (foldl_pending _ _ (fun s x => ?_) _).trans ?_) | (simp only [*]; done) | (simp [*]; done)))
@[simp] theorem takeStep_pending (s : State) (ps : ℤ) : (takeStep s ps).pending = s.pending := by
  simp [takeStep]
@[simp] theorem execDpllComparison_pending (phase : ℤ) (s : State) : ∀ res, execDpllComparison phase s = .next res → res.pending = s.pending := by
  intro res h
  unfold execDpllComparison at h
  repeat' (first | (have h := Host.Outcome.next.inj h; subst h; clear h) | (have h := Host.Outcome.next.inj h; subst h) | (simp only [reduceCtorEq] at h; done) | split at h | dsimp only at h | (cases h; done) | (obtain ⟨rfl⟩ := h))
  all_goals (repeat' (first | with_reducible rfl | with_reducible assumption | ((try lift_lets); intro zz; first | ((have hz : State.pending zz = State.pending s := by (dsimp only [zz]; repeat' (first | with_reducible rfl | with_reducible assumption | (obtain ⟨rfl, rfl⟩ := Prod.ext_iff.mp ‹_ = (_, _)›) | (obtain ⟨rfl, -⟩ := Prod.ext_iff.mp ‹_ = (_, _)›) | split | (with_reducible refine (foldl_pending _ _ (fun s x => ?_) _).trans ?_) | (simp only [*]; done) | dsimp only | (simp [*]; done)))); clear_value zz) | clear_value zz) | (obtain ⟨rfl, rfl⟩ := Prod.ext_iff.mp ‹_ = (_, _)›) | (obtain ⟨rfl, -⟩ := Prod.ext_iff.mp ‹_ = (_, _)›) | split | (with_reducible refine (foldl_pending _ _ (fun s x => ?_) _).trans ?_) | (simp only [*]; done) | (simp [*]; done)))
@[simp] theorem execEdpHpdSettled_pending (port : Fin 4) (supports : Bool) (s : State) : ∀ res, execEdpHpdSettled port supports s = .next res → res.pending = s.pending := by
  intro res h
  unfold execEdpHpdSettled at h
  repeat' (first | (have h := Host.Outcome.next.inj h; subst h; clear h) | (have h := Host.Outcome.next.inj h; subst h) | (simp only [reduceCtorEq] at h; done) | split at h | dsimp only at h | (cases h; done) | (obtain ⟨rfl⟩ := h))
  all_goals (repeat' (first | with_reducible rfl | with_reducible assumption | ((try lift_lets); intro zz; first | ((have hz : State.pending zz = State.pending s := by (dsimp only [zz]; repeat' (first | with_reducible rfl | with_reducible assumption | (obtain ⟨rfl, rfl⟩ := Prod.ext_iff.mp ‹_ = (_, _)›) | (obtain ⟨rfl, -⟩ := Prod.ext_iff.mp ‹_ = (_, _)›) | split | (with_reducible refine (foldl_pending _ _ (fun s x => ?_) _).trans ?_) | (simp only [*]; done) | dsimp only | (simp [*]; done)))); clear_value zz) | clear_value zz) | (obtain ⟨rfl, rfl⟩ := Prod.ext_iff.mp ‹_ = (_, _)›) | (obtain ⟨rfl, -⟩ := Prod.ext_iff.mp ‹_ = (_, _)›) | split | (with_reducible refine (foldl_pending _ _ (fun s x => ?_) _).trans ?_) | (simp only [*]; done) | (simp [*]; done)))
@[simp] theorem execEdpIrqHpd_pending (port : Fin 4) (lost : Bool) (s : State) : ∀ res, execEdpIrqHpd port lost s = .next res → res.pending = s.pending := by
  intro res h
  unfold execEdpIrqHpd at h
  repeat' (first | (have h := Host.Outcome.next.inj h; subst h; clear h) | (have h := Host.Outcome.next.inj h; subst h) | (simp only [reduceCtorEq] at h; done) | split at h | dsimp only at h | (cases h; done) | (obtain ⟨rfl⟩ := h))
  all_goals (repeat' (first | with_reducible rfl | with_reducible assumption | ((try lift_lets); intro zz; first | ((have hz : State.pending zz = State.pending s := by (dsimp only [zz]; repeat' (first | with_reducible rfl | with_reducible assumption | (obtain ⟨rfl, rfl⟩ := Prod.ext_iff.mp ‹_ = (_, _)›) | (obtain ⟨rfl, -⟩ := Prod.ext_iff.mp ‹_ = (_, _)›) | split | (with_reducible refine (foldl_pending _ _ (fun s x => ?_) _).trans ?_) | (simp only [*]; done) | dsimp only | (simp [*]; done)))); clear_value zz) | clear_value zz) | (obtain ⟨rfl, rfl⟩ := Prod.ext_iff.mp ‹_ = (_, _)›) | (obtain ⟨rfl, -⟩ := Prod.ext_iff.mp ‹_ = (_, _)›) | split | (with_reducible refine (foldl_pending _ _ (fun s x => ?_) _).trans ?_) | (simp only [*]; done) | (simp [*]; done)))
@[simp] theorem execEdpPanelLoss_pending (port : Fin 4) (s : State) : ∀ res, execEdpPanelLoss port s = .next res → res.pending = s.pending := by
  intro res h
  unfold execEdpPanelLoss at h
  repeat' (first | (have h := Host.Outcome.next.inj h; subst h; clear h) | (have h := Host.Outcome.next.inj h; subst h) | (simp only [reduceCtorEq] at h; done) | split at h | dsimp only at h | (cases h; done) | (obtain ⟨rfl⟩ := h))
  all_goals (repeat' (first | with_reducible rfl | with_reducible assumption | ((try lift_lets); intro zz; first | ((have hz : State.pending zz = State.pending s := by (dsimp only [zz]; repeat' (first | with_reducible rfl | with_reducible assumption | (obtain ⟨rfl, rfl⟩ := Prod.ext_iff.mp ‹_ = (_, _)›) | (obtain ⟨rfl, -⟩ := Prod.ext_iff.mp ‹_ = (_, _)›) | split | (with_reducible refine (foldl_pending _ _ (fun s x => ?_) _).trans ?_) | (simp only [*]; done) | dsimp only | (simp [*]; done)))); clear_value zz) | clear_value zz) | (obtain ⟨rfl, rfl⟩ := Prod.ext_iff.mp ‹_ = (_, _)›) | (obtain ⟨rfl, -⟩ := Prod.ext_iff.mp ‹_ = (_, _)›) | split | (with_reducible refine (foldl_pending _ _ (fun s x => ?_) _).trans ?_) | (simp only [*]; done) | (simp [*]; done)))
@[simp] theorem execEdpTrainingDone_pending (port : Fin 4) (good : Bool) (s : State) : ∀ res, execEdpTrainingDone port good s = .next res → res.pending = s.pending := by
  intro res h
  unfold execEdpTrainingDone at h
  repeat' (first | (have h := Host.Outcome.next.inj h; subst h; clear h) | (have h := Host.Outcome.next.inj h; subst h) | (simp only [reduceCtorEq] at h; done) | split at h | dsimp only at h | (cases h; done) | (obtain ⟨rfl⟩ := h))
  all_goals (repeat' (first | with_reducible rfl | with_reducible assumption | ((try lift_lets); intro zz; first | ((have hz : State.pending zz = State.pending s := by (dsimp only [zz]; repeat' (first | with_reducible rfl | with_reducible assumption | (obtain ⟨rfl, rfl⟩ := Prod.ext_iff.mp ‹_ = (_, _)›) | (obtain ⟨rfl, -⟩ := Prod.ext_iff.mp ‹_ = (_, _)›) | split | (with_reducible refine (foldl_pending _ _ (fun s x => ?_) _).trans ?_) | (simp only [*]; done) | dsimp only | (simp [*]; done)))); clear_value zz) | clear_value zz) | (obtain ⟨rfl, rfl⟩ := Prod.ext_iff.mp ‹_ = (_, _)›) | (obtain ⟨rfl, -⟩ := Prod.ext_iff.mp ‹_ = (_, _)›) | split | (with_reducible refine (foldl_pending _ _ (fun s x => ?_) _).trans ?_) | (simp only [*]; done) | (simp [*]; done)))
@[simp] theorem execEqualiserTrainingDone_pending (port : Fin 24) (s : State) : ∀ res, execEqualiserTrainingDone port s = .next res → res.pending = s.pending := by
  intro res h
  simp only [execEqualiserTrainingDone] at h
  split at h
  · have h := Host.Outcome.next.inj h; subst h
    have e := drawBytes_pending s 9
    generalize drawBytes s 9 = p at e ⊢
    split <;> simp [e]
  · have h := Host.Outcome.next.inj h; subst h; rfl
@[simp] theorem execEvtAck_pending (q : Req) (mask : List Byte) (s : State) : ∀ res, execEvtAck q mask s = .next res → res.pending = s.pending := by
  intro res h; simp only [execEvtAck] at h; cases h; simp
@[simp] theorem execEvtCfgWrite_pending (q : Req) (source : Byte) (value : Word) (s : State) : ∀ res, execEvtCfgWrite q source value s = .next res → res.pending = s.pending := by
  intro res h; simp only [execEvtCfgWrite] at h; cases h; simp
@[simp] theorem execEvtRead_pending (q : Req) (count : Byte) (s : State) : ∀ res, execEvtRead q count s = .next res → res.pending = s.pending := by
  intro res h; simp only [execEvtRead] at h; cases h; simp
@[simp] theorem execEyeScan_pending (q : Req) (port : Byte) (lane : Byte) (dwell : Byte) (s : State) : ∀ res, execEyeScan q port lane dwell s = .next res → res.pending = s.pending := by
  intro res h; simp only [execEyeScan] at h; cases h; simp
@[simp] theorem execEyeScanComplete_pending (port : Fin 24) (counts : List Byte) (s : State) : ∀ res, execEyeScanComplete port counts s = .next res → res.pending = s.pending := by
  intro res h
  unfold execEyeScanComplete at h
  repeat' (first | (have h := Host.Outcome.next.inj h; subst h; clear h) | (have h := Host.Outcome.next.inj h; subst h) | (simp only [reduceCtorEq] at h; done) | split at h | dsimp only at h | (cases h; done) | (obtain ⟨rfl⟩ := h))
  all_goals (repeat' (first | with_reducible rfl | with_reducible assumption | ((try lift_lets); intro zz; first | ((have hz : State.pending zz = State.pending s := by (dsimp only [zz]; repeat' (first | with_reducible rfl | with_reducible assumption | (obtain ⟨rfl, rfl⟩ := Prod.ext_iff.mp ‹_ = (_, _)›) | (obtain ⟨rfl, -⟩ := Prod.ext_iff.mp ‹_ = (_, _)›) | split | (with_reducible refine (foldl_pending _ _ (fun s x => ?_) _).trans ?_) | (simp only [*]; done) | dsimp only | (simp [*]; done)))); clear_value zz) | clear_value zz) | (obtain ⟨rfl, rfl⟩ := Prod.ext_iff.mp ‹_ = (_, _)›) | (obtain ⟨rfl, -⟩ := Prod.ext_iff.mp ‹_ = (_, _)›) | split | (with_reducible refine (foldl_pending _ _ (fun s x => ?_) _).trans ?_) | (simp only [*]; done) | (simp [*]; done)))
@[simp] theorem execFailoverForce_pending (q : Req) (s : State) : ∀ res, execFailoverForce q s = .next res → res.pending = s.pending := by
  intro res h; simp only [execFailoverForce] at h; cases h; simp
@[simp] theorem execFaultLogRead_pending (q : Req) (first : Half) (count : Half) (s : State) : ∀ res, execFaultLogRead q first count s = .next res → res.pending = s.pending := by
  intro res h; simp only [execFaultLogRead] at h; cases h; simp
@[simp] theorem execFenceSdp_pending (port : Fin 4) (hb1 : Byte) (data : List Byte) (s : State) : ∀ res, execFenceSdp port hb1 data s = .next res → res.pending = s.pending := by
  intro res h
  unfold execFenceSdp at h
  repeat' (first | (have h := Host.Outcome.next.inj h; subst h; clear h) | (have h := Host.Outcome.next.inj h; subst h) | (simp only [reduceCtorEq] at h; done) | split at h | dsimp only at h | (cases h; done) | (obtain ⟨rfl⟩ := h))
  all_goals (repeat' (first | with_reducible rfl | with_reducible assumption | ((try lift_lets); intro zz; first | ((have hz : State.pending zz = State.pending s := by (dsimp only [zz]; repeat' (first | with_reducible rfl | with_reducible assumption | (obtain ⟨rfl, rfl⟩ := Prod.ext_iff.mp ‹_ = (_, _)›) | (obtain ⟨rfl, -⟩ := Prod.ext_iff.mp ‹_ = (_, _)›) | split | (with_reducible refine (foldl_pending _ _ (fun s x => ?_) _).trans ?_) | (simp only [*]; done) | dsimp only | (simp [*]; done)))); clear_value zz) | clear_value zz) | (obtain ⟨rfl, rfl⟩ := Prod.ext_iff.mp ‹_ = (_, _)›) | (obtain ⟨rfl, -⟩ := Prod.ext_iff.mp ‹_ = (_, _)›) | split | (with_reducible refine (foldl_pending _ _ (fun s x => ?_) _).trans ?_) | (simp only [*]; done) | (simp [*]; done)))
@[simp] theorem execFenceSignal_pending (q : Req) (fence : Half) (s : State) : ∀ res, execFenceSignal q fence s = .next res → res.pending = s.pending := by
  intro res h; simp only [execFenceSignal] at h; cases h; simp
@[simp] theorem execFillComplete_pending (pipe : Fin 80) (s : State) : ∀ res, execFillComplete pipe s = .next res → res.pending = s.pending := by
  intro res h
  unfold execFillComplete at h
  repeat' (first | (have h := Host.Outcome.next.inj h; subst h; clear h) | (have h := Host.Outcome.next.inj h; subst h) | (simp only [reduceCtorEq] at h; done) | split at h | dsimp only at h | (cases h; done) | (obtain ⟨rfl⟩ := h))
  all_goals (repeat' (first | with_reducible rfl | with_reducible assumption | ((try lift_lets); intro zz; first | ((have hz : State.pending zz = State.pending s := by (dsimp only [zz]; repeat' (first | with_reducible rfl | with_reducible assumption | (obtain ⟨rfl, rfl⟩ := Prod.ext_iff.mp ‹_ = (_, _)›) | (obtain ⟨rfl, -⟩ := Prod.ext_iff.mp ‹_ = (_, _)›) | split | (with_reducible refine (foldl_pending _ _ (fun s x => ?_) _).trans ?_) | (simp only [*]; done) | dsimp only | (simp [*]; done)))); clear_value zz) | clear_value zz) | (obtain ⟨rfl, rfl⟩ := Prod.ext_iff.mp ‹_ = (_, _)›) | (obtain ⟨rfl, -⟩ := Prod.ext_iff.mp ‹_ = (_, _)›) | split | (with_reducible refine (foldl_pending _ _ (fun s x => ?_) _).trans ?_) | (simp only [*]; done) | (simp [*]; done)))
@[simp] theorem loadLinks_pending (s : State) (c : List Byte) : (loadLinks s c).pending = s.pending := by
  unfold loadLinks; repeat' (first | with_reducible rfl | (simp; done) | split | dsimp only)
@[simp] theorem loadOverlays_pending (s : State) : (loadOverlays s).pending = s.pending := by
  unfold loadOverlays
  repeat' (first | with_reducible rfl | with_reducible assumption | ((try lift_lets); intro zz; first | ((have hz : State.pending zz = State.pending s := by (dsimp only [zz]; repeat' (first | with_reducible rfl | with_reducible assumption | (obtain ⟨rfl, rfl⟩ := Prod.ext_iff.mp ‹_ = (_, _)›) | (obtain ⟨rfl, -⟩ := Prod.ext_iff.mp ‹_ = (_, _)›) | split | (with_reducible refine (foldl_pending _ _ (fun s x => ?_) _).trans ?_) | (simp only [*]; done) | dsimp only | (simp [*]; done)))); clear_value zz) | clear_value zz) | (obtain ⟨rfl, rfl⟩ := Prod.ext_iff.mp ‹_ = (_, _)›) | (obtain ⟨rfl, -⟩ := Prod.ext_iff.mp ‹_ = (_, _)›) | split | (with_reducible refine (foldl_pending _ _ (fun s x => ?_) _).trans ?_) | (simp only [*]; done) | (simp [*]; done))
@[simp] theorem loadPrs_pending (s : State) : (loadPrs s).pending = s.pending := by simp [loadPrs]
@[simp] theorem loadVitrine_pending (s : State) (c : List Byte) : (loadVitrine s c).pending = s.pending := by
  unfold loadVitrine; repeat' (first | with_reducible rfl | (simp; done) | split | dsimp only)
@[simp] theorem settleTie_pending (s : State) (region : ℕ) (ring : ℕ) (t : Option (ℕ × ℕ)) : (settleTie s region ring t).pending = s.pending := by
  unfold settleTie; repeat' (first | with_reducible rfl | (simp; done) | split | dsimp only)
@[simp] theorem recoverImages_pending (s : State) : (recoverImages s).pending = s.pending := by simp [recoverImages]
@[simp] theorem recoverRecord_pending (s : State) (r : ℕ) (body : List Byte) : (recoverRecord s r body).pending = s.pending := by
  unfold recoverRecord; repeat' (first | with_reducible rfl | (simp; done) | split | dsimp only)
@[simp] theorem recoverOpen_pending (s : State) : (recoverOpen s).pending = s.pending := by
  unfold recoverOpen
  split
  · rfl
  · rename_i e h
    generalize journalOf e.2 = j
    obtain ⟨op, phase, first, count, item⟩ := j
    dsimp only
    split
    · rfl
    · simp only [raise_pending, setLedger_pending, recoverRecord_pending]
      split
      · simp
      · split
        · split <;> simp
        · simp
@[simp] theorem noRecord_pending (s : State) (r : ℕ) : (noRecord s r).pending = s.pending := by simp [noRecord]
@[simp] theorem recoverRings_pending (s : State) : (recoverRings s).pending = s.pending := by simp [recoverRings]
@[simp] theorem recover_pending (s : State) : (recover s).pending = s.pending := by simp [recover]
@[simp] theorem execFlashLoadComplete_pending (copy0 : List Byte) (copy1 : List Byte) (s : State) : ∀ res, execFlashLoadComplete copy0 copy1 s = .next res → res.pending = s.pending := by
  intro res h
  unfold execFlashLoadComplete at h
  repeat' (first | (have h := Host.Outcome.next.inj h; subst h; clear h) | (have h := Host.Outcome.next.inj h; subst h) | (simp only [reduceCtorEq] at h; done) | split at h | dsimp only at h | (cases h; done) | (obtain ⟨rfl⟩ := h))
  all_goals (repeat' (first | with_reducible rfl | with_reducible assumption | ((try lift_lets); intro zz; first | ((have hz : State.pending zz = State.pending s := by (dsimp only [zz]; repeat' (first | with_reducible rfl | with_reducible assumption | (obtain ⟨rfl, rfl⟩ := Prod.ext_iff.mp ‹_ = (_, _)›) | (obtain ⟨rfl, -⟩ := Prod.ext_iff.mp ‹_ = (_, _)›) | split | (with_reducible refine (foldl_pending _ _ (fun s x => ?_) _).trans ?_) | (simp only [*]; done) | dsimp only | (simp [*]; done)))); clear_value zz) | clear_value zz) | (obtain ⟨rfl, rfl⟩ := Prod.ext_iff.mp ‹_ = (_, _)›) | (obtain ⟨rfl, -⟩ := Prod.ext_iff.mp ‹_ = (_, _)›) | split | (with_reducible refine (foldl_pending _ _ (fun s x => ?_) _).trans ?_) | (simp only [*]; done) | (simp [*]; done)))
@[simp] theorem execFlashLoadRetry_pending (s : State) : ∀ res, execFlashLoadRetry s = .next res → res.pending = s.pending := by
  intro res h
  unfold execFlashLoadRetry at h
  repeat' (first | (have h := Host.Outcome.next.inj h; subst h; clear h) | (have h := Host.Outcome.next.inj h; subst h) | (simp only [reduceCtorEq] at h; done) | split at h | dsimp only at h | (cases h; done) | (obtain ⟨rfl⟩ := h))
  all_goals (repeat' (first | with_reducible rfl | with_reducible assumption | ((try lift_lets); intro zz; first | ((have hz : State.pending zz = State.pending s := by (dsimp only [zz]; repeat' (first | with_reducible rfl | with_reducible assumption | (obtain ⟨rfl, rfl⟩ := Prod.ext_iff.mp ‹_ = (_, _)›) | (obtain ⟨rfl, -⟩ := Prod.ext_iff.mp ‹_ = (_, _)›) | split | (with_reducible refine (foldl_pending _ _ (fun s x => ?_) _).trans ?_) | (simp only [*]; done) | dsimp only | (simp [*]; done)))); clear_value zz) | clear_value zz) | (obtain ⟨rfl, rfl⟩ := Prod.ext_iff.mp ‹_ = (_, _)›) | (obtain ⟨rfl, -⟩ := Prod.ext_iff.mp ‹_ = (_, _)›) | split | (with_reducible refine (foldl_pending _ _ (fun s x => ?_) _).trans ?_) | (simp only [*]; done) | (simp [*]; done)))
@[simp] theorem execFlip_pending (q : Req) (layer : UnitRef) (fence : Half) (surf : W64) (s : State) : ∀ res, execFlip q layer fence surf s = .next res → res.pending = s.pending := by
  intro res h; simp only [execFlip] at h; cases h; simp
@[simp] theorem execFsyncPulse_pending (n : Fin 8) (high : Bool) (s : State) : ∀ res, execFsyncPulse n high s = .next res → res.pending = s.pending := by
  intro res h
  unfold execFsyncPulse at h
  repeat' (first | (have h := Host.Outcome.next.inj h; subst h; clear h) | (have h := Host.Outcome.next.inj h; subst h) | (simp only [reduceCtorEq] at h; done) | split at h | dsimp only at h | (cases h; done) | (obtain ⟨rfl⟩ := h))
  all_goals (repeat' (first | with_reducible rfl | with_reducible assumption | ((try lift_lets); intro zz; first | ((have hz : State.pending zz = State.pending s := by (dsimp only [zz]; repeat' (first | with_reducible rfl | with_reducible assumption | (obtain ⟨rfl, rfl⟩ := Prod.ext_iff.mp ‹_ = (_, _)›) | (obtain ⟨rfl, -⟩ := Prod.ext_iff.mp ‹_ = (_, _)›) | split | (with_reducible refine (foldl_pending _ _ (fun s x => ?_) _).trans ?_) | (simp only [*]; done) | dsimp only | (simp [*]; done)))); clear_value zz) | clear_value zz) | (obtain ⟨rfl, rfl⟩ := Prod.ext_iff.mp ‹_ = (_, _)›) | (obtain ⟨rfl, -⟩ := Prod.ext_iff.mp ‹_ = (_, _)›) | split | (with_reducible refine (foldl_pending _ _ (fun s x => ?_) _).trans ?_) | (simp only [*]; done) | (simp [*]; done)))
@[simp] theorem execFsyncRealign_pending (q : Req) (mask : Byte) (s : State) : ∀ res, execFsyncRealign q mask s = .next res → res.pending = s.pending := by
  intro res h; simp only [execFsyncRealign] at h; cases h; simp
@[simp] theorem fillOutputs_pending (s : State) (w : Wing) : (fillOutputs s w).pending = s.pending := by simp [fillOutputs]
@[simp] theorem noTakeover_pending (s : State) (w : Wing) (cause : ℕ) (why : ℕ) : (noTakeover s w cause why).pending = s.pending := by simp [noTakeover]
@[simp] theorem giveUp_pending (s : State) (w : Wing) (cause : ℕ) (both : Bool) : (giveUp s w cause both).pending = s.pending := by simp [giveUp]
@[simp] theorem execGiveUp_pending (w : Wing) (both : Bool) (s : State) : ∀ res, execGiveUp w both s = .next res → res.pending = s.pending := by
  intro res h
  unfold execGiveUp at h
  repeat' (first | (have h := Host.Outcome.next.inj h; subst h; clear h) | (have h := Host.Outcome.next.inj h; subst h) | (simp only [reduceCtorEq] at h; done) | split at h | dsimp only at h | (cases h; done) | (obtain ⟨rfl⟩ := h))
  all_goals (repeat' (first | with_reducible rfl | with_reducible assumption | ((try lift_lets); intro zz; first | ((have hz : State.pending zz = State.pending s := by (dsimp only [zz]; repeat' (first | with_reducible rfl | with_reducible assumption | (obtain ⟨rfl, rfl⟩ := Prod.ext_iff.mp ‹_ = (_, _)›) | (obtain ⟨rfl, -⟩ := Prod.ext_iff.mp ‹_ = (_, _)›) | split | (with_reducible refine (foldl_pending _ _ (fun s x => ?_) _).trans ?_) | (simp only [*]; done) | dsimp only | (simp [*]; done)))); clear_value zz) | clear_value zz) | (obtain ⟨rfl, rfl⟩ := Prod.ext_iff.mp ‹_ = (_, _)›) | (obtain ⟨rfl, -⟩ := Prod.ext_iff.mp ‹_ = (_, _)›) | split | (with_reducible refine (foldl_pending _ _ (fun s x => ?_) _).trans ?_) | (simp only [*]; done) | (simp [*]; done)))
@[simp] theorem execGroupFlip_pending (q : Req) (fence : Half) (entries : List FlipEntry) (s : State) : ∀ res, execGroupFlip q fence entries s = .next res → res.pending = s.pending := by
  intro res h; simp only [execGroupFlip] at h; cases h; simp
@[simp] theorem execHealthReport_pending (q : Req) (wing : Byte) (s : State) : ∀ res, execHealthReport q wing s = .next res → res.pending = s.pending := by
  intro res h; simp only [execHealthReport] at h; cases h; simp
@[simp] theorem execHeartbeatSend_pending (port : Fin 24) (s : State) : ∀ res, execHeartbeatSend port s = .next res → res.pending = s.pending := by
  intro res h
  unfold execHeartbeatSend at h
  repeat' (first | (have h := Host.Outcome.next.inj h; subst h; clear h) | (have h := Host.Outcome.next.inj h; subst h) | (simp only [reduceCtorEq] at h; done) | split at h | dsimp only at h | (cases h; done) | (obtain ⟨rfl⟩ := h))
  all_goals (repeat' (first | with_reducible rfl | with_reducible assumption | ((try lift_lets); intro zz; first | ((have hz : State.pending zz = State.pending s := by (dsimp only [zz]; repeat' (first | with_reducible rfl | with_reducible assumption | (obtain ⟨rfl, rfl⟩ := Prod.ext_iff.mp ‹_ = (_, _)›) | (obtain ⟨rfl, -⟩ := Prod.ext_iff.mp ‹_ = (_, _)›) | split | (with_reducible refine (foldl_pending _ _ (fun s x => ?_) _).trans ?_) | (simp only [*]; done) | dsimp only | (simp [*]; done)))); clear_value zz) | clear_value zz) | (obtain ⟨rfl, rfl⟩ := Prod.ext_iff.mp ‹_ = (_, _)›) | (obtain ⟨rfl, -⟩ := Prod.ext_iff.mp ‹_ = (_, _)›) | split | (with_reducible refine (foldl_pending _ _ (fun s x => ?_) _).trans ?_) | (simp only [*]; done) | (simp [*]; done)))
@[simp] theorem heartbeatLost_pending (s : State) (n : ℕ) : (heartbeatLost s n).pending = s.pending := by simp [heartbeatLost]
@[simp] theorem execHeartbeatTimeout_pending (port : Fin 24) (s : State) : ∀ res, execHeartbeatTimeout port s = .next res → res.pending = s.pending := by
  intro res h
  unfold execHeartbeatTimeout at h
  repeat' (first | (have h := Host.Outcome.next.inj h; subst h; clear h) | (have h := Host.Outcome.next.inj h; subst h) | (simp only [reduceCtorEq] at h; done) | split at h | dsimp only at h | (cases h; done) | (obtain ⟨rfl⟩ := h))
  all_goals (repeat' (first | with_reducible rfl | with_reducible assumption | ((try lift_lets); intro zz; first | ((have hz : State.pending zz = State.pending s := by (dsimp only [zz]; repeat' (first | with_reducible rfl | with_reducible assumption | (obtain ⟨rfl, rfl⟩ := Prod.ext_iff.mp ‹_ = (_, _)›) | (obtain ⟨rfl, -⟩ := Prod.ext_iff.mp ‹_ = (_, _)›) | split | (with_reducible refine (foldl_pending _ _ (fun s x => ?_) _).trans ?_) | (simp only [*]; done) | dsimp only | (simp [*]; done)))); clear_value zz) | clear_value zz) | (obtain ⟨rfl, rfl⟩ := Prod.ext_iff.mp ‹_ = (_, _)›) | (obtain ⟨rfl, -⟩ := Prod.ext_iff.mp ‹_ = (_, _)›) | split | (with_reducible refine (foldl_pending _ _ (fun s x => ?_) _).trans ?_) | (simp only [*]; done) | (simp [*]; done)))
@[simp] theorem execHoldoverIntervalRecord_pending (avg : ℤ) (s : State) : ∀ res, execHoldoverIntervalRecord avg s = .next res → res.pending = s.pending := by
  intro res h
  unfold execHoldoverIntervalRecord at h
  repeat' (first | (have h := Host.Outcome.next.inj h; subst h; clear h) | (have h := Host.Outcome.next.inj h; subst h) | (simp only [reduceCtorEq] at h; done) | split at h | dsimp only at h | (cases h; done) | (obtain ⟨rfl⟩ := h))
  all_goals (repeat' (first | with_reducible rfl | with_reducible assumption | ((try lift_lets); intro zz; first | ((have hz : State.pending zz = State.pending s := by (dsimp only [zz]; repeat' (first | with_reducible rfl | with_reducible assumption | (obtain ⟨rfl, rfl⟩ := Prod.ext_iff.mp ‹_ = (_, _)›) | (obtain ⟨rfl, -⟩ := Prod.ext_iff.mp ‹_ = (_, _)›) | split | (with_reducible refine (foldl_pending _ _ (fun s x => ?_) _).trans ?_) | (simp only [*]; done) | dsimp only | (simp [*]; done)))); clear_value zz) | clear_value zz) | (obtain ⟨rfl, rfl⟩ := Prod.ext_iff.mp ‹_ = (_, _)›) | (obtain ⟨rfl, -⟩ := Prod.ext_iff.mp ‹_ = (_, _)›) | split | (with_reducible refine (foldl_pending _ _ (fun s x => ?_) _).trans ?_) | (simp only [*]; done) | (simp [*]; done)))
@[simp] theorem execIdentify_pending (q : Req) (s : State) : ∀ res, execIdentify q s = .next res → res.pending = s.pending := by
  intro res h; simp only [execIdentify] at h; cases h; simp
@[simp] theorem execImageClose_pending (q : Req) (action : Byte) (s : State) : ∀ res, execImageClose q action s = .next res → res.pending = s.pending := by
  intro res h; simp only [execImageClose] at h; cases h; simp
@[simp] theorem execImageCloseComplete_pending (s : State) : ∀ res, execImageCloseComplete s = .next res → res.pending = s.pending := by
  intro res h
  unfold execImageCloseComplete at h
  repeat' (first | (have h := Host.Outcome.next.inj h; subst h; clear h) | (have h := Host.Outcome.next.inj h; subst h) | (simp only [reduceCtorEq] at h; done) | split at h | dsimp only at h | (cases h; done) | (obtain ⟨rfl⟩ := h))
  all_goals (repeat' (first | with_reducible rfl | with_reducible assumption | ((try lift_lets); intro zz; first | ((have hz : State.pending zz = State.pending s := by (dsimp only [zz]; repeat' (first | with_reducible rfl | with_reducible assumption | (obtain ⟨rfl, rfl⟩ := Prod.ext_iff.mp ‹_ = (_, _)›) | (obtain ⟨rfl, -⟩ := Prod.ext_iff.mp ‹_ = (_, _)›) | split | (with_reducible refine (foldl_pending _ _ (fun s x => ?_) _).trans ?_) | (simp only [*]; done) | dsimp only | (simp [*]; done)))); clear_value zz) | clear_value zz) | (obtain ⟨rfl, rfl⟩ := Prod.ext_iff.mp ‹_ = (_, _)›) | (obtain ⟨rfl, -⟩ := Prod.ext_iff.mp ‹_ = (_, _)›) | split | (with_reducible refine (foldl_pending _ _ (fun s x => ?_) _).trans ?_) | (simp only [*]; done) | (simp [*]; done)))
@[simp] theorem execImageData_pending (q : Req) (offset : Word) (data : List Byte) (s : State) : ∀ res, execImageData q offset data s = .next res → res.pending = s.pending := by
  intro res h; simp only [execImageData] at h; cases h; simp
@[simp] theorem execImageOpen_pending (q : Req) (kind : Byte) (mode : Byte) (total : Word) (s : State) : ∀ res, execImageOpen q kind mode total s = .next res → res.pending = s.pending := by
  intro res h; simp only [execImageOpen] at h; cases h; simp
@[simp] theorem execImageStatus_pending (q : Req) (s : State) : ∀ res, execImageStatus q s = .next res → res.pending = s.pending := by
  intro res h; simp only [execImageStatus] at h; cases h; simp
@[simp] theorem jobCompare_pending (s : State) (w : Wing) (o : ℕ) (row : ℕ) (col : ℕ) (g1 : ℕ) (g2 : ℕ) (agree : Bool) (rerun : Option Bool) : (jobCompare s w o row col g1 g2 agree rerun).pending = s.pending := by
  unfold jobCompare; repeat' (first | with_reducible rfl | (simp; done) | split | dsimp only)
@[simp] theorem jobComplete_pending (s : State) (w : Wing) (o : ℕ) (row : ℕ) (col : ℕ) (agree : Bool) (rerun : Option Bool) (fails : List (ℕ × ℕ × Bool)) : (jobComplete s w o row col agree rerun fails).pending = s.pending := by
  simp [jobComplete]
@[simp] theorem execJobComplete_pending (w : Wing) (o : Fin 20) (row : ℕ) (col : ℕ) (fails lost : List (ℕ × ℕ)) (agree : Bool) (rerun : Option Bool) (s : State) : ∀ res, execJobComplete w o row col fails lost agree rerun s = .next res → res.pending = s.pending := by
  intro res h; simp only [execJobComplete] at h; cases h; simp
@[simp] theorem jobMiss_pending (s : State) (w : Wing) (o : ℕ) (row : ℕ) (col : ℕ) (late : Option ℕ) : (jobMiss s w o row col late).pending = s.pending := by
  unfold jobMiss; repeat' (first | with_reducible rfl | (simp; done) | split | dsimp only)
@[simp] theorem execJobDeadlineMiss_pending (w : Wing) (o : Fin 20) (row : ℕ) (col : ℕ) (late : Option (Fin 2)) (s : State) : ∀ res, execJobDeadlineMiss w o row col late s = .next res → res.pending = s.pending := by
  intro res h; simp only [execJobDeadlineMiss] at h; cases h; simp
@[simp] theorem launchOne_pending (s : State) (e : ℕ) (x : SchedEntry) (d : Due) (rej : Option Rej) (h : d.op.Keeps) :
    (launchOne s e x d rej).pending = s.pending := by
  unfold launchOne
  dsimp only
  have h0 : (if x.late = 0 then s else lateLaunch s e d.q x.late).pending = s.pending := by split <;> simp
  generalize (if x.late = 0 then s else lateLaunch s e d.q x.late) = s0 at h0 ⊢
  split
  · simp [h.failed, h.refused, h0]
  · repeat' (first | (simp [h, h0]; done) | split)
@[simp] theorem launchDue_pending (s : State) (time : Bool) : (launchDue s time).pending = s.pending := by
  unfold launchDue
  refine (foldl_pending _ _ (fun s x => ?_) _).trans rfl
  split
  · simp
  · rename_i d hd
    have hk : Op.Keeps d.op := dueOf_keeps _ _ hd
    dsimp only
    split
    · exact hk.waits _
    · exact (launchOne_pending _ _ _ { d with entry := some x.1 } _ hk).trans (by simp)
@[simp] theorem launchRounds_pending (x0 : ℕ) (s : State) : (launchRounds x0 s).pending = s.pending := by
  induction x0 generalizing s with
  | zero => rfl
  | succ n ih =>
    simp only [launchRounds]
    split
    · simp
    · rw [ih]; simp
@[simp] theorem launchSets_pending (s : State) : (launchSets s).pending = s.pending := by
  simp [launchSets]
@[simp] theorem execLaunch_pending (s : State) : ∀ res, execLaunch s = .next res → res.pending = s.pending := by
  intro res h
  unfold execLaunch at h
  repeat' (first | (have h := Host.Outcome.next.inj h; subst h; clear h) | (have h := Host.Outcome.next.inj h; subst h) | (simp only [reduceCtorEq] at h; done) | split at h | dsimp only at h | (cases h; done) | (obtain ⟨rfl⟩ := h))
  all_goals (repeat' (first | with_reducible rfl | with_reducible assumption | ((try lift_lets); intro zz; first | ((have hz : State.pending zz = State.pending s := by (dsimp only [zz]; repeat' (first | with_reducible rfl | with_reducible assumption | (obtain ⟨rfl, rfl⟩ := Prod.ext_iff.mp ‹_ = (_, _)›) | (obtain ⟨rfl, -⟩ := Prod.ext_iff.mp ‹_ = (_, _)›) | split | (with_reducible refine (foldl_pending _ _ (fun s x => ?_) _).trans ?_) | (simp only [*]; done) | dsimp only | (simp [*]; done)))); clear_value zz) | clear_value zz) | (obtain ⟨rfl, rfl⟩ := Prod.ext_iff.mp ‹_ = (_, _)›) | (obtain ⟨rfl, -⟩ := Prod.ext_iff.mp ‹_ = (_, _)›) | split | (with_reducible refine (foldl_pending _ _ (fun s x => ?_) _).trans ?_) | (simp only [*]; done) | (simp [*]; done)))
@[simp] theorem execLdgMaint_pending (q : Req) (action : Byte) (region : Byte) (page : Half) (s : State) : ∀ res, execLdgMaint q action region page s = .next res → res.pending = s.pending := by
  intro res h; simp only [execLdgMaint] at h; cases h; simp
@[simp] theorem execLdgMaintComplete_pending (s : State) : ∀ res, execLdgMaintComplete s = .next res → res.pending = s.pending := by
  intro res h
  unfold execLdgMaintComplete at h
  repeat' (first | (have h := Host.Outcome.next.inj h; subst h; clear h) | (have h := Host.Outcome.next.inj h; subst h) | (simp only [reduceCtorEq] at h; done) | split at h | dsimp only at h | (cases h; done) | (obtain ⟨rfl⟩ := h))
  all_goals (repeat' (first | with_reducible rfl | with_reducible assumption | ((try lift_lets); intro zz; first | ((have hz : State.pending zz = State.pending s := by (dsimp only [zz]; repeat' (first | with_reducible rfl | with_reducible assumption | (obtain ⟨rfl, rfl⟩ := Prod.ext_iff.mp ‹_ = (_, _)›) | (obtain ⟨rfl, -⟩ := Prod.ext_iff.mp ‹_ = (_, _)›) | split | (with_reducible refine (foldl_pending _ _ (fun s x => ?_) _).trans ?_) | (simp only [*]; done) | dsimp only | (simp [*]; done)))); clear_value zz) | clear_value zz) | (obtain ⟨rfl, rfl⟩ := Prod.ext_iff.mp ‹_ = (_, _)›) | (obtain ⟨rfl, -⟩ := Prod.ext_iff.mp ‹_ = (_, _)›) | split | (with_reducible refine (foldl_pending _ _ (fun s x => ?_) _).trans ?_) | (simp only [*]; done) | (simp [*]; done)))
@[simp] theorem programmed_pending (s : State) (r : LdgRun) (bad : List ℕ) : (programmed s r bad).pending = s.pending := by simp [programmed]
@[simp] theorem retireSlots_pending (s : State) (r : ℕ) (failed : List ℕ) : (retireSlots s r failed).pending = s.pending := by simp [retireSlots]
@[simp] theorem wearOut_pending (s : State) (p : ℕ) : (wearOut s p).pending = s.pending := by simp [wearOut]
@[simp] theorem programEnd_pending (s : State) (r : LdgRun) (failed : List ℕ) : (programEnd s r failed).pending = s.pending := by
  unfold programEnd; repeat' (first | with_reducible rfl | (simp; done) | split | dsimp only)
@[simp] theorem execLdgProgramComplete_pending (failed : List ℕ) (s : State) : ∀ res, execLdgProgramComplete failed s = .next res → res.pending = s.pending := by
  intro res h
  unfold execLdgProgramComplete at h
  repeat' (first | (have h := Host.Outcome.next.inj h; subst h; clear h) | (have h := Host.Outcome.next.inj h; subst h) | (simp only [reduceCtorEq] at h; done) | split at h | dsimp only at h | (cases h; done) | (obtain ⟨rfl⟩ := h))
  all_goals (repeat' (first | with_reducible rfl | with_reducible assumption | ((try lift_lets); intro zz; first | ((have hz : State.pending zz = State.pending s := by (dsimp only [zz]; repeat' (first | with_reducible rfl | with_reducible assumption | (obtain ⟨rfl, rfl⟩ := Prod.ext_iff.mp ‹_ = (_, _)›) | (obtain ⟨rfl, -⟩ := Prod.ext_iff.mp ‹_ = (_, _)›) | split | (with_reducible refine (foldl_pending _ _ (fun s x => ?_) _).trans ?_) | (simp only [*]; done) | dsimp only | (simp [*]; done)))); clear_value zz) | clear_value zz) | (obtain ⟨rfl, rfl⟩ := Prod.ext_iff.mp ‹_ = (_, _)›) | (obtain ⟨rfl, -⟩ := Prod.ext_iff.mp ‹_ = (_, _)›) | split | (with_reducible refine (foldl_pending _ _ (fun s x => ?_) _).trans ?_) | (simp only [*]; done) | (simp [*]; done)))
@[simp] theorem execLdgRead_pending (q : Req) (page : Half) (offset : Byte) (count : Half) (s : State) : ∀ res, execLdgRead q page offset count s = .next res → res.pending = s.pending := by
  intro res h; simp only [execLdgRead] at h; cases h; simp
@[simp] theorem execLdgWear_pending (q : Req) (first : Half) (count : Half) (s : State) : ∀ res, execLdgWear q first count s = .next res → res.pending = s.pending := by
  intro res h; simp only [execLdgWear] at h; cases h; simp
@[simp] theorem execLdgWrite_pending (q : Req) (page : Half) (offset : Byte) (data : List Byte) (s : State) : ∀ res, execLdgWrite q page offset data s = .next res → res.pending = s.pending := by
  intro res h; simp only [execLdgWrite] at h; cases h; simp
@[simp] theorem execLinkDown_pending (q : Req) (port : Byte) (force : Bool) (s : State) : ∀ res, execLinkDown q port force s = .next res → res.pending = s.pending := by
  intro res h; simp only [execLinkDown] at h; cases h; simp
@[simp] theorem execLinkLoop_pending (q : Req) (port : Byte) (loop : Byte) (pair : Byte) (s : State) : ∀ res, execLinkLoop q port loop pair s = .next res → res.pending = s.pending := by
  intro res h; simp only [execLinkLoop] at h; cases h; simp
@[simp] theorem execLinkPower_pending (q : Req) (port : Byte) (dir : Byte) (state : Byte) (s : State) : ∀ res, execLinkPower q port dir state s = .next res → res.pending = s.pending := by
  intro res h; simp only [execLinkPower] at h; cases h; simp
@[simp] theorem execLinkStatus_pending (q : Req) (port : Byte) (s : State) : ∀ res, execLinkStatus q port s = .next res → res.pending = s.pending := by
  intro res h; simp only [execLinkStatus] at h; cases h; simp
@[simp] theorem execLinkUp_pending (q : Req) (port : Byte) (role : Byte) (step : Byte) (code : Byte) (s : State) : ∀ res, execLinkUp q port role step code s = .next res → res.pending = s.pending := by
  intro res h; simp only [execLinkUp] at h; cases h; simp
@[simp] theorem steerWord_pending (s : State) (syn : ℕ) (w : ℤ) : (steerWord s syn w).pending = s.pending := by simp [steerWord]
@[simp] theorem lockPoint_pending (s : State) (n : ℕ) (e : ℤ) : (lockPoint s n e).pending = s.pending := by
  unfold lockPoint
  repeat' (first | with_reducible rfl | with_reducible assumption | ((try lift_lets); intro zz; first | ((have hz : State.pending zz = State.pending s := by (dsimp only [zz]; repeat' (first | with_reducible rfl | with_reducible assumption | (obtain ⟨rfl, rfl⟩ := Prod.ext_iff.mp ‹_ = (_, _)›) | (obtain ⟨rfl, -⟩ := Prod.ext_iff.mp ‹_ = (_, _)›) | split | (with_reducible refine (foldl_pending _ _ (fun s x => ?_) _).trans ?_) | (simp only [*]; done) | dsimp only | (simp [*]; done)))); clear_value zz) | clear_value zz) | (obtain ⟨rfl, rfl⟩ := Prod.ext_iff.mp ‹_ = (_, _)›) | (obtain ⟨rfl, -⟩ := Prod.ext_iff.mp ‹_ = (_, _)›) | split | (with_reducible refine (foldl_pending _ _ (fun s x => ?_) _).trans ?_) | (simp only [*]; done) | (simp [*]; done))
@[simp] theorem execLockPoint_pending (o : Fin 20) (phase : Int) (s : State) : ∀ res, execLockPoint o phase s = .next res → res.pending = s.pending := by
  intro res h
  unfold execLockPoint at h
  repeat' (first | (have h := Host.Outcome.next.inj h; subst h; clear h) | (have h := Host.Outcome.next.inj h; subst h) | (simp only [reduceCtorEq] at h; done) | split at h | dsimp only at h | (cases h; done) | (obtain ⟨rfl⟩ := h))
  all_goals (repeat' (first | with_reducible rfl | with_reducible assumption | ((try lift_lets); intro zz; first | ((have hz : State.pending zz = State.pending s := by (dsimp only [zz]; repeat' (first | with_reducible rfl | with_reducible assumption | (obtain ⟨rfl, rfl⟩ := Prod.ext_iff.mp ‹_ = (_, _)›) | (obtain ⟨rfl, -⟩ := Prod.ext_iff.mp ‹_ = (_, _)›) | split | (with_reducible refine (foldl_pending _ _ (fun s x => ?_) _).trans ?_) | (simp only [*]; done) | dsimp only | (simp [*]; done)))); clear_value zz) | clear_value zz) | (obtain ⟨rfl, rfl⟩ := Prod.ext_iff.mp ‹_ = (_, _)›) | (obtain ⟨rfl, -⟩ := Prod.ext_iff.mp ‹_ = (_, _)›) | split | (with_reducible refine (foldl_pending _ _ (fun s x => ?_) _).trans ?_) | (simp only [*]; done) | (simp [*]; done)))
@[simp] theorem setPair_pending (s : State) (mgmt : Bool) (p : Pair) : (setPair s mgmt p).pending = s.pending := by simp [setPair]
theorem execLockstepMismatch_pending (m : Bool) (s : State) : ∀ res, execLockstepMismatch m s = .next res → res.pending = s.pending := by
  intro res h
  unfold execLockstepMismatch at h
  dsimp only at h
  split at h
  · have h := Host.Outcome.next.inj h; subst h; rfl
  · have h := Host.Outcome.next.inj h
    subst h
    rw [heldOrSettle_pending]
    cases m <;> cases secondMismatch s (pairOf s _) <;> simp
@[simp] theorem execMarker_pending (port : Fin 24) (_lane : Fin 2) (count : Word) (corrected : ℕ) (uncorrectable : ℕ) (s : State) : ∀ res, execMarker port _lane count corrected uncorrectable s = .next res → res.pending = s.pending := by
  intro res h
  unfold execMarker at h
  repeat' (first | (have h := Host.Outcome.next.inj h; subst h; clear h) | (have h := Host.Outcome.next.inj h; subst h) | (simp only [reduceCtorEq] at h; done) | split at h | dsimp only at h | (cases h; done) | (obtain ⟨rfl⟩ := h))
  all_goals (repeat' (first | with_reducible rfl | with_reducible assumption | ((try lift_lets); intro zz; first | ((have hz : State.pending zz = State.pending s := by (dsimp only [zz]; repeat' (first | with_reducible rfl | with_reducible assumption | (obtain ⟨rfl, rfl⟩ := Prod.ext_iff.mp ‹_ = (_, _)›) | (obtain ⟨rfl, -⟩ := Prod.ext_iff.mp ‹_ = (_, _)›) | split | (with_reducible refine (foldl_pending _ _ (fun s x => ?_) _).trans ?_) | (simp only [*]; done) | dsimp only | (simp [*]; done)))); clear_value zz) | clear_value zz) | (obtain ⟨rfl, rfl⟩ := Prod.ext_iff.mp ‹_ = (_, _)›) | (obtain ⟨rfl, -⟩ := Prod.ext_iff.mp ‹_ = (_, _)›) | split | (with_reducible refine (foldl_pending _ _ (fun s x => ?_) _).trans ?_) | (simp only [*]; done) | (simp [*]; done)))
@[simp] theorem execMeasurementComplete_pending (readings : List (Option Half)) (s : State) : ∀ res, execMeasurementComplete readings s = .next res → res.pending = s.pending := by
  intro res h
  unfold execMeasurementComplete at h
  repeat' (first | (have h := Host.Outcome.next.inj h; subst h; clear h) | (have h := Host.Outcome.next.inj h; subst h) | (simp only [reduceCtorEq] at h; done) | split at h | dsimp only at h | (cases h; done) | (obtain ⟨rfl⟩ := h))
  all_goals (repeat' (first | with_reducible rfl | with_reducible assumption | ((try lift_lets); intro zz; first | ((have hz : State.pending zz = State.pending s := by (dsimp only [zz]; repeat' (first | with_reducible rfl | with_reducible assumption | (obtain ⟨rfl, rfl⟩ := Prod.ext_iff.mp ‹_ = (_, _)›) | (obtain ⟨rfl, -⟩ := Prod.ext_iff.mp ‹_ = (_, _)›) | split | (with_reducible refine (foldl_pending _ _ (fun s x => ?_) _).trans ?_) | (simp only [*]; done) | dsimp only | (simp [*]; done)))); clear_value zz) | clear_value zz) | (obtain ⟨rfl, rfl⟩ := Prod.ext_iff.mp ‹_ = (_, _)›) | (obtain ⟨rfl, -⟩ := Prod.ext_iff.mp ‹_ = (_, _)›) | split | (with_reducible refine (foldl_pending _ _ (fun s x => ?_) _).trans ?_) | (simp only [*]; done) | (simp [*]; done)))
@[simp] theorem memFailed_pending (s : State) (w : Wing) : (memFailed s w).pending = s.pending := by simp [memFailed]
@[simp] theorem execMemoryTrainingComplete_pending (port : Fin 4) (trained : Bool) (gib : ℕ) (s : State) : ∀ res, execMemoryTrainingComplete port trained gib s = .next res → res.pending = s.pending := by
  intro res h
  unfold execMemoryTrainingComplete at h
  repeat' (first | (have h := Host.Outcome.next.inj h; subst h; clear h) | (have h := Host.Outcome.next.inj h; subst h) | (simp only [reduceCtorEq] at h; done) | split at h | dsimp only at h | (cases h; done) | (obtain ⟨rfl⟩ := h))
  all_goals (repeat' (first | with_reducible rfl | with_reducible assumption | ((try lift_lets); intro zz; first | ((have hz : State.pending zz = State.pending s := by (dsimp only [zz]; repeat' (first | with_reducible rfl | with_reducible assumption | (obtain ⟨rfl, rfl⟩ := Prod.ext_iff.mp ‹_ = (_, _)›) | (obtain ⟨rfl, -⟩ := Prod.ext_iff.mp ‹_ = (_, _)›) | split | (with_reducible refine (foldl_pending _ _ (fun s x => ?_) _).trans ?_) | (simp only [*]; done) | dsimp only | (simp [*]; done)))); clear_value zz) | clear_value zz) | (obtain ⟨rfl, rfl⟩ := Prod.ext_iff.mp ‹_ = (_, _)›) | (obtain ⟨rfl, -⟩ := Prod.ext_iff.mp ‹_ = (_, _)›) | split | (with_reducible refine (foldl_pending _ _ (fun s x => ?_) _).trans ?_) | (simp only [*]; done) | (simp [*]; done)))
@[simp] theorem execMeshCommit_pending (q : Req) (meshes : List UnitRef) (s : State) : ∀ res, execMeshCommit q meshes s = .next res → res.pending = s.pending := by
  intro res h; simp only [execMeshCommit] at h; cases h; simp
@[simp] theorem execMeshData_pending (q : Req) (mesh : UnitRef) (first : Word) (entries : List Word) (s : State) : ∀ res, execMeshData q mesh first entries s = .next res → res.pending = s.pending := by
  intro res h; simp only [execMeshData] at h; cases h; simp
@[simp] theorem execMeshFromCapture_pending (q : Req) (mesh : UnitRef) (pipe : UnitRef) (first : Word) (count : Word) (every : Bool) (commit : Bool) (s : State) : ∀ res, execMeshFromCapture q mesh pipe first count every commit s = .next res → res.pending = s.pending := by
  intro res h; simp only [execMeshFromCapture] at h; cases h; simp
@[simp] theorem execModeCancel_pending (q : Req) (s : State) : ∀ res, execModeCancel q s = .next res → res.pending = s.pending := by
  intro res h; simp only [execModeCancel] at h; cases h; simp
@[simp] theorem execModeChange_pending (q : Req) (target : Byte) (trigger : Byte) (output : Byte) (s : State) : ∀ res, execModeChange q target trigger output s = .next res → res.pending = s.pending := by
  intro res h; simp only [execModeChange] at h; cases h; simp
@[simp] theorem execModeWakeWaitEnd_pending (s : State) : ∀ res, execModeWakeWaitEnd s = .next res → res.pending = s.pending := by
  intro res h
  unfold execModeWakeWaitEnd at h
  repeat' (first | (have h := Host.Outcome.next.inj h; subst h; clear h) | (have h := Host.Outcome.next.inj h; subst h) | (simp only [reduceCtorEq] at h; done) | split at h | dsimp only at h | (cases h; done) | (obtain ⟨rfl⟩ := h))
  all_goals (repeat' (first | with_reducible rfl | with_reducible assumption | ((try lift_lets); intro zz; first | ((have hz : State.pending zz = State.pending s := by (dsimp only [zz]; repeat' (first | with_reducible rfl | with_reducible assumption | (obtain ⟨rfl, rfl⟩ := Prod.ext_iff.mp ‹_ = (_, _)›) | (obtain ⟨rfl, -⟩ := Prod.ext_iff.mp ‹_ = (_, _)›) | split | (with_reducible refine (foldl_pending _ _ (fun s x => ?_) _).trans ?_) | (simp only [*]; done) | dsimp only | (simp [*]; done)))); clear_value zz) | clear_value zz) | (obtain ⟨rfl, rfl⟩ := Prod.ext_iff.mp ‹_ = (_, _)›) | (obtain ⟨rfl, -⟩ := Prod.ext_iff.mp ‹_ = (_, _)›) | split | (with_reducible refine (foldl_pending _ _ (fun s x => ?_) _).trans ?_) | (simp only [*]; done) | (simp [*]; done)))
@[simp] theorem execMr4RefreshPoll_pending (port : Fin 4) (code : Byte) (hot : Bool) (s : State) : ∀ res, execMr4RefreshPoll port code hot s = .next res → res.pending = s.pending := by
  intro res h
  unfold execMr4RefreshPoll at h
  repeat' (first | (have h := Host.Outcome.next.inj h; subst h; clear h) | (have h := Host.Outcome.next.inj h; subst h) | (simp only [reduceCtorEq] at h; done) | split at h | dsimp only at h | (cases h; done) | (obtain ⟨rfl⟩ := h))
  all_goals (repeat' (first | with_reducible rfl | with_reducible assumption | ((try lift_lets); intro zz; first | ((have hz : State.pending zz = State.pending s := by (dsimp only [zz]; repeat' (first | with_reducible rfl | with_reducible assumption | (obtain ⟨rfl, rfl⟩ := Prod.ext_iff.mp ‹_ = (_, _)›) | (obtain ⟨rfl, -⟩ := Prod.ext_iff.mp ‹_ = (_, _)›) | split | (with_reducible refine (foldl_pending _ _ (fun s x => ?_) _).trans ?_) | (simp only [*]; done) | dsimp only | (simp [*]; done)))); clear_value zz) | clear_value zz) | (obtain ⟨rfl, rfl⟩ := Prod.ext_iff.mp ‹_ = (_, _)›) | (obtain ⟨rfl, -⟩ := Prod.ext_iff.mp ‹_ = (_, _)›) | split | (with_reducible refine (foldl_pending _ _ (fun s x => ?_) _).trans ?_) | (simp only [*]; done) | (simp [*]; done)))
@[simp] theorem execMsa_pending (port : Fin 4) (sub : Fin 4) (m : MsaData) (s : State) : ∀ res, execMsa port sub m s = .next res → res.pending = s.pending := by
  intro res h
  unfold execMsa at h
  repeat' (first | (have h := Host.Outcome.next.inj h; subst h; clear h) | (have h := Host.Outcome.next.inj h; subst h) | (simp only [reduceCtorEq] at h; done) | split at h | dsimp only at h | (cases h; done) | (obtain ⟨rfl⟩ := h))
  all_goals (repeat' (first | with_reducible rfl | with_reducible assumption | ((try lift_lets); intro zz; first | ((have hz : State.pending zz = State.pending s := by (dsimp only [zz]; repeat' (first | with_reducible rfl | with_reducible assumption | (obtain ⟨rfl, rfl⟩ := Prod.ext_iff.mp ‹_ = (_, _)›) | (obtain ⟨rfl, -⟩ := Prod.ext_iff.mp ‹_ = (_, _)›) | split | (with_reducible refine (foldl_pending _ _ (fun s x => ?_) _).trans ?_) | (simp only [*]; done) | dsimp only | (simp [*]; done)))); clear_value zz) | clear_value zz) | (obtain ⟨rfl, rfl⟩ := Prod.ext_iff.mp ‹_ = (_, _)›) | (obtain ⟨rfl, -⟩ := Prod.ext_iff.mp ‹_ = (_, _)›) | split | (with_reducible refine (foldl_pending _ _ (fun s x => ?_) _).trans ?_) | (simp only [*]; done) | (simp [*]; done)))
@[simp] theorem execNop_pending (q : Req) (s : State) : ∀ res, execNop q s = .next res → res.pending = s.pending := by
  intro res h; simp only [execNop] at h; cases h; simp
@[simp] theorem execOutputAssign_pending (q : Req) (output : Byte) (wing : Byte) (s : State) : ∀ res, execOutputAssign q output wing s = .next res → res.pending = s.pending := by
  intro res h; simp only [execOutputAssign] at h; cases h; simp
@[simp] theorem gapEnd_pending (s : State) (o : ℕ) : (gapEnd s o).pending = s.pending := by
  unfold gapEnd; repeat' (first | with_reducible rfl | (simp; done) | split | dsimp only)
@[simp] theorem vitMoved_pending (s : State) (o : ℕ) : (vitMoved s o).pending = s.pending := by simp [vitMoved]
@[simp] theorem lineBoundary_pending (s : State) (o : ℕ) (line : ℕ) : (lineBoundary s o line).pending = s.pending := by
  unfold lineBoundary; repeat' (first | with_reducible rfl | (simp; done) | split | dsimp only)
@[simp] theorem execOutputLineBoundary_pending (o : Fin 20) (line : ℕ) (s : State) : ∀ res, execOutputLineBoundary o line s = .next res → res.pending = s.pending := by
  intro res h
  unfold execOutputLineBoundary at h
  repeat' (first | (have h := Host.Outcome.next.inj h; subst h; clear h) | (have h := Host.Outcome.next.inj h; subst h) | (simp only [reduceCtorEq] at h; done) | split at h | dsimp only at h | (cases h; done) | (obtain ⟨rfl⟩ := h))
  all_goals (repeat' (first | with_reducible rfl | with_reducible assumption | ((try lift_lets); intro zz; first | ((have hz : State.pending zz = State.pending s := by (dsimp only [zz]; repeat' (first | with_reducible rfl | with_reducible assumption | (obtain ⟨rfl, rfl⟩ := Prod.ext_iff.mp ‹_ = (_, _)›) | (obtain ⟨rfl, -⟩ := Prod.ext_iff.mp ‹_ = (_, _)›) | split | (with_reducible refine (foldl_pending _ _ (fun s x => ?_) _).trans ?_) | (simp only [*]; done) | dsimp only | (simp [*]; done)))); clear_value zz) | clear_value zz) | (obtain ⟨rfl, rfl⟩ := Prod.ext_iff.mp ‹_ = (_, _)›) | (obtain ⟨rfl, -⟩ := Prod.ext_iff.mp ‹_ = (_, _)›) | split | (with_reducible refine (foldl_pending _ _ (fun s x => ?_) _).trans ?_) | (simp only [*]; done) | (simp [*]; done)))
@[simp] theorem execOutputStart_pending (q : Req) (output : Byte) (wing : Byte) (s : State) : ∀ res, execOutputStart q output wing s = .next res → res.pending = s.pending := by
  intro res h; simp only [execOutputStart] at h; cases h; simp
@[simp] theorem execOutputStartInstant_pending (o : Fin 20) (s : State) : ∀ res, execOutputStartInstant o s = .next res → res.pending = s.pending := by
  intro res h
  unfold execOutputStartInstant at h
  repeat' (first | (have h := Host.Outcome.next.inj h; subst h; clear h) | (have h := Host.Outcome.next.inj h; subst h) | (simp only [reduceCtorEq] at h; done) | split at h | dsimp only at h | (cases h; done) | (obtain ⟨rfl⟩ := h))
  all_goals (repeat' (first | with_reducible rfl | with_reducible assumption | ((try lift_lets); intro zz; first | ((have hz : State.pending zz = State.pending s := by (dsimp only [zz]; repeat' (first | with_reducible rfl | with_reducible assumption | (obtain ⟨rfl, rfl⟩ := Prod.ext_iff.mp ‹_ = (_, _)›) | (obtain ⟨rfl, -⟩ := Prod.ext_iff.mp ‹_ = (_, _)›) | split | (with_reducible refine (foldl_pending _ _ (fun s x => ?_) _).trans ?_) | (simp only [*]; done) | dsimp only | (simp [*]; done)))); clear_value zz) | clear_value zz) | (obtain ⟨rfl, rfl⟩ := Prod.ext_iff.mp ‹_ = (_, _)›) | (obtain ⟨rfl, -⟩ := Prod.ext_iff.mp ‹_ = (_, _)›) | split | (with_reducible refine (foldl_pending _ _ (fun s x => ?_) _).trans ?_) | (simp only [*]; done) | (simp [*]; done)))
@[simp] theorem execOutputStop_pending (q : Req) (output : Byte) (force : Bool) (s : State) : ∀ res, execOutputStop q output force s = .next res → res.pending = s.pending := by
  intro res h; simp only [execOutputStop] at h; cases h; simp
@[simp] theorem execOwners_pending (q : Req) (cls : Byte) (first : Byte) (count : Byte) (bank : Byte) (s : State) : ∀ res, execOwners q cls first count bank s = .next res → res.pending = s.pending := by
  intro res h; simp only [execOwners] at h; cases h; simp
@[simp] theorem execPairBackInService_pending (mgmt : Bool) (s : State) : ∀ res, execPairBackInService mgmt s = .next res → res.pending = s.pending := by
  intro res h
  unfold execPairBackInService at h
  repeat' (first | (have h := Host.Outcome.next.inj h; subst h; clear h) | (have h := Host.Outcome.next.inj h; subst h) | (simp only [reduceCtorEq] at h; done) | split at h | dsimp only at h | (cases h; done) | (obtain ⟨rfl⟩ := h))
  all_goals (repeat' (first | with_reducible rfl | with_reducible assumption | ((try lift_lets); intro zz; first | ((have hz : State.pending zz = State.pending s := by (dsimp only [zz]; repeat' (first | with_reducible rfl | with_reducible assumption | (obtain ⟨rfl, rfl⟩ := Prod.ext_iff.mp ‹_ = (_, _)›) | (obtain ⟨rfl, -⟩ := Prod.ext_iff.mp ‹_ = (_, _)›) | split | (with_reducible refine (foldl_pending _ _ (fun s x => ?_) _).trans ?_) | (simp only [*]; done) | dsimp only | (simp [*]; done)))); clear_value zz) | clear_value zz) | (obtain ⟨rfl, rfl⟩ := Prod.ext_iff.mp ‹_ = (_, _)›) | (obtain ⟨rfl, -⟩ := Prod.ext_iff.mp ‹_ = (_, _)›) | split | (with_reducible refine (foldl_pending _ _ (fun s x => ?_) _).trans ?_) | (simp only [*]; done) | (simp [*]; done)))
@[simp] theorem execPlkAlignTimeout_pending (port : Fin 24) (s : State) : ∀ res, execPlkAlignTimeout port s = .next res → res.pending = s.pending := by
  intro res h
  unfold execPlkAlignTimeout at h
  repeat' (first | (have h := Host.Outcome.next.inj h; subst h; clear h) | (have h := Host.Outcome.next.inj h; subst h) | (simp only [reduceCtorEq] at h; done) | split at h | dsimp only at h | (cases h; done) | (obtain ⟨rfl⟩ := h))
  all_goals (repeat' (first | with_reducible rfl | with_reducible assumption | ((try lift_lets); intro zz; first | ((have hz : State.pending zz = State.pending s := by (dsimp only [zz]; repeat' (first | with_reducible rfl | with_reducible assumption | (obtain ⟨rfl, rfl⟩ := Prod.ext_iff.mp ‹_ = (_, _)›) | (obtain ⟨rfl, -⟩ := Prod.ext_iff.mp ‹_ = (_, _)›) | split | (with_reducible refine (foldl_pending _ _ (fun s x => ?_) _).trans ?_) | (simp only [*]; done) | dsimp only | (simp [*]; done)))); clear_value zz) | clear_value zz) | (obtain ⟨rfl, rfl⟩ := Prod.ext_iff.mp ‹_ = (_, _)›) | (obtain ⟨rfl, -⟩ := Prod.ext_iff.mp ‹_ = (_, _)›) | split | (with_reducible refine (foldl_pending _ _ (fun s x => ?_) _).trans ?_) | (simp only [*]; done) | (simp [*]; done)))
@[simp] theorem execPlkClockLost_pending (port : Fin 24) (s : State) : ∀ res, execPlkClockLost port s = .next res → res.pending = s.pending := by
  intro res h
  unfold execPlkClockLost at h
  repeat' (first | (have h := Host.Outcome.next.inj h; subst h; clear h) | (have h := Host.Outcome.next.inj h; subst h) | (simp only [reduceCtorEq] at h; done) | split at h | dsimp only at h | (cases h; done) | (obtain ⟨rfl⟩ := h))
  all_goals (repeat' (first | with_reducible rfl | with_reducible assumption | ((try lift_lets); intro zz; first | ((have hz : State.pending zz = State.pending s := by (dsimp only [zz]; repeat' (first | with_reducible rfl | with_reducible assumption | (obtain ⟨rfl, rfl⟩ := Prod.ext_iff.mp ‹_ = (_, _)›) | (obtain ⟨rfl, -⟩ := Prod.ext_iff.mp ‹_ = (_, _)›) | split | (with_reducible refine (foldl_pending _ _ (fun s x => ?_) _).trans ?_) | (simp only [*]; done) | dsimp only | (simp [*]; done)))); clear_value zz) | clear_value zz) | (obtain ⟨rfl, rfl⟩ := Prod.ext_iff.mp ‹_ = (_, _)›) | (obtain ⟨rfl, -⟩ := Prod.ext_iff.mp ‹_ = (_, _)›) | split | (with_reducible refine (foldl_pending _ _ (fun s x => ?_) _).trans ?_) | (simp only [*]; done) | (simp [*]; done)))
@[simp] theorem execPlkDetectClock_pending (port : Fin 24) (s : State) : ∀ res, execPlkDetectClock port s = .next res → res.pending = s.pending := by
  intro res h
  unfold execPlkDetectClock at h
  repeat' (first | (have h := Host.Outcome.next.inj h; subst h; clear h) | (have h := Host.Outcome.next.inj h; subst h) | (simp only [reduceCtorEq] at h; done) | split at h | dsimp only at h | (cases h; done) | (obtain ⟨rfl⟩ := h))
  all_goals (repeat' (first | with_reducible rfl | with_reducible assumption | ((try lift_lets); intro zz; first | ((have hz : State.pending zz = State.pending s := by (dsimp only [zz]; repeat' (first | with_reducible rfl | with_reducible assumption | (obtain ⟨rfl, rfl⟩ := Prod.ext_iff.mp ‹_ = (_, _)›) | (obtain ⟨rfl, -⟩ := Prod.ext_iff.mp ‹_ = (_, _)›) | split | (with_reducible refine (foldl_pending _ _ (fun s x => ?_) _).trans ?_) | (simp only [*]; done) | dsimp only | (simp [*]; done)))); clear_value zz) | clear_value zz) | (obtain ⟨rfl, rfl⟩ := Prod.ext_iff.mp ‹_ = (_, _)›) | (obtain ⟨rfl, -⟩ := Prod.ext_iff.mp ‹_ = (_, _)›) | split | (with_reducible refine (foldl_pending _ _ (fun s x => ?_) _).trans ?_) | (simp only [*]; done) | (simp [*]; done)))
@[simp] theorem execPlkDrainTimeout_pending (port : Fin 24) (s : State) : ∀ res, execPlkDrainTimeout port s = .next res → res.pending = s.pending := by
  intro res h
  unfold execPlkDrainTimeout at h
  repeat' (first | (have h := Host.Outcome.next.inj h; subst h; clear h) | (have h := Host.Outcome.next.inj h; subst h) | (simp only [reduceCtorEq] at h; done) | split at h | dsimp only at h | (cases h; done) | (obtain ⟨rfl⟩ := h))
  all_goals (repeat' (first | with_reducible rfl | with_reducible assumption | ((try lift_lets); intro zz; first | ((have hz : State.pending zz = State.pending s := by (dsimp only [zz]; repeat' (first | with_reducible rfl | with_reducible assumption | (obtain ⟨rfl, rfl⟩ := Prod.ext_iff.mp ‹_ = (_, _)›) | (obtain ⟨rfl, -⟩ := Prod.ext_iff.mp ‹_ = (_, _)›) | split | (with_reducible refine (foldl_pending _ _ (fun s x => ?_) _).trans ?_) | (simp only [*]; done) | dsimp only | (simp [*]; done)))); clear_value zz) | clear_value zz) | (obtain ⟨rfl, rfl⟩ := Prod.ext_iff.mp ‹_ = (_, _)›) | (obtain ⟨rfl, -⟩ := Prod.ext_iff.mp ‹_ = (_, _)›) | split | (with_reducible refine (foldl_pending _ _ (fun s x => ?_) _).trans ?_) | (simp only [*]; done) | (simp [*]; done)))
@[simp] theorem execPlkErrorWindowEnd_pending (port : Fin 24) (invalid : ℕ) (s : State) : ∀ res, execPlkErrorWindowEnd port invalid s = .next res → res.pending = s.pending := by
  intro res h
  unfold execPlkErrorWindowEnd at h
  repeat' (first | (have h := Host.Outcome.next.inj h; subst h; clear h) | (have h := Host.Outcome.next.inj h; subst h) | (simp only [reduceCtorEq] at h; done) | split at h | dsimp only at h | (cases h; done) | (obtain ⟨rfl⟩ := h))
  all_goals (repeat' (first | with_reducible rfl | with_reducible assumption | ((try lift_lets); intro zz; first | ((have hz : State.pending zz = State.pending s := by (dsimp only [zz]; repeat' (first | with_reducible rfl | with_reducible assumption | (obtain ⟨rfl, rfl⟩ := Prod.ext_iff.mp ‹_ = (_, _)›) | (obtain ⟨rfl, -⟩ := Prod.ext_iff.mp ‹_ = (_, _)›) | split | (with_reducible refine (foldl_pending _ _ (fun s x => ?_) _).trans ?_) | (simp only [*]; done) | dsimp only | (simp [*]; done)))); clear_value zz) | clear_value zz) | (obtain ⟨rfl, rfl⟩ := Prod.ext_iff.mp ‹_ = (_, _)›) | (obtain ⟨rfl, -⟩ := Prod.ext_iff.mp ‹_ = (_, _)›) | split | (with_reducible refine (foldl_pending _ _ (fun s x => ?_) _).trans ?_) | (simp only [*]; done) | (simp [*]; done)))
@[simp] theorem execPlkFallbackTimeout_pending (port : Fin 24) (s : State) : ∀ res, execPlkFallbackTimeout port s = .next res → res.pending = s.pending := by
  intro res h
  unfold execPlkFallbackTimeout at h
  repeat' (first | (have h := Host.Outcome.next.inj h; subst h; clear h) | (have h := Host.Outcome.next.inj h; subst h) | (simp only [reduceCtorEq] at h; done) | split at h | dsimp only at h | (cases h; done) | (obtain ⟨rfl⟩ := h))
  all_goals (repeat' (first | with_reducible rfl | with_reducible assumption | ((try lift_lets); intro zz; first | ((have hz : State.pending zz = State.pending s := by (dsimp only [zz]; repeat' (first | with_reducible rfl | with_reducible assumption | (obtain ⟨rfl, rfl⟩ := Prod.ext_iff.mp ‹_ = (_, _)›) | (obtain ⟨rfl, -⟩ := Prod.ext_iff.mp ‹_ = (_, _)›) | split | (with_reducible refine (foldl_pending _ _ (fun s x => ?_) _).trans ?_) | (simp only [*]; done) | dsimp only | (simp [*]; done)))); clear_value zz) | clear_value zz) | (obtain ⟨rfl, rfl⟩ := Prod.ext_iff.mp ‹_ = (_, _)›) | (obtain ⟨rfl, -⟩ := Prod.ext_iff.mp ‹_ = (_, _)›) | split | (with_reducible refine (foldl_pending _ _ (fun s x => ?_) _).trans ?_) | (simp only [*]; done) | (simp [*]; done)))
@[simp] theorem execPlkLaneLock_pending (port : Fin 24) (lane : Fin 3) (s : State) : ∀ res, execPlkLaneLock port lane s = .next res → res.pending = s.pending := by
  intro res h
  unfold execPlkLaneLock at h
  repeat' (first | (have h := Host.Outcome.next.inj h; subst h; clear h) | (have h := Host.Outcome.next.inj h; subst h) | (simp only [reduceCtorEq] at h; done) | split at h | dsimp only at h | (cases h; done) | (obtain ⟨rfl⟩ := h))
  all_goals (repeat' (first | with_reducible rfl | with_reducible assumption | ((try lift_lets); intro zz; first | ((have hz : State.pending zz = State.pending s := by (dsimp only [zz]; repeat' (first | with_reducible rfl | with_reducible assumption | (obtain ⟨rfl, rfl⟩ := Prod.ext_iff.mp ‹_ = (_, _)›) | (obtain ⟨rfl, -⟩ := Prod.ext_iff.mp ‹_ = (_, _)›) | split | (with_reducible refine (foldl_pending _ _ (fun s x => ?_) _).trans ?_) | (simp only [*]; done) | dsimp only | (simp [*]; done)))); clear_value zz) | clear_value zz) | (obtain ⟨rfl, rfl⟩ := Prod.ext_iff.mp ‹_ = (_, _)›) | (obtain ⟨rfl, -⟩ := Prod.ext_iff.mp ‹_ = (_, _)›) | split | (with_reducible refine (foldl_pending _ _ (fun s x => ?_) _).trans ?_) | (simp only [*]; done) | (simp [*]; done)))
@[simp] theorem execPlkLaneLockLost_pending (port : Fin 24) (lane : Fin 3) (invalid : ℕ) (s : State) : ∀ res, execPlkLaneLockLost port lane invalid s = .next res → res.pending = s.pending := by
  intro res h
  unfold execPlkLaneLockLost at h
  repeat' (first | (have h := Host.Outcome.next.inj h; subst h; clear h) | (have h := Host.Outcome.next.inj h; subst h) | (simp only [reduceCtorEq] at h; done) | split at h | dsimp only at h | (cases h; done) | (obtain ⟨rfl⟩ := h))
  all_goals (repeat' (first | with_reducible rfl | with_reducible assumption | ((try lift_lets); intro zz; first | ((have hz : State.pending zz = State.pending s := by (dsimp only [zz]; repeat' (first | with_reducible rfl | with_reducible assumption | (obtain ⟨rfl, rfl⟩ := Prod.ext_iff.mp ‹_ = (_, _)›) | (obtain ⟨rfl, -⟩ := Prod.ext_iff.mp ‹_ = (_, _)›) | split | (with_reducible refine (foldl_pending _ _ (fun s x => ?_) _).trans ?_) | (simp only [*]; done) | dsimp only | (simp [*]; done)))); clear_value zz) | clear_value zz) | (obtain ⟨rfl, rfl⟩ := Prod.ext_iff.mp ‹_ = (_, _)›) | (obtain ⟨rfl, -⟩ := Prod.ext_iff.mp ‹_ = (_, _)›) | split | (with_reducible refine (foldl_pending _ _ (fun s x => ?_) _).trans ?_) | (simp only [*]; done) | (simp [*]; done)))
@[simp] theorem execPlkRecoverTimeout_pending (port : Fin 24) (s : State) : ∀ res, execPlkRecoverTimeout port s = .next res → res.pending = s.pending := by
  intro res h
  unfold execPlkRecoverTimeout at h
  repeat' (first | (have h := Host.Outcome.next.inj h; subst h; clear h) | (have h := Host.Outcome.next.inj h; subst h) | (simp only [reduceCtorEq] at h; done) | split at h | dsimp only at h | (cases h; done) | (obtain ⟨rfl⟩ := h))
  all_goals (repeat' (first | with_reducible rfl | with_reducible assumption | ((try lift_lets); intro zz; first | ((have hz : State.pending zz = State.pending s := by (dsimp only [zz]; repeat' (first | with_reducible rfl | with_reducible assumption | (obtain ⟨rfl, rfl⟩ := Prod.ext_iff.mp ‹_ = (_, _)›) | (obtain ⟨rfl, -⟩ := Prod.ext_iff.mp ‹_ = (_, _)›) | split | (with_reducible refine (foldl_pending _ _ (fun s x => ?_) _).trans ?_) | (simp only [*]; done) | dsimp only | (simp [*]; done)))); clear_value zz) | clear_value zz) | (obtain ⟨rfl, rfl⟩ := Prod.ext_iff.mp ‹_ = (_, _)›) | (obtain ⟨rfl, -⟩ := Prod.ext_iff.mp ‹_ = (_, _)›) | split | (with_reducible refine (foldl_pending _ _ (fun s x => ?_) _).trans ?_) | (simp only [*]; done) | (simp [*]; done)))
@[simp] theorem execPlkStepTimeout_pending (port : Fin 24) (s : State) : ∀ res, execPlkStepTimeout port s = .next res → res.pending = s.pending := by
  intro res h
  unfold execPlkStepTimeout at h
  repeat' (first | (have h := Host.Outcome.next.inj h; subst h; clear h) | (have h := Host.Outcome.next.inj h; subst h) | (simp only [reduceCtorEq] at h; done) | split at h | dsimp only at h | (cases h; done) | (obtain ⟨rfl⟩ := h))
  all_goals (repeat' (first | with_reducible rfl | with_reducible assumption | ((try lift_lets); intro zz; first | ((have hz : State.pending zz = State.pending s := by (dsimp only [zz]; repeat' (first | with_reducible rfl | with_reducible assumption | (obtain ⟨rfl, rfl⟩ := Prod.ext_iff.mp ‹_ = (_, _)›) | (obtain ⟨rfl, -⟩ := Prod.ext_iff.mp ‹_ = (_, _)›) | split | (with_reducible refine (foldl_pending _ _ (fun s x => ?_) _).trans ?_) | (simp only [*]; done) | dsimp only | (simp [*]; done)))); clear_value zz) | clear_value zz) | (obtain ⟨rfl, rfl⟩ := Prod.ext_iff.mp ‹_ = (_, _)›) | (obtain ⟨rfl, -⟩ := Prod.ext_iff.mp ‹_ = (_, _)›) | split | (with_reducible refine (foldl_pending _ _ (fun s x => ?_) _).trans ?_) | (simp only [*]; done) | (simp [*]; done)))
@[simp] theorem execPlkTrainTimeout_pending (port : Fin 24) (s : State) : ∀ res, execPlkTrainTimeout port s = .next res → res.pending = s.pending := by
  intro res h
  unfold execPlkTrainTimeout at h
  repeat' (first | (have h := Host.Outcome.next.inj h; subst h; clear h) | (have h := Host.Outcome.next.inj h; subst h) | (simp only [reduceCtorEq] at h; done) | split at h | dsimp only at h | (cases h; done) | (obtain ⟨rfl⟩ := h))
  all_goals (repeat' (first | with_reducible rfl | with_reducible assumption | ((try lift_lets); intro zz; first | ((have hz : State.pending zz = State.pending s := by (dsimp only [zz]; repeat' (first | with_reducible rfl | with_reducible assumption | (obtain ⟨rfl, rfl⟩ := Prod.ext_iff.mp ‹_ = (_, _)›) | (obtain ⟨rfl, -⟩ := Prod.ext_iff.mp ‹_ = (_, _)›) | split | (with_reducible refine (foldl_pending _ _ (fun s x => ?_) _).trans ?_) | (simp only [*]; done) | dsimp only | (simp [*]; done)))); clear_value zz) | clear_value zz) | (obtain ⟨rfl, rfl⟩ := Prod.ext_iff.mp ‹_ = (_, _)›) | (obtain ⟨rfl, -⟩ := Prod.ext_iff.mp ‹_ = (_, _)›) | split | (with_reducible refine (foldl_pending _ _ (fun s x => ?_) _).trans ?_) | (simp only [*]; done) | (simp [*]; done)))
@[simp] theorem execPlkVerifyEnd_pending (port : Fin 24) (symbols : ℕ) (s : State) : ∀ res, execPlkVerifyEnd port symbols s = .next res → res.pending = s.pending := by
  intro res h
  unfold execPlkVerifyEnd at h
  repeat' (first | (have h := Host.Outcome.next.inj h; subst h; clear h) | (have h := Host.Outcome.next.inj h; subst h) | (simp only [reduceCtorEq] at h; done) | split at h | dsimp only at h | (cases h; done) | (obtain ⟨rfl⟩ := h))
  all_goals (repeat' (first | with_reducible rfl | with_reducible assumption | ((try lift_lets); intro zz; first | ((have hz : State.pending zz = State.pending s := by (dsimp only [zz]; repeat' (first | with_reducible rfl | with_reducible assumption | (obtain ⟨rfl, rfl⟩ := Prod.ext_iff.mp ‹_ = (_, _)›) | (obtain ⟨rfl, -⟩ := Prod.ext_iff.mp ‹_ = (_, _)›) | split | (with_reducible refine (foldl_pending _ _ (fun s x => ?_) _).trans ?_) | (simp only [*]; done) | dsimp only | (simp [*]; done)))); clear_value zz) | clear_value zz) | (obtain ⟨rfl, rfl⟩ := Prod.ext_iff.mp ‹_ = (_, _)›) | (obtain ⟨rfl, -⟩ := Prod.ext_iff.mp ‹_ = (_, _)›) | split | (with_reducible refine (foldl_pending _ _ (fun s x => ?_) _).trans ?_) | (simp only [*]; done) | (simp [*]; done)))
theorem execPorstNAssert_pending (s : State) : ∀ res, execPorstNAssert s = .next res → res.pending = s.pending := by
  intro res h
  have h := Host.Outcome.next.inj h
  subst h
  simp
theorem execPowerLoss_pending (n : ℕ) (s : State) : ∀ res, execPowerLoss n s = .next res → res.pending = s.pending := by
  intro res h
  have h := Host.Outcome.next.inj h
  subst h
  simp
@[simp] theorem execPowerRequestTimeout_pending (port : Fin 24) (s : State) : ∀ res, execPowerRequestTimeout port s = .next res → res.pending = s.pending := by
  intro res h
  unfold execPowerRequestTimeout at h
  repeat' (first | (have h := Host.Outcome.next.inj h; subst h; clear h) | (have h := Host.Outcome.next.inj h; subst h) | (simp only [reduceCtorEq] at h; done) | split at h | dsimp only at h | (cases h; done) | (obtain ⟨rfl⟩ := h))
  all_goals (repeat' (first | with_reducible rfl | with_reducible assumption | ((try lift_lets); intro zz; first | ((have hz : State.pending zz = State.pending s := by (dsimp only [zz]; repeat' (first | with_reducible rfl | with_reducible assumption | (obtain ⟨rfl, rfl⟩ := Prod.ext_iff.mp ‹_ = (_, _)›) | (obtain ⟨rfl, -⟩ := Prod.ext_iff.mp ‹_ = (_, _)›) | split | (with_reducible refine (foldl_pending _ _ (fun s x => ?_) _).trans ?_) | (simp only [*]; done) | dsimp only | (simp [*]; done)))); clear_value zz) | clear_value zz) | (obtain ⟨rfl, rfl⟩ := Prod.ext_iff.mp ‹_ = (_, _)›) | (obtain ⟨rfl, -⟩ := Prod.ext_iff.mp ‹_ = (_, _)›) | split | (with_reducible refine (foldl_pending _ _ (fun s x => ?_) _).trans ?_) | (simp only [*]; done) | (simp [*]; done)))
@[simp] theorem execPrsWrite_pending (q : Req) (word : Byte) (value : Word) (s : State) : ∀ res, execPrsWrite q word value s = .next res → res.pending = s.pending := by
  intro res h; simp only [execPrsWrite] at h; cases h; simp
@[simp] theorem execRampStep_pending (n : Fin 12) (s : State) : ∀ res, execRampStep n s = .next res → res.pending = s.pending := by
  intro res h
  unfold execRampStep at h
  repeat' (first | (have h := Host.Outcome.next.inj h; subst h; clear h) | (have h := Host.Outcome.next.inj h; subst h) | (simp only [reduceCtorEq] at h; done) | split at h | dsimp only at h | (cases h; done) | (obtain ⟨rfl⟩ := h))
  all_goals (repeat' (first | with_reducible rfl | with_reducible assumption | ((try lift_lets); intro zz; first | ((have hz : State.pending zz = State.pending s := by (dsimp only [zz]; repeat' (first | with_reducible rfl | with_reducible assumption | (obtain ⟨rfl, rfl⟩ := Prod.ext_iff.mp ‹_ = (_, _)›) | (obtain ⟨rfl, -⟩ := Prod.ext_iff.mp ‹_ = (_, _)›) | split | (with_reducible refine (foldl_pending _ _ (fun s x => ?_) _).trans ?_) | (simp only [*]; done) | dsimp only | (simp [*]; done)))); clear_value zz) | clear_value zz) | (obtain ⟨rfl, rfl⟩ := Prod.ext_iff.mp ‹_ = (_, _)›) | (obtain ⟨rfl, -⟩ := Prod.ext_iff.mp ‹_ = (_, _)›) | split | (with_reducible refine (foldl_pending _ _ (fun s x => ?_) _).trans ?_) | (simp only [*]; done) | (simp [*]; done)))
@[simp] theorem execRead_pending (q : Req) (addr : Addr) (bank : Byte) (s : State) : ∀ res, execRead q addr bank s = .next res → res.pending = s.pending := by
  intro res h; simp only [execRead] at h; cases h; simp
@[simp] theorem stopCp3_pending (s : State) (p : Port) : (stopCp3 s p).pending = s.pending := by simp [stopCp3]
@[simp] theorem execReadPlacard_pending (port : Port) (n : ℕ) (s : State) : ∀ res, execReadPlacard port n s = .next res → res.pending = s.pending := by
  intro res h
  unfold execReadPlacard at h
  repeat' (first | (have h := Host.Outcome.next.inj h; subst h; clear h) | (have h := Host.Outcome.next.inj h; subst h) | (simp only [reduceCtorEq] at h; done) | split at h | dsimp only at h | (cases h; done) | (obtain ⟨rfl⟩ := h))
  all_goals (repeat' (first | with_reducible rfl | with_reducible assumption | ((try lift_lets); intro zz; first | ((have hz : State.pending zz = State.pending s := by (dsimp only [zz]; repeat' (first | with_reducible rfl | with_reducible assumption | (obtain ⟨rfl, rfl⟩ := Prod.ext_iff.mp ‹_ = (_, _)›) | (obtain ⟨rfl, -⟩ := Prod.ext_iff.mp ‹_ = (_, _)›) | split | (with_reducible refine (foldl_pending _ _ (fun s x => ?_) _).trans ?_) | (simp only [*]; done) | dsimp only | (simp [*]; done)))); clear_value zz) | clear_value zz) | (obtain ⟨rfl, rfl⟩ := Prod.ext_iff.mp ‹_ = (_, _)›) | (obtain ⟨rfl, -⟩ := Prod.ext_iff.mp ‹_ = (_, _)›) | split | (with_reducible refine (foldl_pending _ _ (fun s x => ?_) _).trans ?_) | (simp only [*]; done) | (simp [*]; done)))
@[simp] theorem execReadPortStatus_pending (port : Port) (n : ℕ) (s : State) : ∀ res, execReadPortStatus port n s = .next res → res.pending = s.pending := by
  intro res h
  unfold execReadPortStatus at h
  repeat' (first | (have h := Host.Outcome.next.inj h; subst h; clear h) | (have h := Host.Outcome.next.inj h; subst h) | (simp only [reduceCtorEq] at h; done) | split at h | dsimp only at h | (cases h; done) | (obtain ⟨rfl⟩ := h))
  all_goals (repeat' (first | with_reducible rfl | with_reducible assumption | ((try lift_lets); intro zz; first | ((have hz : State.pending zz = State.pending s := by (dsimp only [zz]; repeat' (first | with_reducible rfl | with_reducible assumption | (obtain ⟨rfl, rfl⟩ := Prod.ext_iff.mp ‹_ = (_, _)›) | (obtain ⟨rfl, -⟩ := Prod.ext_iff.mp ‹_ = (_, _)›) | split | (with_reducible refine (foldl_pending _ _ (fun s x => ?_) _).trans ?_) | (simp only [*]; done) | dsimp only | (simp [*]; done)))); clear_value zz) | clear_value zz) | (obtain ⟨rfl, rfl⟩ := Prod.ext_iff.mp ‹_ = (_, _)›) | (obtain ⟨rfl, -⟩ := Prod.ext_iff.mp ‹_ = (_, _)›) | split | (with_reducible refine (foldl_pending _ _ (fun s x => ?_) _).trans ?_) | (simp only [*]; done) | (simp [*]; done)))
@[simp] theorem execReadmissionMonitorClear_pending (w : Wing) (s : State) : ∀ res, execReadmissionMonitorClear w s = .next res → res.pending = s.pending := by
  intro res h
  unfold execReadmissionMonitorClear at h
  repeat' (first | (have h := Host.Outcome.next.inj h; subst h; clear h) | (have h := Host.Outcome.next.inj h; subst h) | (simp only [reduceCtorEq] at h; done) | split at h | dsimp only at h | (cases h; done) | (obtain ⟨rfl⟩ := h))
  all_goals (repeat' (first | with_reducible rfl | with_reducible assumption | ((try lift_lets); intro zz; first | ((have hz : State.pending zz = State.pending s := by (dsimp only [zz]; repeat' (first | with_reducible rfl | with_reducible assumption | (obtain ⟨rfl, rfl⟩ := Prod.ext_iff.mp ‹_ = (_, _)›) | (obtain ⟨rfl, -⟩ := Prod.ext_iff.mp ‹_ = (_, _)›) | split | (with_reducible refine (foldl_pending _ _ (fun s x => ?_) _).trans ?_) | (simp only [*]; done) | dsimp only | (simp [*]; done)))); clear_value zz) | clear_value zz) | (obtain ⟨rfl, rfl⟩ := Prod.ext_iff.mp ‹_ = (_, _)›) | (obtain ⟨rfl, -⟩ := Prod.ext_iff.mp ‹_ = (_, _)›) | split | (with_reducible refine (foldl_pending _ _ (fun s x => ?_) _).trans ?_) | (simp only [*]; done) | (simp [*]; done)))
@[simp] theorem holdOut_pending (s : State) (w : Wing) (why : ℕ) : (holdOut s w why).pending = s.pending := by simp [holdOut]
@[simp] theorem execReadmissionMonitorTimeout_pending (w : Wing) (s : State) : ∀ res, execReadmissionMonitorTimeout w s = .next res → res.pending = s.pending := by
  intro res h
  unfold execReadmissionMonitorTimeout at h
  repeat' (first | (have h := Host.Outcome.next.inj h; subst h; clear h) | (have h := Host.Outcome.next.inj h; subst h) | (simp only [reduceCtorEq] at h; done) | split at h | dsimp only at h | (cases h; done) | (obtain ⟨rfl⟩ := h))
  all_goals (repeat' (first | with_reducible rfl | with_reducible assumption | ((try lift_lets); intro zz; first | ((have hz : State.pending zz = State.pending s := by (dsimp only [zz]; repeat' (first | with_reducible rfl | with_reducible assumption | (obtain ⟨rfl, rfl⟩ := Prod.ext_iff.mp ‹_ = (_, _)›) | (obtain ⟨rfl, -⟩ := Prod.ext_iff.mp ‹_ = (_, _)›) | split | (with_reducible refine (foldl_pending _ _ (fun s x => ?_) _).trans ?_) | (simp only [*]; done) | dsimp only | (simp [*]; done)))); clear_value zz) | clear_value zz) | (obtain ⟨rfl, rfl⟩ := Prod.ext_iff.mp ‹_ = (_, _)›) | (obtain ⟨rfl, -⟩ := Prod.ext_iff.mp ‹_ = (_, _)›) | split | (with_reducible refine (foldl_pending _ _ (fun s x => ?_) _).trans ?_) | (simp only [*]; done) | (simp [*]; done)))
@[simp] theorem execReadmissionTestDone_pending (w : Wing) (failed : Option Byte) (s : State) : ∀ res, execReadmissionTestDone w failed s = .next res → res.pending = s.pending := by
  intro res h
  unfold execReadmissionTestDone at h
  dsimp only at h
  split at h
  · split at h
    · have h := Host.Outcome.next.inj h; subst h
      simp only [holdOut_pending, setWing_pending]
      split <;> simp
    · have h := Host.Outcome.next.inj h; subst h
      refine (foldl_pending _ _ (fun s x => by simp) _).trans ?_
      refine (foldl_pending _ _ (fun s x => by simp) _).trans ?_
      simp only [raise_pending, setWing_pending]
      split <;> simp
  · have h := Host.Outcome.next.inj h; subst h; rfl
@[simp] theorem sendTile_pending (s : State) (w : Wing) (o : ℕ) (row : ℕ) (col : ℕ) (crc : Word) : (sendTile s w o row col crc).pending = s.pending := by simp [sendTile]
@[simp] theorem recomposedTile_pending (s : State) (w : Wing) (o : ℕ) (row : ℕ) (col : ℕ) (crc : Option Word) : (recomposedTile s w o row col crc).pending = s.pending := by
  unfold recomposedTile; repeat' (first | with_reducible rfl | (simp; done) | split | dsimp only)
@[simp] theorem execRecomposedTileRead_pending (w : Wing) (o : Fin 20) (row : ℕ) (col : ℕ) (crc : Option Word) (s : State) : ∀ res, execRecomposedTileRead w o row col crc s = .next res → res.pending = s.pending := by
  intro res h; simp only [execRecomposedTileRead] at h; cases h; simp
@[simp] theorem execRefActivityLost_pending (c : Fin 16) (s : State) : ∀ res, execRefActivityLost c s = .next res → res.pending = s.pending := by
  intro res h
  unfold execRefActivityLost at h
  repeat' (first | (have h := Host.Outcome.next.inj h; subst h; clear h) | (have h := Host.Outcome.next.inj h; subst h) | (simp only [reduceCtorEq] at h; done) | split at h | dsimp only at h | (cases h; done) | (obtain ⟨rfl⟩ := h))
  all_goals (repeat' (first | with_reducible rfl | with_reducible assumption | ((try lift_lets); intro zz; first | ((have hz : State.pending zz = State.pending s := by (dsimp only [zz]; repeat' (first | with_reducible rfl | with_reducible assumption | (obtain ⟨rfl, rfl⟩ := Prod.ext_iff.mp ‹_ = (_, _)›) | (obtain ⟨rfl, -⟩ := Prod.ext_iff.mp ‹_ = (_, _)›) | split | (with_reducible refine (foldl_pending _ _ (fun s x => ?_) _).trans ?_) | (simp only [*]; done) | dsimp only | (simp [*]; done)))); clear_value zz) | clear_value zz) | (obtain ⟨rfl, rfl⟩ := Prod.ext_iff.mp ‹_ = (_, _)›) | (obtain ⟨rfl, -⟩ := Prod.ext_iff.mp ‹_ = (_, _)›) | split | (with_reducible refine (foldl_pending _ _ (fun s x => ?_) _).trans ?_) | (simp only [*]; done) | (simp [*]; done)))
@[simp] theorem execRefConfigWrite_pending (q : Req) (cand : Byte) (value : Word) (s : State) : ∀ res, execRefConfigWrite q cand value s = .next res → res.pending = s.pending := by
  intro res h; simp only [execRefConfigWrite] at h; cases h; simp
@[simp] theorem execRefFreqMeasurement_pending (c : Fin 16) (edges : ℕ) (s : State) : ∀ res, execRefFreqMeasurement c edges s = .next res → res.pending = s.pending := by
  intro res h
  unfold execRefFreqMeasurement at h
  repeat' (first | (have h := Host.Outcome.next.inj h; subst h; clear h) | (have h := Host.Outcome.next.inj h; subst h) | (simp only [reduceCtorEq] at h; done) | split at h | dsimp only at h | (cases h; done) | (obtain ⟨rfl⟩ := h))
  all_goals (repeat' (first | with_reducible rfl | with_reducible assumption | ((try lift_lets); intro zz; first | ((have hz : State.pending zz = State.pending s := by (dsimp only [zz]; repeat' (first | with_reducible rfl | with_reducible assumption | (obtain ⟨rfl, rfl⟩ := Prod.ext_iff.mp ‹_ = (_, _)›) | (obtain ⟨rfl, -⟩ := Prod.ext_iff.mp ‹_ = (_, _)›) | split | (with_reducible refine (foldl_pending _ _ (fun s x => ?_) _).trans ?_) | (simp only [*]; done) | dsimp only | (simp [*]; done)))); clear_value zz) | clear_value zz) | (obtain ⟨rfl, rfl⟩ := Prod.ext_iff.mp ‹_ = (_, _)›) | (obtain ⟨rfl, -⟩ := Prod.ext_iff.mp ‹_ = (_, _)›) | split | (with_reducible refine (foldl_pending _ _ (fun s x => ?_) _).trans ?_) | (simp only [*]; done) | (simp [*]; done)))
@[simp] theorem execRefPulse_pending (c : Fin 16) (interval : ℕ) (s : State) : ∀ res, execRefPulse c interval s = .next res → res.pending = s.pending := by
  intro res h; simp only [execRefPulse] at h; cases h; simp
@[simp] theorem runSelection_pending (s : State) : (runSelection s).pending = s.pending := by
  unfold runSelection; repeat' (first | with_reducible rfl | (simp; done) | split | dsimp only)
@[simp] theorem execRefQualified_pending (c : Fin 16) (s : State) : ∀ res, execRefQualified c s = .next res → res.pending = s.pending := by
  intro res h
  unfold execRefQualified at h
  repeat' (first | (have h := Host.Outcome.next.inj h; subst h; clear h) | (have h := Host.Outcome.next.inj h; subst h) | (simp only [reduceCtorEq] at h; done) | split at h | dsimp only at h | (cases h; done) | (obtain ⟨rfl⟩ := h))
  all_goals (repeat' (first | with_reducible rfl | with_reducible assumption | ((try lift_lets); intro zz; first | ((have hz : State.pending zz = State.pending s := by (dsimp only [zz]; repeat' (first | with_reducible rfl | with_reducible assumption | (obtain ⟨rfl, rfl⟩ := Prod.ext_iff.mp ‹_ = (_, _)›) | (obtain ⟨rfl, -⟩ := Prod.ext_iff.mp ‹_ = (_, _)›) | split | (with_reducible refine (foldl_pending _ _ (fun s x => ?_) _).trans ?_) | (simp only [*]; done) | dsimp only | (simp [*]; done)))); clear_value zz) | clear_value zz) | (obtain ⟨rfl, rfl⟩ := Prod.ext_iff.mp ‹_ = (_, _)›) | (obtain ⟨rfl, -⟩ := Prod.ext_iff.mp ‹_ = (_, _)›) | split | (with_reducible refine (foldl_pending _ _ (fun s x => ?_) _).trans ?_) | (simp only [*]; done) | (simp [*]; done)))
@[simp] theorem execRefRank_pending (q : Req) (cands : List Byte) (s : State) : ∀ res, execRefRank q cands s = .next res → res.pending = s.pending := by
  intro res h; simp only [execRefRank] at h; cases h; simp
@[simp] theorem execRefRankWordWrite_pending (q : Req) (hi : Bool) (value : Word) (s : State) : ∀ res, execRefRankWordWrite q hi value s = .next res → res.pending = s.pending := by
  intro res h; simp only [execRefRankWordWrite] at h; cases h; simp
@[simp] theorem execRefSelect_pending (q : Req) (cand : Byte) (s : State) : ∀ res, execRefSelect q cand s = .next res → res.pending = s.pending := by
  intro res h; simp only [execRefSelect] at h; cases h; simp
@[simp] theorem execRegisterWrite_pending (q : Req) (addr : Addr) (bank : Byte) (value : Word) (s : State) : ∀ res, execRegisterWrite q addr bank value s = .next res → res.pending = s.pending := by
  intro res h; simp only [execRegisterWrite] at h; cases h; simp
@[simp] theorem execRelease_pending (q : Req) (cls : Byte) (first : Byte) (count : Byte) (bank : Byte) (force : Bool) (s : State) : ∀ res, execRelease q cls first count bank force s = .next res → res.pending = s.pending := by
  intro res h; simp only [execRelease] at h; cases h; simp
@[simp] theorem resendCtl_pending (s : State) (n : ℕ) (m : CtlOut) : (resendCtl s n m).pending = s.pending := by
  unfold resendCtl; repeat' (first | with_reducible rfl | (simp; done) | split | dsimp only)
@[simp] theorem execRetransmitTimeout_pending (port : Fin 24) (s : State) : ∀ res, execRetransmitTimeout port s = .next res → res.pending = s.pending := by
  intro res h
  unfold execRetransmitTimeout at h
  repeat' (first | (have h := Host.Outcome.next.inj h; subst h; clear h) | (have h := Host.Outcome.next.inj h; subst h) | (simp only [reduceCtorEq] at h; done) | split at h | dsimp only at h | (cases h; done) | (obtain ⟨rfl⟩ := h))
  all_goals (repeat' (first | with_reducible rfl | with_reducible assumption | ((try lift_lets); intro zz; first | ((have hz : State.pending zz = State.pending s := by (dsimp only [zz]; repeat' (first | with_reducible rfl | with_reducible assumption | (obtain ⟨rfl, rfl⟩ := Prod.ext_iff.mp ‹_ = (_, _)›) | (obtain ⟨rfl, -⟩ := Prod.ext_iff.mp ‹_ = (_, _)›) | split | (with_reducible refine (foldl_pending _ _ (fun s x => ?_) _).trans ?_) | (simp only [*]; done) | dsimp only | (simp [*]; done)))); clear_value zz) | clear_value zz) | (obtain ⟨rfl, rfl⟩ := Prod.ext_iff.mp ‹_ = (_, _)›) | (obtain ⟨rfl, -⟩ := Prod.ext_iff.mp ‹_ = (_, _)›) | split | (with_reducible refine (foldl_pending _ _ (fun s x => ?_) _).trans ?_) | (simp only [*]; done) | (simp [*]; done)))
@[simp] theorem execRouteSwitch_pending (q : Req) (route : UnitRef) (kind : Byte) (pipe : UnitRef) (s : State) : ∀ res, execRouteSwitch q route kind pipe s = .next res → res.pending = s.pending := by
  intro res h; simp only [execRouteSwitch] at h; cases h; simp
@[simp] theorem windowStep_pending (s : State) (o : ℕ) (rate : ℕ) : (windowStep s o rate).pending = s.pending := by
  unfold windowStep
  repeat' (first | with_reducible rfl | with_reducible assumption | ((try lift_lets); intro zz; first | ((have hz : State.pending zz = State.pending s := by (dsimp only [zz]; repeat' (first | with_reducible rfl | with_reducible assumption | (obtain ⟨rfl, rfl⟩ := Prod.ext_iff.mp ‹_ = (_, _)›) | (obtain ⟨rfl, -⟩ := Prod.ext_iff.mp ‹_ = (_, _)›) | split | (with_reducible refine (foldl_pending _ _ (fun s x => ?_) _).trans ?_) | (simp only [*]; done) | dsimp only | (simp [*]; done)))); clear_value zz) | clear_value zz) | (obtain ⟨rfl, rfl⟩ := Prod.ext_iff.mp ‹_ = (_, _)›) | (obtain ⟨rfl, -⟩ := Prod.ext_iff.mp ‹_ = (_, _)›) | split | (with_reducible refine (foldl_pending _ _ (fun s x => ?_) _).trans ?_) | (simp only [*]; done) | (simp [*]; done))
@[simp] theorem sampleBoundary_pending (s : State) (clk : ℕ) (rate : ℕ) (frames : List (ℕ × List Word)) : (sampleBoundary s clk rate frames).pending = s.pending := by
  simp [sampleBoundary]
@[simp] theorem execSampleBoundary_pending (syn9 : Bool) (rate : Fin 3) (frames : List (ℕ × List Word)) (s : State) : ∀ res, execSampleBoundary syn9 rate frames s = .next res → res.pending = s.pending := by
  intro res h; simp only [execSampleBoundary] at h; cases h; simp
@[simp] theorem execSchedCancel_pending (q : Req) (entry : Half) (tag : Byte) (s : State) : ∀ res, execSchedCancel q entry tag s = .next res → res.pending = s.pending := by
  intro res h; simp only [execSchedCancel] at h; cases h; simp
@[simp] theorem execSchedList_pending (q : Req) (first : Byte) (count : Byte) (s : State) : ∀ res, execSchedList q first count s = .next res → res.pending = s.pending := by
  intro res h; simp only [execSchedList] at h; cases h; simp
@[simp] theorem execSelftest_pending (q : Req) (cls : Byte) (target : Byte) (unit : Half) (s : State) : ∀ res, execSelftest q cls target unit s = .next res → res.pending = s.pending := by
  intro res h; simp only [execSelftest] at h; cases h; simp
@[simp] theorem execSelftestAbort_pending (q : Req) (target : Byte) (s : State) : ∀ res, execSelftestAbort q target s = .next res → res.pending = s.pending := by
  intro res h; simp only [execSelftestAbort] at h; cases h; simp
@[simp] theorem execSelftestComplete_pending (target : Fin 3) (failed : Option (Half × Word)) (s : State) : ∀ res, execSelftestComplete target failed s = .next res → res.pending = s.pending := by
  intro res h
  unfold execSelftestComplete at h
  repeat' (first | (have h := Host.Outcome.next.inj h; subst h; clear h) | (have h := Host.Outcome.next.inj h; subst h) | (simp only [reduceCtorEq] at h; done) | split at h | dsimp only at h | (cases h; done) | (obtain ⟨rfl⟩ := h))
  all_goals (repeat' (first | with_reducible rfl | with_reducible assumption | ((try lift_lets); intro zz; first | ((have hz : State.pending zz = State.pending s := by (dsimp only [zz]; repeat' (first | with_reducible rfl | with_reducible assumption | (obtain ⟨rfl, rfl⟩ := Prod.ext_iff.mp ‹_ = (_, _)›) | (obtain ⟨rfl, -⟩ := Prod.ext_iff.mp ‹_ = (_, _)›) | split | (with_reducible refine (foldl_pending _ _ (fun s x => ?_) _).trans ?_) | (simp only [*]; done) | dsimp only | (simp [*]; done)))); clear_value zz) | clear_value zz) | (obtain ⟨rfl, rfl⟩ := Prod.ext_iff.mp ‹_ = (_, _)›) | (obtain ⟨rfl, -⟩ := Prod.ext_iff.mp ‹_ = (_, _)›) | split | (with_reducible refine (foldl_pending _ _ (fun s x => ?_) _).trans ?_) | (simp only [*]; done) | (simp [*]; done)))
@[simp] theorem stepEvent_pending (s : State) (step : ℕ) : (stepEvent s step).pending = s.pending := by simp [stepEvent]
@[simp] theorem shutdownStep2_pending (s : State) (bound : Bool) : (shutdownStep2 s bound).pending = s.pending := by simp [shutdownStep2]
@[simp] theorem execShutdownStep2_pending (bound : Bool) (s : State) : ∀ res, execShutdownStep2 bound s = .next res → res.pending = s.pending := by
  intro res h
  unfold execShutdownStep2 at h
  repeat' (first | (have h := Host.Outcome.next.inj h; subst h; clear h) | (have h := Host.Outcome.next.inj h; subst h) | (simp only [reduceCtorEq] at h; done) | split at h | dsimp only at h | (cases h; done) | (obtain ⟨rfl⟩ := h))
  all_goals (repeat' (first | with_reducible rfl | with_reducible assumption | ((try lift_lets); intro zz; first | ((have hz : State.pending zz = State.pending s := by (dsimp only [zz]; repeat' (first | with_reducible rfl | with_reducible assumption | (obtain ⟨rfl, rfl⟩ := Prod.ext_iff.mp ‹_ = (_, _)›) | (obtain ⟨rfl, -⟩ := Prod.ext_iff.mp ‹_ = (_, _)›) | split | (with_reducible refine (foldl_pending _ _ (fun s x => ?_) _).trans ?_) | (simp only [*]; done) | dsimp only | (simp [*]; done)))); clear_value zz) | clear_value zz) | (obtain ⟨rfl, rfl⟩ := Prod.ext_iff.mp ‹_ = (_, _)›) | (obtain ⟨rfl, -⟩ := Prod.ext_iff.mp ‹_ = (_, _)›) | split | (with_reducible refine (foldl_pending _ _ (fun s x => ?_) _).trans ?_) | (simp only [*]; done) | (simp [*]; done)))
@[simp] theorem shutdownStep4_pending (s : State) : (shutdownStep4 s).pending = s.pending := by simp [shutdownStep4]
@[simp] theorem execShutdownStep4_pending (s : State) : ∀ res, execShutdownStep4 s = .next res → res.pending = s.pending := by
  intro res h
  unfold execShutdownStep4 at h
  repeat' (first | (have h := Host.Outcome.next.inj h; subst h; clear h) | (have h := Host.Outcome.next.inj h; subst h) | (simp only [reduceCtorEq] at h; done) | split at h | dsimp only at h | (cases h; done) | (obtain ⟨rfl⟩ := h))
  all_goals (repeat' (first | with_reducible rfl | with_reducible assumption | ((try lift_lets); intro zz; first | ((have hz : State.pending zz = State.pending s := by (dsimp only [zz]; repeat' (first | with_reducible rfl | with_reducible assumption | (obtain ⟨rfl, rfl⟩ := Prod.ext_iff.mp ‹_ = (_, _)›) | (obtain ⟨rfl, -⟩ := Prod.ext_iff.mp ‹_ = (_, _)›) | split | (with_reducible refine (foldl_pending _ _ (fun s x => ?_) _).trans ?_) | (simp only [*]; done) | dsimp only | (simp [*]; done)))); clear_value zz) | clear_value zz) | (obtain ⟨rfl, rfl⟩ := Prod.ext_iff.mp ‹_ = (_, _)›) | (obtain ⟨rfl, -⟩ := Prod.ext_iff.mp ‹_ = (_, _)›) | split | (with_reducible refine (foldl_pending _ _ (fun s x => ?_) _).trans ?_) | (simp only [*]; done) | (simp [*]; done)))
@[simp] theorem execSidebandMessage_pending (port : Fin 4) (m : SideReq) (s : State) : ∀ res, execSidebandMessage port m s = .next res → res.pending = s.pending := by
  intro res h
  unfold execSidebandMessage at h
  repeat' (first | (have h := Host.Outcome.next.inj h; subst h; clear h) | (have h := Host.Outcome.next.inj h; subst h) | (simp only [reduceCtorEq] at h; done) | split at h | dsimp only at h | (cases h; done) | (obtain ⟨rfl⟩ := h))
  all_goals (repeat' (first | with_reducible rfl | with_reducible assumption | ((try lift_lets); intro zz; first | ((have hz : State.pending zz = State.pending s := by (dsimp only [zz]; repeat' (first | with_reducible rfl | with_reducible assumption | (obtain ⟨rfl, rfl⟩ := Prod.ext_iff.mp ‹_ = (_, _)›) | (obtain ⟨rfl, -⟩ := Prod.ext_iff.mp ‹_ = (_, _)›) | split | (with_reducible refine (foldl_pending _ _ (fun s x => ?_) _).trans ?_) | (simp only [*]; done) | dsimp only | (simp [*]; done)))); clear_value zz) | clear_value zz) | (obtain ⟨rfl, rfl⟩ := Prod.ext_iff.mp ‹_ = (_, _)›) | (obtain ⟨rfl, -⟩ := Prod.ext_iff.mp ‹_ = (_, _)›) | split | (with_reducible refine (foldl_pending _ _ (fun s x => ?_) _).trans ?_) | (simp only [*]; done) | (simp [*]; done)))
@[simp] theorem execSourceLossTimeout_pending (pipe : Fin 80) (s : State) : ∀ res, execSourceLossTimeout pipe s = .next res → res.pending = s.pending := by
  intro res h
  unfold execSourceLossTimeout at h
  repeat' (first | (have h := Host.Outcome.next.inj h; subst h; clear h) | (have h := Host.Outcome.next.inj h; subst h) | (simp only [reduceCtorEq] at h; done) | split at h | dsimp only at h | (cases h; done) | (obtain ⟨rfl⟩ := h))
  all_goals (repeat' (first | with_reducible rfl | with_reducible assumption | ((try lift_lets); intro zz; first | ((have hz : State.pending zz = State.pending s := by (dsimp only [zz]; repeat' (first | with_reducible rfl | with_reducible assumption | (obtain ⟨rfl, rfl⟩ := Prod.ext_iff.mp ‹_ = (_, _)›) | (obtain ⟨rfl, -⟩ := Prod.ext_iff.mp ‹_ = (_, _)›) | split | (with_reducible refine (foldl_pending _ _ (fun s x => ?_) _).trans ?_) | (simp only [*]; done) | dsimp only | (simp [*]; done)))); clear_value zz) | clear_value zz) | (obtain ⟨rfl, rfl⟩ := Prod.ext_iff.mp ‹_ = (_, _)›) | (obtain ⟨rfl, -⟩ := Prod.ext_iff.mp ‹_ = (_, _)›) | split | (with_reducible refine (foldl_pending _ _ (fun s x => ?_) _).trans ?_) | (simp only [*]; done) | (simp [*]; done)))
@[simp] theorem execSwitchWaitBound_pending (bank : Fin 2) (route : Fin 64) (o : Fin 20) (s : State) : ∀ res, execSwitchWaitBound bank route o s = .next res → res.pending = s.pending := by
  intro res h
  unfold execSwitchWaitBound at h
  repeat' (first | (have h := Host.Outcome.next.inj h; subst h; clear h) | (have h := Host.Outcome.next.inj h; subst h) | (simp only [reduceCtorEq] at h; done) | split at h | dsimp only at h | (cases h; done) | (obtain ⟨rfl⟩ := h))
  all_goals (repeat' (first | with_reducible rfl | with_reducible assumption | ((try lift_lets); intro zz; first | ((have hz : State.pending zz = State.pending s := by (dsimp only [zz]; repeat' (first | with_reducible rfl | with_reducible assumption | (obtain ⟨rfl, rfl⟩ := Prod.ext_iff.mp ‹_ = (_, _)›) | (obtain ⟨rfl, -⟩ := Prod.ext_iff.mp ‹_ = (_, _)›) | split | (with_reducible refine (foldl_pending _ _ (fun s x => ?_) _).trans ?_) | (simp only [*]; done) | dsimp only | (simp [*]; done)))); clear_value zz) | clear_value zz) | (obtain ⟨rfl, rfl⟩ := Prod.ext_iff.mp ‹_ = (_, _)›) | (obtain ⟨rfl, -⟩ := Prod.ext_iff.mp ‹_ = (_, _)›) | split | (with_reducible refine (foldl_pending _ _ (fun s x => ?_) _).trans ?_) | (simp only [*]; done) | (simp [*]; done)))
@[simp] theorem execSynBandStore_pending (q : Req) (syn : Byte) (mem : Byte) (s : State) : ∀ res, execSynBandStore q syn mem s = .next res → res.pending = s.pending := by
  intro res h; simp only [execSynBandStore] at h; cases h; simp
@[simp] theorem execSynBandStoreComplete_pending (n : Fin 12) (s : State) : ∀ res, execSynBandStoreComplete n s = .next res → res.pending = s.pending := by
  intro res h
  unfold execSynBandStoreComplete at h
  repeat' (first | (have h := Host.Outcome.next.inj h; subst h; clear h) | (have h := Host.Outcome.next.inj h; subst h) | (simp only [reduceCtorEq] at h; done) | split at h | dsimp only at h | (cases h; done) | (obtain ⟨rfl⟩ := h))
  all_goals (repeat' (first | with_reducible rfl | with_reducible assumption | ((try lift_lets); intro zz; first | ((have hz : State.pending zz = State.pending s := by (dsimp only [zz]; repeat' (first | with_reducible rfl | with_reducible assumption | (obtain ⟨rfl, rfl⟩ := Prod.ext_iff.mp ‹_ = (_, _)›) | (obtain ⟨rfl, -⟩ := Prod.ext_iff.mp ‹_ = (_, _)›) | split | (with_reducible refine (foldl_pending _ _ (fun s x => ?_) _).trans ?_) | (simp only [*]; done) | dsimp only | (simp [*]; done)))); clear_value zz) | clear_value zz) | (obtain ⟨rfl, rfl⟩ := Prod.ext_iff.mp ‹_ = (_, _)›) | (obtain ⟨rfl, -⟩ := Prod.ext_iff.mp ‹_ = (_, _)›) | split | (with_reducible refine (foldl_pending _ _ (fun s x => ?_) _).trans ?_) | (simp only [*]; done) | (simp [*]; done)))
@[simp] theorem execSynDitherSeedWrite_pending (q : Req) (syn : Byte) (seed : Word) (s : State) : ∀ res, execSynDitherSeedWrite q syn seed s = .next res → res.pending = s.pending := by
  intro res h; simp only [execSynDitherSeedWrite] at h; cases h; simp
@[simp] theorem execSynEnWrite_pending (q : Req) (syn : Byte) (en : Bool) (s : State) : ∀ res, execSynEnWrite q syn en s = .next res → res.pending = s.pending := by
  intro res h; simp only [execSynEnWrite] at h; cases h; simp
@[simp] theorem execSynFreqWrite_pending (q : Req) (syn : Byte) (value : Word) (s : State) : ∀ res, execSynFreqWrite q syn value s = .next res → res.pending = s.pending := by
  intro res h; simp only [execSynFreqWrite] at h; cases h; simp
@[simp] theorem execSynHop_pending (q : Req) (syn : Byte) (mem : Byte) (word : Word) (s : State) : ∀ res, execSynHop q syn mem word s = .next res → res.pending = s.pending := by
  intro res h; simp only [execSynHop] at h; cases h; simp
@[simp] theorem execSynHopLockTimeout_pending (n : Fin 12) (s : State) : ∀ res, execSynHopLockTimeout n s = .next res → res.pending = s.pending := by
  intro res h
  unfold execSynHopLockTimeout at h
  repeat' (first | (have h := Host.Outcome.next.inj h; subst h; clear h) | (have h := Host.Outcome.next.inj h; subst h) | (simp only [reduceCtorEq] at h; done) | split at h | dsimp only at h | (cases h; done) | (obtain ⟨rfl⟩ := h))
  all_goals (repeat' (first | with_reducible rfl | with_reducible assumption | ((try lift_lets); intro zz; first | ((have hz : State.pending zz = State.pending s := by (dsimp only [zz]; repeat' (first | with_reducible rfl | with_reducible assumption | (obtain ⟨rfl, rfl⟩ := Prod.ext_iff.mp ‹_ = (_, _)›) | (obtain ⟨rfl, -⟩ := Prod.ext_iff.mp ‹_ = (_, _)›) | split | (with_reducible refine (foldl_pending _ _ (fun s x => ?_) _).trans ?_) | (simp only [*]; done) | dsimp only | (simp [*]; done)))); clear_value zz) | clear_value zz) | (obtain ⟨rfl, rfl⟩ := Prod.ext_iff.mp ‹_ = (_, _)›) | (obtain ⟨rfl, -⟩ := Prod.ext_iff.mp ‹_ = (_, _)›) | split | (with_reducible refine (foldl_pending _ _ (fun s x => ?_) _).trans ?_) | (simp only [*]; done) | (simp [*]; done)))
@[simp] theorem execSynLockAcquired_pending (n : Fin 12) (band : ℕ) (post : ℕ) (s : State) : ∀ res, execSynLockAcquired n band post s = .next res → res.pending = s.pending := by
  intro res h
  simp only [execSynLockAcquired] at h
  have e := drawWord_pending s
  generalize drawWord s = p at e h
  generalize (match (syn s n.val).task with | SynTask.hop m => _ | _ => _ : Band) = kept at h
  repeat' split at h
  all_goals (have h := Host.Outcome.next.inj h; subst h; simp [e])
@[simp] theorem haltOutputs_pending (s : State) (syn : ℕ) : (haltOutputs s syn).pending = s.pending := by
  unfold haltOutputs
  repeat' (first | with_reducible rfl | with_reducible assumption | ((try lift_lets); intro zz; first | ((have hz : State.pending zz = State.pending s := by (dsimp only [zz]; repeat' (first | with_reducible rfl | with_reducible assumption | (obtain ⟨rfl, rfl⟩ := Prod.ext_iff.mp ‹_ = (_, _)›) | (obtain ⟨rfl, -⟩ := Prod.ext_iff.mp ‹_ = (_, _)›) | split | (with_reducible refine (foldl_pending _ _ (fun s x => ?_) _).trans ?_) | (simp only [*]; done) | dsimp only | (simp [*]; done)))); clear_value zz) | clear_value zz) | (obtain ⟨rfl, rfl⟩ := Prod.ext_iff.mp ‹_ = (_, _)›) | (obtain ⟨rfl, -⟩ := Prod.ext_iff.mp ‹_ = (_, _)›) | split | (with_reducible refine (foldl_pending _ _ (fun s x => ?_) _).trans ?_) | (simp only [*]; done) | (simp [*]; done))
@[simp] theorem syn10Gated_pending (s : State) : (syn10Gated s).pending = s.pending := by simp [syn10Gated]
@[simp] theorem synLost_pending (s : State) (n : ℕ) : (synLost s n).pending = s.pending := by simp [synLost]
@[simp] theorem execSynLossOfLock_pending (n : Fin 12) (s : State) : ∀ res, execSynLossOfLock n s = .next res → res.pending = s.pending := by
  intro res h; simp only [execSynLossOfLock] at h; cases h; simp
@[simp] theorem execSynRampLoad_pending (q : Req) (syn : Byte) (segs : List Seg) (s : State) : ∀ res, execSynRampLoad q syn segs s = .next res → res.pending = s.pending := by
  intro res h; simp only [execSynRampLoad] at h; cases h; simp
@[simp] theorem execSynRampStart_pending (q : Req) (syn : Byte) (s : State) : ∀ res, execSynRampStart q syn s = .next res → res.pending = s.pending := by
  intro res h; simp only [execSynRampStart] at h; cases h; simp
@[simp] theorem execSynSearchTimeout_pending (n : Fin 12) (s : State) : ∀ res, execSynSearchTimeout n s = .next res → res.pending = s.pending := by
  intro res h
  unfold execSynSearchTimeout at h
  repeat' (first | (have h := Host.Outcome.next.inj h; subst h; clear h) | (have h := Host.Outcome.next.inj h; subst h) | (simp only [reduceCtorEq] at h; done) | split at h | dsimp only at h | (cases h; done) | (obtain ⟨rfl⟩ := h))
  all_goals (repeat' (first | with_reducible rfl | with_reducible assumption | ((try lift_lets); intro zz; first | ((have hz : State.pending zz = State.pending s := by (dsimp only [zz]; repeat' (first | with_reducible rfl | with_reducible assumption | (obtain ⟨rfl, rfl⟩ := Prod.ext_iff.mp ‹_ = (_, _)›) | (obtain ⟨rfl, -⟩ := Prod.ext_iff.mp ‹_ = (_, _)›) | split | (with_reducible refine (foldl_pending _ _ (fun s x => ?_) _).trans ?_) | (simp only [*]; done) | dsimp only | (simp [*]; done)))); clear_value zz) | clear_value zz) | (obtain ⟨rfl, rfl⟩ := Prod.ext_iff.mp ‹_ = (_, _)›) | (obtain ⟨rfl, -⟩ := Prod.ext_iff.mp ‹_ = (_, _)›) | split | (with_reducible refine (foldl_pending _ _ (fun s x => ?_) _).trans ?_) | (simp only [*]; done) | (simp [*]; done)))
@[simp] theorem execSynSpreadWrite_pending (q : Req) (syn : Byte) (mode : BitVec 2) (depth : Byte) (s : State) : ∀ res, execSynSpreadWrite q syn mode depth s = .next res → res.pending = s.pending := by
  intro res h; simp only [execSynSpreadWrite] at h; cases h; simp
@[simp] theorem restartHalted_pending (s : State) (syn : ℕ) : (restartHalted s syn).pending = s.pending := by simp [restartHalted]
@[simp] theorem execSynUngate_pending (n : Fin 12) (s : State) : ∀ res, execSynUngate n s = .next res → res.pending = s.pending := by
  intro res h
  unfold execSynUngate at h
  repeat' (first | (have h := Host.Outcome.next.inj h; subst h; clear h) | (have h := Host.Outcome.next.inj h; subst h) | (simp only [reduceCtorEq] at h; done) | split at h | dsimp only at h | (cases h; done) | (obtain ⟨rfl⟩ := h))
  all_goals (repeat' (first | with_reducible rfl | with_reducible assumption | ((try lift_lets); intro zz; first | ((have hz : State.pending zz = State.pending s := by (dsimp only [zz]; repeat' (first | with_reducible rfl | with_reducible assumption | (obtain ⟨rfl, rfl⟩ := Prod.ext_iff.mp ‹_ = (_, _)›) | (obtain ⟨rfl, -⟩ := Prod.ext_iff.mp ‹_ = (_, _)›) | split | (with_reducible refine (foldl_pending _ _ (fun s x => ?_) _).trans ?_) | (simp only [*]; done) | dsimp only | (simp [*]; done)))); clear_value zz) | clear_value zz) | (obtain ⟨rfl, rfl⟩ := Prod.ext_iff.mp ‹_ = (_, _)›) | (obtain ⟨rfl, -⟩ := Prod.ext_iff.mp ‹_ = (_, _)›) | split | (with_reducible refine (foldl_pending _ _ (fun s x => ?_) _).trans ?_) | (simp only [*]; done) | (simp [*]; done)))
@[simp] theorem execSysReset_pending (q : Req) (scope : Byte) (confirm : Word) (s : State) : ∀ res, execSysReset q scope confirm s = .next res → res.pending = s.pending := by
  intro res h; simp only [execSysReset] at h; cases h; simp
@[simp] theorem takeover_pending (s : State) (f : Failover) (checks : Bool) : (takeover s f checks).pending = s.pending := by simp [takeover]
@[simp] theorem execTakeover_pending (checks : Bool) (s : State) : ∀ res, execTakeover checks s = .next res → res.pending = s.pending := by
  intro res h
  unfold execTakeover at h
  repeat' (first | (have h := Host.Outcome.next.inj h; subst h; clear h) | (have h := Host.Outcome.next.inj h; subst h) | (simp only [reduceCtorEq] at h; done) | split at h | dsimp only at h | (cases h; done) | (obtain ⟨rfl⟩ := h))
  all_goals (repeat' (first | with_reducible rfl | with_reducible assumption | ((try lift_lets); intro zz; first | ((have hz : State.pending zz = State.pending s := by (dsimp only [zz]; repeat' (first | with_reducible rfl | with_reducible assumption | (obtain ⟨rfl, rfl⟩ := Prod.ext_iff.mp ‹_ = (_, _)›) | (obtain ⟨rfl, -⟩ := Prod.ext_iff.mp ‹_ = (_, _)›) | split | (with_reducible refine (foldl_pending _ _ (fun s x => ?_) _).trans ?_) | (simp only [*]; done) | dsimp only | (simp [*]; done)))); clear_value zz) | clear_value zz) | (obtain ⟨rfl, rfl⟩ := Prod.ext_iff.mp ‹_ = (_, _)›) | (obtain ⟨rfl, -⟩ := Prod.ext_iff.mp ‹_ = (_, _)›) | split | (with_reducible refine (foldl_pending _ _ (fun s x => ?_) _).trans ?_) | (simp only [*]; done) | (simp [*]; done)))
theorem execTamper_pending (s : State) : ∀ res, execTamper s = .next res → res.pending = s.pending := by
  intro res h
  unfold execTamper at h
  dsimp only at h
  split at h <;> (have h := Host.Outcome.next.inj h; subst h; simp)
@[simp] theorem execTbPpsPulse_pending (high : Bool) (s : State) : ∀ res, execTbPpsPulse high s = .next res → res.pending = s.pending := by
  intro res h
  unfold execTbPpsPulse at h
  repeat' (first | (have h := Host.Outcome.next.inj h; subst h; clear h) | (have h := Host.Outcome.next.inj h; subst h) | (simp only [reduceCtorEq] at h; done) | split at h | dsimp only at h | (cases h; done) | (obtain ⟨rfl⟩ := h))
  all_goals (repeat' (first | with_reducible rfl | with_reducible assumption | ((try lift_lets); intro zz; first | ((have hz : State.pending zz = State.pending s := by (dsimp only [zz]; repeat' (first | with_reducible rfl | with_reducible assumption | (obtain ⟨rfl, rfl⟩ := Prod.ext_iff.mp ‹_ = (_, _)›) | (obtain ⟨rfl, -⟩ := Prod.ext_iff.mp ‹_ = (_, _)›) | split | (with_reducible refine (foldl_pending _ _ (fun s x => ?_) _).trans ?_) | (simp only [*]; done) | dsimp only | (simp [*]; done)))); clear_value zz) | clear_value zz) | (obtain ⟨rfl, rfl⟩ := Prod.ext_iff.mp ‹_ = (_, _)›) | (obtain ⟨rfl, -⟩ := Prod.ext_iff.mp ‹_ = (_, _)›) | split | (with_reducible refine (foldl_pending _ _ (fun s x => ?_) _).trans ?_) | (simp only [*]; done) | (simp [*]; done)))
@[simp] theorem execTbRead_pending (q : Req) (s : State) : ∀ res, execTbRead q s = .next res → res.pending = s.pending := by
  intro res h; simp only [execTbRead] at h; cases h; simp
@[simp] theorem execTbSet_pending (q : Req) (ns : W64) (frac : Half) (s : State) : ∀ res, execTbSet q ns frac s = .next res → res.pending = s.pending := by
  intro res h; simp only [execTbSet] at h; cases h; simp
@[simp] theorem execTdmPortStart_pending (p : Fin 8) (s : State) : ∀ res, execTdmPortStart p s = .next res → res.pending = s.pending := by
  intro res h
  unfold execTdmPortStart at h
  repeat' (first | (have h := Host.Outcome.next.inj h; subst h; clear h) | (have h := Host.Outcome.next.inj h; subst h) | (simp only [reduceCtorEq] at h; done) | split at h | dsimp only at h | (cases h; done) | (obtain ⟨rfl⟩ := h))
  all_goals (repeat' (first | with_reducible rfl | with_reducible assumption | ((try lift_lets); intro zz; first | ((have hz : State.pending zz = State.pending s := by (dsimp only [zz]; repeat' (first | with_reducible rfl | with_reducible assumption | (obtain ⟨rfl, rfl⟩ := Prod.ext_iff.mp ‹_ = (_, _)›) | (obtain ⟨rfl, -⟩ := Prod.ext_iff.mp ‹_ = (_, _)›) | split | (with_reducible refine (foldl_pending _ _ (fun s x => ?_) _).trans ?_) | (simp only [*]; done) | dsimp only | (simp [*]; done)))); clear_value zz) | clear_value zz) | (obtain ⟨rfl, rfl⟩ := Prod.ext_iff.mp ‹_ = (_, _)›) | (obtain ⟨rfl, -⟩ := Prod.ext_iff.mp ‹_ = (_, _)›) | split | (with_reducible refine (foldl_pending _ _ (fun s x => ?_) _).trans ?_) | (simp only [*]; done) | (simp [*]; done)))
@[simp] theorem execTdmPortStop_pending (p : Fin 8) (s : State) : ∀ res, execTdmPortStop p s = .next res → res.pending = s.pending := by
  intro res h
  unfold execTdmPortStop at h
  repeat' (first | (have h := Host.Outcome.next.inj h; subst h; clear h) | (have h := Host.Outcome.next.inj h; subst h) | (simp only [reduceCtorEq] at h; done) | split at h | dsimp only at h | (cases h; done) | (obtain ⟨rfl⟩ := h))
  all_goals (repeat' (first | with_reducible rfl | with_reducible assumption | ((try lift_lets); intro zz; first | ((have hz : State.pending zz = State.pending s := by (dsimp only [zz]; repeat' (first | with_reducible rfl | with_reducible assumption | (obtain ⟨rfl, rfl⟩ := Prod.ext_iff.mp ‹_ = (_, _)›) | (obtain ⟨rfl, -⟩ := Prod.ext_iff.mp ‹_ = (_, _)›) | split | (with_reducible refine (foldl_pending _ _ (fun s x => ?_) _).trans ?_) | (simp only [*]; done) | dsimp only | (simp [*]; done)))); clear_value zz) | clear_value zz) | (obtain ⟨rfl, rfl⟩ := Prod.ext_iff.mp ‹_ = (_, _)›) | (obtain ⟨rfl, -⟩ := Prod.ext_iff.mp ‹_ = (_, _)›) | split | (with_reducible refine (foldl_pending _ _ (fun s x => ?_) _).trans ?_) | (simp only [*]; done) | (simp [*]; done)))
theorem execThermalTrip_pending (s : State) : ∀ res, execThermalTrip s = .next res → res.pending = s.pending := by
  intro res h
  have h := Host.Outcome.next.inj h
  subst h
  simp [drawWord]
@[simp] theorem execThermalWatch_pending (s : State) : ∀ res, execThermalWatch s = .next res → res.pending = s.pending := by
  intro res h
  unfold execThermalWatch at h
  repeat' (first | (have h := Host.Outcome.next.inj h; subst h; clear h) | (have h := Host.Outcome.next.inj h; subst h) | (simp only [reduceCtorEq] at h; done) | split at h | dsimp only at h | (cases h; done) | (obtain ⟨rfl⟩ := h))
  all_goals (repeat' (first | with_reducible rfl | with_reducible assumption | ((try lift_lets); intro zz; first | ((have hz : State.pending zz = State.pending s := by (dsimp only [zz]; repeat' (first | with_reducible rfl | with_reducible assumption | (obtain ⟨rfl, rfl⟩ := Prod.ext_iff.mp ‹_ = (_, _)›) | (obtain ⟨rfl, -⟩ := Prod.ext_iff.mp ‹_ = (_, _)›) | split | (with_reducible refine (foldl_pending _ _ (fun s x => ?_) _).trans ?_) | (simp only [*]; done) | dsimp only | (simp [*]; done)))); clear_value zz) | clear_value zz) | (obtain ⟨rfl, rfl⟩ := Prod.ext_iff.mp ‹_ = (_, _)›) | (obtain ⟨rfl, -⟩ := Prod.ext_iff.mp ‹_ = (_, _)›) | split | (with_reducible refine (foldl_pending _ _ (fun s x => ?_) _).trans ?_) | (simp only [*]; done) | (simp [*]; done)))
@[simp] theorem execThmMeasure_pending (q : Req) (mask : Half) (s : State) : ∀ res, execThmMeasure q mask s = .next res → res.pending = s.pending := by
  intro res h; simp only [execThmMeasure] at h; cases h; simp
@[simp] theorem execTileCompare_pending (o : Fin 20) (tile : TileAt) (a : Option (Word × Bool)) (b : Option (Word × Bool)) (s : State) : ∀ res, execTileCompare o tile a b s = .next res → res.pending = s.pending := by
  intro res h; simp only [execTileCompare] at h; cases h; simp
@[simp] theorem tileRow_pending (s : State) (w : Wing) (o : ℕ) (row : ℕ) (tiles : List (ℕ × Option Word)) : (tileRow s w o row tiles).pending = s.pending := by
  unfold tileRow
  repeat' (first | with_reducible rfl | with_reducible assumption | ((try lift_lets); intro zz; first | ((have hz : State.pending zz = State.pending s := by (dsimp only [zz]; repeat' (first | with_reducible rfl | with_reducible assumption | (obtain ⟨rfl, rfl⟩ := Prod.ext_iff.mp ‹_ = (_, _)›) | (obtain ⟨rfl, -⟩ := Prod.ext_iff.mp ‹_ = (_, _)›) | split | (with_reducible refine (foldl_pending _ _ (fun s x => ?_) _).trans ?_) | (simp only [*]; done) | dsimp only | (simp [*]; done)))); clear_value zz) | clear_value zz) | (obtain ⟨rfl, rfl⟩ := Prod.ext_iff.mp ‹_ = (_, _)›) | (obtain ⟨rfl, -⟩ := Prod.ext_iff.mp ‹_ = (_, _)›) | split | (with_reducible refine (foldl_pending _ _ (fun s x => ?_) _).trans ?_) | (simp only [*]; done) | (simp [*]; done))
@[simp] theorem execTileRowRead_pending (w : Wing) (o : Fin 20) (row : ℕ) (tiles : List (ℕ × Option Word)) (s : State) : ∀ res, execTileRowRead w o row tiles s = .next res → res.pending = s.pending := by
  intro res h; simp only [execTileRowRead] at h; cases h; simp
@[simp] theorem execTrafficIdleReturn_pending (port : Fin 24) (dir : Fin 2) (s : State) : ∀ res, execTrafficIdleReturn port dir s = .next res → res.pending = s.pending := by
  intro res h
  unfold execTrafficIdleReturn at h
  repeat' (first | (have h := Host.Outcome.next.inj h; subst h; clear h) | (have h := Host.Outcome.next.inj h; subst h) | (simp only [reduceCtorEq] at h; done) | split at h | dsimp only at h | (cases h; done) | (obtain ⟨rfl⟩ := h))
  all_goals (repeat' (first | with_reducible rfl | with_reducible assumption | ((try lift_lets); intro zz; first | ((have hz : State.pending zz = State.pending s := by (dsimp only [zz]; repeat' (first | with_reducible rfl | with_reducible assumption | (obtain ⟨rfl, rfl⟩ := Prod.ext_iff.mp ‹_ = (_, _)›) | (obtain ⟨rfl, -⟩ := Prod.ext_iff.mp ‹_ = (_, _)›) | split | (with_reducible refine (foldl_pending _ _ (fun s x => ?_) _).trans ?_) | (simp only [*]; done) | dsimp only | (simp [*]; done)))); clear_value zz) | clear_value zz) | (obtain ⟨rfl, rfl⟩ := Prod.ext_iff.mp ‹_ = (_, _)›) | (obtain ⟨rfl, -⟩ := Prod.ext_iff.mp ‹_ = (_, _)›) | split | (with_reducible refine (foldl_pending _ _ (fun s x => ?_) _).trans ?_) | (simp only [*]; done) | (simp [*]; done)))
@[simp] theorem execTransactionTimeout_pending (slice : Fin 3) (m : Fin 16) (target : BusTarget) (s : State) : ∀ res, execTransactionTimeout slice m target s = .next res → res.pending = s.pending := by
  intro res h
  unfold execTransactionTimeout at h
  repeat' (first | (have h := Host.Outcome.next.inj h; subst h; clear h) | (have h := Host.Outcome.next.inj h; subst h) | (simp only [reduceCtorEq] at h; done) | split at h | dsimp only at h | (cases h; done) | (obtain ⟨rfl⟩ := h))
  all_goals (repeat' (first | with_reducible rfl | with_reducible assumption | ((try lift_lets); intro zz; first | ((have hz : State.pending zz = State.pending s := by (dsimp only [zz]; repeat' (first | with_reducible rfl | with_reducible assumption | (obtain ⟨rfl, rfl⟩ := Prod.ext_iff.mp ‹_ = (_, _)›) | (obtain ⟨rfl, -⟩ := Prod.ext_iff.mp ‹_ = (_, _)›) | split | (with_reducible refine (foldl_pending _ _ (fun s x => ?_) _).trans ?_) | (simp only [*]; done) | dsimp only | (simp [*]; done)))); clear_value zz) | clear_value zz) | (obtain ⟨rfl, rfl⟩ := Prod.ext_iff.mp ‹_ = (_, _)›) | (obtain ⟨rfl, -⟩ := Prod.ext_iff.mp ‹_ = (_, _)›) | split | (with_reducible refine (foldl_pending _ _ (fun s x => ?_) _).trans ?_) | (simp only [*]; done) | (simp [*]; done)))
@[simp] theorem execTrigger_pending (q : Req) (port : Byte) (camera : Byte) (word : Word) (s : State) : ∀ res, execTrigger q port camera word s = .next res → res.pending = s.pending := by
  intro res h; simp only [execTrigger] at h; cases h; simp
@[simp] theorem execTriggerDeparture_pending (port : Fin 24) (offset : ℕ) (s : State) : ∀ res, execTriggerDeparture port offset s = .next res → res.pending = s.pending := by
  intro res h
  unfold execTriggerDeparture at h
  repeat' (first | (have h := Host.Outcome.next.inj h; subst h; clear h) | (have h := Host.Outcome.next.inj h; subst h) | (simp only [reduceCtorEq] at h; done) | split at h | dsimp only at h | (cases h; done) | (obtain ⟨rfl⟩ := h))
  all_goals (repeat' (first | with_reducible rfl | with_reducible assumption | ((try lift_lets); intro zz; first | ((have hz : State.pending zz = State.pending s := by (dsimp only [zz]; repeat' (first | with_reducible rfl | with_reducible assumption | (obtain ⟨rfl, rfl⟩ := Prod.ext_iff.mp ‹_ = (_, _)›) | (obtain ⟨rfl, -⟩ := Prod.ext_iff.mp ‹_ = (_, _)›) | split | (with_reducible refine (foldl_pending _ _ (fun s x => ?_) _).trans ?_) | (simp only [*]; done) | dsimp only | (simp [*]; done)))); clear_value zz) | clear_value zz) | (obtain ⟨rfl, rfl⟩ := Prod.ext_iff.mp ‹_ = (_, _)›) | (obtain ⟨rfl, -⟩ := Prod.ext_iff.mp ‹_ = (_, _)›) | split | (with_reducible refine (foldl_pending _ _ (fun s x => ?_) _).trans ?_) | (simp only [*]; done) | (simp [*]; done)))
@[simp] theorem execUnknownTransaction_pending (port : Port) (code : Byte) (s : State) : ∀ res, execUnknownTransaction port code s = .next res → res.pending = s.pending := by
  intro res h
  unfold execUnknownTransaction at h
  repeat' (first | (have h := Host.Outcome.next.inj h; subst h; clear h) | (have h := Host.Outcome.next.inj h; subst h) | (simp only [reduceCtorEq] at h; done) | split at h | dsimp only at h | (cases h; done) | (obtain ⟨rfl⟩ := h))
  all_goals (repeat' (first | with_reducible rfl | with_reducible assumption | ((try lift_lets); intro zz; first | ((have hz : State.pending zz = State.pending s := by (dsimp only [zz]; repeat' (first | with_reducible rfl | with_reducible assumption | (obtain ⟨rfl, rfl⟩ := Prod.ext_iff.mp ‹_ = (_, _)›) | (obtain ⟨rfl, -⟩ := Prod.ext_iff.mp ‹_ = (_, _)›) | split | (with_reducible refine (foldl_pending _ _ (fun s x => ?_) _).trans ?_) | (simp only [*]; done) | dsimp only | (simp [*]; done)))); clear_value zz) | clear_value zz) | (obtain ⟨rfl, rfl⟩ := Prod.ext_iff.mp ‹_ = (_, _)›) | (obtain ⟨rfl, -⟩ := Prod.ext_iff.mp ‹_ = (_, _)›) | split | (with_reducible refine (foldl_pending _ _ (fun s x => ?_) _).trans ?_) | (simp only [*]; done) | (simp [*]; done)))
@[simp] theorem execVbIdTransition_pending (port : Fin 4) (sub : Fin 4) (starts : Bool) (drift : ℤ) (s : State) : ∀ res, execVbIdTransition port sub starts drift s = .next res → res.pending = s.pending := by
  intro res h
  unfold execVbIdTransition at h
  repeat' (first | (have h := Host.Outcome.next.inj h; subst h; clear h) | (have h := Host.Outcome.next.inj h; subst h) | (simp only [reduceCtorEq] at h; done) | split at h | dsimp only at h | (cases h; done) | (obtain ⟨rfl⟩ := h))
  all_goals (repeat' (first | with_reducible rfl | with_reducible assumption | ((try lift_lets); intro zz; first | ((have hz : State.pending zz = State.pending s := by (dsimp only [zz]; repeat' (first | with_reducible rfl | with_reducible assumption | (obtain ⟨rfl, rfl⟩ := Prod.ext_iff.mp ‹_ = (_, _)›) | (obtain ⟨rfl, -⟩ := Prod.ext_iff.mp ‹_ = (_, _)›) | split | (with_reducible refine (foldl_pending _ _ (fun s x => ?_) _).trans ?_) | (simp only [*]; done) | dsimp only | (simp [*]; done)))); clear_value zz) | clear_value zz) | (obtain ⟨rfl, rfl⟩ := Prod.ext_iff.mp ‹_ = (_, _)›) | (obtain ⟨rfl, -⟩ := Prod.ext_iff.mp ‹_ = (_, _)›) | split | (with_reducible refine (foldl_pending _ _ (fun s x => ?_) _).trans ?_) | (simp only [*]; done) | (simp [*]; done)))
@[simp] theorem execVitCommit_pending (q : Req) (slot : Byte) (len : Word) (crc : Word) (s : State) : ∀ res, execVitCommit q slot len crc s = .next res → res.pending = s.pending := by
  intro res h; simp only [execVitCommit] at h; cases h; simp
@[simp] theorem execVitCommitComplete_pending (n : Fin 64) (s : State) : ∀ res, execVitCommitComplete n s = .next res → res.pending = s.pending := by
  intro res h
  unfold execVitCommitComplete at h
  repeat' (first | (have h := Host.Outcome.next.inj h; subst h; clear h) | (have h := Host.Outcome.next.inj h; subst h) | (simp only [reduceCtorEq] at h; done) | split at h | dsimp only at h | (cases h; done) | (obtain ⟨rfl⟩ := h))
  all_goals (repeat' (first | with_reducible rfl | with_reducible assumption | ((try lift_lets); intro zz; first | ((have hz : State.pending zz = State.pending s := by (dsimp only [zz]; repeat' (first | with_reducible rfl | with_reducible assumption | (obtain ⟨rfl, rfl⟩ := Prod.ext_iff.mp ‹_ = (_, _)›) | (obtain ⟨rfl, -⟩ := Prod.ext_iff.mp ‹_ = (_, _)›) | split | (with_reducible refine (foldl_pending _ _ (fun s x => ?_) _).trans ?_) | (simp only [*]; done) | dsimp only | (simp [*]; done)))); clear_value zz) | clear_value zz) | (obtain ⟨rfl, rfl⟩ := Prod.ext_iff.mp ‹_ = (_, _)›) | (obtain ⟨rfl, -⟩ := Prod.ext_iff.mp ‹_ = (_, _)›) | split | (with_reducible refine (foldl_pending _ _ (fun s x => ?_) _).trans ?_) | (simp only [*]; done) | (simp [*]; done)))
@[simp] theorem execVitData_pending (q : Req) (slot : Byte) (offset : Word) (data : List Byte) (s : State) : ∀ res, execVitData q slot offset data s = .next res → res.pending = s.pending := by
  intro res h; simp only [execVitData] at h; cases h; simp
@[simp] theorem execVltChallenge_pending (q : Req) (nonce : List Byte) (s : State) : ∀ res, execVltChallenge q nonce s = .next res → res.pending = s.pending := by
  intro res h; simp only [execVltChallenge] at h; cases h; simp
@[simp] theorem execVltChallengeComplete_pending (s : State) : ∀ res, execVltChallengeComplete s = .next res → res.pending = s.pending := by
  intro res h
  unfold execVltChallengeComplete at h
  repeat' (first | (have h := Host.Outcome.next.inj h; subst h; clear h) | (have h := Host.Outcome.next.inj h; subst h) | (simp only [reduceCtorEq] at h; done) | split at h | dsimp only at h | (cases h; done) | (obtain ⟨rfl⟩ := h))
  all_goals (repeat' (first | with_reducible rfl | with_reducible assumption | ((try lift_lets); intro zz; first | ((have hz : State.pending zz = State.pending s := by (dsimp only [zz]; repeat' (first | with_reducible rfl | with_reducible assumption | (obtain ⟨rfl, rfl⟩ := Prod.ext_iff.mp ‹_ = (_, _)›) | (obtain ⟨rfl, -⟩ := Prod.ext_iff.mp ‹_ = (_, _)›) | split | (with_reducible refine (foldl_pending _ _ (fun s x => ?_) _).trans ?_) | (simp only [*]; done) | dsimp only | (simp [*]; done)))); clear_value zz) | clear_value zz) | (obtain ⟨rfl, rfl⟩ := Prod.ext_iff.mp ‹_ = (_, _)›) | (obtain ⟨rfl, -⟩ := Prod.ext_iff.mp ‹_ = (_, _)›) | split | (with_reducible refine (foldl_pending _ _ (fun s x => ?_) _).trans ?_) | (simp only [*]; done) | (simp [*]; done)))
@[simp] theorem execVltDerive_pending (q : Req) (slot : Byte) (ctx : List Byte) (s : State) : ∀ res, execVltDerive q slot ctx s = .next res → res.pending = s.pending := by
  intro res h; simp only [execVltDerive] at h; cases h; simp
@[simp] theorem zeroCounters_pending (s : State) : (zeroCounters s).pending = s.pending := by simp [zeroCounters]
@[simp] theorem execVltDeriveComplete_pending (s : State) : ∀ res, execVltDeriveComplete s = .next res → res.pending = s.pending := by
  intro res h
  unfold execVltDeriveComplete at h
  repeat' (first | (have h := Host.Outcome.next.inj h; subst h; clear h) | (have h := Host.Outcome.next.inj h; subst h) | (simp only [reduceCtorEq] at h; done) | split at h | dsimp only at h | (cases h; done) | (obtain ⟨rfl⟩ := h))
  all_goals (repeat' (first | with_reducible rfl | with_reducible assumption | ((try lift_lets); intro zz; first | ((have hz : State.pending zz = State.pending s := by (dsimp only [zz]; repeat' (first | with_reducible rfl | with_reducible assumption | (obtain ⟨rfl, rfl⟩ := Prod.ext_iff.mp ‹_ = (_, _)›) | (obtain ⟨rfl, -⟩ := Prod.ext_iff.mp ‹_ = (_, _)›) | split | (with_reducible refine (foldl_pending _ _ (fun s x => ?_) _).trans ?_) | (simp only [*]; done) | dsimp only | (simp [*]; done)))); clear_value zz) | clear_value zz) | (obtain ⟨rfl, rfl⟩ := Prod.ext_iff.mp ‹_ = (_, _)›) | (obtain ⟨rfl, -⟩ := Prod.ext_iff.mp ‹_ = (_, _)›) | split | (with_reducible refine (foldl_pending _ _ (fun s x => ?_) _).trans ?_) | (simp only [*]; done) | (simp [*]; done)))
@[simp] theorem execVltInvalidate_pending (q : Req) (slot : Byte) (s : State) : ∀ res, execVltInvalidate q slot s = .next res → res.pending = s.pending := by
  intro res h; simp only [execVltInvalidate] at h; cases h; simp
@[simp] theorem execVltSecretWrite_pending (q : Req) (slot : Byte) (secret : List Byte) (s : State) : ∀ res, execVltSecretWrite q slot secret s = .next res → res.pending = s.pending := by
  intro res h; simp only [execVltSecretWrite] at h; cases h; simp
@[simp] theorem execVltStatus_pending (q : Req) (s : State) : ∀ res, execVltStatus q s = .next res → res.pending = s.pending := by
  intro res h; simp only [execVltStatus] at h; cases h; simp
@[simp] theorem execW1cClear_pending (q : Req) (addr : Addr) (bank : Byte) (ones : Word) (s : State) : ∀ res, execW1cClear q addr bank ones s = .next res → res.pending = s.pending := by
  intro res h; simp only [execW1cClear] at h; cases h; simp
@[simp] theorem execWakeTimeout_pending (w : Wing) (s : State) : ∀ res, execWakeTimeout w s = .next res → res.pending = s.pending := by
  intro res h
  unfold execWakeTimeout at h
  repeat' (first | (have h := Host.Outcome.next.inj h; subst h; clear h) | (have h := Host.Outcome.next.inj h; subst h) | (simp only [reduceCtorEq] at h; done) | split at h | dsimp only at h | (cases h; done) | (obtain ⟨rfl⟩ := h))
  all_goals (repeat' (first | with_reducible rfl | with_reducible assumption | ((try lift_lets); intro zz; first | ((have hz : State.pending zz = State.pending s := by (dsimp only [zz]; repeat' (first | with_reducible rfl | with_reducible assumption | (obtain ⟨rfl, rfl⟩ := Prod.ext_iff.mp ‹_ = (_, _)›) | (obtain ⟨rfl, -⟩ := Prod.ext_iff.mp ‹_ = (_, _)›) | split | (with_reducible refine (foldl_pending _ _ (fun s x => ?_) _).trans ?_) | (simp only [*]; done) | dsimp only | (simp [*]; done)))); clear_value zz) | clear_value zz) | (obtain ⟨rfl, rfl⟩ := Prod.ext_iff.mp ‹_ = (_, _)›) | (obtain ⟨rfl, -⟩ := Prod.ext_iff.mp ‹_ = (_, _)›) | split | (with_reducible refine (foldl_pending _ _ (fun s x => ?_) _).trans ?_) | (simp only [*]; done) | (simp [*]; done)))
@[simp] theorem execWakeTimeoutPlk_pending (port : Fin 24) (s : State) : ∀ res, execWakeTimeoutPlk port s = .next res → res.pending = s.pending := by
  intro res h
  unfold execWakeTimeoutPlk at h
  repeat' (first | (have h := Host.Outcome.next.inj h; subst h; clear h) | (have h := Host.Outcome.next.inj h; subst h) | (simp only [reduceCtorEq] at h; done) | split at h | dsimp only at h | (cases h; done) | (obtain ⟨rfl⟩ := h))
  all_goals (repeat' (first | with_reducible rfl | with_reducible assumption | ((try lift_lets); intro zz; first | ((have hz : State.pending zz = State.pending s := by (dsimp only [zz]; repeat' (first | with_reducible rfl | with_reducible assumption | (obtain ⟨rfl, rfl⟩ := Prod.ext_iff.mp ‹_ = (_, _)›) | (obtain ⟨rfl, -⟩ := Prod.ext_iff.mp ‹_ = (_, _)›) | split | (with_reducible refine (foldl_pending _ _ (fun s x => ?_) _).trans ?_) | (simp only [*]; done) | dsimp only | (simp [*]; done)))); clear_value zz) | clear_value zz) | (obtain ⟨rfl, rfl⟩ := Prod.ext_iff.mp ‹_ = (_, _)›) | (obtain ⟨rfl, -⟩ := Prod.ext_iff.mp ‹_ = (_, _)›) | split | (with_reducible refine (foldl_pending _ _ (fun s x => ?_) _).trans ?_) | (simp only [*]; done) | (simp [*]; done)))
theorem execWarmReset_pending (s : State) : ∀ res, execWarmReset s = .next res → res.pending = s.pending := by
  intro res h
  unfold execWarmReset at h
  split at h <;> (have h := Host.Outcome.next.inj h; subst h; simp)
@[simp] theorem execWingFault_pending (w : Wing) (cause : Fin 5) (s : State) : ∀ res, execWingFault w cause s = .next res → res.pending = s.pending := by
  intro res h; simp only [execWingFault] at h; cases h; simp
@[simp] theorem readmitReady_pending (s : State) (w : Wing) : (readmitReady s w).pending = s.pending := by simp [readmitReady]
@[simp] theorem wakeDone_pending (s : State) (w : Wing) : (wakeDone s w).pending = s.pending := by
  unfold wakeDone; repeat' (first | with_reducible rfl | (simp; done) | split | dsimp only)
@[simp] theorem execWingReady_pending (w : Wing) (s : State) : ∀ res, execWingReady w s = .next res → res.pending = s.pending := by
  intro res h
  unfold execWingReady at h
  repeat' (first | (have h := Host.Outcome.next.inj h; subst h; clear h) | (have h := Host.Outcome.next.inj h; subst h) | (simp only [reduceCtorEq] at h; done) | split at h | dsimp only at h | (cases h; done) | (obtain ⟨rfl⟩ := h))
  all_goals (repeat' (first | with_reducible rfl | with_reducible assumption | ((try lift_lets); intro zz; first | ((have hz : State.pending zz = State.pending s := by (dsimp only [zz]; repeat' (first | with_reducible rfl | with_reducible assumption | (obtain ⟨rfl, rfl⟩ := Prod.ext_iff.mp ‹_ = (_, _)›) | (obtain ⟨rfl, -⟩ := Prod.ext_iff.mp ‹_ = (_, _)›) | split | (with_reducible refine (foldl_pending _ _ (fun s x => ?_) _).trans ?_) | (simp only [*]; done) | dsimp only | (simp [*]; done)))); clear_value zz) | clear_value zz) | (obtain ⟨rfl, rfl⟩ := Prod.ext_iff.mp ‹_ = (_, _)›) | (obtain ⟨rfl, -⟩ := Prod.ext_iff.mp ‹_ = (_, _)›) | split | (with_reducible refine (foldl_pending _ _ (fun s x => ?_) _).trans ?_) | (simp only [*]; done) | (simp [*]; done)))
@[simp] theorem execWingSupplyFault_pending (w : Wing) (s : State) : ∀ res, execWingSupplyFault w s = .next res → res.pending = s.pending := by
  intro res h; simp only [execWingSupplyFault] at h; cases h; simp
@[simp] theorem execWrite_pending (q : Req) (addr : Addr) (bank : Byte) (value : Word) (s : State) : ∀ res, execWrite q addr bank value s = .next res → res.pending = s.pending := by
  intro res h; simp only [execWrite] at h; cases h; simp
@[simp] theorem execWriteMasked_pending (q : Req) (addr : Addr) (bank : Byte) (mask : Word) (value : Word) (s : State) : ∀ res, execWriteMasked q addr bank mask value s = .next res → res.pending = s.pending := by
  intro res h; simp only [execWriteMasked] at h; cases h; simp
@[simp] theorem execWritePacket_pending (port : Port) (bytes : List Byte) (s : State) : ∀ res, execWritePacket port bytes s = .next res → res.pending = s.pending := by
  intro res h
  unfold execWritePacket at h
  repeat' (first | (have h := Host.Outcome.next.inj h; subst h; clear h) | (have h := Host.Outcome.next.inj h; subst h) | (simp only [reduceCtorEq] at h; done) | split at h | dsimp only at h | (cases h; done) | (obtain ⟨rfl⟩ := h))
  all_goals (repeat' (first | with_reducible rfl | with_reducible assumption | ((try lift_lets); intro zz; first | ((have hz : State.pending zz = State.pending s := by (dsimp only [zz]; repeat' (first | with_reducible rfl | with_reducible assumption | (obtain ⟨rfl, rfl⟩ := Prod.ext_iff.mp ‹_ = (_, _)›) | (obtain ⟨rfl, -⟩ := Prod.ext_iff.mp ‹_ = (_, _)›) | split | (with_reducible refine (foldl_pending _ _ (fun s x => ?_) _).trans ?_) | (simp only [*]; done) | dsimp only | (simp [*]; done)))); clear_value zz) | clear_value zz) | (obtain ⟨rfl, rfl⟩ := Prod.ext_iff.mp ‹_ = (_, _)›) | (obtain ⟨rfl, -⟩ := Prod.ext_iff.mp ‹_ = (_, _)›) | split | (with_reducible refine (foldl_pending _ _ (fun s x => ?_) _).trans ?_) | (simp only [*]; done) | (simp [*]; done)))
@[simp] theorem reachBoundary_pending (s : State) (c : XChange) : (reachBoundary s c).1.pending = s.pending := by
  unfold reachBoundary; repeat' (first | with_reducible rfl | (simp; done) | split | dsimp only)
@[simp] theorem reachAll_pending (s : State) (x1 : List XChange) : (reachAll s x1).pending = s.pending := by
  induction x1 generalizing s with
  | nil => rfl
  | cons a l ih => simp [reachAll, ih]
@[simp] theorem execXbarChangeBoundary_pending (s : State) : ∀ res, execXbarChangeBoundary s = .next res → res.pending = s.pending := by
  intro res h; simp only [execXbarChangeBoundary] at h; cases h; simp
@[simp] theorem land_pending (s : State) (f : Flight) : (land s f).1.pending = s.pending := by
  unfold land; repeat' (first | with_reducible rfl | (simp; done) | split | dsimp only)
@[simp] theorem portTick_pending (s : State) (port : Fin 24) : (portTick s port).pending = s.pending := by
  simp [portTick]
@[simp] theorem linksTick_pending (s : State) : (linksTick s).pending = s.pending := by
  simp [linksTick]
@[simp] theorem takeSpread_pending (s : State) (n : ℕ) : (takeSpread s n).pending = s.pending := by simp [takeSpread]
@[simp] theorem spreadTick_pending (s : State) : (spreadTick s).pending = s.pending := by simp [spreadTick]

end Sys2Proof.Machine
end

