-- ==== Sys2Proof/Laws/Tab.lean ====
section
/-! SUPPORT. The laws of the sparse table: what a read gives after a write, and that a write keeps the canonical form. -/

namespace Sys2Proof.Machine

@[simp] theorem tget_nil {α : Type} (d : α) (k : Nat) : tget d [] k = d := rfl

/-- A number below every listed one reads as the default. -/
theorem tget_of_tabove {α : Type} (d : α) (t : Tab α) (k : Nat) (h : tabove k t = true) : tget d t k = d := by
  induction t with
  | nil => rfl
  | cons e r ih =>
    obtain ⟨j, w⟩ := e
    simp only [tabove, List.all_cons, Bool.and_eq_true, decide_eq_true_eq] at h
    simp only [tget, if_neg (show ¬ j = k by omega)]
    exact ih h.2

theorem tabove_mono {α : Type} {a b : Nat} (hab : a ≤ b) {t : Tab α} (h : tabove b t = true) : tabove a t = true := by
  simp only [tabove, List.all_eq_true, decide_eq_true_eq] at *
  exact fun x hx => lt_of_le_of_lt hab (h x hx)

/-- A write leaves every other number alone. -/
theorem tget_tput_other {α : Type} [DecidableEq α] (d : α) (t : Tab α) (k j : Nat) (v : α) (h : j ≠ k) :
    tget d (tput d t k v) j = tget d t j := by
  induction t with
  | nil => by_cases hv : v = d <;> simp [tput, tget, hv, Ne.symm h]
  | cons e r ih =>
    obtain ⟨i, w⟩ := e
    by_cases h1 : k < i
    · by_cases hv : v = d <;> simp [tput, tget, h1, hv, Ne.symm h]
    · by_cases h2 : k = i
      · subst h2
        by_cases hv : v = d <;> simp [tput, tget, hv, Ne.symm h]
      · simp [tput, tget, h1, h2, ih]

/-- In a table of canonical form, a write is what the next read gives. -/
theorem tget_tput_same {α : Type} [DecidableEq α] (f : Nat → α) (t : Tab α) (k : Nat) (v : α) (h : twf f t = true) :
    tget (f k) (tput (f k) t k v) k = v := by
  induction t with
  | nil => by_cases hv : v = f k <;> simp [tput, tget, hv]
  | cons e r ih =>
    obtain ⟨i, w⟩ := e
    simp only [twf, Bool.and_eq_true, decide_eq_true_eq] at h
    obtain ⟨⟨hw, ha⟩, hr⟩ := h
    by_cases h1 : k < i
    · by_cases hv : v = f k
      · have hk := tget_of_tabove (f k) r k (tabove_mono (Nat.le_of_lt h1) ha)
        simp [tput, tget, h1, hv, hk, Nat.ne_of_gt h1]
      · simp [tput, tget, h1, hv]
    · by_cases h2 : k = i
      · subst h2
        by_cases hv : v = f k
        · simp [tput, hv, tget_of_tabove (f k) r k ha]
        · simp [tput, tget, hv]
      · simp [tput, tget, h1, h2, Ne.symm h2, ih hr]

/-- A write of anything but the default is what the next read gives, whatever the table. -/
theorem tget_tput_of_ne {α : Type} [DecidableEq α] (d : α) (t : Tab α) (k : Nat) (v : α) (h : v ≠ d) : tget d (tput d t k v) k = v := by
  induction t with
  | nil => simp [tput, tget, h]
  | cons e r ih =>
    obtain ⟨i, w⟩ := e
    by_cases h1 : k < i
    · simp [tput, tget, h1, h]
    · by_cases h2 : k = i
      · subst h2; simp [tput, tget, h]
      · simp [tput, tget, h1, h2, Ne.symm h2, ih]

theorem tabove_tput {α : Type} [DecidableEq α] (d : α) (t : Tab α) (k n : Nat) (v : α) (hn : n < k) (h : tabove n t = true) :
    tabove n (tput d t k v) = true := by
  induction t with
  | nil => by_cases hv : v = d <;> simp [tput, tabove, hv, hn]
  | cons e r ih =>
    obtain ⟨i, w⟩ := e
    simp only [tabove, List.all_cons, Bool.and_eq_true, decide_eq_true_eq] at h ih ⊢
    by_cases h1 : k < i
    · by_cases hv : v = d
      · simp [tput, h1, hv, h.1, h.2]
      · simp [tput, h1, hv, hn, h.1, h.2]
    · by_cases h2 : k = i
      · by_cases hv : v = d
        · simp [tput, h2, hv, h.2]
        · simp [tput, h2, hv, h.1, h.2]
      · simp [tput, h1, h2, h.1, ih h.2]

/-- A write keeps the canonical form. -/
theorem twf_tput {α : Type} [DecidableEq α] (f : Nat → α) (t : Tab α) (k : Nat) (v : α) (h : twf f t = true) :
    twf f (tput (f k) t k v) = true := by
  induction t with
  | nil => by_cases hv : v = f k <;> simp [tput, twf, tabove, hv]
  | cons e r ih =>
    obtain ⟨i, w⟩ := e
    have h0 := h
    simp only [twf, Bool.and_eq_true, decide_eq_true_eq] at h
    obtain ⟨⟨hw, ha⟩, hr⟩ := h
    by_cases h1 : k < i
    · by_cases hv : v = f k
      · simp [tput, h1, hv, h0]
      · have hb : tabove k r = true := tabove_mono (Nat.le_of_lt h1) ha
        simp only [tabove] at hb ha
        simp [tput, twf, tabove, h1, hv, hw, ha, hr, hb]
    · by_cases h2 : k = i
      · subst h2
        by_cases hv : v = f k
        · simp [tput, hv, hr]
        · simp [tput, twf, hv, ha, hr]
      · simp [tput, twf, h1, h2, hw, ih hr, tabove_tput (f k) r k i v (by omega) ha]

end Sys2Proof.Machine
end

