-- ==== Sys2Proof/Laws/State.lean ====
section
/-! SUPPORT. What every update of one unit leaves alone: one lemma per update and field of State, and what the read of a table gives after
its update. -/

namespace Sys2Proof.Machine
open Sys2Proof
set_option linter.unusedVariables false

/-- A raise is an update of the event unit alone. -/
theorem raise_eq (s : State) (src : Nat) (d : Word) : raise s src d = { s with ev := (raise s src d).ev } := by
  unfold raise; dsimp only; split <;> rfl
/-- So is a raise stamped with a commit tick. -/
theorem raiseCommit_eq (s : State) (src : Nat) (d : Word) : raiseCommit s src d = { s with ev := (raiseCommit s src d).ev } := by
  unfold raiseCommit; dsimp only; split <;> rfl
/-- An update of a port's record is an update of the ports alone. -/
theorem setPort_eq (s : State) (p : Port) (c : CmdPort) : setPort s p c = { s with ports := (setPort s p c).ports } := by
  cases p <;> rfl
/-- So is the taking or giving back of a credit. -/
theorem holdCredit_eq (s : State) (p : Port) (b : Bool) : holdCredit s p b = { s with ports := (holdCredit s p b).ports } := by
  unfold holdCredit; cases p <;> rfl

/-! ### setOut -/

@[simp] theorem setOut_clk (s : State) (n : Nat) (o : Out) : (setOut s n o).clk = s.clk := rfl
@[simp] theorem setOut_dispA (s : State) (n : Nat) (o : Out) : (setOut s n o).dispA = s.dispA := rfl
@[simp] theorem setOut_dispB (s : State) (n : Nat) (o : Out) : (setOut s n o).dispB = s.dispB := rfl
@[simp] theorem setOut_ports (s : State) (n : Nat) (o : Out) : (setOut s n o).ports = s.ports := rfl
@[simp] theorem setOut_tb (s : State) (n : Nat) (o : Out) : (setOut s n o).tb = s.tb := rfl
@[simp] theorem setOut_ev (s : State) (n : Nat) (o : Out) : (setOut s n o).ev = s.ev := rfl
@[simp] theorem setOut_modes (s : State) (n : Nat) (o : Out) : (setOut s n o).modes = s.modes := rfl
@[simp] theorem setOut_boot (s : State) (n : Nat) (o : Out) : (setOut s n o).boot = s.boot := rfl
@[simp] theorem setOut_runs (s : State) (n : Nat) (o : Out) : (setOut s n o).runs = s.runs := rfl
@[simp] theorem setOut_words (s : State) (n : Nat) (o : Out) : (setOut s n o).words = s.words := rfl
@[simp] theorem setOut_flip (s : State) (n : Nat) (o : Out) : (setOut s n o).flip = s.flip := rfl
@[simp] theorem setOut_cands (s : State) (n : Nat) (o : Out) : (setOut s n o).cands = s.cands := rfl
@[simp] theorem setOut_dpll (s : State) (n : Nat) (o : Out) : (setOut s n o).dpll = s.dpll := rfl
@[simp] theorem setOut_fsyncs (s : State) (n : Nat) (o : Out) : (setOut s n o).fsyncs = s.fsyncs := rfl
@[simp] theorem setOut_syns (s : State) (n : Nat) (o : Out) : (setOut s n o).syns = s.syns := rfl
@[simp] theorem setOut_clocks (s : State) (n : Nat) (o : Out) : (setOut s n o).clocks = s.clocks := rfl
@[simp] theorem setOut_vault (s : State) (n : Nat) (o : Out) : (setOut s n o).vault = s.vault := rfl
@[simp] theorem setOut_plks (s : State) (n : Nat) (o : Out) : (setOut s n o).plks = s.plks := rfl
@[simp] theorem setOut_caps (s : State) (n : Nat) (o : Out) : (setOut s n o).caps = s.caps := rfl
@[simp] theorem setOut_mem (s : State) (n : Nat) (o : Out) : (setOut s n o).mem = s.mem := rfl
@[simp] theorem setOut_allocs (s : State) (n : Nat) (o : Out) : (setOut s n o).allocs = s.allocs := rfl
@[simp] theorem setOut_rtes (s : State) (n : Nat) (o : Out) : (setOut s n o).rtes = s.rtes := rfl
@[simp] theorem setOut_lyrs (s : State) (n : Nat) (o : Out) : (setOut s n o).lyrs = s.lyrs := rfl
@[simp] theorem setOut_sets (s : State) (n : Nat) (o : Out) : (setOut s n o).sets = s.sets := rfl
@[simp] theorem setOut_nextSet (s : State) (n : Nat) (o : Out) : (setOut s n o).nextSet = s.nextSet := rfl
@[simp] theorem setOut_fences (s : State) (n : Nat) (o : Out) : (setOut s n o).fences = s.fences := rfl
@[simp] theorem setOut_signals (s : State) (n : Nat) (o : Out) : (setOut s n o).signals = s.signals := rfl
@[simp] theorem setOut_signalTick (s : State) (n : Nat) (o : Out) : (setOut s n o).signalTick = s.signalTick := rfl
@[simp] theorem setOut_vits (s : State) (n : Nat) (o : Out) : (setOut s n o).vits = s.vits := rfl
@[simp] theorem setOut_slots (s : State) (n : Nat) (o : Out) : (setOut s n o).slots = s.slots := rfl
@[simp] theorem setOut_meshes (s : State) (n : Nat) (o : Out) : (setOut s n o).meshes = s.meshes := rfl
@[simp] theorem setOut_warp (s : State) (n : Nat) (o : Out) : (setOut s n o).warp = s.warp := rfl
@[simp] theorem setOut_warpUsedA (s : State) (n : Nat) (o : Out) : (setOut s n o).warpUsedA = s.warpUsedA := rfl
@[simp] theorem setOut_warpUsedB (s : State) (n : Nat) (o : Out) : (setOut s n o).warpUsedB = s.warpUsedB := rfl
@[simp] theorem setOut_clrs (s : State) (n : Nat) (o : Out) : (setOut s n o).clrs = s.clrs := rfl
@[simp] theorem setOut_scls (s : State) (n : Nat) (o : Out) : (setOut s n o).scls = s.scls := rfl
@[simp] theorem setOut_dpss (s : State) (n : Nat) (o : Out) : (setOut s n o).dpss = s.dpss := rfl
@[simp] theorem setOut_edps (s : State) (n : Nat) (o : Out) : (setOut s n o).edps = s.edps := rfl
@[simp] theorem setOut_csis (s : State) (n : Nat) (o : Out) : (setOut s n o).csis = s.csis := rfl
@[simp] theorem setOut_audio (s : State) (n : Nat) (o : Out) : (setOut s n o).audio = s.audio := rfl
@[simp] theorem setOut_wingA (s : State) (n : Nat) (o : Out) : (setOut s n o).wingA = s.wingA := rfl
@[simp] theorem setOut_wingB (s : State) (n : Nat) (o : Out) : (setOut s n o).wingB = s.wingB := rfl
@[simp] theorem setOut_failover (s : State) (n : Nat) (o : Out) : (setOut s n o).failover = s.failover := rfl
@[simp] theorem setOut_arbs (s : State) (n : Nat) (o : Out) : (setOut s n o).arbs = s.arbs := rfl
@[simp] theorem setOut_thermal (s : State) (n : Nat) (o : Out) : (setOut s n o).thermal = s.thermal := rfl
@[simp] theorem setOut_ledger (s : State) (n : Nat) (o : Out) : (setOut s n o).ledger = s.ledger := rfl
@[simp] theorem setOut_bmx (s : State) (n : Nat) (o : Out) : (setOut s n o).bmx = s.bmx := rfl
@[simp] theorem setOut_gpioIn (s : State) (n : Nat) (o : Out) : (setOut s n o).gpioIn = s.gpioIn := rfl
@[simp] theorem setOut_freeCtr (s : State) (n : Nat) (o : Out) : (setOut s n o).freeCtr = s.freeCtr := rfl

/-! ### setWord -/

@[simp] theorem setWord_clk (s : State) (bank cls inst w : Nat) (v : Word) : (setWord s bank cls inst w v).clk = s.clk := rfl
@[simp] theorem setWord_dispA (s : State) (bank cls inst w : Nat) (v : Word) : (setWord s bank cls inst w v).dispA = s.dispA := rfl
@[simp] theorem setWord_dispB (s : State) (bank cls inst w : Nat) (v : Word) : (setWord s bank cls inst w v).dispB = s.dispB := rfl
@[simp] theorem setWord_ports (s : State) (bank cls inst w : Nat) (v : Word) : (setWord s bank cls inst w v).ports = s.ports := rfl
@[simp] theorem setWord_tb (s : State) (bank cls inst w : Nat) (v : Word) : (setWord s bank cls inst w v).tb = s.tb := rfl
@[simp] theorem setWord_ev (s : State) (bank cls inst w : Nat) (v : Word) : (setWord s bank cls inst w v).ev = s.ev := rfl
@[simp] theorem setWord_modes (s : State) (bank cls inst w : Nat) (v : Word) : (setWord s bank cls inst w v).modes = s.modes := rfl
@[simp] theorem setWord_boot (s : State) (bank cls inst w : Nat) (v : Word) : (setWord s bank cls inst w v).boot = s.boot := rfl
@[simp] theorem setWord_runs (s : State) (bank cls inst w : Nat) (v : Word) : (setWord s bank cls inst w v).runs = s.runs := rfl
@[simp] theorem setWord_flip (s : State) (bank cls inst w : Nat) (v : Word) : (setWord s bank cls inst w v).flip = s.flip := rfl
@[simp] theorem setWord_cands (s : State) (bank cls inst w : Nat) (v : Word) : (setWord s bank cls inst w v).cands = s.cands := rfl
@[simp] theorem setWord_dpll (s : State) (bank cls inst w : Nat) (v : Word) : (setWord s bank cls inst w v).dpll = s.dpll := rfl
@[simp] theorem setWord_fsyncs (s : State) (bank cls inst w : Nat) (v : Word) : (setWord s bank cls inst w v).fsyncs = s.fsyncs := rfl
@[simp] theorem setWord_syns (s : State) (bank cls inst w : Nat) (v : Word) : (setWord s bank cls inst w v).syns = s.syns := rfl
@[simp] theorem setWord_clocks (s : State) (bank cls inst w : Nat) (v : Word) : (setWord s bank cls inst w v).clocks = s.clocks := rfl
@[simp] theorem setWord_vault (s : State) (bank cls inst w : Nat) (v : Word) : (setWord s bank cls inst w v).vault = s.vault := rfl
@[simp] theorem setWord_plks (s : State) (bank cls inst w : Nat) (v : Word) : (setWord s bank cls inst w v).plks = s.plks := rfl
@[simp] theorem setWord_outs (s : State) (bank cls inst w : Nat) (v : Word) : (setWord s bank cls inst w v).outs = s.outs := rfl
@[simp] theorem setWord_caps (s : State) (bank cls inst w : Nat) (v : Word) : (setWord s bank cls inst w v).caps = s.caps := rfl
@[simp] theorem setWord_mem (s : State) (bank cls inst w : Nat) (v : Word) : (setWord s bank cls inst w v).mem = s.mem := rfl
@[simp] theorem setWord_allocs (s : State) (bank cls inst w : Nat) (v : Word) : (setWord s bank cls inst w v).allocs = s.allocs := rfl
@[simp] theorem setWord_rtes (s : State) (bank cls inst w : Nat) (v : Word) : (setWord s bank cls inst w v).rtes = s.rtes := rfl
@[simp] theorem setWord_lyrs (s : State) (bank cls inst w : Nat) (v : Word) : (setWord s bank cls inst w v).lyrs = s.lyrs := rfl
@[simp] theorem setWord_sets (s : State) (bank cls inst w : Nat) (v : Word) : (setWord s bank cls inst w v).sets = s.sets := rfl
@[simp] theorem setWord_nextSet (s : State) (bank cls inst w : Nat) (v : Word) : (setWord s bank cls inst w v).nextSet = s.nextSet := rfl
@[simp] theorem setWord_fences (s : State) (bank cls inst w : Nat) (v : Word) : (setWord s bank cls inst w v).fences = s.fences := rfl
@[simp] theorem setWord_signals (s : State) (bank cls inst w : Nat) (v : Word) : (setWord s bank cls inst w v).signals = s.signals := rfl
@[simp] theorem setWord_signalTick (s : State) (bank cls inst w : Nat) (v : Word) : (setWord s bank cls inst w v).signalTick = s.signalTick := rfl
@[simp] theorem setWord_vits (s : State) (bank cls inst w : Nat) (v : Word) : (setWord s bank cls inst w v).vits = s.vits := rfl
@[simp] theorem setWord_slots (s : State) (bank cls inst w : Nat) (v : Word) : (setWord s bank cls inst w v).slots = s.slots := rfl
@[simp] theorem setWord_meshes (s : State) (bank cls inst w : Nat) (v : Word) : (setWord s bank cls inst w v).meshes = s.meshes := rfl
@[simp] theorem setWord_warp (s : State) (bank cls inst w : Nat) (v : Word) : (setWord s bank cls inst w v).warp = s.warp := rfl
@[simp] theorem setWord_warpUsedA (s : State) (bank cls inst w : Nat) (v : Word) : (setWord s bank cls inst w v).warpUsedA = s.warpUsedA := rfl
@[simp] theorem setWord_warpUsedB (s : State) (bank cls inst w : Nat) (v : Word) : (setWord s bank cls inst w v).warpUsedB = s.warpUsedB := rfl
@[simp] theorem setWord_clrs (s : State) (bank cls inst w : Nat) (v : Word) : (setWord s bank cls inst w v).clrs = s.clrs := rfl
@[simp] theorem setWord_scls (s : State) (bank cls inst w : Nat) (v : Word) : (setWord s bank cls inst w v).scls = s.scls := rfl
@[simp] theorem setWord_dpss (s : State) (bank cls inst w : Nat) (v : Word) : (setWord s bank cls inst w v).dpss = s.dpss := rfl
@[simp] theorem setWord_edps (s : State) (bank cls inst w : Nat) (v : Word) : (setWord s bank cls inst w v).edps = s.edps := rfl
@[simp] theorem setWord_csis (s : State) (bank cls inst w : Nat) (v : Word) : (setWord s bank cls inst w v).csis = s.csis := rfl
@[simp] theorem setWord_audio (s : State) (bank cls inst w : Nat) (v : Word) : (setWord s bank cls inst w v).audio = s.audio := rfl
@[simp] theorem setWord_wingA (s : State) (bank cls inst w : Nat) (v : Word) : (setWord s bank cls inst w v).wingA = s.wingA := rfl
@[simp] theorem setWord_wingB (s : State) (bank cls inst w : Nat) (v : Word) : (setWord s bank cls inst w v).wingB = s.wingB := rfl
@[simp] theorem setWord_failover (s : State) (bank cls inst w : Nat) (v : Word) : (setWord s bank cls inst w v).failover = s.failover := rfl
@[simp] theorem setWord_arbs (s : State) (bank cls inst w : Nat) (v : Word) : (setWord s bank cls inst w v).arbs = s.arbs := rfl
@[simp] theorem setWord_thermal (s : State) (bank cls inst w : Nat) (v : Word) : (setWord s bank cls inst w v).thermal = s.thermal := rfl
@[simp] theorem setWord_ledger (s : State) (bank cls inst w : Nat) (v : Word) : (setWord s bank cls inst w v).ledger = s.ledger := rfl
@[simp] theorem setWord_bmx (s : State) (bank cls inst w : Nat) (v : Word) : (setWord s bank cls inst w v).bmx = s.bmx := rfl
@[simp] theorem setWord_gpioIn (s : State) (bank cls inst w : Nat) (v : Word) : (setWord s bank cls inst w v).gpioIn = s.gpioIn := rfl
@[simp] theorem setWord_freeCtr (s : State) (bank cls inst w : Nat) (v : Word) : (setWord s bank cls inst w v).freeCtr = s.freeCtr := rfl

/-! ### setEdp -/

@[simp] theorem setEdp_clk (s : State) (p : Nat) (e : Edp) : (setEdp s p e).clk = s.clk := rfl
@[simp] theorem setEdp_dispA (s : State) (p : Nat) (e : Edp) : (setEdp s p e).dispA = s.dispA := rfl
@[simp] theorem setEdp_dispB (s : State) (p : Nat) (e : Edp) : (setEdp s p e).dispB = s.dispB := rfl
@[simp] theorem setEdp_ports (s : State) (p : Nat) (e : Edp) : (setEdp s p e).ports = s.ports := rfl
@[simp] theorem setEdp_tb (s : State) (p : Nat) (e : Edp) : (setEdp s p e).tb = s.tb := rfl
@[simp] theorem setEdp_ev (s : State) (p : Nat) (e : Edp) : (setEdp s p e).ev = s.ev := rfl
@[simp] theorem setEdp_modes (s : State) (p : Nat) (e : Edp) : (setEdp s p e).modes = s.modes := rfl
@[simp] theorem setEdp_boot (s : State) (p : Nat) (e : Edp) : (setEdp s p e).boot = s.boot := rfl
@[simp] theorem setEdp_runs (s : State) (p : Nat) (e : Edp) : (setEdp s p e).runs = s.runs := rfl
@[simp] theorem setEdp_words (s : State) (p : Nat) (e : Edp) : (setEdp s p e).words = s.words := rfl
@[simp] theorem setEdp_flip (s : State) (p : Nat) (e : Edp) : (setEdp s p e).flip = s.flip := rfl
@[simp] theorem setEdp_cands (s : State) (p : Nat) (e : Edp) : (setEdp s p e).cands = s.cands := rfl
@[simp] theorem setEdp_dpll (s : State) (p : Nat) (e : Edp) : (setEdp s p e).dpll = s.dpll := rfl
@[simp] theorem setEdp_fsyncs (s : State) (p : Nat) (e : Edp) : (setEdp s p e).fsyncs = s.fsyncs := rfl
@[simp] theorem setEdp_syns (s : State) (p : Nat) (e : Edp) : (setEdp s p e).syns = s.syns := rfl
@[simp] theorem setEdp_clocks (s : State) (p : Nat) (e : Edp) : (setEdp s p e).clocks = s.clocks := rfl
@[simp] theorem setEdp_vault (s : State) (p : Nat) (e : Edp) : (setEdp s p e).vault = s.vault := rfl
@[simp] theorem setEdp_plks (s : State) (p : Nat) (e : Edp) : (setEdp s p e).plks = s.plks := rfl
@[simp] theorem setEdp_outs (s : State) (p : Nat) (e : Edp) : (setEdp s p e).outs = s.outs := rfl
@[simp] theorem setEdp_caps (s : State) (p : Nat) (e : Edp) : (setEdp s p e).caps = s.caps := rfl
@[simp] theorem setEdp_mem (s : State) (p : Nat) (e : Edp) : (setEdp s p e).mem = s.mem := rfl
@[simp] theorem setEdp_allocs (s : State) (p : Nat) (e : Edp) : (setEdp s p e).allocs = s.allocs := rfl
@[simp] theorem setEdp_rtes (s : State) (p : Nat) (e : Edp) : (setEdp s p e).rtes = s.rtes := rfl
@[simp] theorem setEdp_lyrs (s : State) (p : Nat) (e : Edp) : (setEdp s p e).lyrs = s.lyrs := rfl
@[simp] theorem setEdp_sets (s : State) (p : Nat) (e : Edp) : (setEdp s p e).sets = s.sets := rfl
@[simp] theorem setEdp_nextSet (s : State) (p : Nat) (e : Edp) : (setEdp s p e).nextSet = s.nextSet := rfl
@[simp] theorem setEdp_fences (s : State) (p : Nat) (e : Edp) : (setEdp s p e).fences = s.fences := rfl
@[simp] theorem setEdp_signals (s : State) (p : Nat) (e : Edp) : (setEdp s p e).signals = s.signals := rfl
@[simp] theorem setEdp_signalTick (s : State) (p : Nat) (e : Edp) : (setEdp s p e).signalTick = s.signalTick := rfl
@[simp] theorem setEdp_vits (s : State) (p : Nat) (e : Edp) : (setEdp s p e).vits = s.vits := rfl
@[simp] theorem setEdp_slots (s : State) (p : Nat) (e : Edp) : (setEdp s p e).slots = s.slots := rfl
@[simp] theorem setEdp_meshes (s : State) (p : Nat) (e : Edp) : (setEdp s p e).meshes = s.meshes := rfl
@[simp] theorem setEdp_warp (s : State) (p : Nat) (e : Edp) : (setEdp s p e).warp = s.warp := rfl
@[simp] theorem setEdp_warpUsedA (s : State) (p : Nat) (e : Edp) : (setEdp s p e).warpUsedA = s.warpUsedA := rfl
@[simp] theorem setEdp_warpUsedB (s : State) (p : Nat) (e : Edp) : (setEdp s p e).warpUsedB = s.warpUsedB := rfl
@[simp] theorem setEdp_clrs (s : State) (p : Nat) (e : Edp) : (setEdp s p e).clrs = s.clrs := rfl
@[simp] theorem setEdp_scls (s : State) (p : Nat) (e : Edp) : (setEdp s p e).scls = s.scls := rfl
@[simp] theorem setEdp_dpss (s : State) (p : Nat) (e : Edp) : (setEdp s p e).dpss = s.dpss := rfl
@[simp] theorem setEdp_csis (s : State) (p : Nat) (e : Edp) : (setEdp s p e).csis = s.csis := rfl
@[simp] theorem setEdp_audio (s : State) (p : Nat) (e : Edp) : (setEdp s p e).audio = s.audio := rfl
@[simp] theorem setEdp_wingA (s : State) (p : Nat) (e : Edp) : (setEdp s p e).wingA = s.wingA := rfl
@[simp] theorem setEdp_wingB (s : State) (p : Nat) (e : Edp) : (setEdp s p e).wingB = s.wingB := rfl
@[simp] theorem setEdp_failover (s : State) (p : Nat) (e : Edp) : (setEdp s p e).failover = s.failover := rfl
@[simp] theorem setEdp_arbs (s : State) (p : Nat) (e : Edp) : (setEdp s p e).arbs = s.arbs := rfl
@[simp] theorem setEdp_thermal (s : State) (p : Nat) (e : Edp) : (setEdp s p e).thermal = s.thermal := rfl
@[simp] theorem setEdp_ledger (s : State) (p : Nat) (e : Edp) : (setEdp s p e).ledger = s.ledger := rfl
@[simp] theorem setEdp_bmx (s : State) (p : Nat) (e : Edp) : (setEdp s p e).bmx = s.bmx := rfl
@[simp] theorem setEdp_gpioIn (s : State) (p : Nat) (e : Edp) : (setEdp s p e).gpioIn = s.gpioIn := rfl
@[simp] theorem setEdp_freeCtr (s : State) (p : Nat) (e : Edp) : (setEdp s p e).freeCtr = s.freeCtr := rfl

/-! ### setWing -/

@[simp] theorem setWing_clk (s : State) (w : Wing) (x : WingSt) : (setWing s w x).clk = s.clk := by cases w <;> rfl
@[simp] theorem setWing_dispA (s : State) (w : Wing) (x : WingSt) : (setWing s w x).dispA = s.dispA := by cases w <;> rfl
@[simp] theorem setWing_dispB (s : State) (w : Wing) (x : WingSt) : (setWing s w x).dispB = s.dispB := by cases w <;> rfl
@[simp] theorem setWing_ports (s : State) (w : Wing) (x : WingSt) : (setWing s w x).ports = s.ports := by cases w <;> rfl
@[simp] theorem setWing_tb (s : State) (w : Wing) (x : WingSt) : (setWing s w x).tb = s.tb := by cases w <;> rfl
@[simp] theorem setWing_ev (s : State) (w : Wing) (x : WingSt) : (setWing s w x).ev = s.ev := by cases w <;> rfl
@[simp] theorem setWing_modes (s : State) (w : Wing) (x : WingSt) : (setWing s w x).modes = s.modes := by cases w <;> rfl
@[simp] theorem setWing_boot (s : State) (w : Wing) (x : WingSt) : (setWing s w x).boot = s.boot := by cases w <;> rfl
@[simp] theorem setWing_runs (s : State) (w : Wing) (x : WingSt) : (setWing s w x).runs = s.runs := by cases w <;> rfl
@[simp] theorem setWing_words (s : State) (w : Wing) (x : WingSt) : (setWing s w x).words = s.words := by cases w <;> rfl
@[simp] theorem setWing_flip (s : State) (w : Wing) (x : WingSt) : (setWing s w x).flip = s.flip := by cases w <;> rfl
@[simp] theorem setWing_cands (s : State) (w : Wing) (x : WingSt) : (setWing s w x).cands = s.cands := by cases w <;> rfl
@[simp] theorem setWing_dpll (s : State) (w : Wing) (x : WingSt) : (setWing s w x).dpll = s.dpll := by cases w <;> rfl
@[simp] theorem setWing_fsyncs (s : State) (w : Wing) (x : WingSt) : (setWing s w x).fsyncs = s.fsyncs := by cases w <;> rfl
@[simp] theorem setWing_syns (s : State) (w : Wing) (x : WingSt) : (setWing s w x).syns = s.syns := by cases w <;> rfl
@[simp] theorem setWing_clocks (s : State) (w : Wing) (x : WingSt) : (setWing s w x).clocks = s.clocks := by cases w <;> rfl
@[simp] theorem setWing_vault (s : State) (w : Wing) (x : WingSt) : (setWing s w x).vault = s.vault := by cases w <;> rfl
@[simp] theorem setWing_plks (s : State) (w : Wing) (x : WingSt) : (setWing s w x).plks = s.plks := by cases w <;> rfl
@[simp] theorem setWing_outs (s : State) (w : Wing) (x : WingSt) : (setWing s w x).outs = s.outs := by cases w <;> rfl
@[simp] theorem setWing_caps (s : State) (w : Wing) (x : WingSt) : (setWing s w x).caps = s.caps := by cases w <;> rfl
@[simp] theorem setWing_mem (s : State) (w : Wing) (x : WingSt) : (setWing s w x).mem = s.mem := by cases w <;> rfl
@[simp] theorem setWing_allocs (s : State) (w : Wing) (x : WingSt) : (setWing s w x).allocs = s.allocs := by cases w <;> rfl
@[simp] theorem setWing_rtes (s : State) (w : Wing) (x : WingSt) : (setWing s w x).rtes = s.rtes := by cases w <;> rfl
@[simp] theorem setWing_lyrs (s : State) (w : Wing) (x : WingSt) : (setWing s w x).lyrs = s.lyrs := by cases w <;> rfl
@[simp] theorem setWing_sets (s : State) (w : Wing) (x : WingSt) : (setWing s w x).sets = s.sets := by cases w <;> rfl
@[simp] theorem setWing_nextSet (s : State) (w : Wing) (x : WingSt) : (setWing s w x).nextSet = s.nextSet := by cases w <;> rfl
@[simp] theorem setWing_fences (s : State) (w : Wing) (x : WingSt) : (setWing s w x).fences = s.fences := by cases w <;> rfl
@[simp] theorem setWing_signals (s : State) (w : Wing) (x : WingSt) : (setWing s w x).signals = s.signals := by cases w <;> rfl
@[simp] theorem setWing_signalTick (s : State) (w : Wing) (x : WingSt) : (setWing s w x).signalTick = s.signalTick := by cases w <;> rfl
@[simp] theorem setWing_vits (s : State) (w : Wing) (x : WingSt) : (setWing s w x).vits = s.vits := by cases w <;> rfl
@[simp] theorem setWing_slots (s : State) (w : Wing) (x : WingSt) : (setWing s w x).slots = s.slots := by cases w <;> rfl
@[simp] theorem setWing_meshes (s : State) (w : Wing) (x : WingSt) : (setWing s w x).meshes = s.meshes := by cases w <;> rfl
@[simp] theorem setWing_warp (s : State) (w : Wing) (x : WingSt) : (setWing s w x).warp = s.warp := by cases w <;> rfl
@[simp] theorem setWing_warpUsedA (s : State) (w : Wing) (x : WingSt) : (setWing s w x).warpUsedA = s.warpUsedA := by cases w <;> rfl
@[simp] theorem setWing_warpUsedB (s : State) (w : Wing) (x : WingSt) : (setWing s w x).warpUsedB = s.warpUsedB := by cases w <;> rfl
@[simp] theorem setWing_clrs (s : State) (w : Wing) (x : WingSt) : (setWing s w x).clrs = s.clrs := by cases w <;> rfl
@[simp] theorem setWing_scls (s : State) (w : Wing) (x : WingSt) : (setWing s w x).scls = s.scls := by cases w <;> rfl
@[simp] theorem setWing_dpss (s : State) (w : Wing) (x : WingSt) : (setWing s w x).dpss = s.dpss := by cases w <;> rfl
@[simp] theorem setWing_edps (s : State) (w : Wing) (x : WingSt) : (setWing s w x).edps = s.edps := by cases w <;> rfl
@[simp] theorem setWing_csis (s : State) (w : Wing) (x : WingSt) : (setWing s w x).csis = s.csis := by cases w <;> rfl
@[simp] theorem setWing_audio (s : State) (w : Wing) (x : WingSt) : (setWing s w x).audio = s.audio := by cases w <;> rfl
@[simp] theorem setWing_failover (s : State) (w : Wing) (x : WingSt) : (setWing s w x).failover = s.failover := by cases w <;> rfl
@[simp] theorem setWing_arbs (s : State) (w : Wing) (x : WingSt) : (setWing s w x).arbs = s.arbs := by cases w <;> rfl
@[simp] theorem setWing_thermal (s : State) (w : Wing) (x : WingSt) : (setWing s w x).thermal = s.thermal := by cases w <;> rfl
@[simp] theorem setWing_ledger (s : State) (w : Wing) (x : WingSt) : (setWing s w x).ledger = s.ledger := by cases w <;> rfl
@[simp] theorem setWing_bmx (s : State) (w : Wing) (x : WingSt) : (setWing s w x).bmx = s.bmx := by cases w <;> rfl
@[simp] theorem setWing_gpioIn (s : State) (w : Wing) (x : WingSt) : (setWing s w x).gpioIn = s.gpioIn := by cases w <;> rfl
@[simp] theorem setWing_freeCtr (s : State) (w : Wing) (x : WingSt) : (setWing s w x).freeCtr = s.freeCtr := by cases w <;> rfl

/-! ### setThermal -/

@[simp] theorem setThermal_clk (s : State) (f : Thermal → Thermal) : (setThermal s f).clk = s.clk := rfl
@[simp] theorem setThermal_dispA (s : State) (f : Thermal → Thermal) : (setThermal s f).dispA = s.dispA := rfl
@[simp] theorem setThermal_dispB (s : State) (f : Thermal → Thermal) : (setThermal s f).dispB = s.dispB := rfl
@[simp] theorem setThermal_ports (s : State) (f : Thermal → Thermal) : (setThermal s f).ports = s.ports := rfl
@[simp] theorem setThermal_tb (s : State) (f : Thermal → Thermal) : (setThermal s f).tb = s.tb := rfl
@[simp] theorem setThermal_ev (s : State) (f : Thermal → Thermal) : (setThermal s f).ev = s.ev := rfl
@[simp] theorem setThermal_modes (s : State) (f : Thermal → Thermal) : (setThermal s f).modes = s.modes := rfl
@[simp] theorem setThermal_boot (s : State) (f : Thermal → Thermal) : (setThermal s f).boot = s.boot := rfl
@[simp] theorem setThermal_runs (s : State) (f : Thermal → Thermal) : (setThermal s f).runs = s.runs := rfl
@[simp] theorem setThermal_words (s : State) (f : Thermal → Thermal) : (setThermal s f).words = s.words := rfl
@[simp] theorem setThermal_flip (s : State) (f : Thermal → Thermal) : (setThermal s f).flip = s.flip := rfl
@[simp] theorem setThermal_cands (s : State) (f : Thermal → Thermal) : (setThermal s f).cands = s.cands := rfl
@[simp] theorem setThermal_dpll (s : State) (f : Thermal → Thermal) : (setThermal s f).dpll = s.dpll := rfl
@[simp] theorem setThermal_fsyncs (s : State) (f : Thermal → Thermal) : (setThermal s f).fsyncs = s.fsyncs := rfl
@[simp] theorem setThermal_syns (s : State) (f : Thermal → Thermal) : (setThermal s f).syns = s.syns := rfl
@[simp] theorem setThermal_clocks (s : State) (f : Thermal → Thermal) : (setThermal s f).clocks = s.clocks := rfl
@[simp] theorem setThermal_vault (s : State) (f : Thermal → Thermal) : (setThermal s f).vault = s.vault := rfl
@[simp] theorem setThermal_plks (s : State) (f : Thermal → Thermal) : (setThermal s f).plks = s.plks := rfl
@[simp] theorem setThermal_outs (s : State) (f : Thermal → Thermal) : (setThermal s f).outs = s.outs := rfl
@[simp] theorem setThermal_caps (s : State) (f : Thermal → Thermal) : (setThermal s f).caps = s.caps := rfl
@[simp] theorem setThermal_mem (s : State) (f : Thermal → Thermal) : (setThermal s f).mem = s.mem := rfl
@[simp] theorem setThermal_allocs (s : State) (f : Thermal → Thermal) : (setThermal s f).allocs = s.allocs := rfl
@[simp] theorem setThermal_rtes (s : State) (f : Thermal → Thermal) : (setThermal s f).rtes = s.rtes := rfl
@[simp] theorem setThermal_lyrs (s : State) (f : Thermal → Thermal) : (setThermal s f).lyrs = s.lyrs := rfl
@[simp] theorem setThermal_sets (s : State) (f : Thermal → Thermal) : (setThermal s f).sets = s.sets := rfl
@[simp] theorem setThermal_nextSet (s : State) (f : Thermal → Thermal) : (setThermal s f).nextSet = s.nextSet := rfl
@[simp] theorem setThermal_fences (s : State) (f : Thermal → Thermal) : (setThermal s f).fences = s.fences := rfl
@[simp] theorem setThermal_signals (s : State) (f : Thermal → Thermal) : (setThermal s f).signals = s.signals := rfl
@[simp] theorem setThermal_signalTick (s : State) (f : Thermal → Thermal) : (setThermal s f).signalTick = s.signalTick := rfl
@[simp] theorem setThermal_vits (s : State) (f : Thermal → Thermal) : (setThermal s f).vits = s.vits := rfl
@[simp] theorem setThermal_slots (s : State) (f : Thermal → Thermal) : (setThermal s f).slots = s.slots := rfl
@[simp] theorem setThermal_meshes (s : State) (f : Thermal → Thermal) : (setThermal s f).meshes = s.meshes := rfl
@[simp] theorem setThermal_warp (s : State) (f : Thermal → Thermal) : (setThermal s f).warp = s.warp := rfl
@[simp] theorem setThermal_warpUsedA (s : State) (f : Thermal → Thermal) : (setThermal s f).warpUsedA = s.warpUsedA := rfl
@[simp] theorem setThermal_warpUsedB (s : State) (f : Thermal → Thermal) : (setThermal s f).warpUsedB = s.warpUsedB := rfl
@[simp] theorem setThermal_clrs (s : State) (f : Thermal → Thermal) : (setThermal s f).clrs = s.clrs := rfl
@[simp] theorem setThermal_scls (s : State) (f : Thermal → Thermal) : (setThermal s f).scls = s.scls := rfl
@[simp] theorem setThermal_dpss (s : State) (f : Thermal → Thermal) : (setThermal s f).dpss = s.dpss := rfl
@[simp] theorem setThermal_edps (s : State) (f : Thermal → Thermal) : (setThermal s f).edps = s.edps := rfl
@[simp] theorem setThermal_csis (s : State) (f : Thermal → Thermal) : (setThermal s f).csis = s.csis := rfl
@[simp] theorem setThermal_audio (s : State) (f : Thermal → Thermal) : (setThermal s f).audio = s.audio := rfl
@[simp] theorem setThermal_wingA (s : State) (f : Thermal → Thermal) : (setThermal s f).wingA = s.wingA := rfl
@[simp] theorem setThermal_wingB (s : State) (f : Thermal → Thermal) : (setThermal s f).wingB = s.wingB := rfl
@[simp] theorem setThermal_failover (s : State) (f : Thermal → Thermal) : (setThermal s f).failover = s.failover := rfl
@[simp] theorem setThermal_arbs (s : State) (f : Thermal → Thermal) : (setThermal s f).arbs = s.arbs := rfl
@[simp] theorem setThermal_ledger (s : State) (f : Thermal → Thermal) : (setThermal s f).ledger = s.ledger := rfl
@[simp] theorem setThermal_bmx (s : State) (f : Thermal → Thermal) : (setThermal s f).bmx = s.bmx := rfl
@[simp] theorem setThermal_gpioIn (s : State) (f : Thermal → Thermal) : (setThermal s f).gpioIn = s.gpioIn := rfl
@[simp] theorem setThermal_freeCtr (s : State) (f : Thermal → Thermal) : (setThermal s f).freeCtr = s.freeCtr := rfl

/-! ### setPort -/

@[simp] theorem setPort_clk (s : State) (p : Port) (c : CmdPort) : (setPort s p c).clk = s.clk := by rw [setPort_eq]
@[simp] theorem setPort_dispA (s : State) (p : Port) (c : CmdPort) : (setPort s p c).dispA = s.dispA := by rw [setPort_eq]
@[simp] theorem setPort_dispB (s : State) (p : Port) (c : CmdPort) : (setPort s p c).dispB = s.dispB := by rw [setPort_eq]
@[simp] theorem setPort_tb (s : State) (p : Port) (c : CmdPort) : (setPort s p c).tb = s.tb := by rw [setPort_eq]
@[simp] theorem setPort_ev (s : State) (p : Port) (c : CmdPort) : (setPort s p c).ev = s.ev := by rw [setPort_eq]
@[simp] theorem setPort_modes (s : State) (p : Port) (c : CmdPort) : (setPort s p c).modes = s.modes := by rw [setPort_eq]
@[simp] theorem setPort_boot (s : State) (p : Port) (c : CmdPort) : (setPort s p c).boot = s.boot := by rw [setPort_eq]
@[simp] theorem setPort_runs (s : State) (p : Port) (c : CmdPort) : (setPort s p c).runs = s.runs := by rw [setPort_eq]
@[simp] theorem setPort_words (s : State) (p : Port) (c : CmdPort) : (setPort s p c).words = s.words := by rw [setPort_eq]
@[simp] theorem setPort_flip (s : State) (p : Port) (c : CmdPort) : (setPort s p c).flip = s.flip := by rw [setPort_eq]
@[simp] theorem setPort_cands (s : State) (p : Port) (c : CmdPort) : (setPort s p c).cands = s.cands := by rw [setPort_eq]
@[simp] theorem setPort_dpll (s : State) (p : Port) (c : CmdPort) : (setPort s p c).dpll = s.dpll := by rw [setPort_eq]
@[simp] theorem setPort_fsyncs (s : State) (p : Port) (c : CmdPort) : (setPort s p c).fsyncs = s.fsyncs := by rw [setPort_eq]
@[simp] theorem setPort_syns (s : State) (p : Port) (c : CmdPort) : (setPort s p c).syns = s.syns := by rw [setPort_eq]
@[simp] theorem setPort_clocks (s : State) (p : Port) (c : CmdPort) : (setPort s p c).clocks = s.clocks := by rw [setPort_eq]
@[simp] theorem setPort_vault (s : State) (p : Port) (c : CmdPort) : (setPort s p c).vault = s.vault := by rw [setPort_eq]
@[simp] theorem setPort_plks (s : State) (p : Port) (c : CmdPort) : (setPort s p c).plks = s.plks := by rw [setPort_eq]
@[simp] theorem setPort_outs (s : State) (p : Port) (c : CmdPort) : (setPort s p c).outs = s.outs := by rw [setPort_eq]
@[simp] theorem setPort_caps (s : State) (p : Port) (c : CmdPort) : (setPort s p c).caps = s.caps := by rw [setPort_eq]
@[simp] theorem setPort_mem (s : State) (p : Port) (c : CmdPort) : (setPort s p c).mem = s.mem := by rw [setPort_eq]
@[simp] theorem setPort_allocs (s : State) (p : Port) (c : CmdPort) : (setPort s p c).allocs = s.allocs := by rw [setPort_eq]
@[simp] theorem setPort_rtes (s : State) (p : Port) (c : CmdPort) : (setPort s p c).rtes = s.rtes := by rw [setPort_eq]
@[simp] theorem setPort_lyrs (s : State) (p : Port) (c : CmdPort) : (setPort s p c).lyrs = s.lyrs := by rw [setPort_eq]
@[simp] theorem setPort_sets (s : State) (p : Port) (c : CmdPort) : (setPort s p c).sets = s.sets := by rw [setPort_eq]
@[simp] theorem setPort_nextSet (s : State) (p : Port) (c : CmdPort) : (setPort s p c).nextSet = s.nextSet := by rw [setPort_eq]
@[simp] theorem setPort_fences (s : State) (p : Port) (c : CmdPort) : (setPort s p c).fences = s.fences := by rw [setPort_eq]
@[simp] theorem setPort_signals (s : State) (p : Port) (c : CmdPort) : (setPort s p c).signals = s.signals := by rw [setPort_eq]
@[simp] theorem setPort_signalTick (s : State) (p : Port) (c : CmdPort) : (setPort s p c).signalTick = s.signalTick := by rw [setPort_eq]
@[simp] theorem setPort_vits (s : State) (p : Port) (c : CmdPort) : (setPort s p c).vits = s.vits := by rw [setPort_eq]
@[simp] theorem setPort_slots (s : State) (p : Port) (c : CmdPort) : (setPort s p c).slots = s.slots := by rw [setPort_eq]
@[simp] theorem setPort_meshes (s : State) (p : Port) (c : CmdPort) : (setPort s p c).meshes = s.meshes := by rw [setPort_eq]
@[simp] theorem setPort_warp (s : State) (p : Port) (c : CmdPort) : (setPort s p c).warp = s.warp := by rw [setPort_eq]
@[simp] theorem setPort_warpUsedA (s : State) (p : Port) (c : CmdPort) : (setPort s p c).warpUsedA = s.warpUsedA := by rw [setPort_eq]
@[simp] theorem setPort_warpUsedB (s : State) (p : Port) (c : CmdPort) : (setPort s p c).warpUsedB = s.warpUsedB := by rw [setPort_eq]
@[simp] theorem setPort_clrs (s : State) (p : Port) (c : CmdPort) : (setPort s p c).clrs = s.clrs := by rw [setPort_eq]
@[simp] theorem setPort_scls (s : State) (p : Port) (c : CmdPort) : (setPort s p c).scls = s.scls := by rw [setPort_eq]
@[simp] theorem setPort_dpss (s : State) (p : Port) (c : CmdPort) : (setPort s p c).dpss = s.dpss := by rw [setPort_eq]
@[simp] theorem setPort_edps (s : State) (p : Port) (c : CmdPort) : (setPort s p c).edps = s.edps := by rw [setPort_eq]
@[simp] theorem setPort_csis (s : State) (p : Port) (c : CmdPort) : (setPort s p c).csis = s.csis := by rw [setPort_eq]
@[simp] theorem setPort_audio (s : State) (p : Port) (c : CmdPort) : (setPort s p c).audio = s.audio := by rw [setPort_eq]
@[simp] theorem setPort_wingA (s : State) (p : Port) (c : CmdPort) : (setPort s p c).wingA = s.wingA := by rw [setPort_eq]
@[simp] theorem setPort_wingB (s : State) (p : Port) (c : CmdPort) : (setPort s p c).wingB = s.wingB := by rw [setPort_eq]
@[simp] theorem setPort_failover (s : State) (p : Port) (c : CmdPort) : (setPort s p c).failover = s.failover := by rw [setPort_eq]
@[simp] theorem setPort_arbs (s : State) (p : Port) (c : CmdPort) : (setPort s p c).arbs = s.arbs := by rw [setPort_eq]
@[simp] theorem setPort_thermal (s : State) (p : Port) (c : CmdPort) : (setPort s p c).thermal = s.thermal := by rw [setPort_eq]
@[simp] theorem setPort_ledger (s : State) (p : Port) (c : CmdPort) : (setPort s p c).ledger = s.ledger := by rw [setPort_eq]
@[simp] theorem setPort_bmx (s : State) (p : Port) (c : CmdPort) : (setPort s p c).bmx = s.bmx := by rw [setPort_eq]
@[simp] theorem setPort_gpioIn (s : State) (p : Port) (c : CmdPort) : (setPort s p c).gpioIn = s.gpioIn := by rw [setPort_eq]
@[simp] theorem setPort_freeCtr (s : State) (p : Port) (c : CmdPort) : (setPort s p c).freeCtr = s.freeCtr := by rw [setPort_eq]

/-! ### setDps -/

@[simp] theorem setDps_clk (s : State) (p : Nat) (d : Dps) : (setDps s p d).clk = s.clk := rfl
@[simp] theorem setDps_dispA (s : State) (p : Nat) (d : Dps) : (setDps s p d).dispA = s.dispA := rfl
@[simp] theorem setDps_dispB (s : State) (p : Nat) (d : Dps) : (setDps s p d).dispB = s.dispB := rfl
@[simp] theorem setDps_ports (s : State) (p : Nat) (d : Dps) : (setDps s p d).ports = s.ports := rfl
@[simp] theorem setDps_tb (s : State) (p : Nat) (d : Dps) : (setDps s p d).tb = s.tb := rfl
@[simp] theorem setDps_ev (s : State) (p : Nat) (d : Dps) : (setDps s p d).ev = s.ev := rfl
@[simp] theorem setDps_modes (s : State) (p : Nat) (d : Dps) : (setDps s p d).modes = s.modes := rfl
@[simp] theorem setDps_boot (s : State) (p : Nat) (d : Dps) : (setDps s p d).boot = s.boot := rfl
@[simp] theorem setDps_runs (s : State) (p : Nat) (d : Dps) : (setDps s p d).runs = s.runs := rfl
@[simp] theorem setDps_words (s : State) (p : Nat) (d : Dps) : (setDps s p d).words = s.words := rfl
@[simp] theorem setDps_flip (s : State) (p : Nat) (d : Dps) : (setDps s p d).flip = s.flip := rfl
@[simp] theorem setDps_cands (s : State) (p : Nat) (d : Dps) : (setDps s p d).cands = s.cands := rfl
@[simp] theorem setDps_dpll (s : State) (p : Nat) (d : Dps) : (setDps s p d).dpll = s.dpll := rfl
@[simp] theorem setDps_fsyncs (s : State) (p : Nat) (d : Dps) : (setDps s p d).fsyncs = s.fsyncs := rfl
@[simp] theorem setDps_syns (s : State) (p : Nat) (d : Dps) : (setDps s p d).syns = s.syns := rfl
@[simp] theorem setDps_clocks (s : State) (p : Nat) (d : Dps) : (setDps s p d).clocks = s.clocks := rfl
@[simp] theorem setDps_vault (s : State) (p : Nat) (d : Dps) : (setDps s p d).vault = s.vault := rfl
@[simp] theorem setDps_plks (s : State) (p : Nat) (d : Dps) : (setDps s p d).plks = s.plks := rfl
@[simp] theorem setDps_outs (s : State) (p : Nat) (d : Dps) : (setDps s p d).outs = s.outs := rfl
@[simp] theorem setDps_caps (s : State) (p : Nat) (d : Dps) : (setDps s p d).caps = s.caps := rfl
@[simp] theorem setDps_mem (s : State) (p : Nat) (d : Dps) : (setDps s p d).mem = s.mem := rfl
@[simp] theorem setDps_allocs (s : State) (p : Nat) (d : Dps) : (setDps s p d).allocs = s.allocs := rfl
@[simp] theorem setDps_rtes (s : State) (p : Nat) (d : Dps) : (setDps s p d).rtes = s.rtes := rfl
@[simp] theorem setDps_lyrs (s : State) (p : Nat) (d : Dps) : (setDps s p d).lyrs = s.lyrs := rfl
@[simp] theorem setDps_sets (s : State) (p : Nat) (d : Dps) : (setDps s p d).sets = s.sets := rfl
@[simp] theorem setDps_nextSet (s : State) (p : Nat) (d : Dps) : (setDps s p d).nextSet = s.nextSet := rfl
@[simp] theorem setDps_fences (s : State) (p : Nat) (d : Dps) : (setDps s p d).fences = s.fences := rfl
@[simp] theorem setDps_signals (s : State) (p : Nat) (d : Dps) : (setDps s p d).signals = s.signals := rfl
@[simp] theorem setDps_signalTick (s : State) (p : Nat) (d : Dps) : (setDps s p d).signalTick = s.signalTick := rfl
@[simp] theorem setDps_vits (s : State) (p : Nat) (d : Dps) : (setDps s p d).vits = s.vits := rfl
@[simp] theorem setDps_slots (s : State) (p : Nat) (d : Dps) : (setDps s p d).slots = s.slots := rfl
@[simp] theorem setDps_meshes (s : State) (p : Nat) (d : Dps) : (setDps s p d).meshes = s.meshes := rfl
@[simp] theorem setDps_warp (s : State) (p : Nat) (d : Dps) : (setDps s p d).warp = s.warp := rfl
@[simp] theorem setDps_warpUsedA (s : State) (p : Nat) (d : Dps) : (setDps s p d).warpUsedA = s.warpUsedA := rfl
@[simp] theorem setDps_warpUsedB (s : State) (p : Nat) (d : Dps) : (setDps s p d).warpUsedB = s.warpUsedB := rfl
@[simp] theorem setDps_clrs (s : State) (p : Nat) (d : Dps) : (setDps s p d).clrs = s.clrs := rfl
@[simp] theorem setDps_scls (s : State) (p : Nat) (d : Dps) : (setDps s p d).scls = s.scls := rfl
@[simp] theorem setDps_edps (s : State) (p : Nat) (d : Dps) : (setDps s p d).edps = s.edps := rfl
@[simp] theorem setDps_csis (s : State) (p : Nat) (d : Dps) : (setDps s p d).csis = s.csis := rfl
@[simp] theorem setDps_audio (s : State) (p : Nat) (d : Dps) : (setDps s p d).audio = s.audio := rfl
@[simp] theorem setDps_wingA (s : State) (p : Nat) (d : Dps) : (setDps s p d).wingA = s.wingA := rfl
@[simp] theorem setDps_wingB (s : State) (p : Nat) (d : Dps) : (setDps s p d).wingB = s.wingB := rfl
@[simp] theorem setDps_failover (s : State) (p : Nat) (d : Dps) : (setDps s p d).failover = s.failover := rfl
@[simp] theorem setDps_arbs (s : State) (p : Nat) (d : Dps) : (setDps s p d).arbs = s.arbs := rfl
@[simp] theorem setDps_thermal (s : State) (p : Nat) (d : Dps) : (setDps s p d).thermal = s.thermal := rfl
@[simp] theorem setDps_ledger (s : State) (p : Nat) (d : Dps) : (setDps s p d).ledger = s.ledger := rfl
@[simp] theorem setDps_bmx (s : State) (p : Nat) (d : Dps) : (setDps s p d).bmx = s.bmx := rfl
@[simp] theorem setDps_gpioIn (s : State) (p : Nat) (d : Dps) : (setDps s p d).gpioIn = s.gpioIn := rfl
@[simp] theorem setDps_freeCtr (s : State) (p : Nat) (d : Dps) : (setDps s p d).freeCtr = s.freeCtr := rfl

/-! ### setCand -/

@[simp] theorem setCand_clk (s : State) (c : Nat) (x : Cand) : (setCand s c x).clk = s.clk := rfl
@[simp] theorem setCand_dispA (s : State) (c : Nat) (x : Cand) : (setCand s c x).dispA = s.dispA := rfl
@[simp] theorem setCand_dispB (s : State) (c : Nat) (x : Cand) : (setCand s c x).dispB = s.dispB := rfl
@[simp] theorem setCand_ports (s : State) (c : Nat) (x : Cand) : (setCand s c x).ports = s.ports := rfl
@[simp] theorem setCand_tb (s : State) (c : Nat) (x : Cand) : (setCand s c x).tb = s.tb := rfl
@[simp] theorem setCand_ev (s : State) (c : Nat) (x : Cand) : (setCand s c x).ev = s.ev := rfl
@[simp] theorem setCand_modes (s : State) (c : Nat) (x : Cand) : (setCand s c x).modes = s.modes := rfl
@[simp] theorem setCand_boot (s : State) (c : Nat) (x : Cand) : (setCand s c x).boot = s.boot := rfl
@[simp] theorem setCand_runs (s : State) (c : Nat) (x : Cand) : (setCand s c x).runs = s.runs := rfl
@[simp] theorem setCand_words (s : State) (c : Nat) (x : Cand) : (setCand s c x).words = s.words := rfl
@[simp] theorem setCand_flip (s : State) (c : Nat) (x : Cand) : (setCand s c x).flip = s.flip := rfl
@[simp] theorem setCand_dpll (s : State) (c : Nat) (x : Cand) : (setCand s c x).dpll = s.dpll := rfl
@[simp] theorem setCand_fsyncs (s : State) (c : Nat) (x : Cand) : (setCand s c x).fsyncs = s.fsyncs := rfl
@[simp] theorem setCand_syns (s : State) (c : Nat) (x : Cand) : (setCand s c x).syns = s.syns := rfl
@[simp] theorem setCand_clocks (s : State) (c : Nat) (x : Cand) : (setCand s c x).clocks = s.clocks := rfl
@[simp] theorem setCand_vault (s : State) (c : Nat) (x : Cand) : (setCand s c x).vault = s.vault := rfl
@[simp] theorem setCand_plks (s : State) (c : Nat) (x : Cand) : (setCand s c x).plks = s.plks := rfl
@[simp] theorem setCand_outs (s : State) (c : Nat) (x : Cand) : (setCand s c x).outs = s.outs := rfl
@[simp] theorem setCand_caps (s : State) (c : Nat) (x : Cand) : (setCand s c x).caps = s.caps := rfl
@[simp] theorem setCand_mem (s : State) (c : Nat) (x : Cand) : (setCand s c x).mem = s.mem := rfl
@[simp] theorem setCand_allocs (s : State) (c : Nat) (x : Cand) : (setCand s c x).allocs = s.allocs := rfl
@[simp] theorem setCand_rtes (s : State) (c : Nat) (x : Cand) : (setCand s c x).rtes = s.rtes := rfl
@[simp] theorem setCand_lyrs (s : State) (c : Nat) (x : Cand) : (setCand s c x).lyrs = s.lyrs := rfl
@[simp] theorem setCand_sets (s : State) (c : Nat) (x : Cand) : (setCand s c x).sets = s.sets := rfl
@[simp] theorem setCand_nextSet (s : State) (c : Nat) (x : Cand) : (setCand s c x).nextSet = s.nextSet := rfl
@[simp] theorem setCand_fences (s : State) (c : Nat) (x : Cand) : (setCand s c x).fences = s.fences := rfl
@[simp] theorem setCand_signals (s : State) (c : Nat) (x : Cand) : (setCand s c x).signals = s.signals := rfl
@[simp] theorem setCand_signalTick (s : State) (c : Nat) (x : Cand) : (setCand s c x).signalTick = s.signalTick := rfl
@[simp] theorem setCand_vits (s : State) (c : Nat) (x : Cand) : (setCand s c x).vits = s.vits := rfl
@[simp] theorem setCand_slots (s : State) (c : Nat) (x : Cand) : (setCand s c x).slots = s.slots := rfl
@[simp] theorem setCand_meshes (s : State) (c : Nat) (x : Cand) : (setCand s c x).meshes = s.meshes := rfl
@[simp] theorem setCand_warp (s : State) (c : Nat) (x : Cand) : (setCand s c x).warp = s.warp := rfl
@[simp] theorem setCand_warpUsedA (s : State) (c : Nat) (x : Cand) : (setCand s c x).warpUsedA = s.warpUsedA := rfl
@[simp] theorem setCand_warpUsedB (s : State) (c : Nat) (x : Cand) : (setCand s c x).warpUsedB = s.warpUsedB := rfl
@[simp] theorem setCand_clrs (s : State) (c : Nat) (x : Cand) : (setCand s c x).clrs = s.clrs := rfl
@[simp] theorem setCand_scls (s : State) (c : Nat) (x : Cand) : (setCand s c x).scls = s.scls := rfl
@[simp] theorem setCand_dpss (s : State) (c : Nat) (x : Cand) : (setCand s c x).dpss = s.dpss := rfl
@[simp] theorem setCand_edps (s : State) (c : Nat) (x : Cand) : (setCand s c x).edps = s.edps := rfl
@[simp] theorem setCand_csis (s : State) (c : Nat) (x : Cand) : (setCand s c x).csis = s.csis := rfl
@[simp] theorem setCand_audio (s : State) (c : Nat) (x : Cand) : (setCand s c x).audio = s.audio := rfl
@[simp] theorem setCand_wingA (s : State) (c : Nat) (x : Cand) : (setCand s c x).wingA = s.wingA := rfl
@[simp] theorem setCand_wingB (s : State) (c : Nat) (x : Cand) : (setCand s c x).wingB = s.wingB := rfl
@[simp] theorem setCand_failover (s : State) (c : Nat) (x : Cand) : (setCand s c x).failover = s.failover := rfl
@[simp] theorem setCand_arbs (s : State) (c : Nat) (x : Cand) : (setCand s c x).arbs = s.arbs := rfl
@[simp] theorem setCand_thermal (s : State) (c : Nat) (x : Cand) : (setCand s c x).thermal = s.thermal := rfl
@[simp] theorem setCand_ledger (s : State) (c : Nat) (x : Cand) : (setCand s c x).ledger = s.ledger := rfl
@[simp] theorem setCand_bmx (s : State) (c : Nat) (x : Cand) : (setCand s c x).bmx = s.bmx := rfl
@[simp] theorem setCand_gpioIn (s : State) (c : Nat) (x : Cand) : (setCand s c x).gpioIn = s.gpioIn := rfl
@[simp] theorem setCand_freeCtr (s : State) (c : Nat) (x : Cand) : (setCand s c x).freeCtr = s.freeCtr := rfl

/-! ### setCap -/

@[simp] theorem setCap_clk (s : State) (k : Nat) (c : Cap) : (setCap s k c).clk = s.clk := rfl
@[simp] theorem setCap_dispA (s : State) (k : Nat) (c : Cap) : (setCap s k c).dispA = s.dispA := rfl
@[simp] theorem setCap_dispB (s : State) (k : Nat) (c : Cap) : (setCap s k c).dispB = s.dispB := rfl
@[simp] theorem setCap_ports (s : State) (k : Nat) (c : Cap) : (setCap s k c).ports = s.ports := rfl
@[simp] theorem setCap_tb (s : State) (k : Nat) (c : Cap) : (setCap s k c).tb = s.tb := rfl
@[simp] theorem setCap_ev (s : State) (k : Nat) (c : Cap) : (setCap s k c).ev = s.ev := rfl
@[simp] theorem setCap_modes (s : State) (k : Nat) (c : Cap) : (setCap s k c).modes = s.modes := rfl
@[simp] theorem setCap_boot (s : State) (k : Nat) (c : Cap) : (setCap s k c).boot = s.boot := rfl
@[simp] theorem setCap_runs (s : State) (k : Nat) (c : Cap) : (setCap s k c).runs = s.runs := rfl
@[simp] theorem setCap_words (s : State) (k : Nat) (c : Cap) : (setCap s k c).words = s.words := rfl
@[simp] theorem setCap_flip (s : State) (k : Nat) (c : Cap) : (setCap s k c).flip = s.flip := rfl
@[simp] theorem setCap_cands (s : State) (k : Nat) (c : Cap) : (setCap s k c).cands = s.cands := rfl
@[simp] theorem setCap_dpll (s : State) (k : Nat) (c : Cap) : (setCap s k c).dpll = s.dpll := rfl
@[simp] theorem setCap_fsyncs (s : State) (k : Nat) (c : Cap) : (setCap s k c).fsyncs = s.fsyncs := rfl
@[simp] theorem setCap_syns (s : State) (k : Nat) (c : Cap) : (setCap s k c).syns = s.syns := rfl
@[simp] theorem setCap_clocks (s : State) (k : Nat) (c : Cap) : (setCap s k c).clocks = s.clocks := rfl
@[simp] theorem setCap_vault (s : State) (k : Nat) (c : Cap) : (setCap s k c).vault = s.vault := rfl
@[simp] theorem setCap_plks (s : State) (k : Nat) (c : Cap) : (setCap s k c).plks = s.plks := rfl
@[simp] theorem setCap_outs (s : State) (k : Nat) (c : Cap) : (setCap s k c).outs = s.outs := rfl
@[simp] theorem setCap_mem (s : State) (k : Nat) (c : Cap) : (setCap s k c).mem = s.mem := rfl
@[simp] theorem setCap_allocs (s : State) (k : Nat) (c : Cap) : (setCap s k c).allocs = s.allocs := rfl
@[simp] theorem setCap_rtes (s : State) (k : Nat) (c : Cap) : (setCap s k c).rtes = s.rtes := rfl
@[simp] theorem setCap_lyrs (s : State) (k : Nat) (c : Cap) : (setCap s k c).lyrs = s.lyrs := rfl
@[simp] theorem setCap_sets (s : State) (k : Nat) (c : Cap) : (setCap s k c).sets = s.sets := rfl
@[simp] theorem setCap_nextSet (s : State) (k : Nat) (c : Cap) : (setCap s k c).nextSet = s.nextSet := rfl
@[simp] theorem setCap_fences (s : State) (k : Nat) (c : Cap) : (setCap s k c).fences = s.fences := rfl
@[simp] theorem setCap_signals (s : State) (k : Nat) (c : Cap) : (setCap s k c).signals = s.signals := rfl
@[simp] theorem setCap_signalTick (s : State) (k : Nat) (c : Cap) : (setCap s k c).signalTick = s.signalTick := rfl
@[simp] theorem setCap_vits (s : State) (k : Nat) (c : Cap) : (setCap s k c).vits = s.vits := rfl
@[simp] theorem setCap_slots (s : State) (k : Nat) (c : Cap) : (setCap s k c).slots = s.slots := rfl
@[simp] theorem setCap_meshes (s : State) (k : Nat) (c : Cap) : (setCap s k c).meshes = s.meshes := rfl
@[simp] theorem setCap_warp (s : State) (k : Nat) (c : Cap) : (setCap s k c).warp = s.warp := rfl
@[simp] theorem setCap_warpUsedA (s : State) (k : Nat) (c : Cap) : (setCap s k c).warpUsedA = s.warpUsedA := rfl
@[simp] theorem setCap_warpUsedB (s : State) (k : Nat) (c : Cap) : (setCap s k c).warpUsedB = s.warpUsedB := rfl
@[simp] theorem setCap_clrs (s : State) (k : Nat) (c : Cap) : (setCap s k c).clrs = s.clrs := rfl
@[simp] theorem setCap_scls (s : State) (k : Nat) (c : Cap) : (setCap s k c).scls = s.scls := rfl
@[simp] theorem setCap_dpss (s : State) (k : Nat) (c : Cap) : (setCap s k c).dpss = s.dpss := rfl
@[simp] theorem setCap_edps (s : State) (k : Nat) (c : Cap) : (setCap s k c).edps = s.edps := rfl
@[simp] theorem setCap_csis (s : State) (k : Nat) (c : Cap) : (setCap s k c).csis = s.csis := rfl
@[simp] theorem setCap_audio (s : State) (k : Nat) (c : Cap) : (setCap s k c).audio = s.audio := rfl
@[simp] theorem setCap_wingA (s : State) (k : Nat) (c : Cap) : (setCap s k c).wingA = s.wingA := rfl
@[simp] theorem setCap_wingB (s : State) (k : Nat) (c : Cap) : (setCap s k c).wingB = s.wingB := rfl
@[simp] theorem setCap_failover (s : State) (k : Nat) (c : Cap) : (setCap s k c).failover = s.failover := rfl
@[simp] theorem setCap_arbs (s : State) (k : Nat) (c : Cap) : (setCap s k c).arbs = s.arbs := rfl
@[simp] theorem setCap_thermal (s : State) (k : Nat) (c : Cap) : (setCap s k c).thermal = s.thermal := rfl
@[simp] theorem setCap_ledger (s : State) (k : Nat) (c : Cap) : (setCap s k c).ledger = s.ledger := rfl
@[simp] theorem setCap_bmx (s : State) (k : Nat) (c : Cap) : (setCap s k c).bmx = s.bmx := rfl
@[simp] theorem setCap_gpioIn (s : State) (k : Nat) (c : Cap) : (setCap s k c).gpioIn = s.gpioIn := rfl
@[simp] theorem setCap_freeCtr (s : State) (k : Nat) (c : Cap) : (setCap s k c).freeCtr = s.freeCtr := rfl

/-! ### setTdm -/

@[simp] theorem setTdm_clk (s : State) (p : Nat) (x : Tdm) : (setTdm s p x).clk = s.clk := rfl
@[simp] theorem setTdm_dispA (s : State) (p : Nat) (x : Tdm) : (setTdm s p x).dispA = s.dispA := rfl
@[simp] theorem setTdm_dispB (s : State) (p : Nat) (x : Tdm) : (setTdm s p x).dispB = s.dispB := rfl
@[simp] theorem setTdm_ports (s : State) (p : Nat) (x : Tdm) : (setTdm s p x).ports = s.ports := rfl
@[simp] theorem setTdm_tb (s : State) (p : Nat) (x : Tdm) : (setTdm s p x).tb = s.tb := rfl
@[simp] theorem setTdm_ev (s : State) (p : Nat) (x : Tdm) : (setTdm s p x).ev = s.ev := rfl
@[simp] theorem setTdm_modes (s : State) (p : Nat) (x : Tdm) : (setTdm s p x).modes = s.modes := rfl
@[simp] theorem setTdm_boot (s : State) (p : Nat) (x : Tdm) : (setTdm s p x).boot = s.boot := rfl
@[simp] theorem setTdm_runs (s : State) (p : Nat) (x : Tdm) : (setTdm s p x).runs = s.runs := rfl
@[simp] theorem setTdm_words (s : State) (p : Nat) (x : Tdm) : (setTdm s p x).words = s.words := rfl
@[simp] theorem setTdm_flip (s : State) (p : Nat) (x : Tdm) : (setTdm s p x).flip = s.flip := rfl
@[simp] theorem setTdm_cands (s : State) (p : Nat) (x : Tdm) : (setTdm s p x).cands = s.cands := rfl
@[simp] theorem setTdm_dpll (s : State) (p : Nat) (x : Tdm) : (setTdm s p x).dpll = s.dpll := rfl
@[simp] theorem setTdm_fsyncs (s : State) (p : Nat) (x : Tdm) : (setTdm s p x).fsyncs = s.fsyncs := rfl
@[simp] theorem setTdm_syns (s : State) (p : Nat) (x : Tdm) : (setTdm s p x).syns = s.syns := rfl
@[simp] theorem setTdm_clocks (s : State) (p : Nat) (x : Tdm) : (setTdm s p x).clocks = s.clocks := rfl
@[simp] theorem setTdm_vault (s : State) (p : Nat) (x : Tdm) : (setTdm s p x).vault = s.vault := rfl
@[simp] theorem setTdm_plks (s : State) (p : Nat) (x : Tdm) : (setTdm s p x).plks = s.plks := rfl
@[simp] theorem setTdm_outs (s : State) (p : Nat) (x : Tdm) : (setTdm s p x).outs = s.outs := rfl
@[simp] theorem setTdm_caps (s : State) (p : Nat) (x : Tdm) : (setTdm s p x).caps = s.caps := rfl
@[simp] theorem setTdm_mem (s : State) (p : Nat) (x : Tdm) : (setTdm s p x).mem = s.mem := rfl
@[simp] theorem setTdm_allocs (s : State) (p : Nat) (x : Tdm) : (setTdm s p x).allocs = s.allocs := rfl
@[simp] theorem setTdm_rtes (s : State) (p : Nat) (x : Tdm) : (setTdm s p x).rtes = s.rtes := rfl
@[simp] theorem setTdm_lyrs (s : State) (p : Nat) (x : Tdm) : (setTdm s p x).lyrs = s.lyrs := rfl
@[simp] theorem setTdm_sets (s : State) (p : Nat) (x : Tdm) : (setTdm s p x).sets = s.sets := rfl
@[simp] theorem setTdm_nextSet (s : State) (p : Nat) (x : Tdm) : (setTdm s p x).nextSet = s.nextSet := rfl
@[simp] theorem setTdm_fences (s : State) (p : Nat) (x : Tdm) : (setTdm s p x).fences = s.fences := rfl
@[simp] theorem setTdm_signals (s : State) (p : Nat) (x : Tdm) : (setTdm s p x).signals = s.signals := rfl
@[simp] theorem setTdm_signalTick (s : State) (p : Nat) (x : Tdm) : (setTdm s p x).signalTick = s.signalTick := rfl
@[simp] theorem setTdm_vits (s : State) (p : Nat) (x : Tdm) : (setTdm s p x).vits = s.vits := rfl
@[simp] theorem setTdm_slots (s : State) (p : Nat) (x : Tdm) : (setTdm s p x).slots = s.slots := rfl
@[simp] theorem setTdm_meshes (s : State) (p : Nat) (x : Tdm) : (setTdm s p x).meshes = s.meshes := rfl
@[simp] theorem setTdm_warp (s : State) (p : Nat) (x : Tdm) : (setTdm s p x).warp = s.warp := rfl
@[simp] theorem setTdm_warpUsedA (s : State) (p : Nat) (x : Tdm) : (setTdm s p x).warpUsedA = s.warpUsedA := rfl
@[simp] theorem setTdm_warpUsedB (s : State) (p : Nat) (x : Tdm) : (setTdm s p x).warpUsedB = s.warpUsedB := rfl
@[simp] theorem setTdm_clrs (s : State) (p : Nat) (x : Tdm) : (setTdm s p x).clrs = s.clrs := rfl
@[simp] theorem setTdm_scls (s : State) (p : Nat) (x : Tdm) : (setTdm s p x).scls = s.scls := rfl
@[simp] theorem setTdm_dpss (s : State) (p : Nat) (x : Tdm) : (setTdm s p x).dpss = s.dpss := rfl
@[simp] theorem setTdm_edps (s : State) (p : Nat) (x : Tdm) : (setTdm s p x).edps = s.edps := rfl
@[simp] theorem setTdm_csis (s : State) (p : Nat) (x : Tdm) : (setTdm s p x).csis = s.csis := rfl
@[simp] theorem setTdm_wingA (s : State) (p : Nat) (x : Tdm) : (setTdm s p x).wingA = s.wingA := rfl
@[simp] theorem setTdm_wingB (s : State) (p : Nat) (x : Tdm) : (setTdm s p x).wingB = s.wingB := rfl
@[simp] theorem setTdm_failover (s : State) (p : Nat) (x : Tdm) : (setTdm s p x).failover = s.failover := rfl
@[simp] theorem setTdm_arbs (s : State) (p : Nat) (x : Tdm) : (setTdm s p x).arbs = s.arbs := rfl
@[simp] theorem setTdm_thermal (s : State) (p : Nat) (x : Tdm) : (setTdm s p x).thermal = s.thermal := rfl
@[simp] theorem setTdm_ledger (s : State) (p : Nat) (x : Tdm) : (setTdm s p x).ledger = s.ledger := rfl
@[simp] theorem setTdm_bmx (s : State) (p : Nat) (x : Tdm) : (setTdm s p x).bmx = s.bmx := rfl
@[simp] theorem setTdm_gpioIn (s : State) (p : Nat) (x : Tdm) : (setTdm s p x).gpioIn = s.gpioIn := rfl
@[simp] theorem setTdm_freeCtr (s : State) (p : Nat) (x : Tdm) : (setTdm s p x).freeCtr = s.freeCtr := rfl

/-! ### setSyn -/

@[simp] theorem setSyn_clk (s : State) (n : Nat) (x : Syn) : (setSyn s n x).clk = s.clk := rfl
@[simp] theorem setSyn_dispA (s : State) (n : Nat) (x : Syn) : (setSyn s n x).dispA = s.dispA := rfl
@[simp] theorem setSyn_dispB (s : State) (n : Nat) (x : Syn) : (setSyn s n x).dispB = s.dispB := rfl
@[simp] theorem setSyn_ports (s : State) (n : Nat) (x : Syn) : (setSyn s n x).ports = s.ports := rfl
@[simp] theorem setSyn_tb (s : State) (n : Nat) (x : Syn) : (setSyn s n x).tb = s.tb := rfl
@[simp] theorem setSyn_ev (s : State) (n : Nat) (x : Syn) : (setSyn s n x).ev = s.ev := rfl
@[simp] theorem setSyn_modes (s : State) (n : Nat) (x : Syn) : (setSyn s n x).modes = s.modes := rfl
@[simp] theorem setSyn_boot (s : State) (n : Nat) (x : Syn) : (setSyn s n x).boot = s.boot := rfl
@[simp] theorem setSyn_runs (s : State) (n : Nat) (x : Syn) : (setSyn s n x).runs = s.runs := rfl
@[simp] theorem setSyn_words (s : State) (n : Nat) (x : Syn) : (setSyn s n x).words = s.words := rfl
@[simp] theorem setSyn_flip (s : State) (n : Nat) (x : Syn) : (setSyn s n x).flip = s.flip := rfl
@[simp] theorem setSyn_cands (s : State) (n : Nat) (x : Syn) : (setSyn s n x).cands = s.cands := rfl
@[simp] theorem setSyn_dpll (s : State) (n : Nat) (x : Syn) : (setSyn s n x).dpll = s.dpll := rfl
@[simp] theorem setSyn_fsyncs (s : State) (n : Nat) (x : Syn) : (setSyn s n x).fsyncs = s.fsyncs := rfl
@[simp] theorem setSyn_clocks (s : State) (n : Nat) (x : Syn) : (setSyn s n x).clocks = s.clocks := rfl
@[simp] theorem setSyn_vault (s : State) (n : Nat) (x : Syn) : (setSyn s n x).vault = s.vault := rfl
@[simp] theorem setSyn_plks (s : State) (n : Nat) (x : Syn) : (setSyn s n x).plks = s.plks := rfl
@[simp] theorem setSyn_outs (s : State) (n : Nat) (x : Syn) : (setSyn s n x).outs = s.outs := rfl
@[simp] theorem setSyn_caps (s : State) (n : Nat) (x : Syn) : (setSyn s n x).caps = s.caps := rfl
@[simp] theorem setSyn_mem (s : State) (n : Nat) (x : Syn) : (setSyn s n x).mem = s.mem := rfl
@[simp] theorem setSyn_allocs (s : State) (n : Nat) (x : Syn) : (setSyn s n x).allocs = s.allocs := rfl
@[simp] theorem setSyn_rtes (s : State) (n : Nat) (x : Syn) : (setSyn s n x).rtes = s.rtes := rfl
@[simp] theorem setSyn_lyrs (s : State) (n : Nat) (x : Syn) : (setSyn s n x).lyrs = s.lyrs := rfl
@[simp] theorem setSyn_sets (s : State) (n : Nat) (x : Syn) : (setSyn s n x).sets = s.sets := rfl
@[simp] theorem setSyn_nextSet (s : State) (n : Nat) (x : Syn) : (setSyn s n x).nextSet = s.nextSet := rfl
@[simp] theorem setSyn_fences (s : State) (n : Nat) (x : Syn) : (setSyn s n x).fences = s.fences := rfl
@[simp] theorem setSyn_signals (s : State) (n : Nat) (x : Syn) : (setSyn s n x).signals = s.signals := rfl
@[simp] theorem setSyn_signalTick (s : State) (n : Nat) (x : Syn) : (setSyn s n x).signalTick = s.signalTick := rfl
@[simp] theorem setSyn_vits (s : State) (n : Nat) (x : Syn) : (setSyn s n x).vits = s.vits := rfl
@[simp] theorem setSyn_slots (s : State) (n : Nat) (x : Syn) : (setSyn s n x).slots = s.slots := rfl
@[simp] theorem setSyn_meshes (s : State) (n : Nat) (x : Syn) : (setSyn s n x).meshes = s.meshes := rfl
@[simp] theorem setSyn_warp (s : State) (n : Nat) (x : Syn) : (setSyn s n x).warp = s.warp := rfl
@[simp] theorem setSyn_warpUsedA (s : State) (n : Nat) (x : Syn) : (setSyn s n x).warpUsedA = s.warpUsedA := rfl
@[simp] theorem setSyn_warpUsedB (s : State) (n : Nat) (x : Syn) : (setSyn s n x).warpUsedB = s.warpUsedB := rfl
@[simp] theorem setSyn_clrs (s : State) (n : Nat) (x : Syn) : (setSyn s n x).clrs = s.clrs := rfl
@[simp] theorem setSyn_scls (s : State) (n : Nat) (x : Syn) : (setSyn s n x).scls = s.scls := rfl
@[simp] theorem setSyn_dpss (s : State) (n : Nat) (x : Syn) : (setSyn s n x).dpss = s.dpss := rfl
@[simp] theorem setSyn_edps (s : State) (n : Nat) (x : Syn) : (setSyn s n x).edps = s.edps := rfl
@[simp] theorem setSyn_csis (s : State) (n : Nat) (x : Syn) : (setSyn s n x).csis = s.csis := rfl
@[simp] theorem setSyn_audio (s : State) (n : Nat) (x : Syn) : (setSyn s n x).audio = s.audio := rfl
@[simp] theorem setSyn_wingA (s : State) (n : Nat) (x : Syn) : (setSyn s n x).wingA = s.wingA := rfl
@[simp] theorem setSyn_wingB (s : State) (n : Nat) (x : Syn) : (setSyn s n x).wingB = s.wingB := rfl
@[simp] theorem setSyn_failover (s : State) (n : Nat) (x : Syn) : (setSyn s n x).failover = s.failover := rfl
@[simp] theorem setSyn_arbs (s : State) (n : Nat) (x : Syn) : (setSyn s n x).arbs = s.arbs := rfl
@[simp] theorem setSyn_thermal (s : State) (n : Nat) (x : Syn) : (setSyn s n x).thermal = s.thermal := rfl
@[simp] theorem setSyn_ledger (s : State) (n : Nat) (x : Syn) : (setSyn s n x).ledger = s.ledger := rfl
@[simp] theorem setSyn_bmx (s : State) (n : Nat) (x : Syn) : (setSyn s n x).bmx = s.bmx := rfl
@[simp] theorem setSyn_gpioIn (s : State) (n : Nat) (x : Syn) : (setSyn s n x).gpioIn = s.gpioIn := rfl
@[simp] theorem setSyn_freeCtr (s : State) (n : Nat) (x : Syn) : (setSyn s n x).freeCtr = s.freeCtr := rfl

/-! ### setLedger -/

@[simp] theorem setLedger_clk (s : State) (f : Ledger → Ledger) : (setLedger s f).clk = s.clk := rfl
@[simp] theorem setLedger_dispA (s : State) (f : Ledger → Ledger) : (setLedger s f).dispA = s.dispA := rfl
@[simp] theorem setLedger_dispB (s : State) (f : Ledger → Ledger) : (setLedger s f).dispB = s.dispB := rfl
@[simp] theorem setLedger_ports (s : State) (f : Ledger → Ledger) : (setLedger s f).ports = s.ports := rfl
@[simp] theorem setLedger_tb (s : State) (f : Ledger → Ledger) : (setLedger s f).tb = s.tb := rfl
@[simp] theorem setLedger_ev (s : State) (f : Ledger → Ledger) : (setLedger s f).ev = s.ev := rfl
@[simp] theorem setLedger_modes (s : State) (f : Ledger → Ledger) : (setLedger s f).modes = s.modes := rfl
@[simp] theorem setLedger_boot (s : State) (f : Ledger → Ledger) : (setLedger s f).boot = s.boot := rfl
@[simp] theorem setLedger_runs (s : State) (f : Ledger → Ledger) : (setLedger s f).runs = s.runs := rfl
@[simp] theorem setLedger_words (s : State) (f : Ledger → Ledger) : (setLedger s f).words = s.words := rfl
@[simp] theorem setLedger_flip (s : State) (f : Ledger → Ledger) : (setLedger s f).flip = s.flip := rfl
@[simp] theorem setLedger_cands (s : State) (f : Ledger → Ledger) : (setLedger s f).cands = s.cands := rfl
@[simp] theorem setLedger_dpll (s : State) (f : Ledger → Ledger) : (setLedger s f).dpll = s.dpll := rfl
@[simp] theorem setLedger_fsyncs (s : State) (f : Ledger → Ledger) : (setLedger s f).fsyncs = s.fsyncs := rfl
@[simp] theorem setLedger_syns (s : State) (f : Ledger → Ledger) : (setLedger s f).syns = s.syns := rfl
@[simp] theorem setLedger_clocks (s : State) (f : Ledger → Ledger) : (setLedger s f).clocks = s.clocks := rfl
@[simp] theorem setLedger_vault (s : State) (f : Ledger → Ledger) : (setLedger s f).vault = s.vault := rfl
@[simp] theorem setLedger_plks (s : State) (f : Ledger → Ledger) : (setLedger s f).plks = s.plks := rfl
@[simp] theorem setLedger_outs (s : State) (f : Ledger → Ledger) : (setLedger s f).outs = s.outs := rfl
@[simp] theorem setLedger_caps (s : State) (f : Ledger → Ledger) : (setLedger s f).caps = s.caps := rfl
@[simp] theorem setLedger_mem (s : State) (f : Ledger → Ledger) : (setLedger s f).mem = s.mem := rfl
@[simp] theorem setLedger_allocs (s : State) (f : Ledger → Ledger) : (setLedger s f).allocs = s.allocs := rfl
@[simp] theorem setLedger_rtes (s : State) (f : Ledger → Ledger) : (setLedger s f).rtes = s.rtes := rfl
@[simp] theorem setLedger_lyrs (s : State) (f : Ledger → Ledger) : (setLedger s f).lyrs = s.lyrs := rfl
@[simp] theorem setLedger_sets (s : State) (f : Ledger → Ledger) : (setLedger s f).sets = s.sets := rfl
@[simp] theorem setLedger_nextSet (s : State) (f : Ledger → Ledger) : (setLedger s f).nextSet = s.nextSet := rfl
@[simp] theorem setLedger_fences (s : State) (f : Ledger → Ledger) : (setLedger s f).fences = s.fences := rfl
@[simp] theorem setLedger_signals (s : State) (f : Ledger → Ledger) : (setLedger s f).signals = s.signals := rfl
@[simp] theorem setLedger_signalTick (s : State) (f : Ledger → Ledger) : (setLedger s f).signalTick = s.signalTick := rfl
@[simp] theorem setLedger_vits (s : State) (f : Ledger → Ledger) : (setLedger s f).vits = s.vits := rfl
@[simp] theorem setLedger_slots (s : State) (f : Ledger → Ledger) : (setLedger s f).slots = s.slots := rfl
@[simp] theorem setLedger_meshes (s : State) (f : Ledger → Ledger) : (setLedger s f).meshes = s.meshes := rfl
@[simp] theorem setLedger_warp (s : State) (f : Ledger → Ledger) : (setLedger s f).warp = s.warp := rfl
@[simp] theorem setLedger_warpUsedA (s : State) (f : Ledger → Ledger) : (setLedger s f).warpUsedA = s.warpUsedA := rfl
@[simp] theorem setLedger_warpUsedB (s : State) (f : Ledger → Ledger) : (setLedger s f).warpUsedB = s.warpUsedB := rfl
@[simp] theorem setLedger_clrs (s : State) (f : Ledger → Ledger) : (setLedger s f).clrs = s.clrs := rfl
@[simp] theorem setLedger_scls (s : State) (f : Ledger → Ledger) : (setLedger s f).scls = s.scls := rfl
@[simp] theorem setLedger_dpss (s : State) (f : Ledger → Ledger) : (setLedger s f).dpss = s.dpss := rfl
@[simp] theorem setLedger_edps (s : State) (f : Ledger → Ledger) : (setLedger s f).edps = s.edps := rfl
@[simp] theorem setLedger_csis (s : State) (f : Ledger → Ledger) : (setLedger s f).csis = s.csis := rfl
@[simp] theorem setLedger_audio (s : State) (f : Ledger → Ledger) : (setLedger s f).audio = s.audio := rfl
@[simp] theorem setLedger_wingA (s : State) (f : Ledger → Ledger) : (setLedger s f).wingA = s.wingA := rfl
@[simp] theorem setLedger_wingB (s : State) (f : Ledger → Ledger) : (setLedger s f).wingB = s.wingB := rfl
@[simp] theorem setLedger_failover (s : State) (f : Ledger → Ledger) : (setLedger s f).failover = s.failover := rfl
@[simp] theorem setLedger_arbs (s : State) (f : Ledger → Ledger) : (setLedger s f).arbs = s.arbs := rfl
@[simp] theorem setLedger_thermal (s : State) (f : Ledger → Ledger) : (setLedger s f).thermal = s.thermal := rfl
@[simp] theorem setLedger_bmx (s : State) (f : Ledger → Ledger) : (setLedger s f).bmx = s.bmx := rfl
@[simp] theorem setLedger_gpioIn (s : State) (f : Ledger → Ledger) : (setLedger s f).gpioIn = s.gpioIn := rfl
@[simp] theorem setLedger_freeCtr (s : State) (f : Ledger → Ledger) : (setLedger s f).freeCtr = s.freeCtr := rfl

/-! ### setPlk -/

@[simp] theorem setPlk_clk (s : State) (n : Nat) (p : Plk) : (setPlk s n p).clk = s.clk := rfl
@[simp] theorem setPlk_dispA (s : State) (n : Nat) (p : Plk) : (setPlk s n p).dispA = s.dispA := rfl
@[simp] theorem setPlk_dispB (s : State) (n : Nat) (p : Plk) : (setPlk s n p).dispB = s.dispB := rfl
@[simp] theorem setPlk_ports (s : State) (n : Nat) (p : Plk) : (setPlk s n p).ports = s.ports := rfl
@[simp] theorem setPlk_tb (s : State) (n : Nat) (p : Plk) : (setPlk s n p).tb = s.tb := rfl
@[simp] theorem setPlk_ev (s : State) (n : Nat) (p : Plk) : (setPlk s n p).ev = s.ev := rfl
@[simp] theorem setPlk_modes (s : State) (n : Nat) (p : Plk) : (setPlk s n p).modes = s.modes := rfl
@[simp] theorem setPlk_boot (s : State) (n : Nat) (p : Plk) : (setPlk s n p).boot = s.boot := rfl
@[simp] theorem setPlk_runs (s : State) (n : Nat) (p : Plk) : (setPlk s n p).runs = s.runs := rfl
@[simp] theorem setPlk_words (s : State) (n : Nat) (p : Plk) : (setPlk s n p).words = s.words := rfl
@[simp] theorem setPlk_flip (s : State) (n : Nat) (p : Plk) : (setPlk s n p).flip = s.flip := rfl
@[simp] theorem setPlk_cands (s : State) (n : Nat) (p : Plk) : (setPlk s n p).cands = s.cands := rfl
@[simp] theorem setPlk_dpll (s : State) (n : Nat) (p : Plk) : (setPlk s n p).dpll = s.dpll := rfl
@[simp] theorem setPlk_fsyncs (s : State) (n : Nat) (p : Plk) : (setPlk s n p).fsyncs = s.fsyncs := rfl
@[simp] theorem setPlk_syns (s : State) (n : Nat) (p : Plk) : (setPlk s n p).syns = s.syns := rfl
@[simp] theorem setPlk_clocks (s : State) (n : Nat) (p : Plk) : (setPlk s n p).clocks = s.clocks := rfl
@[simp] theorem setPlk_vault (s : State) (n : Nat) (p : Plk) : (setPlk s n p).vault = s.vault := rfl
@[simp] theorem setPlk_outs (s : State) (n : Nat) (p : Plk) : (setPlk s n p).outs = s.outs := rfl
@[simp] theorem setPlk_caps (s : State) (n : Nat) (p : Plk) : (setPlk s n p).caps = s.caps := rfl
@[simp] theorem setPlk_mem (s : State) (n : Nat) (p : Plk) : (setPlk s n p).mem = s.mem := rfl
@[simp] theorem setPlk_allocs (s : State) (n : Nat) (p : Plk) : (setPlk s n p).allocs = s.allocs := rfl
@[simp] theorem setPlk_rtes (s : State) (n : Nat) (p : Plk) : (setPlk s n p).rtes = s.rtes := rfl
@[simp] theorem setPlk_lyrs (s : State) (n : Nat) (p : Plk) : (setPlk s n p).lyrs = s.lyrs := rfl
@[simp] theorem setPlk_sets (s : State) (n : Nat) (p : Plk) : (setPlk s n p).sets = s.sets := rfl
@[simp] theorem setPlk_nextSet (s : State) (n : Nat) (p : Plk) : (setPlk s n p).nextSet = s.nextSet := rfl
@[simp] theorem setPlk_fences (s : State) (n : Nat) (p : Plk) : (setPlk s n p).fences = s.fences := rfl
@[simp] theorem setPlk_signals (s : State) (n : Nat) (p : Plk) : (setPlk s n p).signals = s.signals := rfl
@[simp] theorem setPlk_signalTick (s : State) (n : Nat) (p : Plk) : (setPlk s n p).signalTick = s.signalTick := rfl
@[simp] theorem setPlk_vits (s : State) (n : Nat) (p : Plk) : (setPlk s n p).vits = s.vits := rfl
@[simp] theorem setPlk_slots (s : State) (n : Nat) (p : Plk) : (setPlk s n p).slots = s.slots := rfl
@[simp] theorem setPlk_meshes (s : State) (n : Nat) (p : Plk) : (setPlk s n p).meshes = s.meshes := rfl
@[simp] theorem setPlk_warp (s : State) (n : Nat) (p : Plk) : (setPlk s n p).warp = s.warp := rfl
@[simp] theorem setPlk_warpUsedA (s : State) (n : Nat) (p : Plk) : (setPlk s n p).warpUsedA = s.warpUsedA := rfl
@[simp] theorem setPlk_warpUsedB (s : State) (n : Nat) (p : Plk) : (setPlk s n p).warpUsedB = s.warpUsedB := rfl
@[simp] theorem setPlk_clrs (s : State) (n : Nat) (p : Plk) : (setPlk s n p).clrs = s.clrs := rfl
@[simp] theorem setPlk_scls (s : State) (n : Nat) (p : Plk) : (setPlk s n p).scls = s.scls := rfl
@[simp] theorem setPlk_dpss (s : State) (n : Nat) (p : Plk) : (setPlk s n p).dpss = s.dpss := rfl
@[simp] theorem setPlk_edps (s : State) (n : Nat) (p : Plk) : (setPlk s n p).edps = s.edps := rfl
@[simp] theorem setPlk_csis (s : State) (n : Nat) (p : Plk) : (setPlk s n p).csis = s.csis := rfl
@[simp] theorem setPlk_audio (s : State) (n : Nat) (p : Plk) : (setPlk s n p).audio = s.audio := rfl
@[simp] theorem setPlk_wingA (s : State) (n : Nat) (p : Plk) : (setPlk s n p).wingA = s.wingA := rfl
@[simp] theorem setPlk_wingB (s : State) (n : Nat) (p : Plk) : (setPlk s n p).wingB = s.wingB := rfl
@[simp] theorem setPlk_failover (s : State) (n : Nat) (p : Plk) : (setPlk s n p).failover = s.failover := rfl
@[simp] theorem setPlk_arbs (s : State) (n : Nat) (p : Plk) : (setPlk s n p).arbs = s.arbs := rfl
@[simp] theorem setPlk_thermal (s : State) (n : Nat) (p : Plk) : (setPlk s n p).thermal = s.thermal := rfl
@[simp] theorem setPlk_ledger (s : State) (n : Nat) (p : Plk) : (setPlk s n p).ledger = s.ledger := rfl
@[simp] theorem setPlk_bmx (s : State) (n : Nat) (p : Plk) : (setPlk s n p).bmx = s.bmx := rfl
@[simp] theorem setPlk_gpioIn (s : State) (n : Nat) (p : Plk) : (setPlk s n p).gpioIn = s.gpioIn := rfl
@[simp] theorem setPlk_freeCtr (s : State) (n : Nat) (p : Plk) : (setPlk s n p).freeCtr = s.freeCtr := rfl

/-! ### setVit -/

@[simp] theorem setVit_clk (s : State) (o : Nat) (v : Vit) : (setVit s o v).clk = s.clk := rfl
@[simp] theorem setVit_dispA (s : State) (o : Nat) (v : Vit) : (setVit s o v).dispA = s.dispA := rfl
@[simp] theorem setVit_dispB (s : State) (o : Nat) (v : Vit) : (setVit s o v).dispB = s.dispB := rfl
@[simp] theorem setVit_ports (s : State) (o : Nat) (v : Vit) : (setVit s o v).ports = s.ports := rfl
@[simp] theorem setVit_tb (s : State) (o : Nat) (v : Vit) : (setVit s o v).tb = s.tb := rfl
@[simp] theorem setVit_ev (s : State) (o : Nat) (v : Vit) : (setVit s o v).ev = s.ev := rfl
@[simp] theorem setVit_modes (s : State) (o : Nat) (v : Vit) : (setVit s o v).modes = s.modes := rfl
@[simp] theorem setVit_boot (s : State) (o : Nat) (v : Vit) : (setVit s o v).boot = s.boot := rfl
@[simp] theorem setVit_runs (s : State) (o : Nat) (v : Vit) : (setVit s o v).runs = s.runs := rfl
@[simp] theorem setVit_words (s : State) (o : Nat) (v : Vit) : (setVit s o v).words = s.words := rfl
@[simp] theorem setVit_flip (s : State) (o : Nat) (v : Vit) : (setVit s o v).flip = s.flip := rfl
@[simp] theorem setVit_cands (s : State) (o : Nat) (v : Vit) : (setVit s o v).cands = s.cands := rfl
@[simp] theorem setVit_dpll (s : State) (o : Nat) (v : Vit) : (setVit s o v).dpll = s.dpll := rfl
@[simp] theorem setVit_fsyncs (s : State) (o : Nat) (v : Vit) : (setVit s o v).fsyncs = s.fsyncs := rfl
@[simp] theorem setVit_syns (s : State) (o : Nat) (v : Vit) : (setVit s o v).syns = s.syns := rfl
@[simp] theorem setVit_clocks (s : State) (o : Nat) (v : Vit) : (setVit s o v).clocks = s.clocks := rfl
@[simp] theorem setVit_vault (s : State) (o : Nat) (v : Vit) : (setVit s o v).vault = s.vault := rfl
@[simp] theorem setVit_plks (s : State) (o : Nat) (v : Vit) : (setVit s o v).plks = s.plks := rfl
@[simp] theorem setVit_outs (s : State) (o : Nat) (v : Vit) : (setVit s o v).outs = s.outs := rfl
@[simp] theorem setVit_caps (s : State) (o : Nat) (v : Vit) : (setVit s o v).caps = s.caps := rfl
@[simp] theorem setVit_mem (s : State) (o : Nat) (v : Vit) : (setVit s o v).mem = s.mem := rfl
@[simp] theorem setVit_allocs (s : State) (o : Nat) (v : Vit) : (setVit s o v).allocs = s.allocs := rfl
@[simp] theorem setVit_rtes (s : State) (o : Nat) (v : Vit) : (setVit s o v).rtes = s.rtes := rfl
@[simp] theorem setVit_lyrs (s : State) (o : Nat) (v : Vit) : (setVit s o v).lyrs = s.lyrs := rfl
@[simp] theorem setVit_sets (s : State) (o : Nat) (v : Vit) : (setVit s o v).sets = s.sets := rfl
@[simp] theorem setVit_nextSet (s : State) (o : Nat) (v : Vit) : (setVit s o v).nextSet = s.nextSet := rfl
@[simp] theorem setVit_fences (s : State) (o : Nat) (v : Vit) : (setVit s o v).fences = s.fences := rfl
@[simp] theorem setVit_signals (s : State) (o : Nat) (v : Vit) : (setVit s o v).signals = s.signals := rfl
@[simp] theorem setVit_signalTick (s : State) (o : Nat) (v : Vit) : (setVit s o v).signalTick = s.signalTick := rfl
@[simp] theorem setVit_slots (s : State) (o : Nat) (v : Vit) : (setVit s o v).slots = s.slots := rfl
@[simp] theorem setVit_meshes (s : State) (o : Nat) (v : Vit) : (setVit s o v).meshes = s.meshes := rfl
@[simp] theorem setVit_warp (s : State) (o : Nat) (v : Vit) : (setVit s o v).warp = s.warp := rfl
@[simp] theorem setVit_warpUsedA (s : State) (o : Nat) (v : Vit) : (setVit s o v).warpUsedA = s.warpUsedA := rfl
@[simp] theorem setVit_warpUsedB (s : State) (o : Nat) (v : Vit) : (setVit s o v).warpUsedB = s.warpUsedB := rfl
@[simp] theorem setVit_clrs (s : State) (o : Nat) (v : Vit) : (setVit s o v).clrs = s.clrs := rfl
@[simp] theorem setVit_scls (s : State) (o : Nat) (v : Vit) : (setVit s o v).scls = s.scls := rfl
@[simp] theorem setVit_dpss (s : State) (o : Nat) (v : Vit) : (setVit s o v).dpss = s.dpss := rfl
@[simp] theorem setVit_edps (s : State) (o : Nat) (v : Vit) : (setVit s o v).edps = s.edps := rfl
@[simp] theorem setVit_csis (s : State) (o : Nat) (v : Vit) : (setVit s o v).csis = s.csis := rfl
@[simp] theorem setVit_audio (s : State) (o : Nat) (v : Vit) : (setVit s o v).audio = s.audio := rfl
@[simp] theorem setVit_wingA (s : State) (o : Nat) (v : Vit) : (setVit s o v).wingA = s.wingA := rfl
@[simp] theorem setVit_wingB (s : State) (o : Nat) (v : Vit) : (setVit s o v).wingB = s.wingB := rfl
@[simp] theorem setVit_failover (s : State) (o : Nat) (v : Vit) : (setVit s o v).failover = s.failover := rfl
@[simp] theorem setVit_arbs (s : State) (o : Nat) (v : Vit) : (setVit s o v).arbs = s.arbs := rfl
@[simp] theorem setVit_thermal (s : State) (o : Nat) (v : Vit) : (setVit s o v).thermal = s.thermal := rfl
@[simp] theorem setVit_ledger (s : State) (o : Nat) (v : Vit) : (setVit s o v).ledger = s.ledger := rfl
@[simp] theorem setVit_bmx (s : State) (o : Nat) (v : Vit) : (setVit s o v).bmx = s.bmx := rfl
@[simp] theorem setVit_gpioIn (s : State) (o : Nat) (v : Vit) : (setVit s o v).gpioIn = s.gpioIn := rfl
@[simp] theorem setVit_freeCtr (s : State) (o : Nat) (v : Vit) : (setVit s o v).freeCtr = s.freeCtr := rfl

/-! ### setFset -/

@[simp] theorem setFset_clk (s : State) (i : Nat) (x : FSet) : (setFset s i x).clk = s.clk := rfl
@[simp] theorem setFset_dispA (s : State) (i : Nat) (x : FSet) : (setFset s i x).dispA = s.dispA := rfl
@[simp] theorem setFset_dispB (s : State) (i : Nat) (x : FSet) : (setFset s i x).dispB = s.dispB := rfl
@[simp] theorem setFset_ports (s : State) (i : Nat) (x : FSet) : (setFset s i x).ports = s.ports := rfl
@[simp] theorem setFset_tb (s : State) (i : Nat) (x : FSet) : (setFset s i x).tb = s.tb := rfl
@[simp] theorem setFset_ev (s : State) (i : Nat) (x : FSet) : (setFset s i x).ev = s.ev := rfl
@[simp] theorem setFset_modes (s : State) (i : Nat) (x : FSet) : (setFset s i x).modes = s.modes := rfl
@[simp] theorem setFset_boot (s : State) (i : Nat) (x : FSet) : (setFset s i x).boot = s.boot := rfl
@[simp] theorem setFset_runs (s : State) (i : Nat) (x : FSet) : (setFset s i x).runs = s.runs := rfl
@[simp] theorem setFset_words (s : State) (i : Nat) (x : FSet) : (setFset s i x).words = s.words := rfl
@[simp] theorem setFset_flip (s : State) (i : Nat) (x : FSet) : (setFset s i x).flip = s.flip := rfl
@[simp] theorem setFset_cands (s : State) (i : Nat) (x : FSet) : (setFset s i x).cands = s.cands := rfl
@[simp] theorem setFset_dpll (s : State) (i : Nat) (x : FSet) : (setFset s i x).dpll = s.dpll := rfl
@[simp] theorem setFset_fsyncs (s : State) (i : Nat) (x : FSet) : (setFset s i x).fsyncs = s.fsyncs := rfl
@[simp] theorem setFset_syns (s : State) (i : Nat) (x : FSet) : (setFset s i x).syns = s.syns := rfl
@[simp] theorem setFset_clocks (s : State) (i : Nat) (x : FSet) : (setFset s i x).clocks = s.clocks := rfl
@[simp] theorem setFset_vault (s : State) (i : Nat) (x : FSet) : (setFset s i x).vault = s.vault := rfl
@[simp] theorem setFset_plks (s : State) (i : Nat) (x : FSet) : (setFset s i x).plks = s.plks := rfl
@[simp] theorem setFset_outs (s : State) (i : Nat) (x : FSet) : (setFset s i x).outs = s.outs := rfl
@[simp] theorem setFset_caps (s : State) (i : Nat) (x : FSet) : (setFset s i x).caps = s.caps := rfl
@[simp] theorem setFset_mem (s : State) (i : Nat) (x : FSet) : (setFset s i x).mem = s.mem := rfl
@[simp] theorem setFset_allocs (s : State) (i : Nat) (x : FSet) : (setFset s i x).allocs = s.allocs := rfl
@[simp] theorem setFset_rtes (s : State) (i : Nat) (x : FSet) : (setFset s i x).rtes = s.rtes := rfl
@[simp] theorem setFset_lyrs (s : State) (i : Nat) (x : FSet) : (setFset s i x).lyrs = s.lyrs := rfl
@[simp] theorem setFset_nextSet (s : State) (i : Nat) (x : FSet) : (setFset s i x).nextSet = s.nextSet := rfl
@[simp] theorem setFset_fences (s : State) (i : Nat) (x : FSet) : (setFset s i x).fences = s.fences := rfl
@[simp] theorem setFset_signals (s : State) (i : Nat) (x : FSet) : (setFset s i x).signals = s.signals := rfl
@[simp] theorem setFset_signalTick (s : State) (i : Nat) (x : FSet) : (setFset s i x).signalTick = s.signalTick := rfl
@[simp] theorem setFset_vits (s : State) (i : Nat) (x : FSet) : (setFset s i x).vits = s.vits := rfl
@[simp] theorem setFset_slots (s : State) (i : Nat) (x : FSet) : (setFset s i x).slots = s.slots := rfl
@[simp] theorem setFset_meshes (s : State) (i : Nat) (x : FSet) : (setFset s i x).meshes = s.meshes := rfl
@[simp] theorem setFset_warp (s : State) (i : Nat) (x : FSet) : (setFset s i x).warp = s.warp := rfl
@[simp] theorem setFset_warpUsedA (s : State) (i : Nat) (x : FSet) : (setFset s i x).warpUsedA = s.warpUsedA := rfl
@[simp] theorem setFset_warpUsedB (s : State) (i : Nat) (x : FSet) : (setFset s i x).warpUsedB = s.warpUsedB := rfl
@[simp] theorem setFset_clrs (s : State) (i : Nat) (x : FSet) : (setFset s i x).clrs = s.clrs := rfl
@[simp] theorem setFset_scls (s : State) (i : Nat) (x : FSet) : (setFset s i x).scls = s.scls := rfl
@[simp] theorem setFset_dpss (s : State) (i : Nat) (x : FSet) : (setFset s i x).dpss = s.dpss := rfl
@[simp] theorem setFset_edps (s : State) (i : Nat) (x : FSet) : (setFset s i x).edps = s.edps := rfl
@[simp] theorem setFset_csis (s : State) (i : Nat) (x : FSet) : (setFset s i x).csis = s.csis := rfl
@[simp] theorem setFset_audio (s : State) (i : Nat) (x : FSet) : (setFset s i x).audio = s.audio := rfl
@[simp] theorem setFset_wingA (s : State) (i : Nat) (x : FSet) : (setFset s i x).wingA = s.wingA := rfl
@[simp] theorem setFset_wingB (s : State) (i : Nat) (x : FSet) : (setFset s i x).wingB = s.wingB := rfl
@[simp] theorem setFset_failover (s : State) (i : Nat) (x : FSet) : (setFset s i x).failover = s.failover := rfl
@[simp] theorem setFset_arbs (s : State) (i : Nat) (x : FSet) : (setFset s i x).arbs = s.arbs := rfl
@[simp] theorem setFset_thermal (s : State) (i : Nat) (x : FSet) : (setFset s i x).thermal = s.thermal := rfl
@[simp] theorem setFset_ledger (s : State) (i : Nat) (x : FSet) : (setFset s i x).ledger = s.ledger := rfl
@[simp] theorem setFset_bmx (s : State) (i : Nat) (x : FSet) : (setFset s i x).bmx = s.bmx := rfl
@[simp] theorem setFset_gpioIn (s : State) (i : Nat) (x : FSet) : (setFset s i x).gpioIn = s.gpioIn := rfl
@[simp] theorem setFset_freeCtr (s : State) (i : Nat) (x : FSet) : (setFset s i x).freeCtr = s.freeCtr := rfl

/-! ### setLyr -/

@[simp] theorem setLyr_clk (s : State) (bank n : Nat) (x : Lyr) : (setLyr s bank n x).clk = s.clk := rfl
@[simp] theorem setLyr_dispA (s : State) (bank n : Nat) (x : Lyr) : (setLyr s bank n x).dispA = s.dispA := rfl
@[simp] theorem setLyr_dispB (s : State) (bank n : Nat) (x : Lyr) : (setLyr s bank n x).dispB = s.dispB := rfl
@[simp] theorem setLyr_ports (s : State) (bank n : Nat) (x : Lyr) : (setLyr s bank n x).ports = s.ports := rfl
@[simp] theorem setLyr_tb (s : State) (bank n : Nat) (x : Lyr) : (setLyr s bank n x).tb = s.tb := rfl
@[simp] theorem setLyr_ev (s : State) (bank n : Nat) (x : Lyr) : (setLyr s bank n x).ev = s.ev := rfl
@[simp] theorem setLyr_modes (s : State) (bank n : Nat) (x : Lyr) : (setLyr s bank n x).modes = s.modes := rfl
@[simp] theorem setLyr_boot (s : State) (bank n : Nat) (x : Lyr) : (setLyr s bank n x).boot = s.boot := rfl
@[simp] theorem setLyr_runs (s : State) (bank n : Nat) (x : Lyr) : (setLyr s bank n x).runs = s.runs := rfl
@[simp] theorem setLyr_words (s : State) (bank n : Nat) (x : Lyr) : (setLyr s bank n x).words = s.words := rfl
@[simp] theorem setLyr_flip (s : State) (bank n : Nat) (x : Lyr) : (setLyr s bank n x).flip = s.flip := rfl
@[simp] theorem setLyr_cands (s : State) (bank n : Nat) (x : Lyr) : (setLyr s bank n x).cands = s.cands := rfl
@[simp] theorem setLyr_dpll (s : State) (bank n : Nat) (x : Lyr) : (setLyr s bank n x).dpll = s.dpll := rfl
@[simp] theorem setLyr_fsyncs (s : State) (bank n : Nat) (x : Lyr) : (setLyr s bank n x).fsyncs = s.fsyncs := rfl
@[simp] theorem setLyr_syns (s : State) (bank n : Nat) (x : Lyr) : (setLyr s bank n x).syns = s.syns := rfl
@[simp] theorem setLyr_clocks (s : State) (bank n : Nat) (x : Lyr) : (setLyr s bank n x).clocks = s.clocks := rfl
@[simp] theorem setLyr_vault (s : State) (bank n : Nat) (x : Lyr) : (setLyr s bank n x).vault = s.vault := rfl
@[simp] theorem setLyr_plks (s : State) (bank n : Nat) (x : Lyr) : (setLyr s bank n x).plks = s.plks := rfl
@[simp] theorem setLyr_outs (s : State) (bank n : Nat) (x : Lyr) : (setLyr s bank n x).outs = s.outs := rfl
@[simp] theorem setLyr_caps (s : State) (bank n : Nat) (x : Lyr) : (setLyr s bank n x).caps = s.caps := rfl
@[simp] theorem setLyr_mem (s : State) (bank n : Nat) (x : Lyr) : (setLyr s bank n x).mem = s.mem := rfl
@[simp] theorem setLyr_allocs (s : State) (bank n : Nat) (x : Lyr) : (setLyr s bank n x).allocs = s.allocs := rfl
@[simp] theorem setLyr_rtes (s : State) (bank n : Nat) (x : Lyr) : (setLyr s bank n x).rtes = s.rtes := rfl
@[simp] theorem setLyr_sets (s : State) (bank n : Nat) (x : Lyr) : (setLyr s bank n x).sets = s.sets := rfl
@[simp] theorem setLyr_nextSet (s : State) (bank n : Nat) (x : Lyr) : (setLyr s bank n x).nextSet = s.nextSet := rfl
@[simp] theorem setLyr_fences (s : State) (bank n : Nat) (x : Lyr) : (setLyr s bank n x).fences = s.fences := rfl
@[simp] theorem setLyr_signals (s : State) (bank n : Nat) (x : Lyr) : (setLyr s bank n x).signals = s.signals := rfl
@[simp] theorem setLyr_signalTick (s : State) (bank n : Nat) (x : Lyr) : (setLyr s bank n x).signalTick = s.signalTick := rfl
@[simp] theorem setLyr_vits (s : State) (bank n : Nat) (x : Lyr) : (setLyr s bank n x).vits = s.vits := rfl
@[simp] theorem setLyr_slots (s : State) (bank n : Nat) (x : Lyr) : (setLyr s bank n x).slots = s.slots := rfl
@[simp] theorem setLyr_meshes (s : State) (bank n : Nat) (x : Lyr) : (setLyr s bank n x).meshes = s.meshes := rfl
@[simp] theorem setLyr_warp (s : State) (bank n : Nat) (x : Lyr) : (setLyr s bank n x).warp = s.warp := rfl
@[simp] theorem setLyr_warpUsedA (s : State) (bank n : Nat) (x : Lyr) : (setLyr s bank n x).warpUsedA = s.warpUsedA := rfl
@[simp] theorem setLyr_warpUsedB (s : State) (bank n : Nat) (x : Lyr) : (setLyr s bank n x).warpUsedB = s.warpUsedB := rfl
@[simp] theorem setLyr_clrs (s : State) (bank n : Nat) (x : Lyr) : (setLyr s bank n x).clrs = s.clrs := rfl
@[simp] theorem setLyr_scls (s : State) (bank n : Nat) (x : Lyr) : (setLyr s bank n x).scls = s.scls := rfl
@[simp] theorem setLyr_dpss (s : State) (bank n : Nat) (x : Lyr) : (setLyr s bank n x).dpss = s.dpss := rfl
@[simp] theorem setLyr_edps (s : State) (bank n : Nat) (x : Lyr) : (setLyr s bank n x).edps = s.edps := rfl
@[simp] theorem setLyr_csis (s : State) (bank n : Nat) (x : Lyr) : (setLyr s bank n x).csis = s.csis := rfl
@[simp] theorem setLyr_audio (s : State) (bank n : Nat) (x : Lyr) : (setLyr s bank n x).audio = s.audio := rfl
@[simp] theorem setLyr_wingA (s : State) (bank n : Nat) (x : Lyr) : (setLyr s bank n x).wingA = s.wingA := rfl
@[simp] theorem setLyr_wingB (s : State) (bank n : Nat) (x : Lyr) : (setLyr s bank n x).wingB = s.wingB := rfl
@[simp] theorem setLyr_failover (s : State) (bank n : Nat) (x : Lyr) : (setLyr s bank n x).failover = s.failover := rfl
@[simp] theorem setLyr_arbs (s : State) (bank n : Nat) (x : Lyr) : (setLyr s bank n x).arbs = s.arbs := rfl
@[simp] theorem setLyr_thermal (s : State) (bank n : Nat) (x : Lyr) : (setLyr s bank n x).thermal = s.thermal := rfl
@[simp] theorem setLyr_ledger (s : State) (bank n : Nat) (x : Lyr) : (setLyr s bank n x).ledger = s.ledger := rfl
@[simp] theorem setLyr_bmx (s : State) (bank n : Nat) (x : Lyr) : (setLyr s bank n x).bmx = s.bmx := rfl
@[simp] theorem setLyr_gpioIn (s : State) (bank n : Nat) (x : Lyr) : (setLyr s bank n x).gpioIn = s.gpioIn := rfl
@[simp] theorem setLyr_freeCtr (s : State) (bank n : Nat) (x : Lyr) : (setLyr s bank n x).freeCtr = s.freeCtr := rfl

/-! ### setLyrAt -/

@[simp] theorem setLyrAt_clk (s : State) (k : Nat) (x : Lyr) : (setLyrAt s k x).clk = s.clk := rfl
@[simp] theorem setLyrAt_dispA (s : State) (k : Nat) (x : Lyr) : (setLyrAt s k x).dispA = s.dispA := rfl
@[simp] theorem setLyrAt_dispB (s : State) (k : Nat) (x : Lyr) : (setLyrAt s k x).dispB = s.dispB := rfl
@[simp] theorem setLyrAt_ports (s : State) (k : Nat) (x : Lyr) : (setLyrAt s k x).ports = s.ports := rfl
@[simp] theorem setLyrAt_tb (s : State) (k : Nat) (x : Lyr) : (setLyrAt s k x).tb = s.tb := rfl
@[simp] theorem setLyrAt_ev (s : State) (k : Nat) (x : Lyr) : (setLyrAt s k x).ev = s.ev := rfl
@[simp] theorem setLyrAt_modes (s : State) (k : Nat) (x : Lyr) : (setLyrAt s k x).modes = s.modes := rfl
@[simp] theorem setLyrAt_boot (s : State) (k : Nat) (x : Lyr) : (setLyrAt s k x).boot = s.boot := rfl
@[simp] theorem setLyrAt_runs (s : State) (k : Nat) (x : Lyr) : (setLyrAt s k x).runs = s.runs := rfl
@[simp] theorem setLyrAt_words (s : State) (k : Nat) (x : Lyr) : (setLyrAt s k x).words = s.words := rfl
@[simp] theorem setLyrAt_flip (s : State) (k : Nat) (x : Lyr) : (setLyrAt s k x).flip = s.flip := rfl
@[simp] theorem setLyrAt_cands (s : State) (k : Nat) (x : Lyr) : (setLyrAt s k x).cands = s.cands := rfl
@[simp] theorem setLyrAt_dpll (s : State) (k : Nat) (x : Lyr) : (setLyrAt s k x).dpll = s.dpll := rfl
@[simp] theorem setLyrAt_fsyncs (s : State) (k : Nat) (x : Lyr) : (setLyrAt s k x).fsyncs = s.fsyncs := rfl
@[simp] theorem setLyrAt_syns (s : State) (k : Nat) (x : Lyr) : (setLyrAt s k x).syns = s.syns := rfl
@[simp] theorem setLyrAt_clocks (s : State) (k : Nat) (x : Lyr) : (setLyrAt s k x).clocks = s.clocks := rfl
@[simp] theorem setLyrAt_vault (s : State) (k : Nat) (x : Lyr) : (setLyrAt s k x).vault = s.vault := rfl
@[simp] theorem setLyrAt_plks (s : State) (k : Nat) (x : Lyr) : (setLyrAt s k x).plks = s.plks := rfl
@[simp] theorem setLyrAt_outs (s : State) (k : Nat) (x : Lyr) : (setLyrAt s k x).outs = s.outs := rfl
@[simp] theorem setLyrAt_caps (s : State) (k : Nat) (x : Lyr) : (setLyrAt s k x).caps = s.caps := rfl
@[simp] theorem setLyrAt_mem (s : State) (k : Nat) (x : Lyr) : (setLyrAt s k x).mem = s.mem := rfl
@[simp] theorem setLyrAt_allocs (s : State) (k : Nat) (x : Lyr) : (setLyrAt s k x).allocs = s.allocs := rfl
@[simp] theorem setLyrAt_rtes (s : State) (k : Nat) (x : Lyr) : (setLyrAt s k x).rtes = s.rtes := rfl
@[simp] theorem setLyrAt_sets (s : State) (k : Nat) (x : Lyr) : (setLyrAt s k x).sets = s.sets := rfl
@[simp] theorem setLyrAt_nextSet (s : State) (k : Nat) (x : Lyr) : (setLyrAt s k x).nextSet = s.nextSet := rfl
@[simp] theorem setLyrAt_fences (s : State) (k : Nat) (x : Lyr) : (setLyrAt s k x).fences = s.fences := rfl
@[simp] theorem setLyrAt_signals (s : State) (k : Nat) (x : Lyr) : (setLyrAt s k x).signals = s.signals := rfl
@[simp] theorem setLyrAt_signalTick (s : State) (k : Nat) (x : Lyr) : (setLyrAt s k x).signalTick = s.signalTick := rfl
@[simp] theorem setLyrAt_vits (s : State) (k : Nat) (x : Lyr) : (setLyrAt s k x).vits = s.vits := rfl
@[simp] theorem setLyrAt_slots (s : State) (k : Nat) (x : Lyr) : (setLyrAt s k x).slots = s.slots := rfl
@[simp] theorem setLyrAt_meshes (s : State) (k : Nat) (x : Lyr) : (setLyrAt s k x).meshes = s.meshes := rfl
@[simp] theorem setLyrAt_warp (s : State) (k : Nat) (x : Lyr) : (setLyrAt s k x).warp = s.warp := rfl
@[simp] theorem setLyrAt_warpUsedA (s : State) (k : Nat) (x : Lyr) : (setLyrAt s k x).warpUsedA = s.warpUsedA := rfl
@[simp] theorem setLyrAt_warpUsedB (s : State) (k : Nat) (x : Lyr) : (setLyrAt s k x).warpUsedB = s.warpUsedB := rfl
@[simp] theorem setLyrAt_clrs (s : State) (k : Nat) (x : Lyr) : (setLyrAt s k x).clrs = s.clrs := rfl
@[simp] theorem setLyrAt_scls (s : State) (k : Nat) (x : Lyr) : (setLyrAt s k x).scls = s.scls := rfl
@[simp] theorem setLyrAt_dpss (s : State) (k : Nat) (x : Lyr) : (setLyrAt s k x).dpss = s.dpss := rfl
@[simp] theorem setLyrAt_edps (s : State) (k : Nat) (x : Lyr) : (setLyrAt s k x).edps = s.edps := rfl
@[simp] theorem setLyrAt_csis (s : State) (k : Nat) (x : Lyr) : (setLyrAt s k x).csis = s.csis := rfl
@[simp] theorem setLyrAt_audio (s : State) (k : Nat) (x : Lyr) : (setLyrAt s k x).audio = s.audio := rfl
@[simp] theorem setLyrAt_wingA (s : State) (k : Nat) (x : Lyr) : (setLyrAt s k x).wingA = s.wingA := rfl
@[simp] theorem setLyrAt_wingB (s : State) (k : Nat) (x : Lyr) : (setLyrAt s k x).wingB = s.wingB := rfl
@[simp] theorem setLyrAt_failover (s : State) (k : Nat) (x : Lyr) : (setLyrAt s k x).failover = s.failover := rfl
@[simp] theorem setLyrAt_arbs (s : State) (k : Nat) (x : Lyr) : (setLyrAt s k x).arbs = s.arbs := rfl
@[simp] theorem setLyrAt_thermal (s : State) (k : Nat) (x : Lyr) : (setLyrAt s k x).thermal = s.thermal := rfl
@[simp] theorem setLyrAt_ledger (s : State) (k : Nat) (x : Lyr) : (setLyrAt s k x).ledger = s.ledger := rfl
@[simp] theorem setLyrAt_bmx (s : State) (k : Nat) (x : Lyr) : (setLyrAt s k x).bmx = s.bmx := rfl
@[simp] theorem setLyrAt_gpioIn (s : State) (k : Nat) (x : Lyr) : (setLyrAt s k x).gpioIn = s.gpioIn := rfl
@[simp] theorem setLyrAt_freeCtr (s : State) (k : Nat) (x : Lyr) : (setLyrAt s k x).freeCtr = s.freeCtr := rfl

/-! ### setRte -/

@[simp] theorem setRte_clk (s : State) (b r o : Nat) (x : RteOut) : (setRte s b r o x).clk = s.clk := rfl
@[simp] theorem setRte_dispA (s : State) (b r o : Nat) (x : RteOut) : (setRte s b r o x).dispA = s.dispA := rfl
@[simp] theorem setRte_dispB (s : State) (b r o : Nat) (x : RteOut) : (setRte s b r o x).dispB = s.dispB := rfl
@[simp] theorem setRte_ports (s : State) (b r o : Nat) (x : RteOut) : (setRte s b r o x).ports = s.ports := rfl
@[simp] theorem setRte_tb (s : State) (b r o : Nat) (x : RteOut) : (setRte s b r o x).tb = s.tb := rfl
@[simp] theorem setRte_ev (s : State) (b r o : Nat) (x : RteOut) : (setRte s b r o x).ev = s.ev := rfl
@[simp] theorem setRte_modes (s : State) (b r o : Nat) (x : RteOut) : (setRte s b r o x).modes = s.modes := rfl
@[simp] theorem setRte_boot (s : State) (b r o : Nat) (x : RteOut) : (setRte s b r o x).boot = s.boot := rfl
@[simp] theorem setRte_runs (s : State) (b r o : Nat) (x : RteOut) : (setRte s b r o x).runs = s.runs := rfl
@[simp] theorem setRte_words (s : State) (b r o : Nat) (x : RteOut) : (setRte s b r o x).words = s.words := rfl
@[simp] theorem setRte_flip (s : State) (b r o : Nat) (x : RteOut) : (setRte s b r o x).flip = s.flip := rfl
@[simp] theorem setRte_cands (s : State) (b r o : Nat) (x : RteOut) : (setRte s b r o x).cands = s.cands := rfl
@[simp] theorem setRte_dpll (s : State) (b r o : Nat) (x : RteOut) : (setRte s b r o x).dpll = s.dpll := rfl
@[simp] theorem setRte_fsyncs (s : State) (b r o : Nat) (x : RteOut) : (setRte s b r o x).fsyncs = s.fsyncs := rfl
@[simp] theorem setRte_syns (s : State) (b r o : Nat) (x : RteOut) : (setRte s b r o x).syns = s.syns := rfl
@[simp] theorem setRte_clocks (s : State) (b r o : Nat) (x : RteOut) : (setRte s b r o x).clocks = s.clocks := rfl
@[simp] theorem setRte_vault (s : State) (b r o : Nat) (x : RteOut) : (setRte s b r o x).vault = s.vault := rfl
@[simp] theorem setRte_plks (s : State) (b r o : Nat) (x : RteOut) : (setRte s b r o x).plks = s.plks := rfl
@[simp] theorem setRte_outs (s : State) (b r o : Nat) (x : RteOut) : (setRte s b r o x).outs = s.outs := rfl
@[simp] theorem setRte_caps (s : State) (b r o : Nat) (x : RteOut) : (setRte s b r o x).caps = s.caps := rfl
@[simp] theorem setRte_mem (s : State) (b r o : Nat) (x : RteOut) : (setRte s b r o x).mem = s.mem := rfl
@[simp] theorem setRte_allocs (s : State) (b r o : Nat) (x : RteOut) : (setRte s b r o x).allocs = s.allocs := rfl
@[simp] theorem setRte_lyrs (s : State) (b r o : Nat) (x : RteOut) : (setRte s b r o x).lyrs = s.lyrs := rfl
@[simp] theorem setRte_sets (s : State) (b r o : Nat) (x : RteOut) : (setRte s b r o x).sets = s.sets := rfl
@[simp] theorem setRte_nextSet (s : State) (b r o : Nat) (x : RteOut) : (setRte s b r o x).nextSet = s.nextSet := rfl
@[simp] theorem setRte_fences (s : State) (b r o : Nat) (x : RteOut) : (setRte s b r o x).fences = s.fences := rfl
@[simp] theorem setRte_signals (s : State) (b r o : Nat) (x : RteOut) : (setRte s b r o x).signals = s.signals := rfl
@[simp] theorem setRte_signalTick (s : State) (b r o : Nat) (x : RteOut) : (setRte s b r o x).signalTick = s.signalTick := rfl
@[simp] theorem setRte_vits (s : State) (b r o : Nat) (x : RteOut) : (setRte s b r o x).vits = s.vits := rfl
@[simp] theorem setRte_slots (s : State) (b r o : Nat) (x : RteOut) : (setRte s b r o x).slots = s.slots := rfl
@[simp] theorem setRte_meshes (s : State) (b r o : Nat) (x : RteOut) : (setRte s b r o x).meshes = s.meshes := rfl
@[simp] theorem setRte_warp (s : State) (b r o : Nat) (x : RteOut) : (setRte s b r o x).warp = s.warp := rfl
@[simp] theorem setRte_warpUsedA (s : State) (b r o : Nat) (x : RteOut) : (setRte s b r o x).warpUsedA = s.warpUsedA := rfl
@[simp] theorem setRte_warpUsedB (s : State) (b r o : Nat) (x : RteOut) : (setRte s b r o x).warpUsedB = s.warpUsedB := rfl
@[simp] theorem setRte_clrs (s : State) (b r o : Nat) (x : RteOut) : (setRte s b r o x).clrs = s.clrs := rfl
@[simp] theorem setRte_scls (s : State) (b r o : Nat) (x : RteOut) : (setRte s b r o x).scls = s.scls := rfl
@[simp] theorem setRte_dpss (s : State) (b r o : Nat) (x : RteOut) : (setRte s b r o x).dpss = s.dpss := rfl
@[simp] theorem setRte_edps (s : State) (b r o : Nat) (x : RteOut) : (setRte s b r o x).edps = s.edps := rfl
@[simp] theorem setRte_csis (s : State) (b r o : Nat) (x : RteOut) : (setRte s b r o x).csis = s.csis := rfl
@[simp] theorem setRte_audio (s : State) (b r o : Nat) (x : RteOut) : (setRte s b r o x).audio = s.audio := rfl
@[simp] theorem setRte_wingA (s : State) (b r o : Nat) (x : RteOut) : (setRte s b r o x).wingA = s.wingA := rfl
@[simp] theorem setRte_wingB (s : State) (b r o : Nat) (x : RteOut) : (setRte s b r o x).wingB = s.wingB := rfl
@[simp] theorem setRte_failover (s : State) (b r o : Nat) (x : RteOut) : (setRte s b r o x).failover = s.failover := rfl
@[simp] theorem setRte_arbs (s : State) (b r o : Nat) (x : RteOut) : (setRte s b r o x).arbs = s.arbs := rfl
@[simp] theorem setRte_thermal (s : State) (b r o : Nat) (x : RteOut) : (setRte s b r o x).thermal = s.thermal := rfl
@[simp] theorem setRte_ledger (s : State) (b r o : Nat) (x : RteOut) : (setRte s b r o x).ledger = s.ledger := rfl
@[simp] theorem setRte_bmx (s : State) (b r o : Nat) (x : RteOut) : (setRte s b r o x).bmx = s.bmx := rfl
@[simp] theorem setRte_gpioIn (s : State) (b r o : Nat) (x : RteOut) : (setRte s b r o x).gpioIn = s.gpioIn := rfl
@[simp] theorem setRte_freeCtr (s : State) (b r o : Nat) (x : RteOut) : (setRte s b r o x).freeCtr = s.freeCtr := rfl

/-! ### setClr -/

@[simp] theorem setClr_clk (s : State) (k : Nat) (x : ClrTab) : (setClr s k x).clk = s.clk := rfl
@[simp] theorem setClr_dispA (s : State) (k : Nat) (x : ClrTab) : (setClr s k x).dispA = s.dispA := rfl
@[simp] theorem setClr_dispB (s : State) (k : Nat) (x : ClrTab) : (setClr s k x).dispB = s.dispB := rfl
@[simp] theorem setClr_ports (s : State) (k : Nat) (x : ClrTab) : (setClr s k x).ports = s.ports := rfl
@[simp] theorem setClr_tb (s : State) (k : Nat) (x : ClrTab) : (setClr s k x).tb = s.tb := rfl
@[simp] theorem setClr_ev (s : State) (k : Nat) (x : ClrTab) : (setClr s k x).ev = s.ev := rfl
@[simp] theorem setClr_modes (s : State) (k : Nat) (x : ClrTab) : (setClr s k x).modes = s.modes := rfl
@[simp] theorem setClr_boot (s : State) (k : Nat) (x : ClrTab) : (setClr s k x).boot = s.boot := rfl
@[simp] theorem setClr_runs (s : State) (k : Nat) (x : ClrTab) : (setClr s k x).runs = s.runs := rfl
@[simp] theorem setClr_words (s : State) (k : Nat) (x : ClrTab) : (setClr s k x).words = s.words := rfl
@[simp] theorem setClr_flip (s : State) (k : Nat) (x : ClrTab) : (setClr s k x).flip = s.flip := rfl
@[simp] theorem setClr_cands (s : State) (k : Nat) (x : ClrTab) : (setClr s k x).cands = s.cands := rfl
@[simp] theorem setClr_dpll (s : State) (k : Nat) (x : ClrTab) : (setClr s k x).dpll = s.dpll := rfl
@[simp] theorem setClr_fsyncs (s : State) (k : Nat) (x : ClrTab) : (setClr s k x).fsyncs = s.fsyncs := rfl
@[simp] theorem setClr_syns (s : State) (k : Nat) (x : ClrTab) : (setClr s k x).syns = s.syns := rfl
@[simp] theorem setClr_clocks (s : State) (k : Nat) (x : ClrTab) : (setClr s k x).clocks = s.clocks := rfl
@[simp] theorem setClr_vault (s : State) (k : Nat) (x : ClrTab) : (setClr s k x).vault = s.vault := rfl
@[simp] theorem setClr_plks (s : State) (k : Nat) (x : ClrTab) : (setClr s k x).plks = s.plks := rfl
@[simp] theorem setClr_outs (s : State) (k : Nat) (x : ClrTab) : (setClr s k x).outs = s.outs := rfl
@[simp] theorem setClr_caps (s : State) (k : Nat) (x : ClrTab) : (setClr s k x).caps = s.caps := rfl
@[simp] theorem setClr_mem (s : State) (k : Nat) (x : ClrTab) : (setClr s k x).mem = s.mem := rfl
@[simp] theorem setClr_allocs (s : State) (k : Nat) (x : ClrTab) : (setClr s k x).allocs = s.allocs := rfl
@[simp] theorem setClr_rtes (s : State) (k : Nat) (x : ClrTab) : (setClr s k x).rtes = s.rtes := rfl
@[simp] theorem setClr_lyrs (s : State) (k : Nat) (x : ClrTab) : (setClr s k x).lyrs = s.lyrs := rfl
@[simp] theorem setClr_sets (s : State) (k : Nat) (x : ClrTab) : (setClr s k x).sets = s.sets := rfl
@[simp] theorem setClr_nextSet (s : State) (k : Nat) (x : ClrTab) : (setClr s k x).nextSet = s.nextSet := rfl
@[simp] theorem setClr_fences (s : State) (k : Nat) (x : ClrTab) : (setClr s k x).fences = s.fences := rfl
@[simp] theorem setClr_signals (s : State) (k : Nat) (x : ClrTab) : (setClr s k x).signals = s.signals := rfl
@[simp] theorem setClr_signalTick (s : State) (k : Nat) (x : ClrTab) : (setClr s k x).signalTick = s.signalTick := rfl
@[simp] theorem setClr_vits (s : State) (k : Nat) (x : ClrTab) : (setClr s k x).vits = s.vits := rfl
@[simp] theorem setClr_slots (s : State) (k : Nat) (x : ClrTab) : (setClr s k x).slots = s.slots := rfl
@[simp] theorem setClr_meshes (s : State) (k : Nat) (x : ClrTab) : (setClr s k x).meshes = s.meshes := rfl
@[simp] theorem setClr_warp (s : State) (k : Nat) (x : ClrTab) : (setClr s k x).warp = s.warp := rfl
@[simp] theorem setClr_warpUsedA (s : State) (k : Nat) (x : ClrTab) : (setClr s k x).warpUsedA = s.warpUsedA := rfl
@[simp] theorem setClr_warpUsedB (s : State) (k : Nat) (x : ClrTab) : (setClr s k x).warpUsedB = s.warpUsedB := rfl
@[simp] theorem setClr_scls (s : State) (k : Nat) (x : ClrTab) : (setClr s k x).scls = s.scls := rfl
@[simp] theorem setClr_dpss (s : State) (k : Nat) (x : ClrTab) : (setClr s k x).dpss = s.dpss := rfl
@[simp] theorem setClr_edps (s : State) (k : Nat) (x : ClrTab) : (setClr s k x).edps = s.edps := rfl
@[simp] theorem setClr_csis (s : State) (k : Nat) (x : ClrTab) : (setClr s k x).csis = s.csis := rfl
@[simp] theorem setClr_audio (s : State) (k : Nat) (x : ClrTab) : (setClr s k x).audio = s.audio := rfl
@[simp] theorem setClr_wingA (s : State) (k : Nat) (x : ClrTab) : (setClr s k x).wingA = s.wingA := rfl
@[simp] theorem setClr_wingB (s : State) (k : Nat) (x : ClrTab) : (setClr s k x).wingB = s.wingB := rfl
@[simp] theorem setClr_failover (s : State) (k : Nat) (x : ClrTab) : (setClr s k x).failover = s.failover := rfl
@[simp] theorem setClr_arbs (s : State) (k : Nat) (x : ClrTab) : (setClr s k x).arbs = s.arbs := rfl
@[simp] theorem setClr_thermal (s : State) (k : Nat) (x : ClrTab) : (setClr s k x).thermal = s.thermal := rfl
@[simp] theorem setClr_ledger (s : State) (k : Nat) (x : ClrTab) : (setClr s k x).ledger = s.ledger := rfl
@[simp] theorem setClr_bmx (s : State) (k : Nat) (x : ClrTab) : (setClr s k x).bmx = s.bmx := rfl
@[simp] theorem setClr_gpioIn (s : State) (k : Nat) (x : ClrTab) : (setClr s k x).gpioIn = s.gpioIn := rfl
@[simp] theorem setClr_freeCtr (s : State) (k : Nat) (x : ClrTab) : (setClr s k x).freeCtr = s.freeCtr := rfl

/-! ### setConv -/

@[simp] theorem setConv_clk (s : State) (k : Nat) (x : Conv) : (setConv s k x).clk = s.clk := rfl
@[simp] theorem setConv_dispA (s : State) (k : Nat) (x : Conv) : (setConv s k x).dispA = s.dispA := rfl
@[simp] theorem setConv_dispB (s : State) (k : Nat) (x : Conv) : (setConv s k x).dispB = s.dispB := rfl
@[simp] theorem setConv_ports (s : State) (k : Nat) (x : Conv) : (setConv s k x).ports = s.ports := rfl
@[simp] theorem setConv_tb (s : State) (k : Nat) (x : Conv) : (setConv s k x).tb = s.tb := rfl
@[simp] theorem setConv_ev (s : State) (k : Nat) (x : Conv) : (setConv s k x).ev = s.ev := rfl
@[simp] theorem setConv_modes (s : State) (k : Nat) (x : Conv) : (setConv s k x).modes = s.modes := rfl
@[simp] theorem setConv_boot (s : State) (k : Nat) (x : Conv) : (setConv s k x).boot = s.boot := rfl
@[simp] theorem setConv_runs (s : State) (k : Nat) (x : Conv) : (setConv s k x).runs = s.runs := rfl
@[simp] theorem setConv_words (s : State) (k : Nat) (x : Conv) : (setConv s k x).words = s.words := rfl
@[simp] theorem setConv_flip (s : State) (k : Nat) (x : Conv) : (setConv s k x).flip = s.flip := rfl
@[simp] theorem setConv_cands (s : State) (k : Nat) (x : Conv) : (setConv s k x).cands = s.cands := rfl
@[simp] theorem setConv_dpll (s : State) (k : Nat) (x : Conv) : (setConv s k x).dpll = s.dpll := rfl
@[simp] theorem setConv_fsyncs (s : State) (k : Nat) (x : Conv) : (setConv s k x).fsyncs = s.fsyncs := rfl
@[simp] theorem setConv_syns (s : State) (k : Nat) (x : Conv) : (setConv s k x).syns = s.syns := rfl
@[simp] theorem setConv_clocks (s : State) (k : Nat) (x : Conv) : (setConv s k x).clocks = s.clocks := rfl
@[simp] theorem setConv_vault (s : State) (k : Nat) (x : Conv) : (setConv s k x).vault = s.vault := rfl
@[simp] theorem setConv_plks (s : State) (k : Nat) (x : Conv) : (setConv s k x).plks = s.plks := rfl
@[simp] theorem setConv_outs (s : State) (k : Nat) (x : Conv) : (setConv s k x).outs = s.outs := rfl
@[simp] theorem setConv_caps (s : State) (k : Nat) (x : Conv) : (setConv s k x).caps = s.caps := rfl
@[simp] theorem setConv_mem (s : State) (k : Nat) (x : Conv) : (setConv s k x).mem = s.mem := rfl
@[simp] theorem setConv_allocs (s : State) (k : Nat) (x : Conv) : (setConv s k x).allocs = s.allocs := rfl
@[simp] theorem setConv_rtes (s : State) (k : Nat) (x : Conv) : (setConv s k x).rtes = s.rtes := rfl
@[simp] theorem setConv_lyrs (s : State) (k : Nat) (x : Conv) : (setConv s k x).lyrs = s.lyrs := rfl
@[simp] theorem setConv_sets (s : State) (k : Nat) (x : Conv) : (setConv s k x).sets = s.sets := rfl
@[simp] theorem setConv_nextSet (s : State) (k : Nat) (x : Conv) : (setConv s k x).nextSet = s.nextSet := rfl
@[simp] theorem setConv_fences (s : State) (k : Nat) (x : Conv) : (setConv s k x).fences = s.fences := rfl
@[simp] theorem setConv_signals (s : State) (k : Nat) (x : Conv) : (setConv s k x).signals = s.signals := rfl
@[simp] theorem setConv_signalTick (s : State) (k : Nat) (x : Conv) : (setConv s k x).signalTick = s.signalTick := rfl
@[simp] theorem setConv_vits (s : State) (k : Nat) (x : Conv) : (setConv s k x).vits = s.vits := rfl
@[simp] theorem setConv_slots (s : State) (k : Nat) (x : Conv) : (setConv s k x).slots = s.slots := rfl
@[simp] theorem setConv_meshes (s : State) (k : Nat) (x : Conv) : (setConv s k x).meshes = s.meshes := rfl
@[simp] theorem setConv_warp (s : State) (k : Nat) (x : Conv) : (setConv s k x).warp = s.warp := rfl
@[simp] theorem setConv_warpUsedA (s : State) (k : Nat) (x : Conv) : (setConv s k x).warpUsedA = s.warpUsedA := rfl
@[simp] theorem setConv_warpUsedB (s : State) (k : Nat) (x : Conv) : (setConv s k x).warpUsedB = s.warpUsedB := rfl
@[simp] theorem setConv_clrs (s : State) (k : Nat) (x : Conv) : (setConv s k x).clrs = s.clrs := rfl
@[simp] theorem setConv_scls (s : State) (k : Nat) (x : Conv) : (setConv s k x).scls = s.scls := rfl
@[simp] theorem setConv_dpss (s : State) (k : Nat) (x : Conv) : (setConv s k x).dpss = s.dpss := rfl
@[simp] theorem setConv_edps (s : State) (k : Nat) (x : Conv) : (setConv s k x).edps = s.edps := rfl
@[simp] theorem setConv_csis (s : State) (k : Nat) (x : Conv) : (setConv s k x).csis = s.csis := rfl
@[simp] theorem setConv_wingA (s : State) (k : Nat) (x : Conv) : (setConv s k x).wingA = s.wingA := rfl
@[simp] theorem setConv_wingB (s : State) (k : Nat) (x : Conv) : (setConv s k x).wingB = s.wingB := rfl
@[simp] theorem setConv_failover (s : State) (k : Nat) (x : Conv) : (setConv s k x).failover = s.failover := rfl
@[simp] theorem setConv_arbs (s : State) (k : Nat) (x : Conv) : (setConv s k x).arbs = s.arbs := rfl
@[simp] theorem setConv_thermal (s : State) (k : Nat) (x : Conv) : (setConv s k x).thermal = s.thermal := rfl
@[simp] theorem setConv_ledger (s : State) (k : Nat) (x : Conv) : (setConv s k x).ledger = s.ledger := rfl
@[simp] theorem setConv_bmx (s : State) (k : Nat) (x : Conv) : (setConv s k x).bmx = s.bmx := rfl
@[simp] theorem setConv_gpioIn (s : State) (k : Nat) (x : Conv) : (setConv s k x).gpioIn = s.gpioIn := rfl
@[simp] theorem setConv_freeCtr (s : State) (k : Nat) (x : Conv) : (setConv s k x).freeCtr = s.freeCtr := rfl

/-! ### setMesh -/

@[simp] theorem setMesh_clk (s : State) (k : Nat) (m : Mesh) : (setMesh s k m).clk = s.clk := rfl
@[simp] theorem setMesh_dispA (s : State) (k : Nat) (m : Mesh) : (setMesh s k m).dispA = s.dispA := rfl
@[simp] theorem setMesh_dispB (s : State) (k : Nat) (m : Mesh) : (setMesh s k m).dispB = s.dispB := rfl
@[simp] theorem setMesh_ports (s : State) (k : Nat) (m : Mesh) : (setMesh s k m).ports = s.ports := rfl
@[simp] theorem setMesh_tb (s : State) (k : Nat) (m : Mesh) : (setMesh s k m).tb = s.tb := rfl
@[simp] theorem setMesh_ev (s : State) (k : Nat) (m : Mesh) : (setMesh s k m).ev = s.ev := rfl
@[simp] theorem setMesh_modes (s : State) (k : Nat) (m : Mesh) : (setMesh s k m).modes = s.modes := rfl
@[simp] theorem setMesh_boot (s : State) (k : Nat) (m : Mesh) : (setMesh s k m).boot = s.boot := rfl
@[simp] theorem setMesh_runs (s : State) (k : Nat) (m : Mesh) : (setMesh s k m).runs = s.runs := rfl
@[simp] theorem setMesh_words (s : State) (k : Nat) (m : Mesh) : (setMesh s k m).words = s.words := rfl
@[simp] theorem setMesh_flip (s : State) (k : Nat) (m : Mesh) : (setMesh s k m).flip = s.flip := rfl
@[simp] theorem setMesh_cands (s : State) (k : Nat) (m : Mesh) : (setMesh s k m).cands = s.cands := rfl
@[simp] theorem setMesh_dpll (s : State) (k : Nat) (m : Mesh) : (setMesh s k m).dpll = s.dpll := rfl
@[simp] theorem setMesh_fsyncs (s : State) (k : Nat) (m : Mesh) : (setMesh s k m).fsyncs = s.fsyncs := rfl
@[simp] theorem setMesh_syns (s : State) (k : Nat) (m : Mesh) : (setMesh s k m).syns = s.syns := rfl
@[simp] theorem setMesh_clocks (s : State) (k : Nat) (m : Mesh) : (setMesh s k m).clocks = s.clocks := rfl
@[simp] theorem setMesh_vault (s : State) (k : Nat) (m : Mesh) : (setMesh s k m).vault = s.vault := rfl
@[simp] theorem setMesh_plks (s : State) (k : Nat) (m : Mesh) : (setMesh s k m).plks = s.plks := rfl
@[simp] theorem setMesh_outs (s : State) (k : Nat) (m : Mesh) : (setMesh s k m).outs = s.outs := rfl
@[simp] theorem setMesh_caps (s : State) (k : Nat) (m : Mesh) : (setMesh s k m).caps = s.caps := rfl
@[simp] theorem setMesh_mem (s : State) (k : Nat) (m : Mesh) : (setMesh s k m).mem = s.mem := rfl
@[simp] theorem setMesh_allocs (s : State) (k : Nat) (m : Mesh) : (setMesh s k m).allocs = s.allocs := rfl
@[simp] theorem setMesh_rtes (s : State) (k : Nat) (m : Mesh) : (setMesh s k m).rtes = s.rtes := rfl
@[simp] theorem setMesh_lyrs (s : State) (k : Nat) (m : Mesh) : (setMesh s k m).lyrs = s.lyrs := rfl
@[simp] theorem setMesh_sets (s : State) (k : Nat) (m : Mesh) : (setMesh s k m).sets = s.sets := rfl
@[simp] theorem setMesh_nextSet (s : State) (k : Nat) (m : Mesh) : (setMesh s k m).nextSet = s.nextSet := rfl
@[simp] theorem setMesh_fences (s : State) (k : Nat) (m : Mesh) : (setMesh s k m).fences = s.fences := rfl
@[simp] theorem setMesh_signals (s : State) (k : Nat) (m : Mesh) : (setMesh s k m).signals = s.signals := rfl
@[simp] theorem setMesh_signalTick (s : State) (k : Nat) (m : Mesh) : (setMesh s k m).signalTick = s.signalTick := rfl
@[simp] theorem setMesh_vits (s : State) (k : Nat) (m : Mesh) : (setMesh s k m).vits = s.vits := rfl
@[simp] theorem setMesh_slots (s : State) (k : Nat) (m : Mesh) : (setMesh s k m).slots = s.slots := rfl
@[simp] theorem setMesh_warp (s : State) (k : Nat) (m : Mesh) : (setMesh s k m).warp = s.warp := rfl
@[simp] theorem setMesh_warpUsedA (s : State) (k : Nat) (m : Mesh) : (setMesh s k m).warpUsedA = s.warpUsedA := rfl
@[simp] theorem setMesh_warpUsedB (s : State) (k : Nat) (m : Mesh) : (setMesh s k m).warpUsedB = s.warpUsedB := rfl
@[simp] theorem setMesh_clrs (s : State) (k : Nat) (m : Mesh) : (setMesh s k m).clrs = s.clrs := rfl
@[simp] theorem setMesh_scls (s : State) (k : Nat) (m : Mesh) : (setMesh s k m).scls = s.scls := rfl
@[simp] theorem setMesh_dpss (s : State) (k : Nat) (m : Mesh) : (setMesh s k m).dpss = s.dpss := rfl
@[simp] theorem setMesh_edps (s : State) (k : Nat) (m : Mesh) : (setMesh s k m).edps = s.edps := rfl
@[simp] theorem setMesh_csis (s : State) (k : Nat) (m : Mesh) : (setMesh s k m).csis = s.csis := rfl
@[simp] theorem setMesh_audio (s : State) (k : Nat) (m : Mesh) : (setMesh s k m).audio = s.audio := rfl
@[simp] theorem setMesh_wingA (s : State) (k : Nat) (m : Mesh) : (setMesh s k m).wingA = s.wingA := rfl
@[simp] theorem setMesh_wingB (s : State) (k : Nat) (m : Mesh) : (setMesh s k m).wingB = s.wingB := rfl
@[simp] theorem setMesh_failover (s : State) (k : Nat) (m : Mesh) : (setMesh s k m).failover = s.failover := rfl
@[simp] theorem setMesh_arbs (s : State) (k : Nat) (m : Mesh) : (setMesh s k m).arbs = s.arbs := rfl
@[simp] theorem setMesh_thermal (s : State) (k : Nat) (m : Mesh) : (setMesh s k m).thermal = s.thermal := rfl
@[simp] theorem setMesh_ledger (s : State) (k : Nat) (m : Mesh) : (setMesh s k m).ledger = s.ledger := rfl
@[simp] theorem setMesh_bmx (s : State) (k : Nat) (m : Mesh) : (setMesh s k m).bmx = s.bmx := rfl
@[simp] theorem setMesh_gpioIn (s : State) (k : Nat) (m : Mesh) : (setMesh s k m).gpioIn = s.gpioIn := rfl
@[simp] theorem setMesh_freeCtr (s : State) (k : Nat) (m : Mesh) : (setMesh s k m).freeCtr = s.freeCtr := rfl

/-! ### setEntry -/

@[simp] theorem setEntry_clk (s : State) (e : Nat) (x : Option SchedEntry) : (setEntry s e x).clk = s.clk := rfl
@[simp] theorem setEntry_dispA (s : State) (e : Nat) (x : Option SchedEntry) : (setEntry s e x).dispA = s.dispA := rfl
@[simp] theorem setEntry_dispB (s : State) (e : Nat) (x : Option SchedEntry) : (setEntry s e x).dispB = s.dispB := rfl
@[simp] theorem setEntry_ports (s : State) (e : Nat) (x : Option SchedEntry) : (setEntry s e x).ports = s.ports := rfl
@[simp] theorem setEntry_ev (s : State) (e : Nat) (x : Option SchedEntry) : (setEntry s e x).ev = s.ev := rfl
@[simp] theorem setEntry_modes (s : State) (e : Nat) (x : Option SchedEntry) : (setEntry s e x).modes = s.modes := rfl
@[simp] theorem setEntry_boot (s : State) (e : Nat) (x : Option SchedEntry) : (setEntry s e x).boot = s.boot := rfl
@[simp] theorem setEntry_runs (s : State) (e : Nat) (x : Option SchedEntry) : (setEntry s e x).runs = s.runs := rfl
@[simp] theorem setEntry_words (s : State) (e : Nat) (x : Option SchedEntry) : (setEntry s e x).words = s.words := rfl
@[simp] theorem setEntry_flip (s : State) (e : Nat) (x : Option SchedEntry) : (setEntry s e x).flip = s.flip := rfl
@[simp] theorem setEntry_cands (s : State) (e : Nat) (x : Option SchedEntry) : (setEntry s e x).cands = s.cands := rfl
@[simp] theorem setEntry_dpll (s : State) (e : Nat) (x : Option SchedEntry) : (setEntry s e x).dpll = s.dpll := rfl
@[simp] theorem setEntry_fsyncs (s : State) (e : Nat) (x : Option SchedEntry) : (setEntry s e x).fsyncs = s.fsyncs := rfl
@[simp] theorem setEntry_syns (s : State) (e : Nat) (x : Option SchedEntry) : (setEntry s e x).syns = s.syns := rfl
@[simp] theorem setEntry_clocks (s : State) (e : Nat) (x : Option SchedEntry) : (setEntry s e x).clocks = s.clocks := rfl
@[simp] theorem setEntry_vault (s : State) (e : Nat) (x : Option SchedEntry) : (setEntry s e x).vault = s.vault := rfl
@[simp] theorem setEntry_plks (s : State) (e : Nat) (x : Option SchedEntry) : (setEntry s e x).plks = s.plks := rfl
@[simp] theorem setEntry_outs (s : State) (e : Nat) (x : Option SchedEntry) : (setEntry s e x).outs = s.outs := rfl
@[simp] theorem setEntry_caps (s : State) (e : Nat) (x : Option SchedEntry) : (setEntry s e x).caps = s.caps := rfl
@[simp] theorem setEntry_mem (s : State) (e : Nat) (x : Option SchedEntry) : (setEntry s e x).mem = s.mem := rfl
@[simp] theorem setEntry_allocs (s : State) (e : Nat) (x : Option SchedEntry) : (setEntry s e x).allocs = s.allocs := rfl
@[simp] theorem setEntry_rtes (s : State) (e : Nat) (x : Option SchedEntry) : (setEntry s e x).rtes = s.rtes := rfl
@[simp] theorem setEntry_lyrs (s : State) (e : Nat) (x : Option SchedEntry) : (setEntry s e x).lyrs = s.lyrs := rfl
@[simp] theorem setEntry_sets (s : State) (e : Nat) (x : Option SchedEntry) : (setEntry s e x).sets = s.sets := rfl
@[simp] theorem setEntry_nextSet (s : State) (e : Nat) (x : Option SchedEntry) : (setEntry s e x).nextSet = s.nextSet := rfl
@[simp] theorem setEntry_fences (s : State) (e : Nat) (x : Option SchedEntry) : (setEntry s e x).fences = s.fences := rfl
@[simp] theorem setEntry_signals (s : State) (e : Nat) (x : Option SchedEntry) : (setEntry s e x).signals = s.signals := rfl
@[simp] theorem setEntry_signalTick (s : State) (e : Nat) (x : Option SchedEntry) : (setEntry s e x).signalTick = s.signalTick := rfl
@[simp] theorem setEntry_vits (s : State) (e : Nat) (x : Option SchedEntry) : (setEntry s e x).vits = s.vits := rfl
@[simp] theorem setEntry_slots (s : State) (e : Nat) (x : Option SchedEntry) : (setEntry s e x).slots = s.slots := rfl
@[simp] theorem setEntry_meshes (s : State) (e : Nat) (x : Option SchedEntry) : (setEntry s e x).meshes = s.meshes := rfl
@[simp] theorem setEntry_warp (s : State) (e : Nat) (x : Option SchedEntry) : (setEntry s e x).warp = s.warp := rfl
@[simp] theorem setEntry_warpUsedA (s : State) (e : Nat) (x : Option SchedEntry) : (setEntry s e x).warpUsedA = s.warpUsedA := rfl
@[simp] theorem setEntry_warpUsedB (s : State) (e : Nat) (x : Option SchedEntry) : (setEntry s e x).warpUsedB = s.warpUsedB := rfl
@[simp] theorem setEntry_clrs (s : State) (e : Nat) (x : Option SchedEntry) : (setEntry s e x).clrs = s.clrs := rfl
@[simp] theorem setEntry_scls (s : State) (e : Nat) (x : Option SchedEntry) : (setEntry s e x).scls = s.scls := rfl
@[simp] theorem setEntry_dpss (s : State) (e : Nat) (x : Option SchedEntry) : (setEntry s e x).dpss = s.dpss := rfl
@[simp] theorem setEntry_edps (s : State) (e : Nat) (x : Option SchedEntry) : (setEntry s e x).edps = s.edps := rfl
@[simp] theorem setEntry_csis (s : State) (e : Nat) (x : Option SchedEntry) : (setEntry s e x).csis = s.csis := rfl
@[simp] theorem setEntry_audio (s : State) (e : Nat) (x : Option SchedEntry) : (setEntry s e x).audio = s.audio := rfl
@[simp] theorem setEntry_wingA (s : State) (e : Nat) (x : Option SchedEntry) : (setEntry s e x).wingA = s.wingA := rfl
@[simp] theorem setEntry_wingB (s : State) (e : Nat) (x : Option SchedEntry) : (setEntry s e x).wingB = s.wingB := rfl
@[simp] theorem setEntry_failover (s : State) (e : Nat) (x : Option SchedEntry) : (setEntry s e x).failover = s.failover := rfl
@[simp] theorem setEntry_arbs (s : State) (e : Nat) (x : Option SchedEntry) : (setEntry s e x).arbs = s.arbs := rfl
@[simp] theorem setEntry_thermal (s : State) (e : Nat) (x : Option SchedEntry) : (setEntry s e x).thermal = s.thermal := rfl
@[simp] theorem setEntry_ledger (s : State) (e : Nat) (x : Option SchedEntry) : (setEntry s e x).ledger = s.ledger := rfl
@[simp] theorem setEntry_bmx (s : State) (e : Nat) (x : Option SchedEntry) : (setEntry s e x).bmx = s.bmx := rfl
@[simp] theorem setEntry_gpioIn (s : State) (e : Nat) (x : Option SchedEntry) : (setEntry s e x).gpioIn = s.gpioIn := rfl
@[simp] theorem setEntry_freeCtr (s : State) (e : Nat) (x : Option SchedEntry) : (setEntry s e x).freeCtr = s.freeCtr := rfl

/-! ### setSlot -/

@[simp] theorem setSlot_clk (s : State) (n : Nat) (x : Slot) : (setSlot s n x).clk = s.clk := rfl
@[simp] theorem setSlot_dispA (s : State) (n : Nat) (x : Slot) : (setSlot s n x).dispA = s.dispA := rfl
@[simp] theorem setSlot_dispB (s : State) (n : Nat) (x : Slot) : (setSlot s n x).dispB = s.dispB := rfl
@[simp] theorem setSlot_ports (s : State) (n : Nat) (x : Slot) : (setSlot s n x).ports = s.ports := rfl
@[simp] theorem setSlot_tb (s : State) (n : Nat) (x : Slot) : (setSlot s n x).tb = s.tb := rfl
@[simp] theorem setSlot_ev (s : State) (n : Nat) (x : Slot) : (setSlot s n x).ev = s.ev := rfl
@[simp] theorem setSlot_modes (s : State) (n : Nat) (x : Slot) : (setSlot s n x).modes = s.modes := rfl
@[simp] theorem setSlot_boot (s : State) (n : Nat) (x : Slot) : (setSlot s n x).boot = s.boot := rfl
@[simp] theorem setSlot_runs (s : State) (n : Nat) (x : Slot) : (setSlot s n x).runs = s.runs := rfl
@[simp] theorem setSlot_words (s : State) (n : Nat) (x : Slot) : (setSlot s n x).words = s.words := rfl
@[simp] theorem setSlot_flip (s : State) (n : Nat) (x : Slot) : (setSlot s n x).flip = s.flip := rfl
@[simp] theorem setSlot_cands (s : State) (n : Nat) (x : Slot) : (setSlot s n x).cands = s.cands := rfl
@[simp] theorem setSlot_dpll (s : State) (n : Nat) (x : Slot) : (setSlot s n x).dpll = s.dpll := rfl
@[simp] theorem setSlot_fsyncs (s : State) (n : Nat) (x : Slot) : (setSlot s n x).fsyncs = s.fsyncs := rfl
@[simp] theorem setSlot_syns (s : State) (n : Nat) (x : Slot) : (setSlot s n x).syns = s.syns := rfl
@[simp] theorem setSlot_clocks (s : State) (n : Nat) (x : Slot) : (setSlot s n x).clocks = s.clocks := rfl
@[simp] theorem setSlot_vault (s : State) (n : Nat) (x : Slot) : (setSlot s n x).vault = s.vault := rfl
@[simp] theorem setSlot_plks (s : State) (n : Nat) (x : Slot) : (setSlot s n x).plks = s.plks := rfl
@[simp] theorem setSlot_outs (s : State) (n : Nat) (x : Slot) : (setSlot s n x).outs = s.outs := rfl
@[simp] theorem setSlot_caps (s : State) (n : Nat) (x : Slot) : (setSlot s n x).caps = s.caps := rfl
@[simp] theorem setSlot_mem (s : State) (n : Nat) (x : Slot) : (setSlot s n x).mem = s.mem := rfl
@[simp] theorem setSlot_allocs (s : State) (n : Nat) (x : Slot) : (setSlot s n x).allocs = s.allocs := rfl
@[simp] theorem setSlot_rtes (s : State) (n : Nat) (x : Slot) : (setSlot s n x).rtes = s.rtes := rfl
@[simp] theorem setSlot_lyrs (s : State) (n : Nat) (x : Slot) : (setSlot s n x).lyrs = s.lyrs := rfl
@[simp] theorem setSlot_sets (s : State) (n : Nat) (x : Slot) : (setSlot s n x).sets = s.sets := rfl
@[simp] theorem setSlot_nextSet (s : State) (n : Nat) (x : Slot) : (setSlot s n x).nextSet = s.nextSet := rfl
@[simp] theorem setSlot_fences (s : State) (n : Nat) (x : Slot) : (setSlot s n x).fences = s.fences := rfl
@[simp] theorem setSlot_signals (s : State) (n : Nat) (x : Slot) : (setSlot s n x).signals = s.signals := rfl
@[simp] theorem setSlot_signalTick (s : State) (n : Nat) (x : Slot) : (setSlot s n x).signalTick = s.signalTick := rfl
@[simp] theorem setSlot_vits (s : State) (n : Nat) (x : Slot) : (setSlot s n x).vits = s.vits := rfl
@[simp] theorem setSlot_meshes (s : State) (n : Nat) (x : Slot) : (setSlot s n x).meshes = s.meshes := rfl
@[simp] theorem setSlot_warp (s : State) (n : Nat) (x : Slot) : (setSlot s n x).warp = s.warp := rfl
@[simp] theorem setSlot_warpUsedA (s : State) (n : Nat) (x : Slot) : (setSlot s n x).warpUsedA = s.warpUsedA := rfl
@[simp] theorem setSlot_warpUsedB (s : State) (n : Nat) (x : Slot) : (setSlot s n x).warpUsedB = s.warpUsedB := rfl
@[simp] theorem setSlot_clrs (s : State) (n : Nat) (x : Slot) : (setSlot s n x).clrs = s.clrs := rfl
@[simp] theorem setSlot_scls (s : State) (n : Nat) (x : Slot) : (setSlot s n x).scls = s.scls := rfl
@[simp] theorem setSlot_dpss (s : State) (n : Nat) (x : Slot) : (setSlot s n x).dpss = s.dpss := rfl
@[simp] theorem setSlot_edps (s : State) (n : Nat) (x : Slot) : (setSlot s n x).edps = s.edps := rfl
@[simp] theorem setSlot_csis (s : State) (n : Nat) (x : Slot) : (setSlot s n x).csis = s.csis := rfl
@[simp] theorem setSlot_audio (s : State) (n : Nat) (x : Slot) : (setSlot s n x).audio = s.audio := rfl
@[simp] theorem setSlot_wingA (s : State) (n : Nat) (x : Slot) : (setSlot s n x).wingA = s.wingA := rfl
@[simp] theorem setSlot_wingB (s : State) (n : Nat) (x : Slot) : (setSlot s n x).wingB = s.wingB := rfl
@[simp] theorem setSlot_failover (s : State) (n : Nat) (x : Slot) : (setSlot s n x).failover = s.failover := rfl
@[simp] theorem setSlot_arbs (s : State) (n : Nat) (x : Slot) : (setSlot s n x).arbs = s.arbs := rfl
@[simp] theorem setSlot_thermal (s : State) (n : Nat) (x : Slot) : (setSlot s n x).thermal = s.thermal := rfl
@[simp] theorem setSlot_ledger (s : State) (n : Nat) (x : Slot) : (setSlot s n x).ledger = s.ledger := rfl
@[simp] theorem setSlot_bmx (s : State) (n : Nat) (x : Slot) : (setSlot s n x).bmx = s.bmx := rfl
@[simp] theorem setSlot_gpioIn (s : State) (n : Nat) (x : Slot) : (setSlot s n x).gpioIn = s.gpioIn := rfl
@[simp] theorem setSlot_freeCtr (s : State) (n : Nat) (x : Slot) : (setSlot s n x).freeCtr = s.freeCtr := rfl

/-! ### setSensor -/

@[simp] theorem setSensor_clk (s : State) (i : Nat) (x : Sensor) : (setSensor s i x).clk = s.clk := rfl
@[simp] theorem setSensor_dispA (s : State) (i : Nat) (x : Sensor) : (setSensor s i x).dispA = s.dispA := rfl
@[simp] theorem setSensor_dispB (s : State) (i : Nat) (x : Sensor) : (setSensor s i x).dispB = s.dispB := rfl
@[simp] theorem setSensor_ports (s : State) (i : Nat) (x : Sensor) : (setSensor s i x).ports = s.ports := rfl
@[simp] theorem setSensor_tb (s : State) (i : Nat) (x : Sensor) : (setSensor s i x).tb = s.tb := rfl
@[simp] theorem setSensor_ev (s : State) (i : Nat) (x : Sensor) : (setSensor s i x).ev = s.ev := rfl
@[simp] theorem setSensor_modes (s : State) (i : Nat) (x : Sensor) : (setSensor s i x).modes = s.modes := rfl
@[simp] theorem setSensor_boot (s : State) (i : Nat) (x : Sensor) : (setSensor s i x).boot = s.boot := rfl
@[simp] theorem setSensor_runs (s : State) (i : Nat) (x : Sensor) : (setSensor s i x).runs = s.runs := rfl
@[simp] theorem setSensor_words (s : State) (i : Nat) (x : Sensor) : (setSensor s i x).words = s.words := rfl
@[simp] theorem setSensor_flip (s : State) (i : Nat) (x : Sensor) : (setSensor s i x).flip = s.flip := rfl
@[simp] theorem setSensor_cands (s : State) (i : Nat) (x : Sensor) : (setSensor s i x).cands = s.cands := rfl
@[simp] theorem setSensor_dpll (s : State) (i : Nat) (x : Sensor) : (setSensor s i x).dpll = s.dpll := rfl
@[simp] theorem setSensor_fsyncs (s : State) (i : Nat) (x : Sensor) : (setSensor s i x).fsyncs = s.fsyncs := rfl
@[simp] theorem setSensor_syns (s : State) (i : Nat) (x : Sensor) : (setSensor s i x).syns = s.syns := rfl
@[simp] theorem setSensor_clocks (s : State) (i : Nat) (x : Sensor) : (setSensor s i x).clocks = s.clocks := rfl
@[simp] theorem setSensor_vault (s : State) (i : Nat) (x : Sensor) : (setSensor s i x).vault = s.vault := rfl
@[simp] theorem setSensor_plks (s : State) (i : Nat) (x : Sensor) : (setSensor s i x).plks = s.plks := rfl
@[simp] theorem setSensor_outs (s : State) (i : Nat) (x : Sensor) : (setSensor s i x).outs = s.outs := rfl
@[simp] theorem setSensor_caps (s : State) (i : Nat) (x : Sensor) : (setSensor s i x).caps = s.caps := rfl
@[simp] theorem setSensor_mem (s : State) (i : Nat) (x : Sensor) : (setSensor s i x).mem = s.mem := rfl
@[simp] theorem setSensor_allocs (s : State) (i : Nat) (x : Sensor) : (setSensor s i x).allocs = s.allocs := rfl
@[simp] theorem setSensor_rtes (s : State) (i : Nat) (x : Sensor) : (setSensor s i x).rtes = s.rtes := rfl
@[simp] theorem setSensor_lyrs (s : State) (i : Nat) (x : Sensor) : (setSensor s i x).lyrs = s.lyrs := rfl
@[simp] theorem setSensor_sets (s : State) (i : Nat) (x : Sensor) : (setSensor s i x).sets = s.sets := rfl
@[simp] theorem setSensor_nextSet (s : State) (i : Nat) (x : Sensor) : (setSensor s i x).nextSet = s.nextSet := rfl
@[simp] theorem setSensor_fences (s : State) (i : Nat) (x : Sensor) : (setSensor s i x).fences = s.fences := rfl
@[simp] theorem setSensor_signals (s : State) (i : Nat) (x : Sensor) : (setSensor s i x).signals = s.signals := rfl
@[simp] theorem setSensor_signalTick (s : State) (i : Nat) (x : Sensor) : (setSensor s i x).signalTick = s.signalTick := rfl
@[simp] theorem setSensor_vits (s : State) (i : Nat) (x : Sensor) : (setSensor s i x).vits = s.vits := rfl
@[simp] theorem setSensor_slots (s : State) (i : Nat) (x : Sensor) : (setSensor s i x).slots = s.slots := rfl
@[simp] theorem setSensor_meshes (s : State) (i : Nat) (x : Sensor) : (setSensor s i x).meshes = s.meshes := rfl
@[simp] theorem setSensor_warp (s : State) (i : Nat) (x : Sensor) : (setSensor s i x).warp = s.warp := rfl
@[simp] theorem setSensor_warpUsedA (s : State) (i : Nat) (x : Sensor) : (setSensor s i x).warpUsedA = s.warpUsedA := rfl
@[simp] theorem setSensor_warpUsedB (s : State) (i : Nat) (x : Sensor) : (setSensor s i x).warpUsedB = s.warpUsedB := rfl
@[simp] theorem setSensor_clrs (s : State) (i : Nat) (x : Sensor) : (setSensor s i x).clrs = s.clrs := rfl
@[simp] theorem setSensor_scls (s : State) (i : Nat) (x : Sensor) : (setSensor s i x).scls = s.scls := rfl
@[simp] theorem setSensor_dpss (s : State) (i : Nat) (x : Sensor) : (setSensor s i x).dpss = s.dpss := rfl
@[simp] theorem setSensor_edps (s : State) (i : Nat) (x : Sensor) : (setSensor s i x).edps = s.edps := rfl
@[simp] theorem setSensor_csis (s : State) (i : Nat) (x : Sensor) : (setSensor s i x).csis = s.csis := rfl
@[simp] theorem setSensor_audio (s : State) (i : Nat) (x : Sensor) : (setSensor s i x).audio = s.audio := rfl
@[simp] theorem setSensor_wingA (s : State) (i : Nat) (x : Sensor) : (setSensor s i x).wingA = s.wingA := rfl
@[simp] theorem setSensor_wingB (s : State) (i : Nat) (x : Sensor) : (setSensor s i x).wingB = s.wingB := rfl
@[simp] theorem setSensor_failover (s : State) (i : Nat) (x : Sensor) : (setSensor s i x).failover = s.failover := rfl
@[simp] theorem setSensor_arbs (s : State) (i : Nat) (x : Sensor) : (setSensor s i x).arbs = s.arbs := rfl
@[simp] theorem setSensor_ledger (s : State) (i : Nat) (x : Sensor) : (setSensor s i x).ledger = s.ledger := rfl
@[simp] theorem setSensor_bmx (s : State) (i : Nat) (x : Sensor) : (setSensor s i x).bmx = s.bmx := rfl
@[simp] theorem setSensor_gpioIn (s : State) (i : Nat) (x : Sensor) : (setSensor s i x).gpioIn = s.gpioIn := rfl
@[simp] theorem setSensor_freeCtr (s : State) (i : Nat) (x : Sensor) : (setSensor s i x).freeCtr = s.freeCtr := rfl

/-! ### setCsi -/

@[simp] theorem setCsi_clk (s : State) (p : Nat) (c : Csi) : (setCsi s p c).clk = s.clk := rfl
@[simp] theorem setCsi_dispA (s : State) (p : Nat) (c : Csi) : (setCsi s p c).dispA = s.dispA := rfl
@[simp] theorem setCsi_dispB (s : State) (p : Nat) (c : Csi) : (setCsi s p c).dispB = s.dispB := rfl
@[simp] theorem setCsi_ports (s : State) (p : Nat) (c : Csi) : (setCsi s p c).ports = s.ports := rfl
@[simp] theorem setCsi_tb (s : State) (p : Nat) (c : Csi) : (setCsi s p c).tb = s.tb := rfl
@[simp] theorem setCsi_ev (s : State) (p : Nat) (c : Csi) : (setCsi s p c).ev = s.ev := rfl
@[simp] theorem setCsi_modes (s : State) (p : Nat) (c : Csi) : (setCsi s p c).modes = s.modes := rfl
@[simp] theorem setCsi_boot (s : State) (p : Nat) (c : Csi) : (setCsi s p c).boot = s.boot := rfl
@[simp] theorem setCsi_runs (s : State) (p : Nat) (c : Csi) : (setCsi s p c).runs = s.runs := rfl
@[simp] theorem setCsi_words (s : State) (p : Nat) (c : Csi) : (setCsi s p c).words = s.words := rfl
@[simp] theorem setCsi_flip (s : State) (p : Nat) (c : Csi) : (setCsi s p c).flip = s.flip := rfl
@[simp] theorem setCsi_cands (s : State) (p : Nat) (c : Csi) : (setCsi s p c).cands = s.cands := rfl
@[simp] theorem setCsi_dpll (s : State) (p : Nat) (c : Csi) : (setCsi s p c).dpll = s.dpll := rfl
@[simp] theorem setCsi_fsyncs (s : State) (p : Nat) (c : Csi) : (setCsi s p c).fsyncs = s.fsyncs := rfl
@[simp] theorem setCsi_syns (s : State) (p : Nat) (c : Csi) : (setCsi s p c).syns = s.syns := rfl
@[simp] theorem setCsi_clocks (s : State) (p : Nat) (c : Csi) : (setCsi s p c).clocks = s.clocks := rfl
@[simp] theorem setCsi_vault (s : State) (p : Nat) (c : Csi) : (setCsi s p c).vault = s.vault := rfl
@[simp] theorem setCsi_plks (s : State) (p : Nat) (c : Csi) : (setCsi s p c).plks = s.plks := rfl
@[simp] theorem setCsi_outs (s : State) (p : Nat) (c : Csi) : (setCsi s p c).outs = s.outs := rfl
@[simp] theorem setCsi_caps (s : State) (p : Nat) (c : Csi) : (setCsi s p c).caps = s.caps := rfl
@[simp] theorem setCsi_mem (s : State) (p : Nat) (c : Csi) : (setCsi s p c).mem = s.mem := rfl
@[simp] theorem setCsi_allocs (s : State) (p : Nat) (c : Csi) : (setCsi s p c).allocs = s.allocs := rfl
@[simp] theorem setCsi_rtes (s : State) (p : Nat) (c : Csi) : (setCsi s p c).rtes = s.rtes := rfl
@[simp] theorem setCsi_lyrs (s : State) (p : Nat) (c : Csi) : (setCsi s p c).lyrs = s.lyrs := rfl
@[simp] theorem setCsi_sets (s : State) (p : Nat) (c : Csi) : (setCsi s p c).sets = s.sets := rfl
@[simp] theorem setCsi_nextSet (s : State) (p : Nat) (c : Csi) : (setCsi s p c).nextSet = s.nextSet := rfl
@[simp] theorem setCsi_fences (s : State) (p : Nat) (c : Csi) : (setCsi s p c).fences = s.fences := rfl
@[simp] theorem setCsi_signals (s : State) (p : Nat) (c : Csi) : (setCsi s p c).signals = s.signals := rfl
@[simp] theorem setCsi_signalTick (s : State) (p : Nat) (c : Csi) : (setCsi s p c).signalTick = s.signalTick := rfl
@[simp] theorem setCsi_vits (s : State) (p : Nat) (c : Csi) : (setCsi s p c).vits = s.vits := rfl
@[simp] theorem setCsi_slots (s : State) (p : Nat) (c : Csi) : (setCsi s p c).slots = s.slots := rfl
@[simp] theorem setCsi_meshes (s : State) (p : Nat) (c : Csi) : (setCsi s p c).meshes = s.meshes := rfl
@[simp] theorem setCsi_warp (s : State) (p : Nat) (c : Csi) : (setCsi s p c).warp = s.warp := rfl
@[simp] theorem setCsi_warpUsedA (s : State) (p : Nat) (c : Csi) : (setCsi s p c).warpUsedA = s.warpUsedA := rfl
@[simp] theorem setCsi_warpUsedB (s : State) (p : Nat) (c : Csi) : (setCsi s p c).warpUsedB = s.warpUsedB := rfl
@[simp] theorem setCsi_clrs (s : State) (p : Nat) (c : Csi) : (setCsi s p c).clrs = s.clrs := rfl
@[simp] theorem setCsi_scls (s : State) (p : Nat) (c : Csi) : (setCsi s p c).scls = s.scls := rfl
@[simp] theorem setCsi_dpss (s : State) (p : Nat) (c : Csi) : (setCsi s p c).dpss = s.dpss := rfl
@[simp] theorem setCsi_edps (s : State) (p : Nat) (c : Csi) : (setCsi s p c).edps = s.edps := rfl
@[simp] theorem setCsi_audio (s : State) (p : Nat) (c : Csi) : (setCsi s p c).audio = s.audio := rfl
@[simp] theorem setCsi_wingA (s : State) (p : Nat) (c : Csi) : (setCsi s p c).wingA = s.wingA := rfl
@[simp] theorem setCsi_wingB (s : State) (p : Nat) (c : Csi) : (setCsi s p c).wingB = s.wingB := rfl
@[simp] theorem setCsi_failover (s : State) (p : Nat) (c : Csi) : (setCsi s p c).failover = s.failover := rfl
@[simp] theorem setCsi_arbs (s : State) (p : Nat) (c : Csi) : (setCsi s p c).arbs = s.arbs := rfl
@[simp] theorem setCsi_thermal (s : State) (p : Nat) (c : Csi) : (setCsi s p c).thermal = s.thermal := rfl
@[simp] theorem setCsi_ledger (s : State) (p : Nat) (c : Csi) : (setCsi s p c).ledger = s.ledger := rfl
@[simp] theorem setCsi_bmx (s : State) (p : Nat) (c : Csi) : (setCsi s p c).bmx = s.bmx := rfl
@[simp] theorem setCsi_gpioIn (s : State) (p : Nat) (c : Csi) : (setCsi s p c).gpioIn = s.gpioIn := rfl
@[simp] theorem setCsi_freeCtr (s : State) (p : Nat) (c : Csi) : (setCsi s p c).freeCtr = s.freeCtr := rfl

/-! ### setStream -/

@[simp] theorem setStream_clk (s : State) (k : Nat) (x : Stream) : (setStream s k x).clk = s.clk := rfl
@[simp] theorem setStream_dispA (s : State) (k : Nat) (x : Stream) : (setStream s k x).dispA = s.dispA := rfl
@[simp] theorem setStream_dispB (s : State) (k : Nat) (x : Stream) : (setStream s k x).dispB = s.dispB := rfl
@[simp] theorem setStream_ports (s : State) (k : Nat) (x : Stream) : (setStream s k x).ports = s.ports := rfl
@[simp] theorem setStream_tb (s : State) (k : Nat) (x : Stream) : (setStream s k x).tb = s.tb := rfl
@[simp] theorem setStream_ev (s : State) (k : Nat) (x : Stream) : (setStream s k x).ev = s.ev := rfl
@[simp] theorem setStream_modes (s : State) (k : Nat) (x : Stream) : (setStream s k x).modes = s.modes := rfl
@[simp] theorem setStream_boot (s : State) (k : Nat) (x : Stream) : (setStream s k x).boot = s.boot := rfl
@[simp] theorem setStream_runs (s : State) (k : Nat) (x : Stream) : (setStream s k x).runs = s.runs := rfl
@[simp] theorem setStream_words (s : State) (k : Nat) (x : Stream) : (setStream s k x).words = s.words := rfl
@[simp] theorem setStream_flip (s : State) (k : Nat) (x : Stream) : (setStream s k x).flip = s.flip := rfl
@[simp] theorem setStream_cands (s : State) (k : Nat) (x : Stream) : (setStream s k x).cands = s.cands := rfl
@[simp] theorem setStream_dpll (s : State) (k : Nat) (x : Stream) : (setStream s k x).dpll = s.dpll := rfl
@[simp] theorem setStream_fsyncs (s : State) (k : Nat) (x : Stream) : (setStream s k x).fsyncs = s.fsyncs := rfl
@[simp] theorem setStream_syns (s : State) (k : Nat) (x : Stream) : (setStream s k x).syns = s.syns := rfl
@[simp] theorem setStream_clocks (s : State) (k : Nat) (x : Stream) : (setStream s k x).clocks = s.clocks := rfl
@[simp] theorem setStream_vault (s : State) (k : Nat) (x : Stream) : (setStream s k x).vault = s.vault := rfl
@[simp] theorem setStream_plks (s : State) (k : Nat) (x : Stream) : (setStream s k x).plks = s.plks := rfl
@[simp] theorem setStream_outs (s : State) (k : Nat) (x : Stream) : (setStream s k x).outs = s.outs := rfl
@[simp] theorem setStream_caps (s : State) (k : Nat) (x : Stream) : (setStream s k x).caps = s.caps := rfl
@[simp] theorem setStream_mem (s : State) (k : Nat) (x : Stream) : (setStream s k x).mem = s.mem := rfl
@[simp] theorem setStream_allocs (s : State) (k : Nat) (x : Stream) : (setStream s k x).allocs = s.allocs := rfl
@[simp] theorem setStream_rtes (s : State) (k : Nat) (x : Stream) : (setStream s k x).rtes = s.rtes := rfl
@[simp] theorem setStream_lyrs (s : State) (k : Nat) (x : Stream) : (setStream s k x).lyrs = s.lyrs := rfl
@[simp] theorem setStream_sets (s : State) (k : Nat) (x : Stream) : (setStream s k x).sets = s.sets := rfl
@[simp] theorem setStream_nextSet (s : State) (k : Nat) (x : Stream) : (setStream s k x).nextSet = s.nextSet := rfl
@[simp] theorem setStream_fences (s : State) (k : Nat) (x : Stream) : (setStream s k x).fences = s.fences := rfl
@[simp] theorem setStream_signals (s : State) (k : Nat) (x : Stream) : (setStream s k x).signals = s.signals := rfl
@[simp] theorem setStream_signalTick (s : State) (k : Nat) (x : Stream) : (setStream s k x).signalTick = s.signalTick := rfl
@[simp] theorem setStream_vits (s : State) (k : Nat) (x : Stream) : (setStream s k x).vits = s.vits := rfl
@[simp] theorem setStream_slots (s : State) (k : Nat) (x : Stream) : (setStream s k x).slots = s.slots := rfl
@[simp] theorem setStream_meshes (s : State) (k : Nat) (x : Stream) : (setStream s k x).meshes = s.meshes := rfl
@[simp] theorem setStream_warp (s : State) (k : Nat) (x : Stream) : (setStream s k x).warp = s.warp := rfl
@[simp] theorem setStream_warpUsedA (s : State) (k : Nat) (x : Stream) : (setStream s k x).warpUsedA = s.warpUsedA := rfl
@[simp] theorem setStream_warpUsedB (s : State) (k : Nat) (x : Stream) : (setStream s k x).warpUsedB = s.warpUsedB := rfl
@[simp] theorem setStream_clrs (s : State) (k : Nat) (x : Stream) : (setStream s k x).clrs = s.clrs := rfl
@[simp] theorem setStream_scls (s : State) (k : Nat) (x : Stream) : (setStream s k x).scls = s.scls := rfl
@[simp] theorem setStream_dpss (s : State) (k : Nat) (x : Stream) : (setStream s k x).dpss = s.dpss := rfl
@[simp] theorem setStream_edps (s : State) (k : Nat) (x : Stream) : (setStream s k x).edps = s.edps := rfl
@[simp] theorem setStream_csis (s : State) (k : Nat) (x : Stream) : (setStream s k x).csis = s.csis := rfl
@[simp] theorem setStream_wingA (s : State) (k : Nat) (x : Stream) : (setStream s k x).wingA = s.wingA := rfl
@[simp] theorem setStream_wingB (s : State) (k : Nat) (x : Stream) : (setStream s k x).wingB = s.wingB := rfl
@[simp] theorem setStream_failover (s : State) (k : Nat) (x : Stream) : (setStream s k x).failover = s.failover := rfl
@[simp] theorem setStream_arbs (s : State) (k : Nat) (x : Stream) : (setStream s k x).arbs = s.arbs := rfl
@[simp] theorem setStream_thermal (s : State) (k : Nat) (x : Stream) : (setStream s k x).thermal = s.thermal := rfl
@[simp] theorem setStream_ledger (s : State) (k : Nat) (x : Stream) : (setStream s k x).ledger = s.ledger := rfl
@[simp] theorem setStream_bmx (s : State) (k : Nat) (x : Stream) : (setStream s k x).bmx = s.bmx := rfl
@[simp] theorem setStream_gpioIn (s : State) (k : Nat) (x : Stream) : (setStream s k x).gpioIn = s.gpioIn := rfl
@[simp] theorem setStream_freeCtr (s : State) (k : Nat) (x : Stream) : (setStream s k x).freeCtr = s.freeCtr := rfl

/-! ### setHealth -/

@[simp] theorem setHealth_clk (s : State) (w : Wing) (f : Health → Health) : (setHealth s w f).clk = s.clk := by cases w <;> rfl
@[simp] theorem setHealth_dispA (s : State) (w : Wing) (f : Health → Health) : (setHealth s w f).dispA = s.dispA := by cases w <;> rfl
@[simp] theorem setHealth_dispB (s : State) (w : Wing) (f : Health → Health) : (setHealth s w f).dispB = s.dispB := by cases w <;> rfl
@[simp] theorem setHealth_ports (s : State) (w : Wing) (f : Health → Health) : (setHealth s w f).ports = s.ports := by cases w <;> rfl
@[simp] theorem setHealth_tb (s : State) (w : Wing) (f : Health → Health) : (setHealth s w f).tb = s.tb := by cases w <;> rfl
@[simp] theorem setHealth_ev (s : State) (w : Wing) (f : Health → Health) : (setHealth s w f).ev = s.ev := by cases w <;> rfl
@[simp] theorem setHealth_modes (s : State) (w : Wing) (f : Health → Health) : (setHealth s w f).modes = s.modes := by cases w <;> rfl
@[simp] theorem setHealth_boot (s : State) (w : Wing) (f : Health → Health) : (setHealth s w f).boot = s.boot := by cases w <;> rfl
@[simp] theorem setHealth_runs (s : State) (w : Wing) (f : Health → Health) : (setHealth s w f).runs = s.runs := by cases w <;> rfl
@[simp] theorem setHealth_words (s : State) (w : Wing) (f : Health → Health) : (setHealth s w f).words = s.words := by cases w <;> rfl
@[simp] theorem setHealth_flip (s : State) (w : Wing) (f : Health → Health) : (setHealth s w f).flip = s.flip := by cases w <;> rfl
@[simp] theorem setHealth_cands (s : State) (w : Wing) (f : Health → Health) : (setHealth s w f).cands = s.cands := by cases w <;> rfl
@[simp] theorem setHealth_dpll (s : State) (w : Wing) (f : Health → Health) : (setHealth s w f).dpll = s.dpll := by cases w <;> rfl
@[simp] theorem setHealth_fsyncs (s : State) (w : Wing) (f : Health → Health) : (setHealth s w f).fsyncs = s.fsyncs := by cases w <;> rfl
@[simp] theorem setHealth_syns (s : State) (w : Wing) (f : Health → Health) : (setHealth s w f).syns = s.syns := by cases w <;> rfl
@[simp] theorem setHealth_clocks (s : State) (w : Wing) (f : Health → Health) : (setHealth s w f).clocks = s.clocks := by cases w <;> rfl
@[simp] theorem setHealth_vault (s : State) (w : Wing) (f : Health → Health) : (setHealth s w f).vault = s.vault := by cases w <;> rfl
@[simp] theorem setHealth_plks (s : State) (w : Wing) (f : Health → Health) : (setHealth s w f).plks = s.plks := by cases w <;> rfl
@[simp] theorem setHealth_outs (s : State) (w : Wing) (f : Health → Health) : (setHealth s w f).outs = s.outs := by cases w <;> rfl
@[simp] theorem setHealth_caps (s : State) (w : Wing) (f : Health → Health) : (setHealth s w f).caps = s.caps := by cases w <;> rfl
@[simp] theorem setHealth_mem (s : State) (w : Wing) (f : Health → Health) : (setHealth s w f).mem = s.mem := by cases w <;> rfl
@[simp] theorem setHealth_allocs (s : State) (w : Wing) (f : Health → Health) : (setHealth s w f).allocs = s.allocs := by cases w <;> rfl
@[simp] theorem setHealth_rtes (s : State) (w : Wing) (f : Health → Health) : (setHealth s w f).rtes = s.rtes := by cases w <;> rfl
@[simp] theorem setHealth_lyrs (s : State) (w : Wing) (f : Health → Health) : (setHealth s w f).lyrs = s.lyrs := by cases w <;> rfl
@[simp] theorem setHealth_sets (s : State) (w : Wing) (f : Health → Health) : (setHealth s w f).sets = s.sets := by cases w <;> rfl
@[simp] theorem setHealth_nextSet (s : State) (w : Wing) (f : Health → Health) : (setHealth s w f).nextSet = s.nextSet := by cases w <;> rfl
@[simp] theorem setHealth_fences (s : State) (w : Wing) (f : Health → Health) : (setHealth s w f).fences = s.fences := by cases w <;> rfl
@[simp] theorem setHealth_signals (s : State) (w : Wing) (f : Health → Health) : (setHealth s w f).signals = s.signals := by cases w <;> rfl
@[simp] theorem setHealth_signalTick (s : State) (w : Wing) (f : Health → Health) : (setHealth s w f).signalTick = s.signalTick := by cases w <;> rfl
@[simp] theorem setHealth_vits (s : State) (w : Wing) (f : Health → Health) : (setHealth s w f).vits = s.vits := by cases w <;> rfl
@[simp] theorem setHealth_slots (s : State) (w : Wing) (f : Health → Health) : (setHealth s w f).slots = s.slots := by cases w <;> rfl
@[simp] theorem setHealth_meshes (s : State) (w : Wing) (f : Health → Health) : (setHealth s w f).meshes = s.meshes := by cases w <;> rfl
@[simp] theorem setHealth_warp (s : State) (w : Wing) (f : Health → Health) : (setHealth s w f).warp = s.warp := by cases w <;> rfl
@[simp] theorem setHealth_warpUsedA (s : State) (w : Wing) (f : Health → Health) : (setHealth s w f).warpUsedA = s.warpUsedA := by cases w <;> rfl
@[simp] theorem setHealth_warpUsedB (s : State) (w : Wing) (f : Health → Health) : (setHealth s w f).warpUsedB = s.warpUsedB := by cases w <;> rfl
@[simp] theorem setHealth_clrs (s : State) (w : Wing) (f : Health → Health) : (setHealth s w f).clrs = s.clrs := by cases w <;> rfl
@[simp] theorem setHealth_scls (s : State) (w : Wing) (f : Health → Health) : (setHealth s w f).scls = s.scls := by cases w <;> rfl
@[simp] theorem setHealth_dpss (s : State) (w : Wing) (f : Health → Health) : (setHealth s w f).dpss = s.dpss := by cases w <;> rfl
@[simp] theorem setHealth_edps (s : State) (w : Wing) (f : Health → Health) : (setHealth s w f).edps = s.edps := by cases w <;> rfl
@[simp] theorem setHealth_csis (s : State) (w : Wing) (f : Health → Health) : (setHealth s w f).csis = s.csis := by cases w <;> rfl
@[simp] theorem setHealth_audio (s : State) (w : Wing) (f : Health → Health) : (setHealth s w f).audio = s.audio := by cases w <;> rfl
@[simp] theorem setHealth_failover (s : State) (w : Wing) (f : Health → Health) : (setHealth s w f).failover = s.failover := by cases w <;> rfl
@[simp] theorem setHealth_arbs (s : State) (w : Wing) (f : Health → Health) : (setHealth s w f).arbs = s.arbs := by cases w <;> rfl
@[simp] theorem setHealth_thermal (s : State) (w : Wing) (f : Health → Health) : (setHealth s w f).thermal = s.thermal := by cases w <;> rfl
@[simp] theorem setHealth_ledger (s : State) (w : Wing) (f : Health → Health) : (setHealth s w f).ledger = s.ledger := by cases w <;> rfl
@[simp] theorem setHealth_bmx (s : State) (w : Wing) (f : Health → Health) : (setHealth s w f).bmx = s.bmx := by cases w <;> rfl
@[simp] theorem setHealth_gpioIn (s : State) (w : Wing) (f : Health → Health) : (setHealth s w f).gpioIn = s.gpioIn := by cases w <;> rfl
@[simp] theorem setHealth_freeCtr (s : State) (w : Wing) (f : Health → Health) : (setHealth s w f).freeCtr = s.freeCtr := by cases w <;> rfl

/-! ### setPair -/

@[simp] theorem setPair_clk (s : State) (mgmt : Bool) (p : Pair) : (setPair s mgmt p).clk = s.clk := by cases mgmt <;> rfl
@[simp] theorem setPair_dispA (s : State) (mgmt : Bool) (p : Pair) : (setPair s mgmt p).dispA = s.dispA := by cases mgmt <;> rfl
@[simp] theorem setPair_dispB (s : State) (mgmt : Bool) (p : Pair) : (setPair s mgmt p).dispB = s.dispB := by cases mgmt <;> rfl
@[simp] theorem setPair_ports (s : State) (mgmt : Bool) (p : Pair) : (setPair s mgmt p).ports = s.ports := by cases mgmt <;> rfl
@[simp] theorem setPair_tb (s : State) (mgmt : Bool) (p : Pair) : (setPair s mgmt p).tb = s.tb := by cases mgmt <;> rfl
@[simp] theorem setPair_ev (s : State) (mgmt : Bool) (p : Pair) : (setPair s mgmt p).ev = s.ev := by cases mgmt <;> rfl
@[simp] theorem setPair_modes (s : State) (mgmt : Bool) (p : Pair) : (setPair s mgmt p).modes = s.modes := by cases mgmt <;> rfl
@[simp] theorem setPair_runs (s : State) (mgmt : Bool) (p : Pair) : (setPair s mgmt p).runs = s.runs := by cases mgmt <;> rfl
@[simp] theorem setPair_words (s : State) (mgmt : Bool) (p : Pair) : (setPair s mgmt p).words = s.words := by cases mgmt <;> rfl
@[simp] theorem setPair_flip (s : State) (mgmt : Bool) (p : Pair) : (setPair s mgmt p).flip = s.flip := by cases mgmt <;> rfl
@[simp] theorem setPair_cands (s : State) (mgmt : Bool) (p : Pair) : (setPair s mgmt p).cands = s.cands := by cases mgmt <;> rfl
@[simp] theorem setPair_dpll (s : State) (mgmt : Bool) (p : Pair) : (setPair s mgmt p).dpll = s.dpll := by cases mgmt <;> rfl
@[simp] theorem setPair_fsyncs (s : State) (mgmt : Bool) (p : Pair) : (setPair s mgmt p).fsyncs = s.fsyncs := by cases mgmt <;> rfl
@[simp] theorem setPair_syns (s : State) (mgmt : Bool) (p : Pair) : (setPair s mgmt p).syns = s.syns := by cases mgmt <;> rfl
@[simp] theorem setPair_clocks (s : State) (mgmt : Bool) (p : Pair) : (setPair s mgmt p).clocks = s.clocks := by cases mgmt <;> rfl
@[simp] theorem setPair_vault (s : State) (mgmt : Bool) (p : Pair) : (setPair s mgmt p).vault = s.vault := by cases mgmt <;> rfl
@[simp] theorem setPair_plks (s : State) (mgmt : Bool) (p : Pair) : (setPair s mgmt p).plks = s.plks := by cases mgmt <;> rfl
@[simp] theorem setPair_outs (s : State) (mgmt : Bool) (p : Pair) : (setPair s mgmt p).outs = s.outs := by cases mgmt <;> rfl
@[simp] theorem setPair_caps (s : State) (mgmt : Bool) (p : Pair) : (setPair s mgmt p).caps = s.caps := by cases mgmt <;> rfl
@[simp] theorem setPair_mem (s : State) (mgmt : Bool) (p : Pair) : (setPair s mgmt p).mem = s.mem := by cases mgmt <;> rfl
@[simp] theorem setPair_allocs (s : State) (mgmt : Bool) (p : Pair) : (setPair s mgmt p).allocs = s.allocs := by cases mgmt <;> rfl
@[simp] theorem setPair_rtes (s : State) (mgmt : Bool) (p : Pair) : (setPair s mgmt p).rtes = s.rtes := by cases mgmt <;> rfl
@[simp] theorem setPair_lyrs (s : State) (mgmt : Bool) (p : Pair) : (setPair s mgmt p).lyrs = s.lyrs := by cases mgmt <;> rfl
@[simp] theorem setPair_sets (s : State) (mgmt : Bool) (p : Pair) : (setPair s mgmt p).sets = s.sets := by cases mgmt <;> rfl
@[simp] theorem setPair_nextSet (s : State) (mgmt : Bool) (p : Pair) : (setPair s mgmt p).nextSet = s.nextSet := by cases mgmt <;> rfl
@[simp] theorem setPair_fences (s : State) (mgmt : Bool) (p : Pair) : (setPair s mgmt p).fences = s.fences := by cases mgmt <;> rfl
@[simp] theorem setPair_signals (s : State) (mgmt : Bool) (p : Pair) : (setPair s mgmt p).signals = s.signals := by cases mgmt <;> rfl
@[simp] theorem setPair_signalTick (s : State) (mgmt : Bool) (p : Pair) : (setPair s mgmt p).signalTick = s.signalTick := by cases mgmt <;> rfl
@[simp] theorem setPair_vits (s : State) (mgmt : Bool) (p : Pair) : (setPair s mgmt p).vits = s.vits := by cases mgmt <;> rfl
@[simp] theorem setPair_slots (s : State) (mgmt : Bool) (p : Pair) : (setPair s mgmt p).slots = s.slots := by cases mgmt <;> rfl
@[simp] theorem setPair_meshes (s : State) (mgmt : Bool) (p : Pair) : (setPair s mgmt p).meshes = s.meshes := by cases mgmt <;> rfl
@[simp] theorem setPair_warp (s : State) (mgmt : Bool) (p : Pair) : (setPair s mgmt p).warp = s.warp := by cases mgmt <;> rfl
@[simp] theorem setPair_warpUsedA (s : State) (mgmt : Bool) (p : Pair) : (setPair s mgmt p).warpUsedA = s.warpUsedA := by cases mgmt <;> rfl
@[simp] theorem setPair_warpUsedB (s : State) (mgmt : Bool) (p : Pair) : (setPair s mgmt p).warpUsedB = s.warpUsedB := by cases mgmt <;> rfl
@[simp] theorem setPair_clrs (s : State) (mgmt : Bool) (p : Pair) : (setPair s mgmt p).clrs = s.clrs := by cases mgmt <;> rfl
@[simp] theorem setPair_scls (s : State) (mgmt : Bool) (p : Pair) : (setPair s mgmt p).scls = s.scls := by cases mgmt <;> rfl
@[simp] theorem setPair_dpss (s : State) (mgmt : Bool) (p : Pair) : (setPair s mgmt p).dpss = s.dpss := by cases mgmt <;> rfl
@[simp] theorem setPair_edps (s : State) (mgmt : Bool) (p : Pair) : (setPair s mgmt p).edps = s.edps := by cases mgmt <;> rfl
@[simp] theorem setPair_csis (s : State) (mgmt : Bool) (p : Pair) : (setPair s mgmt p).csis = s.csis := by cases mgmt <;> rfl
@[simp] theorem setPair_audio (s : State) (mgmt : Bool) (p : Pair) : (setPair s mgmt p).audio = s.audio := by cases mgmt <;> rfl
@[simp] theorem setPair_wingA (s : State) (mgmt : Bool) (p : Pair) : (setPair s mgmt p).wingA = s.wingA := by cases mgmt <;> rfl
@[simp] theorem setPair_wingB (s : State) (mgmt : Bool) (p : Pair) : (setPair s mgmt p).wingB = s.wingB := by cases mgmt <;> rfl
@[simp] theorem setPair_failover (s : State) (mgmt : Bool) (p : Pair) : (setPair s mgmt p).failover = s.failover := by cases mgmt <;> rfl
@[simp] theorem setPair_arbs (s : State) (mgmt : Bool) (p : Pair) : (setPair s mgmt p).arbs = s.arbs := by cases mgmt <;> rfl
@[simp] theorem setPair_thermal (s : State) (mgmt : Bool) (p : Pair) : (setPair s mgmt p).thermal = s.thermal := by cases mgmt <;> rfl
@[simp] theorem setPair_ledger (s : State) (mgmt : Bool) (p : Pair) : (setPair s mgmt p).ledger = s.ledger := by cases mgmt <;> rfl
@[simp] theorem setPair_bmx (s : State) (mgmt : Bool) (p : Pair) : (setPair s mgmt p).bmx = s.bmx := by cases mgmt <;> rfl
@[simp] theorem setPair_gpioIn (s : State) (mgmt : Bool) (p : Pair) : (setPair s mgmt p).gpioIn = s.gpioIn := by cases mgmt <;> rfl
@[simp] theorem setPair_freeCtr (s : State) (mgmt : Bool) (p : Pair) : (setPair s mgmt p).freeCtr = s.freeCtr := by cases mgmt <;> rfl

/-! ### setOwner -/

@[simp] theorem setOwner_clk (s : State) (bank cls inst : Nat) (p : Option Port) : (setOwner s bank cls inst p).clk = s.clk := rfl
@[simp] theorem setOwner_dispA (s : State) (bank cls inst : Nat) (p : Option Port) : (setOwner s bank cls inst p).dispA = s.dispA := rfl
@[simp] theorem setOwner_dispB (s : State) (bank cls inst : Nat) (p : Option Port) : (setOwner s bank cls inst p).dispB = s.dispB := rfl
@[simp] theorem setOwner_ports (s : State) (bank cls inst : Nat) (p : Option Port) : (setOwner s bank cls inst p).ports = s.ports := rfl
@[simp] theorem setOwner_tb (s : State) (bank cls inst : Nat) (p : Option Port) : (setOwner s bank cls inst p).tb = s.tb := rfl
@[simp] theorem setOwner_ev (s : State) (bank cls inst : Nat) (p : Option Port) : (setOwner s bank cls inst p).ev = s.ev := rfl
@[simp] theorem setOwner_modes (s : State) (bank cls inst : Nat) (p : Option Port) : (setOwner s bank cls inst p).modes = s.modes := rfl
@[simp] theorem setOwner_boot (s : State) (bank cls inst : Nat) (p : Option Port) : (setOwner s bank cls inst p).boot = s.boot := rfl
@[simp] theorem setOwner_runs (s : State) (bank cls inst : Nat) (p : Option Port) : (setOwner s bank cls inst p).runs = s.runs := rfl
@[simp] theorem setOwner_words (s : State) (bank cls inst : Nat) (p : Option Port) : (setOwner s bank cls inst p).words = s.words := rfl
@[simp] theorem setOwner_flip (s : State) (bank cls inst : Nat) (p : Option Port) : (setOwner s bank cls inst p).flip = s.flip := rfl
@[simp] theorem setOwner_cands (s : State) (bank cls inst : Nat) (p : Option Port) : (setOwner s bank cls inst p).cands = s.cands := rfl
@[simp] theorem setOwner_dpll (s : State) (bank cls inst : Nat) (p : Option Port) : (setOwner s bank cls inst p).dpll = s.dpll := rfl
@[simp] theorem setOwner_fsyncs (s : State) (bank cls inst : Nat) (p : Option Port) : (setOwner s bank cls inst p).fsyncs = s.fsyncs := rfl
@[simp] theorem setOwner_syns (s : State) (bank cls inst : Nat) (p : Option Port) : (setOwner s bank cls inst p).syns = s.syns := rfl
@[simp] theorem setOwner_clocks (s : State) (bank cls inst : Nat) (p : Option Port) : (setOwner s bank cls inst p).clocks = s.clocks := rfl
@[simp] theorem setOwner_vault (s : State) (bank cls inst : Nat) (p : Option Port) : (setOwner s bank cls inst p).vault = s.vault := rfl
@[simp] theorem setOwner_plks (s : State) (bank cls inst : Nat) (p : Option Port) : (setOwner s bank cls inst p).plks = s.plks := rfl
@[simp] theorem setOwner_outs (s : State) (bank cls inst : Nat) (p : Option Port) : (setOwner s bank cls inst p).outs = s.outs := rfl
@[simp] theorem setOwner_caps (s : State) (bank cls inst : Nat) (p : Option Port) : (setOwner s bank cls inst p).caps = s.caps := rfl
@[simp] theorem setOwner_mem (s : State) (bank cls inst : Nat) (p : Option Port) : (setOwner s bank cls inst p).mem = s.mem := rfl
@[simp] theorem setOwner_allocs (s : State) (bank cls inst : Nat) (p : Option Port) : (setOwner s bank cls inst p).allocs = s.allocs := rfl
@[simp] theorem setOwner_rtes (s : State) (bank cls inst : Nat) (p : Option Port) : (setOwner s bank cls inst p).rtes = s.rtes := rfl
@[simp] theorem setOwner_lyrs (s : State) (bank cls inst : Nat) (p : Option Port) : (setOwner s bank cls inst p).lyrs = s.lyrs := rfl
@[simp] theorem setOwner_sets (s : State) (bank cls inst : Nat) (p : Option Port) : (setOwner s bank cls inst p).sets = s.sets := rfl
@[simp] theorem setOwner_nextSet (s : State) (bank cls inst : Nat) (p : Option Port) : (setOwner s bank cls inst p).nextSet = s.nextSet := rfl
@[simp] theorem setOwner_fences (s : State) (bank cls inst : Nat) (p : Option Port) : (setOwner s bank cls inst p).fences = s.fences := rfl
@[simp] theorem setOwner_signals (s : State) (bank cls inst : Nat) (p : Option Port) : (setOwner s bank cls inst p).signals = s.signals := rfl
@[simp] theorem setOwner_signalTick (s : State) (bank cls inst : Nat) (p : Option Port) : (setOwner s bank cls inst p).signalTick = s.signalTick := rfl
@[simp] theorem setOwner_vits (s : State) (bank cls inst : Nat) (p : Option Port) : (setOwner s bank cls inst p).vits = s.vits := rfl
@[simp] theorem setOwner_slots (s : State) (bank cls inst : Nat) (p : Option Port) : (setOwner s bank cls inst p).slots = s.slots := rfl
@[simp] theorem setOwner_meshes (s : State) (bank cls inst : Nat) (p : Option Port) : (setOwner s bank cls inst p).meshes = s.meshes := rfl
@[simp] theorem setOwner_warp (s : State) (bank cls inst : Nat) (p : Option Port) : (setOwner s bank cls inst p).warp = s.warp := rfl
@[simp] theorem setOwner_warpUsedA (s : State) (bank cls inst : Nat) (p : Option Port) : (setOwner s bank cls inst p).warpUsedA = s.warpUsedA := rfl
@[simp] theorem setOwner_warpUsedB (s : State) (bank cls inst : Nat) (p : Option Port) : (setOwner s bank cls inst p).warpUsedB = s.warpUsedB := rfl
@[simp] theorem setOwner_clrs (s : State) (bank cls inst : Nat) (p : Option Port) : (setOwner s bank cls inst p).clrs = s.clrs := rfl
@[simp] theorem setOwner_scls (s : State) (bank cls inst : Nat) (p : Option Port) : (setOwner s bank cls inst p).scls = s.scls := rfl
@[simp] theorem setOwner_dpss (s : State) (bank cls inst : Nat) (p : Option Port) : (setOwner s bank cls inst p).dpss = s.dpss := rfl
@[simp] theorem setOwner_edps (s : State) (bank cls inst : Nat) (p : Option Port) : (setOwner s bank cls inst p).edps = s.edps := rfl
@[simp] theorem setOwner_csis (s : State) (bank cls inst : Nat) (p : Option Port) : (setOwner s bank cls inst p).csis = s.csis := rfl
@[simp] theorem setOwner_audio (s : State) (bank cls inst : Nat) (p : Option Port) : (setOwner s bank cls inst p).audio = s.audio := rfl
@[simp] theorem setOwner_wingA (s : State) (bank cls inst : Nat) (p : Option Port) : (setOwner s bank cls inst p).wingA = s.wingA := rfl
@[simp] theorem setOwner_wingB (s : State) (bank cls inst : Nat) (p : Option Port) : (setOwner s bank cls inst p).wingB = s.wingB := rfl
@[simp] theorem setOwner_failover (s : State) (bank cls inst : Nat) (p : Option Port) : (setOwner s bank cls inst p).failover = s.failover := rfl
@[simp] theorem setOwner_arbs (s : State) (bank cls inst : Nat) (p : Option Port) : (setOwner s bank cls inst p).arbs = s.arbs := rfl
@[simp] theorem setOwner_thermal (s : State) (bank cls inst : Nat) (p : Option Port) : (setOwner s bank cls inst p).thermal = s.thermal := rfl
@[simp] theorem setOwner_ledger (s : State) (bank cls inst : Nat) (p : Option Port) : (setOwner s bank cls inst p).ledger = s.ledger := rfl
@[simp] theorem setOwner_bmx (s : State) (bank cls inst : Nat) (p : Option Port) : (setOwner s bank cls inst p).bmx = s.bmx := rfl
@[simp] theorem setOwner_gpioIn (s : State) (bank cls inst : Nat) (p : Option Port) : (setOwner s bank cls inst p).gpioIn = s.gpioIn := rfl
@[simp] theorem setOwner_freeCtr (s : State) (bank cls inst : Nat) (p : Option Port) : (setOwner s bank cls inst p).freeCtr = s.freeCtr := rfl

/-! ### holdCredit -/

@[simp] theorem holdCredit_clk (s : State) (p : Port) (on : Bool) : (holdCredit s p on).clk = s.clk := by rw [holdCredit_eq]
@[simp] theorem holdCredit_dispA (s : State) (p : Port) (on : Bool) : (holdCredit s p on).dispA = s.dispA := by rw [holdCredit_eq]
@[simp] theorem holdCredit_dispB (s : State) (p : Port) (on : Bool) : (holdCredit s p on).dispB = s.dispB := by rw [holdCredit_eq]
@[simp] theorem holdCredit_tb (s : State) (p : Port) (on : Bool) : (holdCredit s p on).tb = s.tb := by rw [holdCredit_eq]
@[simp] theorem holdCredit_ev (s : State) (p : Port) (on : Bool) : (holdCredit s p on).ev = s.ev := by rw [holdCredit_eq]
@[simp] theorem holdCredit_modes (s : State) (p : Port) (on : Bool) : (holdCredit s p on).modes = s.modes := by rw [holdCredit_eq]
@[simp] theorem holdCredit_boot (s : State) (p : Port) (on : Bool) : (holdCredit s p on).boot = s.boot := by rw [holdCredit_eq]
@[simp] theorem holdCredit_runs (s : State) (p : Port) (on : Bool) : (holdCredit s p on).runs = s.runs := by rw [holdCredit_eq]
@[simp] theorem holdCredit_words (s : State) (p : Port) (on : Bool) : (holdCredit s p on).words = s.words := by rw [holdCredit_eq]
@[simp] theorem holdCredit_flip (s : State) (p : Port) (on : Bool) : (holdCredit s p on).flip = s.flip := by rw [holdCredit_eq]
@[simp] theorem holdCredit_cands (s : State) (p : Port) (on : Bool) : (holdCredit s p on).cands = s.cands := by rw [holdCredit_eq]
@[simp] theorem holdCredit_dpll (s : State) (p : Port) (on : Bool) : (holdCredit s p on).dpll = s.dpll := by rw [holdCredit_eq]
@[simp] theorem holdCredit_fsyncs (s : State) (p : Port) (on : Bool) : (holdCredit s p on).fsyncs = s.fsyncs := by rw [holdCredit_eq]
@[simp] theorem holdCredit_syns (s : State) (p : Port) (on : Bool) : (holdCredit s p on).syns = s.syns := by rw [holdCredit_eq]
@[simp] theorem holdCredit_clocks (s : State) (p : Port) (on : Bool) : (holdCredit s p on).clocks = s.clocks := by rw [holdCredit_eq]
@[simp] theorem holdCredit_vault (s : State) (p : Port) (on : Bool) : (holdCredit s p on).vault = s.vault := by rw [holdCredit_eq]
@[simp] theorem holdCredit_plks (s : State) (p : Port) (on : Bool) : (holdCredit s p on).plks = s.plks := by rw [holdCredit_eq]
@[simp] theorem holdCredit_outs (s : State) (p : Port) (on : Bool) : (holdCredit s p on).outs = s.outs := by rw [holdCredit_eq]
@[simp] theorem holdCredit_caps (s : State) (p : Port) (on : Bool) : (holdCredit s p on).caps = s.caps := by rw [holdCredit_eq]
@[simp] theorem holdCredit_mem (s : State) (p : Port) (on : Bool) : (holdCredit s p on).mem = s.mem := by rw [holdCredit_eq]
@[simp] theorem holdCredit_allocs (s : State) (p : Port) (on : Bool) : (holdCredit s p on).allocs = s.allocs := by rw [holdCredit_eq]
@[simp] theorem holdCredit_rtes (s : State) (p : Port) (on : Bool) : (holdCredit s p on).rtes = s.rtes := by rw [holdCredit_eq]
@[simp] theorem holdCredit_lyrs (s : State) (p : Port) (on : Bool) : (holdCredit s p on).lyrs = s.lyrs := by rw [holdCredit_eq]
@[simp] theorem holdCredit_sets (s : State) (p : Port) (on : Bool) : (holdCredit s p on).sets = s.sets := by rw [holdCredit_eq]
@[simp] theorem holdCredit_nextSet (s : State) (p : Port) (on : Bool) : (holdCredit s p on).nextSet = s.nextSet := by rw [holdCredit_eq]
@[simp] theorem holdCredit_fences (s : State) (p : Port) (on : Bool) : (holdCredit s p on).fences = s.fences := by rw [holdCredit_eq]
@[simp] theorem holdCredit_signals (s : State) (p : Port) (on : Bool) : (holdCredit s p on).signals = s.signals := by rw [holdCredit_eq]
@[simp] theorem holdCredit_signalTick (s : State) (p : Port) (on : Bool) : (holdCredit s p on).signalTick = s.signalTick := by rw [holdCredit_eq]
@[simp] theorem holdCredit_vits (s : State) (p : Port) (on : Bool) : (holdCredit s p on).vits = s.vits := by rw [holdCredit_eq]
@[simp] theorem holdCredit_slots (s : State) (p : Port) (on : Bool) : (holdCredit s p on).slots = s.slots := by rw [holdCredit_eq]
@[simp] theorem holdCredit_meshes (s : State) (p : Port) (on : Bool) : (holdCredit s p on).meshes = s.meshes := by rw [holdCredit_eq]
@[simp] theorem holdCredit_warp (s : State) (p : Port) (on : Bool) : (holdCredit s p on).warp = s.warp := by rw [holdCredit_eq]
@[simp] theorem holdCredit_warpUsedA (s : State) (p : Port) (on : Bool) : (holdCredit s p on).warpUsedA = s.warpUsedA := by rw [holdCredit_eq]
@[simp] theorem holdCredit_warpUsedB (s : State) (p : Port) (on : Bool) : (holdCredit s p on).warpUsedB = s.warpUsedB := by rw [holdCredit_eq]
@[simp] theorem holdCredit_clrs (s : State) (p : Port) (on : Bool) : (holdCredit s p on).clrs = s.clrs := by rw [holdCredit_eq]
@[simp] theorem holdCredit_scls (s : State) (p : Port) (on : Bool) : (holdCredit s p on).scls = s.scls := by rw [holdCredit_eq]
@[simp] theorem holdCredit_dpss (s : State) (p : Port) (on : Bool) : (holdCredit s p on).dpss = s.dpss := by rw [holdCredit_eq]
@[simp] theorem holdCredit_edps (s : State) (p : Port) (on : Bool) : (holdCredit s p on).edps = s.edps := by rw [holdCredit_eq]
@[simp] theorem holdCredit_csis (s : State) (p : Port) (on : Bool) : (holdCredit s p on).csis = s.csis := by rw [holdCredit_eq]
@[simp] theorem holdCredit_audio (s : State) (p : Port) (on : Bool) : (holdCredit s p on).audio = s.audio := by rw [holdCredit_eq]
@[simp] theorem holdCredit_wingA (s : State) (p : Port) (on : Bool) : (holdCredit s p on).wingA = s.wingA := by rw [holdCredit_eq]
@[simp] theorem holdCredit_wingB (s : State) (p : Port) (on : Bool) : (holdCredit s p on).wingB = s.wingB := by rw [holdCredit_eq]
@[simp] theorem holdCredit_failover (s : State) (p : Port) (on : Bool) : (holdCredit s p on).failover = s.failover := by rw [holdCredit_eq]
@[simp] theorem holdCredit_arbs (s : State) (p : Port) (on : Bool) : (holdCredit s p on).arbs = s.arbs := by rw [holdCredit_eq]
@[simp] theorem holdCredit_thermal (s : State) (p : Port) (on : Bool) : (holdCredit s p on).thermal = s.thermal := by rw [holdCredit_eq]
@[simp] theorem holdCredit_ledger (s : State) (p : Port) (on : Bool) : (holdCredit s p on).ledger = s.ledger := by rw [holdCredit_eq]
@[simp] theorem holdCredit_bmx (s : State) (p : Port) (on : Bool) : (holdCredit s p on).bmx = s.bmx := by rw [holdCredit_eq]
@[simp] theorem holdCredit_gpioIn (s : State) (p : Port) (on : Bool) : (holdCredit s p on).gpioIn = s.gpioIn := by rw [holdCredit_eq]
@[simp] theorem holdCredit_freeCtr (s : State) (p : Port) (on : Bool) : (holdCredit s p on).freeCtr = s.freeCtr := by rw [holdCredit_eq]

/-! ### raise -/

@[simp] theorem raise_clk (s : State) (src : Nat) (d : Word) : (raise s src d).clk = s.clk := by rw [raise_eq]
@[simp] theorem raise_dispA (s : State) (src : Nat) (d : Word) : (raise s src d).dispA = s.dispA := by rw [raise_eq]
@[simp] theorem raise_dispB (s : State) (src : Nat) (d : Word) : (raise s src d).dispB = s.dispB := by rw [raise_eq]
@[simp] theorem raise_ports (s : State) (src : Nat) (d : Word) : (raise s src d).ports = s.ports := by rw [raise_eq]
@[simp] theorem raise_tb (s : State) (src : Nat) (d : Word) : (raise s src d).tb = s.tb := by rw [raise_eq]
@[simp] theorem raise_modes (s : State) (src : Nat) (d : Word) : (raise s src d).modes = s.modes := by rw [raise_eq]
@[simp] theorem raise_boot (s : State) (src : Nat) (d : Word) : (raise s src d).boot = s.boot := by rw [raise_eq]
@[simp] theorem raise_runs (s : State) (src : Nat) (d : Word) : (raise s src d).runs = s.runs := by rw [raise_eq]
@[simp] theorem raise_words (s : State) (src : Nat) (d : Word) : (raise s src d).words = s.words := by rw [raise_eq]
@[simp] theorem raise_flip (s : State) (src : Nat) (d : Word) : (raise s src d).flip = s.flip := by rw [raise_eq]
@[simp] theorem raise_cands (s : State) (src : Nat) (d : Word) : (raise s src d).cands = s.cands := by rw [raise_eq]
@[simp] theorem raise_dpll (s : State) (src : Nat) (d : Word) : (raise s src d).dpll = s.dpll := by rw [raise_eq]
@[simp] theorem raise_fsyncs (s : State) (src : Nat) (d : Word) : (raise s src d).fsyncs = s.fsyncs := by rw [raise_eq]
@[simp] theorem raise_syns (s : State) (src : Nat) (d : Word) : (raise s src d).syns = s.syns := by rw [raise_eq]
@[simp] theorem raise_clocks (s : State) (src : Nat) (d : Word) : (raise s src d).clocks = s.clocks := by rw [raise_eq]
@[simp] theorem raise_vault (s : State) (src : Nat) (d : Word) : (raise s src d).vault = s.vault := by rw [raise_eq]
@[simp] theorem raise_plks (s : State) (src : Nat) (d : Word) : (raise s src d).plks = s.plks := by rw [raise_eq]
@[simp] theorem raise_outs (s : State) (src : Nat) (d : Word) : (raise s src d).outs = s.outs := by rw [raise_eq]
@[simp] theorem raise_caps (s : State) (src : Nat) (d : Word) : (raise s src d).caps = s.caps := by rw [raise_eq]
@[simp] theorem raise_mem (s : State) (src : Nat) (d : Word) : (raise s src d).mem = s.mem := by rw [raise_eq]
@[simp] theorem raise_allocs (s : State) (src : Nat) (d : Word) : (raise s src d).allocs = s.allocs := by rw [raise_eq]
@[simp] theorem raise_rtes (s : State) (src : Nat) (d : Word) : (raise s src d).rtes = s.rtes := by rw [raise_eq]
@[simp] theorem raise_lyrs (s : State) (src : Nat) (d : Word) : (raise s src d).lyrs = s.lyrs := by rw [raise_eq]
@[simp] theorem raise_sets (s : State) (src : Nat) (d : Word) : (raise s src d).sets = s.sets := by rw [raise_eq]
@[simp] theorem raise_nextSet (s : State) (src : Nat) (d : Word) : (raise s src d).nextSet = s.nextSet := by rw [raise_eq]
@[simp] theorem raise_fences (s : State) (src : Nat) (d : Word) : (raise s src d).fences = s.fences := by rw [raise_eq]
@[simp] theorem raise_signals (s : State) (src : Nat) (d : Word) : (raise s src d).signals = s.signals := by rw [raise_eq]
@[simp] theorem raise_signalTick (s : State) (src : Nat) (d : Word) : (raise s src d).signalTick = s.signalTick := by rw [raise_eq]
@[simp] theorem raise_vits (s : State) (src : Nat) (d : Word) : (raise s src d).vits = s.vits := by rw [raise_eq]
@[simp] theorem raise_slots (s : State) (src : Nat) (d : Word) : (raise s src d).slots = s.slots := by rw [raise_eq]
@[simp] theorem raise_meshes (s : State) (src : Nat) (d : Word) : (raise s src d).meshes = s.meshes := by rw [raise_eq]
@[simp] theorem raise_warp (s : State) (src : Nat) (d : Word) : (raise s src d).warp = s.warp := by rw [raise_eq]
@[simp] theorem raise_warpUsedA (s : State) (src : Nat) (d : Word) : (raise s src d).warpUsedA = s.warpUsedA := by rw [raise_eq]
@[simp] theorem raise_warpUsedB (s : State) (src : Nat) (d : Word) : (raise s src d).warpUsedB = s.warpUsedB := by rw [raise_eq]
@[simp] theorem raise_clrs (s : State) (src : Nat) (d : Word) : (raise s src d).clrs = s.clrs := by rw [raise_eq]
@[simp] theorem raise_scls (s : State) (src : Nat) (d : Word) : (raise s src d).scls = s.scls := by rw [raise_eq]
@[simp] theorem raise_dpss (s : State) (src : Nat) (d : Word) : (raise s src d).dpss = s.dpss := by rw [raise_eq]
@[simp] theorem raise_edps (s : State) (src : Nat) (d : Word) : (raise s src d).edps = s.edps := by rw [raise_eq]
@[simp] theorem raise_csis (s : State) (src : Nat) (d : Word) : (raise s src d).csis = s.csis := by rw [raise_eq]
@[simp] theorem raise_audio (s : State) (src : Nat) (d : Word) : (raise s src d).audio = s.audio := by rw [raise_eq]
@[simp] theorem raise_wingA (s : State) (src : Nat) (d : Word) : (raise s src d).wingA = s.wingA := by rw [raise_eq]
@[simp] theorem raise_wingB (s : State) (src : Nat) (d : Word) : (raise s src d).wingB = s.wingB := by rw [raise_eq]
@[simp] theorem raise_failover (s : State) (src : Nat) (d : Word) : (raise s src d).failover = s.failover := by rw [raise_eq]
@[simp] theorem raise_arbs (s : State) (src : Nat) (d : Word) : (raise s src d).arbs = s.arbs := by rw [raise_eq]
@[simp] theorem raise_thermal (s : State) (src : Nat) (d : Word) : (raise s src d).thermal = s.thermal := by rw [raise_eq]
@[simp] theorem raise_ledger (s : State) (src : Nat) (d : Word) : (raise s src d).ledger = s.ledger := by rw [raise_eq]
@[simp] theorem raise_bmx (s : State) (src : Nat) (d : Word) : (raise s src d).bmx = s.bmx := by rw [raise_eq]
@[simp] theorem raise_gpioIn (s : State) (src : Nat) (d : Word) : (raise s src d).gpioIn = s.gpioIn := by rw [raise_eq]
@[simp] theorem raise_freeCtr (s : State) (src : Nat) (d : Word) : (raise s src d).freeCtr = s.freeCtr := by rw [raise_eq]

/-! ### raiseCommit -/

@[simp] theorem raiseCommit_clk (s : State) (src : Nat) (d : Word) : (raiseCommit s src d).clk = s.clk := by rw [raiseCommit_eq]
@[simp] theorem raiseCommit_dispA (s : State) (src : Nat) (d : Word) : (raiseCommit s src d).dispA = s.dispA := by rw [raiseCommit_eq]
@[simp] theorem raiseCommit_dispB (s : State) (src : Nat) (d : Word) : (raiseCommit s src d).dispB = s.dispB := by rw [raiseCommit_eq]
@[simp] theorem raiseCommit_ports (s : State) (src : Nat) (d : Word) : (raiseCommit s src d).ports = s.ports := by rw [raiseCommit_eq]
@[simp] theorem raiseCommit_tb (s : State) (src : Nat) (d : Word) : (raiseCommit s src d).tb = s.tb := by rw [raiseCommit_eq]
@[simp] theorem raiseCommit_modes (s : State) (src : Nat) (d : Word) : (raiseCommit s src d).modes = s.modes := by rw [raiseCommit_eq]
@[simp] theorem raiseCommit_boot (s : State) (src : Nat) (d : Word) : (raiseCommit s src d).boot = s.boot := by rw [raiseCommit_eq]
@[simp] theorem raiseCommit_runs (s : State) (src : Nat) (d : Word) : (raiseCommit s src d).runs = s.runs := by rw [raiseCommit_eq]
@[simp] theorem raiseCommit_words (s : State) (src : Nat) (d : Word) : (raiseCommit s src d).words = s.words := by rw [raiseCommit_eq]
@[simp] theorem raiseCommit_flip (s : State) (src : Nat) (d : Word) : (raiseCommit s src d).flip = s.flip := by rw [raiseCommit_eq]
@[simp] theorem raiseCommit_cands (s : State) (src : Nat) (d : Word) : (raiseCommit s src d).cands = s.cands := by rw [raiseCommit_eq]
@[simp] theorem raiseCommit_dpll (s : State) (src : Nat) (d : Word) : (raiseCommit s src d).dpll = s.dpll := by rw [raiseCommit_eq]
@[simp] theorem raiseCommit_fsyncs (s : State) (src : Nat) (d : Word) : (raiseCommit s src d).fsyncs = s.fsyncs := by rw [raiseCommit_eq]
@[simp] theorem raiseCommit_syns (s : State) (src : Nat) (d : Word) : (raiseCommit s src d).syns = s.syns := by rw [raiseCommit_eq]
@[simp] theorem raiseCommit_clocks (s : State) (src : Nat) (d : Word) : (raiseCommit s src d).clocks = s.clocks := by rw [raiseCommit_eq]
@[simp] theorem raiseCommit_vault (s : State) (src : Nat) (d : Word) : (raiseCommit s src d).vault = s.vault := by rw [raiseCommit_eq]
@[simp] theorem raiseCommit_plks (s : State) (src : Nat) (d : Word) : (raiseCommit s src d).plks = s.plks := by rw [raiseCommit_eq]
@[simp] theorem raiseCommit_outs (s : State) (src : Nat) (d : Word) : (raiseCommit s src d).outs = s.outs := by rw [raiseCommit_eq]
@[simp] theorem raiseCommit_caps (s : State) (src : Nat) (d : Word) : (raiseCommit s src d).caps = s.caps := by rw [raiseCommit_eq]
@[simp] theorem raiseCommit_mem (s : State) (src : Nat) (d : Word) : (raiseCommit s src d).mem = s.mem := by rw [raiseCommit_eq]
@[simp] theorem raiseCommit_allocs (s : State) (src : Nat) (d : Word) : (raiseCommit s src d).allocs = s.allocs := by rw [raiseCommit_eq]
@[simp] theorem raiseCommit_rtes (s : State) (src : Nat) (d : Word) : (raiseCommit s src d).rtes = s.rtes := by rw [raiseCommit_eq]
@[simp] theorem raiseCommit_lyrs (s : State) (src : Nat) (d : Word) : (raiseCommit s src d).lyrs = s.lyrs := by rw [raiseCommit_eq]
@[simp] theorem raiseCommit_sets (s : State) (src : Nat) (d : Word) : (raiseCommit s src d).sets = s.sets := by rw [raiseCommit_eq]
@[simp] theorem raiseCommit_nextSet (s : State) (src : Nat) (d : Word) : (raiseCommit s src d).nextSet = s.nextSet := by rw [raiseCommit_eq]
@[simp] theorem raiseCommit_fences (s : State) (src : Nat) (d : Word) : (raiseCommit s src d).fences = s.fences := by rw [raiseCommit_eq]
@[simp] theorem raiseCommit_signals (s : State) (src : Nat) (d : Word) : (raiseCommit s src d).signals = s.signals := by rw [raiseCommit_eq]
@[simp] theorem raiseCommit_signalTick (s : State) (src : Nat) (d : Word) : (raiseCommit s src d).signalTick = s.signalTick := by rw [raiseCommit_eq]
@[simp] theorem raiseCommit_vits (s : State) (src : Nat) (d : Word) : (raiseCommit s src d).vits = s.vits := by rw [raiseCommit_eq]
@[simp] theorem raiseCommit_slots (s : State) (src : Nat) (d : Word) : (raiseCommit s src d).slots = s.slots := by rw [raiseCommit_eq]
@[simp] theorem raiseCommit_meshes (s : State) (src : Nat) (d : Word) : (raiseCommit s src d).meshes = s.meshes := by rw [raiseCommit_eq]
@[simp] theorem raiseCommit_warp (s : State) (src : Nat) (d : Word) : (raiseCommit s src d).warp = s.warp := by rw [raiseCommit_eq]
@[simp] theorem raiseCommit_warpUsedA (s : State) (src : Nat) (d : Word) : (raiseCommit s src d).warpUsedA = s.warpUsedA := by rw [raiseCommit_eq]
@[simp] theorem raiseCommit_warpUsedB (s : State) (src : Nat) (d : Word) : (raiseCommit s src d).warpUsedB = s.warpUsedB := by rw [raiseCommit_eq]
@[simp] theorem raiseCommit_clrs (s : State) (src : Nat) (d : Word) : (raiseCommit s src d).clrs = s.clrs := by rw [raiseCommit_eq]
@[simp] theorem raiseCommit_scls (s : State) (src : Nat) (d : Word) : (raiseCommit s src d).scls = s.scls := by rw [raiseCommit_eq]
@[simp] theorem raiseCommit_dpss (s : State) (src : Nat) (d : Word) : (raiseCommit s src d).dpss = s.dpss := by rw [raiseCommit_eq]
@[simp] theorem raiseCommit_edps (s : State) (src : Nat) (d : Word) : (raiseCommit s src d).edps = s.edps := by rw [raiseCommit_eq]
@[simp] theorem raiseCommit_csis (s : State) (src : Nat) (d : Word) : (raiseCommit s src d).csis = s.csis := by rw [raiseCommit_eq]
@[simp] theorem raiseCommit_audio (s : State) (src : Nat) (d : Word) : (raiseCommit s src d).audio = s.audio := by rw [raiseCommit_eq]
@[simp] theorem raiseCommit_wingA (s : State) (src : Nat) (d : Word) : (raiseCommit s src d).wingA = s.wingA := by rw [raiseCommit_eq]
@[simp] theorem raiseCommit_wingB (s : State) (src : Nat) (d : Word) : (raiseCommit s src d).wingB = s.wingB := by rw [raiseCommit_eq]
@[simp] theorem raiseCommit_failover (s : State) (src : Nat) (d : Word) : (raiseCommit s src d).failover = s.failover := by rw [raiseCommit_eq]
@[simp] theorem raiseCommit_arbs (s : State) (src : Nat) (d : Word) : (raiseCommit s src d).arbs = s.arbs := by rw [raiseCommit_eq]
@[simp] theorem raiseCommit_thermal (s : State) (src : Nat) (d : Word) : (raiseCommit s src d).thermal = s.thermal := by rw [raiseCommit_eq]
@[simp] theorem raiseCommit_ledger (s : State) (src : Nat) (d : Word) : (raiseCommit s src d).ledger = s.ledger := by rw [raiseCommit_eq]
@[simp] theorem raiseCommit_bmx (s : State) (src : Nat) (d : Word) : (raiseCommit s src d).bmx = s.bmx := by rw [raiseCommit_eq]
@[simp] theorem raiseCommit_gpioIn (s : State) (src : Nat) (d : Word) : (raiseCommit s src d).gpioIn = s.gpioIn := by rw [raiseCommit_eq]
@[simp] theorem raiseCommit_freeCtr (s : State) (src : Nat) (d : Word) : (raiseCommit s src d).freeCtr = s.freeCtr := by rw [raiseCommit_eq]

/-! ### setDispatcher -/

@[simp] theorem setDispatcher_clk (s : State) (w : Wing) (d : Dispatcher) : (setDispatcher s w d).clk = s.clk := by cases w <;> rfl
@[simp] theorem setDispatcher_ports (s : State) (w : Wing) (d : Dispatcher) : (setDispatcher s w d).ports = s.ports := by cases w <;> rfl
@[simp] theorem setDispatcher_tb (s : State) (w : Wing) (d : Dispatcher) : (setDispatcher s w d).tb = s.tb := by cases w <;> rfl
@[simp] theorem setDispatcher_ev (s : State) (w : Wing) (d : Dispatcher) : (setDispatcher s w d).ev = s.ev := by cases w <;> rfl
@[simp] theorem setDispatcher_modes (s : State) (w : Wing) (d : Dispatcher) : (setDispatcher s w d).modes = s.modes := by cases w <;> rfl
@[simp] theorem setDispatcher_boot (s : State) (w : Wing) (d : Dispatcher) : (setDispatcher s w d).boot = s.boot := by cases w <;> rfl
@[simp] theorem setDispatcher_runs (s : State) (w : Wing) (d : Dispatcher) : (setDispatcher s w d).runs = s.runs := by cases w <;> rfl
@[simp] theorem setDispatcher_words (s : State) (w : Wing) (d : Dispatcher) : (setDispatcher s w d).words = s.words := by cases w <;> rfl
@[simp] theorem setDispatcher_flip (s : State) (w : Wing) (d : Dispatcher) : (setDispatcher s w d).flip = s.flip := by cases w <;> rfl
@[simp] theorem setDispatcher_cands (s : State) (w : Wing) (d : Dispatcher) : (setDispatcher s w d).cands = s.cands := by cases w <;> rfl
@[simp] theorem setDispatcher_dpll (s : State) (w : Wing) (d : Dispatcher) : (setDispatcher s w d).dpll = s.dpll := by cases w <;> rfl
@[simp] theorem setDispatcher_fsyncs (s : State) (w : Wing) (d : Dispatcher) : (setDispatcher s w d).fsyncs = s.fsyncs := by cases w <;> rfl
@[simp] theorem setDispatcher_syns (s : State) (w : Wing) (d : Dispatcher) : (setDispatcher s w d).syns = s.syns := by cases w <;> rfl
@[simp] theorem setDispatcher_clocks (s : State) (w : Wing) (d : Dispatcher) : (setDispatcher s w d).clocks = s.clocks := by cases w <;> rfl
@[simp] theorem setDispatcher_vault (s : State) (w : Wing) (d : Dispatcher) : (setDispatcher s w d).vault = s.vault := by cases w <;> rfl
@[simp] theorem setDispatcher_plks (s : State) (w : Wing) (d : Dispatcher) : (setDispatcher s w d).plks = s.plks := by cases w <;> rfl
@[simp] theorem setDispatcher_outs (s : State) (w : Wing) (d : Dispatcher) : (setDispatcher s w d).outs = s.outs := by cases w <;> rfl
@[simp] theorem setDispatcher_caps (s : State) (w : Wing) (d : Dispatcher) : (setDispatcher s w d).caps = s.caps := by cases w <;> rfl
@[simp] theorem setDispatcher_mem (s : State) (w : Wing) (d : Dispatcher) : (setDispatcher s w d).mem = s.mem := by cases w <;> rfl
@[simp] theorem setDispatcher_allocs (s : State) (w : Wing) (d : Dispatcher) : (setDispatcher s w d).allocs = s.allocs := by cases w <;> rfl
@[simp] theorem setDispatcher_rtes (s : State) (w : Wing) (d : Dispatcher) : (setDispatcher s w d).rtes = s.rtes := by cases w <;> rfl
@[simp] theorem setDispatcher_lyrs (s : State) (w : Wing) (d : Dispatcher) : (setDispatcher s w d).lyrs = s.lyrs := by cases w <;> rfl
@[simp] theorem setDispatcher_sets (s : State) (w : Wing) (d : Dispatcher) : (setDispatcher s w d).sets = s.sets := by cases w <;> rfl
@[simp] theorem setDispatcher_nextSet (s : State) (w : Wing) (d : Dispatcher) : (setDispatcher s w d).nextSet = s.nextSet := by cases w <;> rfl
@[simp] theorem setDispatcher_fences (s : State) (w : Wing) (d : Dispatcher) : (setDispatcher s w d).fences = s.fences := by cases w <;> rfl
@[simp] theorem setDispatcher_signals (s : State) (w : Wing) (d : Dispatcher) : (setDispatcher s w d).signals = s.signals := by cases w <;> rfl
@[simp] theorem setDispatcher_signalTick (s : State) (w : Wing) (d : Dispatcher) : (setDispatcher s w d).signalTick = s.signalTick := by cases w <;> rfl
@[simp] theorem setDispatcher_vits (s : State) (w : Wing) (d : Dispatcher) : (setDispatcher s w d).vits = s.vits := by cases w <;> rfl
@[simp] theorem setDispatcher_slots (s : State) (w : Wing) (d : Dispatcher) : (setDispatcher s w d).slots = s.slots := by cases w <;> rfl
@[simp] theorem setDispatcher_meshes (s : State) (w : Wing) (d : Dispatcher) : (setDispatcher s w d).meshes = s.meshes := by cases w <;> rfl
@[simp] theorem setDispatcher_warp (s : State) (w : Wing) (d : Dispatcher) : (setDispatcher s w d).warp = s.warp := by cases w <;> rfl
@[simp] theorem setDispatcher_warpUsedA (s : State) (w : Wing) (d : Dispatcher) : (setDispatcher s w d).warpUsedA = s.warpUsedA := by cases w <;> rfl
@[simp] theorem setDispatcher_warpUsedB (s : State) (w : Wing) (d : Dispatcher) : (setDispatcher s w d).warpUsedB = s.warpUsedB := by cases w <;> rfl
@[simp] theorem setDispatcher_clrs (s : State) (w : Wing) (d : Dispatcher) : (setDispatcher s w d).clrs = s.clrs := by cases w <;> rfl
@[simp] theorem setDispatcher_scls (s : State) (w : Wing) (d : Dispatcher) : (setDispatcher s w d).scls = s.scls := by cases w <;> rfl
@[simp] theorem setDispatcher_dpss (s : State) (w : Wing) (d : Dispatcher) : (setDispatcher s w d).dpss = s.dpss := by cases w <;> rfl
@[simp] theorem setDispatcher_edps (s : State) (w : Wing) (d : Dispatcher) : (setDispatcher s w d).edps = s.edps := by cases w <;> rfl
@[simp] theorem setDispatcher_csis (s : State) (w : Wing) (d : Dispatcher) : (setDispatcher s w d).csis = s.csis := by cases w <;> rfl
@[simp] theorem setDispatcher_audio (s : State) (w : Wing) (d : Dispatcher) : (setDispatcher s w d).audio = s.audio := by cases w <;> rfl
@[simp] theorem setDispatcher_wingA (s : State) (w : Wing) (d : Dispatcher) : (setDispatcher s w d).wingA = s.wingA := by cases w <;> rfl
@[simp] theorem setDispatcher_wingB (s : State) (w : Wing) (d : Dispatcher) : (setDispatcher s w d).wingB = s.wingB := by cases w <;> rfl
@[simp] theorem setDispatcher_failover (s : State) (w : Wing) (d : Dispatcher) : (setDispatcher s w d).failover = s.failover := by cases w <;> rfl
@[simp] theorem setDispatcher_arbs (s : State) (w : Wing) (d : Dispatcher) : (setDispatcher s w d).arbs = s.arbs := by cases w <;> rfl
@[simp] theorem setDispatcher_thermal (s : State) (w : Wing) (d : Dispatcher) : (setDispatcher s w d).thermal = s.thermal := by cases w <;> rfl
@[simp] theorem setDispatcher_ledger (s : State) (w : Wing) (d : Dispatcher) : (setDispatcher s w d).ledger = s.ledger := by cases w <;> rfl
@[simp] theorem setDispatcher_bmx (s : State) (w : Wing) (d : Dispatcher) : (setDispatcher s w d).bmx = s.bmx := by cases w <;> rfl
@[simp] theorem setDispatcher_gpioIn (s : State) (w : Wing) (d : Dispatcher) : (setDispatcher s w d).gpioIn = s.gpioIn := by cases w <;> rfl
@[simp] theorem setDispatcher_freeCtr (s : State) (w : Wing) (d : Dispatcher) : (setDispatcher s w d).freeCtr = s.freeCtr := by cases w <;> rfl

/-! ### setAudioClock -/

@[simp] theorem setAudioClock_clk (s : State) (n : Nat) (c : AudioClock) : (setAudioClock s n c).clk = s.clk := by
  unfold setAudioClock; split <;> rfl
@[simp] theorem setAudioClock_ports (s : State) (n : Nat) (c : AudioClock) : (setAudioClock s n c).ports = s.ports := by
  unfold setAudioClock; split <;> rfl
@[simp] theorem setAudioClock_tb (s : State) (n : Nat) (c : AudioClock) : (setAudioClock s n c).tb = s.tb := by
  unfold setAudioClock; split <;> rfl
@[simp] theorem setAudioClock_ev (s : State) (n : Nat) (c : AudioClock) : (setAudioClock s n c).ev = s.ev := by
  unfold setAudioClock; split <;> rfl
@[simp] theorem setAudioClock_modes (s : State) (n : Nat) (c : AudioClock) : (setAudioClock s n c).modes = s.modes := by
  unfold setAudioClock; split <;> rfl
@[simp] theorem setAudioClock_boot (s : State) (n : Nat) (c : AudioClock) : (setAudioClock s n c).boot = s.boot := by
  unfold setAudioClock; split <;> rfl
@[simp] theorem setAudioClock_runs (s : State) (n : Nat) (c : AudioClock) : (setAudioClock s n c).runs = s.runs := by
  unfold setAudioClock; split <;> rfl
@[simp] theorem setAudioClock_words (s : State) (n : Nat) (c : AudioClock) : (setAudioClock s n c).words = s.words := by
  unfold setAudioClock; split <;> rfl
@[simp] theorem setAudioClock_flip (s : State) (n : Nat) (c : AudioClock) : (setAudioClock s n c).flip = s.flip := by
  unfold setAudioClock; split <;> rfl
@[simp] theorem setAudioClock_cands (s : State) (n : Nat) (c : AudioClock) : (setAudioClock s n c).cands = s.cands := by
  unfold setAudioClock; split <;> rfl
@[simp] theorem setAudioClock_dpll (s : State) (n : Nat) (c : AudioClock) : (setAudioClock s n c).dpll = s.dpll := by
  unfold setAudioClock; split <;> rfl
@[simp] theorem setAudioClock_fsyncs (s : State) (n : Nat) (c : AudioClock) : (setAudioClock s n c).fsyncs = s.fsyncs := by
  unfold setAudioClock; split <;> rfl
@[simp] theorem setAudioClock_syns (s : State) (n : Nat) (c : AudioClock) : (setAudioClock s n c).syns = s.syns := by
  unfold setAudioClock; split <;> rfl
@[simp] theorem setAudioClock_clocks (s : State) (n : Nat) (c : AudioClock) : (setAudioClock s n c).clocks = s.clocks := by
  unfold setAudioClock; split <;> rfl
@[simp] theorem setAudioClock_vault (s : State) (n : Nat) (c : AudioClock) : (setAudioClock s n c).vault = s.vault := by
  unfold setAudioClock; split <;> rfl
@[simp] theorem setAudioClock_plks (s : State) (n : Nat) (c : AudioClock) : (setAudioClock s n c).plks = s.plks := by
  unfold setAudioClock; split <;> rfl
@[simp] theorem setAudioClock_outs (s : State) (n : Nat) (c : AudioClock) : (setAudioClock s n c).outs = s.outs := by
  unfold setAudioClock; split <;> rfl
@[simp] theorem setAudioClock_caps (s : State) (n : Nat) (c : AudioClock) : (setAudioClock s n c).caps = s.caps := by
  unfold setAudioClock; split <;> rfl
@[simp] theorem setAudioClock_mem (s : State) (n : Nat) (c : AudioClock) : (setAudioClock s n c).mem = s.mem := by
  unfold setAudioClock; split <;> rfl
@[simp] theorem setAudioClock_allocs (s : State) (n : Nat) (c : AudioClock) : (setAudioClock s n c).allocs = s.allocs := by
  unfold setAudioClock; split <;> rfl
@[simp] theorem setAudioClock_rtes (s : State) (n : Nat) (c : AudioClock) : (setAudioClock s n c).rtes = s.rtes := by
  unfold setAudioClock; split <;> rfl
@[simp] theorem setAudioClock_lyrs (s : State) (n : Nat) (c : AudioClock) : (setAudioClock s n c).lyrs = s.lyrs := by
  unfold setAudioClock; split <;> rfl
@[simp] theorem setAudioClock_sets (s : State) (n : Nat) (c : AudioClock) : (setAudioClock s n c).sets = s.sets := by
  unfold setAudioClock; split <;> rfl
@[simp] theorem setAudioClock_nextSet (s : State) (n : Nat) (c : AudioClock) : (setAudioClock s n c).nextSet = s.nextSet := by
  unfold setAudioClock; split <;> rfl
@[simp] theorem setAudioClock_fences (s : State) (n : Nat) (c : AudioClock) : (setAudioClock s n c).fences = s.fences := by
  unfold setAudioClock; split <;> rfl
@[simp] theorem setAudioClock_signals (s : State) (n : Nat) (c : AudioClock) : (setAudioClock s n c).signals = s.signals := by
  unfold setAudioClock; split <;> rfl
@[simp] theorem setAudioClock_signalTick (s : State) (n : Nat) (c : AudioClock) : (setAudioClock s n c).signalTick = s.signalTick := by
  unfold setAudioClock; split <;> rfl
@[simp] theorem setAudioClock_vits (s : State) (n : Nat) (c : AudioClock) : (setAudioClock s n c).vits = s.vits := by
  unfold setAudioClock; split <;> rfl
@[simp] theorem setAudioClock_slots (s : State) (n : Nat) (c : AudioClock) : (setAudioClock s n c).slots = s.slots := by
  unfold setAudioClock; split <;> rfl
@[simp] theorem setAudioClock_meshes (s : State) (n : Nat) (c : AudioClock) : (setAudioClock s n c).meshes = s.meshes := by
  unfold setAudioClock; split <;> rfl
@[simp] theorem setAudioClock_warp (s : State) (n : Nat) (c : AudioClock) : (setAudioClock s n c).warp = s.warp := by
  unfold setAudioClock; split <;> rfl
@[simp] theorem setAudioClock_warpUsedA (s : State) (n : Nat) (c : AudioClock) : (setAudioClock s n c).warpUsedA = s.warpUsedA := by
  unfold setAudioClock; split <;> rfl
@[simp] theorem setAudioClock_warpUsedB (s : State) (n : Nat) (c : AudioClock) : (setAudioClock s n c).warpUsedB = s.warpUsedB := by
  unfold setAudioClock; split <;> rfl
@[simp] theorem setAudioClock_clrs (s : State) (n : Nat) (c : AudioClock) : (setAudioClock s n c).clrs = s.clrs := by
  unfold setAudioClock; split <;> rfl
@[simp] theorem setAudioClock_scls (s : State) (n : Nat) (c : AudioClock) : (setAudioClock s n c).scls = s.scls := by
  unfold setAudioClock; split <;> rfl
@[simp] theorem setAudioClock_dpss (s : State) (n : Nat) (c : AudioClock) : (setAudioClock s n c).dpss = s.dpss := by
  unfold setAudioClock; split <;> rfl
@[simp] theorem setAudioClock_edps (s : State) (n : Nat) (c : AudioClock) : (setAudioClock s n c).edps = s.edps := by
  unfold setAudioClock; split <;> rfl
@[simp] theorem setAudioClock_csis (s : State) (n : Nat) (c : AudioClock) : (setAudioClock s n c).csis = s.csis := by
  unfold setAudioClock; split <;> rfl
@[simp] theorem setAudioClock_wingA (s : State) (n : Nat) (c : AudioClock) : (setAudioClock s n c).wingA = s.wingA := by
  unfold setAudioClock; split <;> rfl
@[simp] theorem setAudioClock_wingB (s : State) (n : Nat) (c : AudioClock) : (setAudioClock s n c).wingB = s.wingB := by
  unfold setAudioClock; split <;> rfl
@[simp] theorem setAudioClock_failover (s : State) (n : Nat) (c : AudioClock) : (setAudioClock s n c).failover = s.failover := by
  unfold setAudioClock; split <;> rfl
@[simp] theorem setAudioClock_dispA (s : State) (n : Nat) (c : AudioClock) : (setAudioClock s n c).dispA = s.dispA := by
  unfold setAudioClock; split <;> rfl
@[simp] theorem setAudioClock_dispB (s : State) (n : Nat) (c : AudioClock) : (setAudioClock s n c).dispB = s.dispB := by
  unfold setAudioClock; split <;> rfl
@[simp] theorem setAudioClock_arbs (s : State) (n : Nat) (c : AudioClock) : (setAudioClock s n c).arbs = s.arbs := by
  unfold setAudioClock; split <;> rfl
@[simp] theorem setAudioClock_thermal (s : State) (n : Nat) (c : AudioClock) : (setAudioClock s n c).thermal = s.thermal := by
  unfold setAudioClock; split <;> rfl
@[simp] theorem setAudioClock_ledger (s : State) (n : Nat) (c : AudioClock) : (setAudioClock s n c).ledger = s.ledger := by
  unfold setAudioClock; split <;> rfl
@[simp] theorem setAudioClock_bmx (s : State) (n : Nat) (c : AudioClock) : (setAudioClock s n c).bmx = s.bmx := by
  unfold setAudioClock; split <;> rfl
@[simp] theorem setAudioClock_gpioIn (s : State) (n : Nat) (c : AudioClock) : (setAudioClock s n c).gpioIn = s.gpioIn := by
  unfold setAudioClock; split <;> rfl
@[simp] theorem setAudioClock_freeCtr (s : State) (n : Nat) (c : AudioClock) : (setAudioClock s n c).freeCtr = s.freeCtr := by
  unfold setAudioClock; split <;> rfl

/-! ### setDest -/

@[simp] theorem setDest_clk (s : State) (d : Nat) (x : XDest) : (setDest s d x).clk = s.clk := rfl
@[simp] theorem setDest_ports (s : State) (d : Nat) (x : XDest) : (setDest s d x).ports = s.ports := rfl
@[simp] theorem setDest_tb (s : State) (d : Nat) (x : XDest) : (setDest s d x).tb = s.tb := rfl
@[simp] theorem setDest_ev (s : State) (d : Nat) (x : XDest) : (setDest s d x).ev = s.ev := rfl
@[simp] theorem setDest_modes (s : State) (d : Nat) (x : XDest) : (setDest s d x).modes = s.modes := rfl
@[simp] theorem setDest_boot (s : State) (d : Nat) (x : XDest) : (setDest s d x).boot = s.boot := rfl
@[simp] theorem setDest_runs (s : State) (d : Nat) (x : XDest) : (setDest s d x).runs = s.runs := rfl
@[simp] theorem setDest_words (s : State) (d : Nat) (x : XDest) : (setDest s d x).words = s.words := rfl
@[simp] theorem setDest_flip (s : State) (d : Nat) (x : XDest) : (setDest s d x).flip = s.flip := rfl
@[simp] theorem setDest_cands (s : State) (d : Nat) (x : XDest) : (setDest s d x).cands = s.cands := rfl
@[simp] theorem setDest_dpll (s : State) (d : Nat) (x : XDest) : (setDest s d x).dpll = s.dpll := rfl
@[simp] theorem setDest_fsyncs (s : State) (d : Nat) (x : XDest) : (setDest s d x).fsyncs = s.fsyncs := rfl
@[simp] theorem setDest_syns (s : State) (d : Nat) (x : XDest) : (setDest s d x).syns = s.syns := rfl
@[simp] theorem setDest_clocks (s : State) (d : Nat) (x : XDest) : (setDest s d x).clocks = s.clocks := rfl
@[simp] theorem setDest_vault (s : State) (d : Nat) (x : XDest) : (setDest s d x).vault = s.vault := rfl
@[simp] theorem setDest_plks (s : State) (d : Nat) (x : XDest) : (setDest s d x).plks = s.plks := rfl
@[simp] theorem setDest_outs (s : State) (d : Nat) (x : XDest) : (setDest s d x).outs = s.outs := rfl
@[simp] theorem setDest_caps (s : State) (d : Nat) (x : XDest) : (setDest s d x).caps = s.caps := rfl
@[simp] theorem setDest_mem (s : State) (d : Nat) (x : XDest) : (setDest s d x).mem = s.mem := rfl
@[simp] theorem setDest_allocs (s : State) (d : Nat) (x : XDest) : (setDest s d x).allocs = s.allocs := rfl
@[simp] theorem setDest_rtes (s : State) (d : Nat) (x : XDest) : (setDest s d x).rtes = s.rtes := rfl
@[simp] theorem setDest_lyrs (s : State) (d : Nat) (x : XDest) : (setDest s d x).lyrs = s.lyrs := rfl
@[simp] theorem setDest_sets (s : State) (d : Nat) (x : XDest) : (setDest s d x).sets = s.sets := rfl
@[simp] theorem setDest_nextSet (s : State) (d : Nat) (x : XDest) : (setDest s d x).nextSet = s.nextSet := rfl
@[simp] theorem setDest_fences (s : State) (d : Nat) (x : XDest) : (setDest s d x).fences = s.fences := rfl
@[simp] theorem setDest_signals (s : State) (d : Nat) (x : XDest) : (setDest s d x).signals = s.signals := rfl
@[simp] theorem setDest_signalTick (s : State) (d : Nat) (x : XDest) : (setDest s d x).signalTick = s.signalTick := rfl
@[simp] theorem setDest_vits (s : State) (d : Nat) (x : XDest) : (setDest s d x).vits = s.vits := rfl
@[simp] theorem setDest_slots (s : State) (d : Nat) (x : XDest) : (setDest s d x).slots = s.slots := rfl
@[simp] theorem setDest_meshes (s : State) (d : Nat) (x : XDest) : (setDest s d x).meshes = s.meshes := rfl
@[simp] theorem setDest_warp (s : State) (d : Nat) (x : XDest) : (setDest s d x).warp = s.warp := rfl
@[simp] theorem setDest_warpUsedA (s : State) (d : Nat) (x : XDest) : (setDest s d x).warpUsedA = s.warpUsedA := rfl
@[simp] theorem setDest_warpUsedB (s : State) (d : Nat) (x : XDest) : (setDest s d x).warpUsedB = s.warpUsedB := rfl
@[simp] theorem setDest_clrs (s : State) (d : Nat) (x : XDest) : (setDest s d x).clrs = s.clrs := rfl
@[simp] theorem setDest_scls (s : State) (d : Nat) (x : XDest) : (setDest s d x).scls = s.scls := rfl
@[simp] theorem setDest_dpss (s : State) (d : Nat) (x : XDest) : (setDest s d x).dpss = s.dpss := rfl
@[simp] theorem setDest_edps (s : State) (d : Nat) (x : XDest) : (setDest s d x).edps = s.edps := rfl
@[simp] theorem setDest_csis (s : State) (d : Nat) (x : XDest) : (setDest s d x).csis = s.csis := rfl
@[simp] theorem setDest_wingA (s : State) (d : Nat) (x : XDest) : (setDest s d x).wingA = s.wingA := rfl
@[simp] theorem setDest_wingB (s : State) (d : Nat) (x : XDest) : (setDest s d x).wingB = s.wingB := rfl
@[simp] theorem setDest_failover (s : State) (d : Nat) (x : XDest) : (setDest s d x).failover = s.failover := rfl
@[simp] theorem setDest_dispA (s : State) (d : Nat) (x : XDest) : (setDest s d x).dispA = s.dispA := rfl
@[simp] theorem setDest_dispB (s : State) (d : Nat) (x : XDest) : (setDest s d x).dispB = s.dispB := rfl
@[simp] theorem setDest_arbs (s : State) (d : Nat) (x : XDest) : (setDest s d x).arbs = s.arbs := rfl
@[simp] theorem setDest_thermal (s : State) (d : Nat) (x : XDest) : (setDest s d x).thermal = s.thermal := rfl
@[simp] theorem setDest_ledger (s : State) (d : Nat) (x : XDest) : (setDest s d x).ledger = s.ledger := rfl
@[simp] theorem setDest_bmx (s : State) (d : Nat) (x : XDest) : (setDest s d x).bmx = s.bmx := rfl
@[simp] theorem setDest_gpioIn (s : State) (d : Nat) (x : XDest) : (setDest s d x).gpioIn = s.gpioIn := rfl
@[simp] theorem setDest_freeCtr (s : State) (d : Nat) (x : XDest) : (setDest s d x).freeCtr = s.freeCtr := rfl

/-! ### setWarpUsed -/

@[simp] theorem setWarpUsed_clk (s : State) (bank n : Nat) : (setWarpUsed s bank n).clk = s.clk := by
  unfold setWarpUsed; split <;> rfl
@[simp] theorem setWarpUsed_ports (s : State) (bank n : Nat) : (setWarpUsed s bank n).ports = s.ports := by
  unfold setWarpUsed; split <;> rfl
@[simp] theorem setWarpUsed_tb (s : State) (bank n : Nat) : (setWarpUsed s bank n).tb = s.tb := by
  unfold setWarpUsed; split <;> rfl
@[simp] theorem setWarpUsed_ev (s : State) (bank n : Nat) : (setWarpUsed s bank n).ev = s.ev := by
  unfold setWarpUsed; split <;> rfl
@[simp] theorem setWarpUsed_modes (s : State) (bank n : Nat) : (setWarpUsed s bank n).modes = s.modes := by
  unfold setWarpUsed; split <;> rfl
@[simp] theorem setWarpUsed_boot (s : State) (bank n : Nat) : (setWarpUsed s bank n).boot = s.boot := by
  unfold setWarpUsed; split <;> rfl
@[simp] theorem setWarpUsed_runs (s : State) (bank n : Nat) : (setWarpUsed s bank n).runs = s.runs := by
  unfold setWarpUsed; split <;> rfl
@[simp] theorem setWarpUsed_words (s : State) (bank n : Nat) : (setWarpUsed s bank n).words = s.words := by
  unfold setWarpUsed; split <;> rfl
@[simp] theorem setWarpUsed_flip (s : State) (bank n : Nat) : (setWarpUsed s bank n).flip = s.flip := by
  unfold setWarpUsed; split <;> rfl
@[simp] theorem setWarpUsed_cands (s : State) (bank n : Nat) : (setWarpUsed s bank n).cands = s.cands := by
  unfold setWarpUsed; split <;> rfl
@[simp] theorem setWarpUsed_dpll (s : State) (bank n : Nat) : (setWarpUsed s bank n).dpll = s.dpll := by
  unfold setWarpUsed; split <;> rfl
@[simp] theorem setWarpUsed_fsyncs (s : State) (bank n : Nat) : (setWarpUsed s bank n).fsyncs = s.fsyncs := by
  unfold setWarpUsed; split <;> rfl
@[simp] theorem setWarpUsed_syns (s : State) (bank n : Nat) : (setWarpUsed s bank n).syns = s.syns := by
  unfold setWarpUsed; split <;> rfl
@[simp] theorem setWarpUsed_clocks (s : State) (bank n : Nat) : (setWarpUsed s bank n).clocks = s.clocks := by
  unfold setWarpUsed; split <;> rfl
@[simp] theorem setWarpUsed_vault (s : State) (bank n : Nat) : (setWarpUsed s bank n).vault = s.vault := by
  unfold setWarpUsed; split <;> rfl
@[simp] theorem setWarpUsed_plks (s : State) (bank n : Nat) : (setWarpUsed s bank n).plks = s.plks := by
  unfold setWarpUsed; split <;> rfl
@[simp] theorem setWarpUsed_outs (s : State) (bank n : Nat) : (setWarpUsed s bank n).outs = s.outs := by
  unfold setWarpUsed; split <;> rfl
@[simp] theorem setWarpUsed_caps (s : State) (bank n : Nat) : (setWarpUsed s bank n).caps = s.caps := by
  unfold setWarpUsed; split <;> rfl
@[simp] theorem setWarpUsed_mem (s : State) (bank n : Nat) : (setWarpUsed s bank n).mem = s.mem := by
  unfold setWarpUsed; split <;> rfl
@[simp] theorem setWarpUsed_allocs (s : State) (bank n : Nat) : (setWarpUsed s bank n).allocs = s.allocs := by
  unfold setWarpUsed; split <;> rfl
@[simp] theorem setWarpUsed_rtes (s : State) (bank n : Nat) : (setWarpUsed s bank n).rtes = s.rtes := by
  unfold setWarpUsed; split <;> rfl
@[simp] theorem setWarpUsed_lyrs (s : State) (bank n : Nat) : (setWarpUsed s bank n).lyrs = s.lyrs := by
  unfold setWarpUsed; split <;> rfl
@[simp] theorem setWarpUsed_sets (s : State) (bank n : Nat) : (setWarpUsed s bank n).sets = s.sets := by
  unfold setWarpUsed; split <;> rfl
@[simp] theorem setWarpUsed_nextSet (s : State) (bank n : Nat) : (setWarpUsed s bank n).nextSet = s.nextSet := by
  unfold setWarpUsed; split <;> rfl
@[simp] theorem setWarpUsed_fences (s : State) (bank n : Nat) : (setWarpUsed s bank n).fences = s.fences := by
  unfold setWarpUsed; split <;> rfl
@[simp] theorem setWarpUsed_signals (s : State) (bank n : Nat) : (setWarpUsed s bank n).signals = s.signals := by
  unfold setWarpUsed; split <;> rfl
@[simp] theorem setWarpUsed_signalTick (s : State) (bank n : Nat) : (setWarpUsed s bank n).signalTick = s.signalTick := by
  unfold setWarpUsed; split <;> rfl
@[simp] theorem setWarpUsed_vits (s : State) (bank n : Nat) : (setWarpUsed s bank n).vits = s.vits := by
  unfold setWarpUsed; split <;> rfl
@[simp] theorem setWarpUsed_slots (s : State) (bank n : Nat) : (setWarpUsed s bank n).slots = s.slots := by
  unfold setWarpUsed; split <;> rfl
@[simp] theorem setWarpUsed_meshes (s : State) (bank n : Nat) : (setWarpUsed s bank n).meshes = s.meshes := by
  unfold setWarpUsed; split <;> rfl
@[simp] theorem setWarpUsed_warp (s : State) (bank n : Nat) : (setWarpUsed s bank n).warp = s.warp := by
  unfold setWarpUsed; split <;> rfl
@[simp] theorem setWarpUsed_clrs (s : State) (bank n : Nat) : (setWarpUsed s bank n).clrs = s.clrs := by
  unfold setWarpUsed; split <;> rfl
@[simp] theorem setWarpUsed_scls (s : State) (bank n : Nat) : (setWarpUsed s bank n).scls = s.scls := by
  unfold setWarpUsed; split <;> rfl
@[simp] theorem setWarpUsed_dpss (s : State) (bank n : Nat) : (setWarpUsed s bank n).dpss = s.dpss := by
  unfold setWarpUsed; split <;> rfl
@[simp] theorem setWarpUsed_edps (s : State) (bank n : Nat) : (setWarpUsed s bank n).edps = s.edps := by
  unfold setWarpUsed; split <;> rfl
@[simp] theorem setWarpUsed_csis (s : State) (bank n : Nat) : (setWarpUsed s bank n).csis = s.csis := by
  unfold setWarpUsed; split <;> rfl
@[simp] theorem setWarpUsed_audio (s : State) (bank n : Nat) : (setWarpUsed s bank n).audio = s.audio := by
  unfold setWarpUsed; split <;> rfl
@[simp] theorem setWarpUsed_wingA (s : State) (bank n : Nat) : (setWarpUsed s bank n).wingA = s.wingA := by
  unfold setWarpUsed; split <;> rfl
@[simp] theorem setWarpUsed_wingB (s : State) (bank n : Nat) : (setWarpUsed s bank n).wingB = s.wingB := by
  unfold setWarpUsed; split <;> rfl
@[simp] theorem setWarpUsed_failover (s : State) (bank n : Nat) : (setWarpUsed s bank n).failover = s.failover := by
  unfold setWarpUsed; split <;> rfl
@[simp] theorem setWarpUsed_dispA (s : State) (bank n : Nat) : (setWarpUsed s bank n).dispA = s.dispA := by
  unfold setWarpUsed; split <;> rfl
@[simp] theorem setWarpUsed_dispB (s : State) (bank n : Nat) : (setWarpUsed s bank n).dispB = s.dispB := by
  unfold setWarpUsed; split <;> rfl
@[simp] theorem setWarpUsed_arbs (s : State) (bank n : Nat) : (setWarpUsed s bank n).arbs = s.arbs := by
  unfold setWarpUsed; split <;> rfl
@[simp] theorem setWarpUsed_thermal (s : State) (bank n : Nat) : (setWarpUsed s bank n).thermal = s.thermal := by
  unfold setWarpUsed; split <;> rfl
@[simp] theorem setWarpUsed_ledger (s : State) (bank n : Nat) : (setWarpUsed s bank n).ledger = s.ledger := by
  unfold setWarpUsed; split <;> rfl
@[simp] theorem setWarpUsed_bmx (s : State) (bank n : Nat) : (setWarpUsed s bank n).bmx = s.bmx := by
  unfold setWarpUsed; split <;> rfl
@[simp] theorem setWarpUsed_gpioIn (s : State) (bank n : Nat) : (setWarpUsed s bank n).gpioIn = s.gpioIn := by
  unfold setWarpUsed; split <;> rfl
@[simp] theorem setWarpUsed_freeCtr (s : State) (bank n : Nat) : (setWarpUsed s bank n).freeCtr = s.freeCtr := by
  unfold setWarpUsed; split <;> rfl

/-! ### What a read gives after an update -/

/-- The owner of an instance that was set. -/
theorem ownerOf_setOwner_same (s : State) (b c i : Nat) (p : Option Port) (h : twf (fun _ => none) s.owners = true) :
    ownerOf (setOwner s b c i p) b c i = p := tget_tput_same (fun _ => none) s.owners (ikey b c i) p h
/-- The owner of another instance. -/
theorem ownerOf_setOwner_other (s : State) (b c i b' c' i' : Nat) (p : Option Port) (h : ikey b' c' i' ≠ ikey b c i) :
    ownerOf (setOwner s b c i p) b' c' i' = ownerOf s b' c' i' := tget_tput_other none s.owners (ikey b c i) (ikey b' c' i') p h
/-- Another entry of the schedule table. -/
theorem entry_setEntry_other (s : State) (e e' : Nat) (x : Option SchedEntry) (h : e' ≠ e) : entry (setEntry s e x) e' = entry s e' :=
  tget_tput_other none s.tb.entries e e' x h
/-- The entry that was set. -/
theorem entry_setEntry_same (s : State) (e : Nat) (x : Option SchedEntry) (h : twf (fun _ => none) s.tb.entries = true) :
    entry (setEntry s e x) e = x := tget_tput_same (fun _ => none) s.tb.entries e x h
/-- Another output's record. -/
theorem out_setOut_other (s : State) (n m : Nat) (x : Out) (h : m ≠ n) : out (setOut s n x) m = out s m :=
  tget_tput_other ({} : Out) s.outs n m x h
/-- The output's record that was set. -/
theorem out_setOut_same (s : State) (n : Nat) (x : Out) (h : twf (fun _ => ({} : Out)) s.outs = true) : out (setOut s n x) n = x :=
  tget_tput_same (fun _ => ({} : Out)) s.outs n x h
/-- Another Prenlink port's record. -/
theorem plk_setPlk_other (s : State) (n m : Nat) (x : Plk) (h : m ≠ n) : plk (setPlk s n x) m = plk s m :=
  tget_tput_other ({} : Plk) s.plks n m x h
/-- The Prenlink port's record that was set. -/
theorem plk_setPlk_same (s : State) (n : Nat) (x : Plk) (h : twf (fun _ => ({} : Plk)) s.plks = true) : plk (setPlk s n x) n = x :=
  tget_tput_same (fun _ => ({} : Plk)) s.plks n x h

end Sys2Proof.Machine
end

