-- ==== Sys2Proof/Tests/Slice0.lean ====
section
/-! SUPPORT. Tests of the model on small states: the checks of well-formedness, a witness for the hypotheses of each statement, and single
steps whose results the spec gives. -/

namespace Sys2Proof.Tests
set_option Elab.async false
open Sys2Proof Machine

/-! ## Helpers -/

/-- Boot has raised event 0; nothing else has happened. -/
def up : State := { State.reset with boot := { State.reset.boot with phase := .done } }
/-- A plain packet of CP1. -/
def q : Req := { port := .cp1, tag := 1 }
/-- A scheduled one. -/
def later : Req := { q with sched := true, launch := 5#64 }
def u0 : UnitRef := { inst := 0#8, bank := 0#8 }
/-- Words of bank 0 in effect: class, instance, word, value. -/
def withWords (l : List (Nat × Nat × Nat × Word)) (s : State) : State := l.foldl (fun s x => setWord s 0 x.1 x.2.1 x.2.2.1 x.2.2.2) s
/-- The clock stands at n. -/
def after (n : Nat) (s : State) : State := { s with clk := n }
def inMode (m : Nat) (s : State) : State := { s with modes := { s.modes with cur := m } }
/-- Both Wings ready, 4 GiB behind each memory port, SYN[0] locked with a stored band, OUT[0] set to 1920 × 1080 at 60 Hz. -/
def ready : State :=
  let mp : MemPort := { gib := 4, trained := true }
  let s := { up with wingA := { up.wingA with role := 1 }, wingB := { up.wingB with role := 1 }, mem := [(0, mp), (1, mp), (2, mp), (3, mp)] }
  let s := setSyn s 0 { syn s 0 with locked := true, gated := false, bands := [(0, some ⟨1, 2, 2 * 0x02F80000, 0#32⟩)] }
  withWords [(0x12, 0, 1, 0#32), (0x12, 0, 3, 0x200#32), (0x12, 0, 4, 2200#32), (0x12, 0, 5, 1920#32),
    (0x12, 0, 6, BitVec.ofNat 32 (2008 * 65536 + 44)), (0x12, 0, 7, 1125#32), (0x12, 0, 8, 1080#32),
    (0x12, 0, 9, BitVec.ofNat 32 (1084 * 65536 + 5)), (0x04, 0, 0, 0x02F851EB#32), (0x04, 0, 2, 1#32)] s
/-- The same with OUT[0] running. -/
def shows : State := setOut ready 0 { out ready 0 with st := .running }
/-- PLK[0] in a state of Table 9-4, as the sink end (1) or the source end (0). -/
def linked (st role : Nat) : State := setPlk up 0 { plk up 0 with st := st, role := role, fwd := 0, bck := 0 }
/-- A long-running command of CP1 is in progress. -/
def runs (j : Job) : State := { up with runs := [{ req := q, opcode := 0#8, job := j }] }
/-- Vault slot 0 is valid. -/
def secret : State :=
  let r := makeRecord 0x80 ([0#8, 1#8, 0#8, 0#8] ++ List.replicate 4 0#8 ++ (List.range 32).map (fun i => BitVec.ofNat 8 (i + 1)) ++ List.replicate 12 0#8) 1 1
  { up with ledger := { up.ledger with bytes := (r.zipIdx.map fun (e : Byte × Nat) => (256 * 52 + e.2, e.1)).filter fun (e : Nat × Byte) => e.2 ≠ 0#8 } }
/-- A build of CP1 waits for its bytes. -/
def building : State := { up with modes := { up.modes with build := some { port := .cp1, kind := 2, mode := 1, total := 64, bytes := [] } } }
/-- A Vitrine image of one pixel. -/
def dot : List Byte := [0xA1#8, 0x56#8, 1#8, 0#8, 1#8, 0#8, 1#8, 0#8] ++ List.replicate 8 0#8 ++ [1#8, 2#8, 3#8, 4#8]
/-- An opcode row is taken. -/
def rowTaken (s : State) (c : Instr) : Bool := match reqOf c, opOf c with
  | some (_, q), some o => taken q o s
  | _, _ => false

/-! ## Ill-formed terms -/

theorem test_wf_launch_without_flag : (Instr.nop { q with launch := 1#64 }).wf = false := by decide
theorem test_wf_mac_without_flag : (Instr.nop { q with mac := [1#8] }).wf = false := by decide
theorem test_wf_flag_without_mac : (Instr.nop { q with auth := true }).wf = false := by decide
theorem test_wf_packet_on_cp2 : (Instr.writePacket .cp2 []).wf = false := by decide
theorem test_wf_placard_on_cp2 : (Instr.readPlacard .cp2 0).wf = false := by decide
theorem test_wf_status_on_cp2 : (Instr.readPortStatus .cp2 0).wf = false := by decide
theorem test_wf_unknown_port : (Instr.unknownTransaction .cp2 0x77#8).wf = false := by decide
theorem test_wf_known_code : (Instr.unknownTransaction .cp0 0x02#8).wf = false := by decide
theorem test_wf_block_write : (Instr.blockWrite q 0#24 0#8 (List.replicate 256 0#32)).wf = false := by decide +kernel
theorem test_wf_image_data : (Instr.imageData q 0#32 []).wf = false := by decide
theorem test_wf_group_flip : (Instr.groupFlip q 0#16 (List.replicate 256 ⟨u0, 0#64⟩)).wf = false := by decide +kernel
theorem test_wf_ref_rank : (Instr.refRank q (List.replicate 256 0#8)).wf = false := by decide +kernel
theorem test_wf_ramp_load : (Instr.synRampLoad q 0#8 (List.replicate 256 ⟨0#32, 0#32⟩)).wf = false := by decide +kernel
theorem test_wf_eye_scan : (Instr.eyeScanComplete 0 []).wf = false := by decide
theorem test_wf_xbar : (Instr.audXbar q false (List.replicate 512 ⟨0#16, 0#16, 0#16⟩)).wf = false := by decide +kernel
theorem test_wf_mesh_data : (Instr.meshData q u0 0#32 (List.replicate 1023 0#32)).wf = false := by decide +kernel
theorem test_wf_mesh_commit : (Instr.meshCommit q (List.replicate 256 u0)).wf = false := by decide +kernel
theorem test_wf_vit_data : (Instr.vitData q 0#8 0#32 (List.replicate 4089 0#8)).wf = false := by decide +kernel
theorem test_wf_ldg_write : (Instr.ldgWrite q 0#16 0#8 []).wf = false := by decide
theorem test_wf_secret : (Instr.vltSecretWrite q 0#8 []).wf = false := by decide
theorem test_wf_derive : (Instr.vltDerive q 0#8 []).wf = false := by decide
theorem test_wf_challenge : (Instr.vltChallenge q []).wf = false := by decide
theorem test_wf_ack : (Instr.evtAck q []).wf = false := by decide
theorem test_wf_gib : (Instr.memoryTrainingComplete 0 true 32).wf = false := by decide
theorem test_wf_message : (Instr.urgent 0 { seq := 0#8, ack := 0#8, data := List.replicate 257 0#8 }).wf = false := by decide +kernel
theorem test_wf_aux : (Instr.auxRequest 0 0 0 0 17 []).wf = false := by decide
theorem test_wf_csi : (Instr.csiLongPacket 0 0 0 false 64 0 true).wf = false := by decide
theorem test_wf_ok : (Instr.auxRequest 0 0 0 0 16 []).wf = true := by decide

/-! ## Witnesses: the opcode rows are taken -/

theorem witness_SystemAndReadCommandsComplete : [.nop q, .identify q, .owners q 8 0 2 0, .sysReset q 1 0x5E7A0C1D#32, .read q 0#24 0,
    .blockRead q 0#24 0 2].all (rowTaken up) = true := by decide +kernel
theorem witness_WritesComplete : [.write q (mkAddr 8 0 4) 0 1#32, .registerWrite q (mkAddr 0x25 0 20) 0 1#32, .w1cClear q (mkAddr 0x10 0 7) 0 0xF#32,
    .write q (mkAddr 0x26 0 8) 0 5#32, .registerWrite q (mkAddr 0x26 0 8) 0 5#32, .writeMasked q (mkAddr 0x25 0 20) 0 1#32 1#32,
    .writeMasked q (mkAddr 0x26 0 8) 0 1#32 1#32, .blockWrite q (mkAddr 0x25 0 20) 0 [1#32, 2#32], .blockWrite q (mkAddr 0x26 0 8) 0 [1#32],
    .w1cClear q (mkAddr 0x26 0 8) 0 5#32].all (rowTaken up) = true := by decide +kernel
/-- The two sides of the statement: a word outside PRS, and one of PRS. -/
theorem witness_WritesComplete_sides : prsItems (writeItems (mkAddr 8 0 4) 0 [(allOnes, 1#32)]) = []
    ∧ prsItems (writeItems (mkAddr 0x26 0 8) 0 [(allOnes, 5#32)]) ≠ [] := by decide +kernel
theorem witness_UnitWritesComplete : [.synEnWrite q 0 true, .synFreqWrite q 0 0x02F80000#32, .synDitherSeedWrite q 0 5#32, .synSpreadWrite q 0 1 4,
    .refConfigWrite q 0 0#32, .refRankWordWrite q false 0x76543210#32, .refRankWordWrite q true 0xFEDCBA98#32, .clrTblWinWrite q u0 0x80 0#32,
    .capModeWrite q u0 0#32, .evtCfgWrite q 5 1#32, .audTdmCfgWrite q 0 0x10#32, .audSrcInWrite q 0 0#32, .prsWrite q 8 1#32,
    .prsWrite q 200 0#32].all (rowTaken ready) = true ∧ prsWord 8 = true ∧ prsWord 200 = false := by decide +kernel
theorem witness_ModeAndImageCommandsComplete : rowTaken shows (.modeChange q 1 1 0) = true
    ∧ rowTaken { ready with modes := { ready.modes with state := 2, target := 1, pend := some { req := q, target := 1, trigger := .frame 0 } } } (.modeCancel q) = true
    ∧ rowTaken up (.imageOpen q 2 1 64#32) = true ∧ rowTaken building (.imageData q 0#32 [1#8]) = true ∧ rowTaken building (.imageClose q 2) = true
    ∧ rowTaken up (.imageStatus q) = true := by decide +kernel
theorem witness_DisplayAndUnitCommandsComplete : [.routeSwitch q u0 0 u0, .flip q u0 0xFFFF#16 4096#64, .groupFlip q 0xFFFF#16 [⟨u0, 4096#64⟩],
    .fenceSignal q 3#16, .outputStart q 0 0, .outputStop q 0 true, .outputAssign q 0 1, .captureStart q u0, .captureStop q u0 true].all
      (rowTaken ready) = true ∧ rowTaken shows (.outputAssign q 0 1) = true := by decide +kernel
theorem witness_TimeAndReferenceCommandsComplete : [.tbRead q, .tbSet q 5#64 0#16, .schedList q 0 3, .refRank q [1#8, 2#8]].all (rowTaken up) = true
    ∧ rowTaken (setEntry up 0 (some { launch := 100#64, cmd := .nop later, seq := 0 })) (.schedCancel q 0#16 1) = true
    ∧ rowTaken (linked 8 1) (.trigger q 0 0 0#32) = true
    ∧ rowTaken (setCand up 0 { cand up 0 with qualified := true }) (.refSelect q 0) = true
    ∧ rowTaken (withWords [(3, 24, 0, 0x100#32)] up) (.fsyncRealign q 1) = true := by decide +kernel
theorem witness_SynthesizerAndLinkCommandsComplete : [.synHop q 0 0 0x02F80000#32, .synBandStore q 0 0, .synRampLoad q 0 [⟨1#32, 1000#32⟩]].all
      (rowTaken ready) = true
    ∧ rowTaken (setSyn ready 0 { syn ready 0 with profile := [⟨1#32, 1000#32⟩] }) (.synRampStart q 0) = true
    ∧ [.linkUp q 0 0 1 0, .linkDown q 0 true, .linkStatus q 0].all (rowTaken up) = true
    ∧ [.linkPower q 0 0 1, .eyeScan q 0 0 1].all (rowTaken (linked 8 1)) = true ∧ rowTaken (inMode 6 up) (.linkLoop q 0 1 0) = true := by
  decide +kernel
theorem witness_AudioMeshVitrineCommandsComplete : [.audXbar q false [⟨0#16, 0#16, 0x1000#16⟩], .meshCommit q [u0], .vitData q 0 0#32 []].all
      (rowTaken up) = true
    ∧ rowTaken (withWords [(0x16, 0, 2, 0x3003#32)] ready) (.meshData q u0 0#32 [1#32]) = true
    ∧ (let s := withWords [(0x16, 0, 2, 0x3003#32)] ready
       rowTaken (setCap s 0 { capAt s 0 with fmt := 0x0A }) (.meshFromCapture q u0 u0 0#32 1#32 false false)) = true
    ∧ rowTaken (setSlot up 0 { slot up 0 with staging := dot }) (.vitCommit q 0 20#32 (crc32c dot)) = true := by decide +kernel
theorem witness_LedgerAndVaultCommandsComplete : [.ldgRead q 892#16 0 4#16, .ldgWrite q 892#16 8 [1#8], .ldgWear q 0#16 2#16,
      .vltSecretWrite q 0 (List.replicate 32 1#8), .vltInvalidate q 0, .vltStatus q].all (rowTaken up) = true
    ∧ rowTaken (inMode 6 up) (.ldgMaint q 2 0 900#16) = true ∧ rowTaken secret (.vltDerive q 0 (List.replicate 16 1#8)) = true
    ∧ rowTaken { up with vault := { up.vault with key := some (List.replicate 32 7#8) } } (.vltChallenge q (List.replicate 16 1#8)) = true := by
  decide +kernel
theorem witness_HealthCommandsComplete : [.faultLogRead q 0#16 2#16, .healthReport q 0, .evtRead q 1, .evtAck q (List.replicate 32 255#8)].all
      (rowTaken up) = true
    ∧ [.thmMeasure q 1#16, .selftest q 2 0 0#16].all (rowTaken ready) = true
    ∧ rowTaken (runs (.selftest 4 2 0)) (.selftestAbort q 2) = true
    ∧ rowTaken (inMode 2 (setWing ready .b { wing ready .b with role := 3, armed := true })) (.failoverForce q) = true := by decide +kernel

/-! ## Witnesses: the happenings -/

/-- CP2 has one byte of a packet. -/
def halfPacket : State := setPort up .cp2 { up.ports.cp2 with rx := [1#8] }
/-- The port of CP2 has been FAILED for 1 s. -/
def failedCp2 : State := after 1000000000 (withWords [(0x26, 0, 1, 1#32)] (linked 11 0))
theorem witness_TransactionsComplete : hasTransactions .cp1 = true ∧ hasTransactions .cp2 = false ∧ listening up .cp1 = true
    ∧ listening up .cp3 = true ∧ listening (withWords [(0, 0, 0x10, 0#32)] up) .cp3 = false ∧ [0x02#8, 0x0B#8, 0x05#8].contains 0x77#8 = false
    ∧ up.ports.cp2.rx = [] ∧ halfPacket.ports.cp2.rx ≠ [] ∧ halfPacket.clk < halfPacket.ports.cp2RxAt + 10000000
    ∧ (after 10000000 halfPacket).ports.cp2RxAt + 10000000 ≤ (after 10000000 halfPacket).clk ∧ halfPacket.boot.phase ≠ .noImage
    ∧ halfPacket.ports.cp2.rx.length < 8 ∧ cp2Port up = none ∧ cp2Port failedCp2 = some 0 ∧ (plk failedCp2 0).st = 11
    ∧ (plk failedCp2 0).since + 1000000000 ≤ failedCp2.clk := by decide +kernel
/-- Candidate 0 as a frame reference, and as a clock of 10 MHz that has been there for a minute and more. -/
def frameRef : State := withWords [(3, 0, 0, 3#32)] up
def clockRef : State := after 70000000000 (withWords [(3, 0, 0, 1#32)] (setCand up 0 { cand up 0 with present := true, nominal := (10000000, 1) }))
theorem witness_ReferenceHappeningsComplete : frameMonitor up 0 = false ∧ clockMonitor up 0 = false ∧ candAbsent up 0 = false ∧ candAbsent up 5 = true
    ∧ frameMonitor frameRef 0 = true ∧ (cand frameRef 0).present = false
    ∧ (cand (setCand frameRef 0 { cand frameRef 0 with present := true }) 0).present = true ∧ clockMonitor clockRef 0 = true
    ∧ candAbsent clockRef 0 = false ∧ refEnabled clockRef 0 = true ∧ classAllowed clockRef 0 = true ∧ candPresent clockRef 0 = true
    ∧ (cand clockRef 0).qualified = false ∧ (cand clockRef 0).outside = false ∧ (cand clockRef 0).nominal.1 ≠ 0
    ∧ (cand clockRef 0).since + bits (refWord clockRef 0 2) 31 16 * 1000000 ≤ clockRef.clk ∧ isFrameRef frameRef 0 = true
    ∧ bits (refWord frameRef 0 2) 15 0 ≤ (cand (setCand frameRef 0 { cand frameRef 0 with good := 65535 }) 0).good := by decide +kernel
def dpllIs (d : Dpll) : State := after 10000000000 { up with dpll := d }
/-- FSYNC output 0 is aligned at this instant on candidate 0, and output 1 has been high for a second. -/
def pulses : State := after 1000000000 { withWords [(3, 0, 0, 3#32), (3, 24, 0, 0#32)] (setCand up 0 { cand up 0 with everQualified := true }) with
  fsyncs := [(0, { running := true, aligned := 1000000000 }), (1, { high := true })] }
def counts : State := after 1000000000 { up with tb := { up.tb with running := true, ns := 1000000000#64, pps := true } }
theorem witness_ReferenceHappeningsComplete_dpll : up.dpll.active = none
    ∧ (dpllIs { up.dpll with active := some 1, measure := true }).dpll.active = some 1
    ∧ (dpllIs { up.dpll with active := some 1, measure := true }).dpll.measure = true
    ∧ (dpllIs { up.dpll with active := some 1 }).dpll.measure = false ∧ (dpllIs { up.dpll with state := 2 }).dpll.state = 2
    ∧ (dpllIs { up.dpll with state := 2 }).dpll.since + 100000000 ≤ (dpllIs { up.dpll with state := 2 }).clk ∧ up.dpll.state ≠ 2
    ∧ (dpllIs { up.dpll with state := 1 }).dpll.state = 1
    ∧ (dpllIs { up.dpll with state := 1 }).dpll.since + 10000000000 ≤ (dpllIs { up.dpll with state := 1 }).clk ∧ up.dpll.state ≠ 1
    ∧ fsyncRises pulses 0 = true ∧ (fsync pulses 1).high = true ∧ (fsync pulses 1).rose + 4096 ≤ pulses.clk ∧ counts.tb.running = true
    ∧ counts.tb.ns.toNat % 1000000000 = 0 ∧ counts.tb.pps = true ∧ counts.tb.ppsRose + 4096 ≤ counts.clk := by decide +kernel
def syn0 (x : Syn) : State := after 400000 (setSyn up 0 x)
/-- SYN[0] in a ramp of one segment, at segment k; SYN[0] in a task. -/
def ramps (k : Nat) : State := syn0 { syn up 0 with ramping := true, ramp := [⟨1#32, 1000#32⟩], segIdx := k }
def does (t : SynTask) : State := syn0 { syn up 0 with task := t, bands := [(3, some ⟨1, 2, 3, 0#32⟩)] }
theorem witness_SynthesizerHappeningsComplete : takeRun (fun r => match r.job with | .bandStore k _ => decide (k = 0) | _ => false) up.runs = none
    ∧ (takeRun (fun r => match r.job with | .bandStore k _ => decide (k = 0) | _ => false) (runs (.bandStore 0 3)).runs).map (·.1.job) = some (.bandStore 0 3)
    ∧ (syn (syn0 { syn up 0 with storing := some (3, ⟨1, 2, 3, 0#32⟩) }) 0).storing.isSome = true ∧ (syn up 0).ramping = false
    ∧ (syn (ramps 0) 0).ramping = true ∧ (syn (ramps 0) 0).rampAt + 1000 ≤ (ramps 0).clk
    ∧ (syn (ramps 0) 0).ramp[(syn (ramps 0) 0).segIdx]? = some ⟨1#32, 1000#32⟩ ∧ (syn (ramps 1) 0).ramp[(syn (ramps 1) 0).segIdx]? = none
    ∧ (syn (does (.hop 3)) 0).task = .hop 3 ∧ (syn (does (.hop 3)) 0).locked = false ∧ (syn (does (.hop 3)) 0).since + 20000 ≤ (does (.hop 3)).clk
    ∧ searching (syn (does .relock) 0) = true ∧ (∀ m : Fin 8, (syn (does .relock) 0).task ≠ .hop m)
    ∧ (syn (does .relock) 0).searchAt + 400000 ≤ (does .relock).clk ∧ searching (syn up 0) = false
    ∧ searching (syn (setSyn up 11 { syn up 11 with task := .start }) 11) = true ∧ searching (syn (does (.hop 3)) 0) = true
    ∧ tget none (syn (does (.hop 3)) 0).bands 3 = some ⟨1, 2, 3, 0#32⟩ ∧ (syn (does (.fallback 3)) 0).task = .fallback 3
    ∧ searching (syn (does (.fallback 3)) 0) = true ∧ (syn (does .start) 0).task = .start ∧ (syn (does .retune) 0).task = .retune
    ∧ (syn (syn0 { syn up 0 with holding := true, locked := true }) 0).holding = true
    ∧ (syn (syn0 { syn up 0 with holding := true, locked := true }) 0).lockedAt + 100000 ≤ (syn0 { syn up 0 with holding := true, locked := true }).clk
    ∧ (syn up 0).holding = false := by decide +kernel
theorem witness_CoreClocksComplete : up.clocks.lostA = false ∧ up.clocks.lostB = false ∧ up.clocks.reserve = false ∧ up.boot.phase ≠ .held
    ∧ up.boot.phase ≠ .noSupply ∧ State.reset.boot.phase = .held ∧ ({ up with clocks := ⟨true, true, true⟩ } : State).clocks = ⟨true, true, true⟩
  := by decide +kernel
/-- PLK[0] as a source end has stood in a state for 2 s, with its lane locked. -/
def stands (st : Nat) : State := after 2000000000 (setPlk (linked st 0) 0 { plk (linked st 0) 0 with lanes := { back := true } })
theorem witness_LinkBringUpComplete : (plk (linked 2 0) 0).st ≠ 0 ∧ (plk (linked 2 0) 0).st ≠ 8 ∧ (plk (linked 2 0) 0).st ≠ 12 ∧ eventState 8 = true
    ∧ (plk (stands 1) 0).st = 1 ∧ (plk (stands 2) 0).st = 2 ∧ (plk (stands 3) 0).st = 3 ∧ (plk (stands 4) 0).st = 4 ∧ (plk (stands 5) 0).st = 5
    ∧ (plk (stands 6) 0).st = 6 ∧ (plk (stands 7) 0).st = 7 ∧ (plk (stands 9) 0).st = 9 ∧ (plk (stands 10) 0).st = 10 ∧ (plk (stands 12) 0).st = 12
    ∧ (plk (stands 2) 0).since + 20000000 ≤ (stands 2).clk ∧ (plk (stands 10) 0).attempts < 8
    ∧ (plk (stands 10) 0).since + 1000000000 ≤ (stands 10).clk ∧ (plk (stands 3) 0).capAcked = false
    ∧ (plk (stands 12) 0).since + (plk (stands 12) 0).drainBound ≤ (stands 12).clk
    ∧ ¬ ((plk (stands 10) 0).role = 0 ∧ (syn (stands 10) 10).gated = true) ∧ ownLocked (plk (stands 5) 0) = true
    ∧ ownLocked (plk (linked 9 0) 0) = false ∧ (plk (linked 8 0) 0).st = 8 ∧ powerOf (plk (linked 8 0) 0) (rxDir (plk (linked 8 0) 0)) = 0
    ∧ (plk (after 1000000 (linked 8 0)) 0).lastRx + 1000000 ≤ (after 1000000 (linked 8 0)).clk ∧ laneLocked (plk (linked 2 0) 0) 2 = false
    ∧ lockLane (plk (linked 2 0) 0) 2 true ≠ plk (linked 2 0) 0 ∧ laneLocked (plk (stands 5) 0) 2 = true ∧ laneLocked (plk (linked 2 0) 0) 0 = false
    ∧ (plk (stands 6) 0).checkAt + 1000000 ≤ (stands 6).clk ∧ (linked 6 0).clk < (plk (linked 6 0) 0).checkAt + 1000000
    ∧ checkPassed (plk (stands 6) 0) 0 = true ∧ checkPassed (plk (after 1000000 (linked 6 0)) 0) 0 = false
    ∧ (plk (setPlk up 0 { plk up 0 with st := 6, ownOk := true, farOk := true }) 0).ownOk = true := by decide +kernel
def plk0 (x : Plk) : State := after 1000000 (setPlk up 0 x)
/-- A sink end in RUNNING with the code in use: lane 1 framed, lane 0 after one MARKER. -/
def coded : State := plk0 { plk (linked 8 1) 0 with rs := true, lanes := { d0 := true, d1 := true }, rx0 := { count := some 5#32 }, rx1 := { framed := true } }
def acks : State := plk0 { plk (stands 5) 0 with ackDue := true }
/-- A message sent so often, 1 ms ago; and a trigger that waits at a sink end. -/
def resends (n : Nat) : State := plk0 { plk (linked 8 0) 0 with unacked := [{ sub := 1#8, data := [], sends := n }] }
def triggers : State := plk0 { plk (linked 8 1) 0 with triggers := [⟨0, 0#32, 0#64, 0, some 100⟩] }
/-- A capability block from the other end. -/
def block : List Byte := plkPacket 0x16 0 0 ([1#8, 0x20#8] ++ List.replicate 62 0#8)
/-- The next control message, with a first byte of data. -/
def msg (b : Byte) : Ctl := { seq := 0#8, ack := 0#8, data := [b, 0#8, 5#8, 6#8, 7#8] }
theorem witness_LinkMessagesComplete : takesCtl (plk up 0) = false ∧ takesCtl (plk (stands 3) 0) = true ∧ openPacket [] 0x16 64 false = none
    ∧ (openPacket block 0x16 64 false).isSome = true ∧ (receiveCtl (stands 5) 0 (msg 3)).1 = true ∧ (plk (receiveCtl (stands 5) 0 (msg 3)).2 0).st = 5
    ∧ (plk (receiveCtl (stands 5) 0 (msg 1)).2 0).role = 0 ∧ (receiveCtl up 0 (msg 3)).1 = false
    ∧ [1#8, 2#8, 3#8, 4#8, 5#8, 6#8].map (fun b => byteAt (msg b).data 0) = [1, 2, 3, 4, 5, 6] ∧ (receiveCtl (stands 3) 0 (msg 6)).1 = true
    ∧ (plk (receiveCtl (stands 3) 0 (msg 6)).2 0).st = 3 ∧ (plk (receiveCtl (stands 8) 0 (msg 4)).2 0).st = 8 ∧ (plk (linked 8 0) 0).st = 8
    ∧ powerOf (plk (linked 8 0) 0) (txDir (plk (linked 8 0) 0)) = 0 ∧ nearLoop (plk (plk0 { plk up 0 with st := 13, loop := 1 }) 0) = true
    ∧ (openPacket (plkPacket 0x17 0 0 (List.replicate 8 0#8)) 0x17 8 false).isSome = true ∧ codeReceived (plk (linked 8 1) 0) = false
    ∧ codeReceived (plk coded 0) = true ∧ (plk coded 0).lanes.d0 = true ∧ (plk coded 0).lanes.d1 = true ∧ (plk coded 0).rx0.framed = false
    ∧ (plk coded 0).rx0.count = some (6#32 - 1) ∧ (plk coded 0).rx1.framed = true ∧ (plk acks 0).ackDue = true ∧ takesCtl (plk acks 0) = true
    ∧ (plk acks 0).ackAt + 20000 ≤ acks.clk ∧ (plk (resends 1) 0).unacked = [{ sub := 1#8, data := [], sends := 1 }] ∧ 0 + 200000 ≤ (resends 1).clk
    ∧ powerOf (plk (resends 8) 0) (txDir (plk (resends 8) 0)) = 0 ∧ (plk triggers 0).triggers = [⟨0, 0#32, 0#64, 0, some 100⟩]
    ∧ (plk triggers 0).st = 8 ∧ (plk triggers 0).bck = 0 ∧ windowOpen (plk triggers 0) = true := by decide +kernel
theorem leAt_wordBytes (w : Word) : leAt (wordBytes w) 0 4 = w.toNat := by
  have := w.isLt
  simp [leAt, slice, wordBytes, leBytes, leNat]
  omega
/-- An acknowledgement may carry the CRC of the port's own block. -/
theorem ack_exists (s : State) (n : Nat) (c : Ctl) (h : (receiveCtl s n c).1 = true ∧ (plk (receiveCtl s n c).2 n).st = 3) :
    ∃ m, (receiveCtl s n m).1 = true ∧ (plk (receiveCtl s n m).2 n).st = 3
      ∧ leAt m.data 0 4 = (crc32c (ownCapability (receiveCtl s n m).2 n)).toNat :=
  ⟨{ c with data := wordBytes (crc32c (ownCapability (receiveCtl s n c).2 n)) }, h.1, h.2, leAt_wordBytes _⟩
theorem witness_LinkMessagesComplete_ack : ∃ m, (receiveCtl (stands 3) 0 m).1 = true ∧ (plk (receiveCtl (stands 3) 0 m).2 0).st = 3
    ∧ leAt m.data 0 4 = (crc32c (ownCapability (receiveCtl (stands 3) 0 m).2 0)).toNat :=
  ack_exists _ _ (msg 3) (by decide +kernel)
theorem witness_LinkPowerHappeningsComplete : (receiveCtl (stands 8) 0 (msg 0)).1 = true ∧ (plk (receiveCtl (stands 8) 0 (msg 0)).2 0).st = 8
    ∧ transmits (plk (stands 8) 0) 0 = true ∧ transmits (plk (stands 8) 0) 1 = false ∧ (plk (plk0 { plk (linked 8 0) 0 with bck := 2 }) 0).st = 8
    ∧ powerOf (plk (plk0 { plk (linked 8 0) 0 with bck := 2 }) 0) 1 = 2 ∧ (plk up 0).st ≠ 8
    ∧ (plk (plk0 { plk (linked 8 0) 0 with request := some (1, 0, 0) }) 0).request = some (1, 0, 0) ∧ 0 + 1000000 ≤ (plk0 (plk (linked 8 0) 0)).clk
    ∧ wakeOf (plk (plk0 { plk (linked 8 0) 0 with wakeBck := some 0 }) 0) (rxDir (plk (linked 8 0) 0)) = some 0
    ∧ txIdle (plk (plk0 (plk (linked 8 0) 0)) 0) = true ∧ (plk (plk0 (plk (linked 8 0) 0)) 0).idleAt + 1000000 ≤ (plk0 (plk (linked 8 0) 0)).clk
    ∧ txIdle (plk (resends 1) 0) = false := by decide +kernel
/-- A sink end in RUNNING with both lanes locked. -/
def hearing : State := plk0 { plk (linked 8 1) 0 with lanes := { d0 := true, d1 := true } }
/-- CP2's port has sent the last message of a Placard. -/
def sends : State := withWords [(0x26, 0, 1, 1#32)] (plk0 { plk (linked 8 0) 0 with unacked := [{ sub := 6#8, data := [], cp2 := true }] })
/-- A VIDEO_LINE of two pixels of one byte, a TILE, an AUDIO and a FENCE packet. -/
def line2 : List Byte := plkPacket 0x11 0 7 (leBytes 6 0 ++ leBytes 2 2 ++ [6#8, 0#8, 0#8, 0#8] ++ [1#8, 2#8])
def tile0 : List Byte := plkPacket 0x12 0 7 (List.replicate 16 0#8)
def audio1 : List Byte := plkPacket 0x13 0 0 (List.replicate 8 0#8 ++ [1#8, 0#8] ++ leBytes 2 1 ++ [1#8, 2#8, 3#8, 4#8])
def fence3 : List Byte := plkPacket 0x14 0 0 ([0#8, 1#8, 0#8, 0#8] ++ leBytes 2 3 ++ [0#8, 0#8])
theorem witness_LinkDataComplete : takesData (plk up 0) = false ∧ takesData (plk hearing 0) = true ∧ openHeader line2 0x11 8192 true = some (0, 7, 14)
    ∧ (openPacket line2 0x11 8192 true).isSome = true ∧ pixelBytes 6 2 = some 2 ∧ openHeader (line2.take 15) 0x11 8192 true = some (0, 7, 14)
    ∧ openPacket (line2.take 15) 0x11 8192 true = none ∧ openHeader tile0 0x12 2048 true = some (0, 7, 16)
    ∧ (openPacket tile0 0x12 2048 true).isSome = true ∧ (openPacket audio1 0x13 4108 false).map (fun x => x.2.length) = some 16
    ∧ (openPacket fence3 0x14 8 false).isSome = true ∧ (plk (linked 8 0) 0).role ≠ 1 ∧ (plk (linked 8 1) 0).role = 1 ∧ cp2Port up ≠ some 0
    ∧ cp2Port sends = some 0 ∧ (plk sends 0).unacked.find? (fun x => x.cp2 && x.frag.getLsbD 1) = some { sub := 6#8, data := [], cp2 := true }
    ∧ up.ports.cp2.rx = [] ∧ 58 ≤ (List.replicate 60 true).length ∧ ([(1, [true]), (2, [])] : List (Nat × List Bool)).Pairwise (fun x y => x.1 ≤ y.1)
  := by decide +kernel
/-- DPS[0] with HPD high, MST on, its link trained and a stream known. -/
def trainedDp : State :=
  withWords [(0x09, 0, 0, 0x30#32)] (setDps up 0 { dps up 0 with hpd := true, trained := true, msa := [(0, some (0x10, 64, 32, 0))] })
theorem witness_DisplayPortComplete : (dps up 0).hpd = false ∧ (dps trainedDp 0).hpd = true ∧ bit (dpsCfg trainedDp 0) 4 = true
    ∧ bit (dpsCfg up 0) 4 = false ∧ (0 : Nat) ≤ bits (dpsCfg trainedDp 0) 2 0 ∧ bits (dpsCfg (withWords [(9, 0, 0, 0x30#32)] up) 0) 2 0 < 6
    ∧ (dps up 0).trained = false ∧ (dps trainedDp 0).trained = true ∧ tget none (dps trainedDp 0).msa 0 = some (0x10, 64, 32, 0)
    ∧ tget none (dps trainedDp 0).msa 1 = none ∧ slice [0#8, 0xC1#8, 0xB2#8, 0x7A#8, 5#8, 0#8] 1 3 = [0xC1#8, 0xB2#8, 0x7A#8]
    ∧ leAt [0#8, 0xC1#8, 0xB2#8, 0x7A#8, 5#8, 0#8] 4 2 < 1024 ∧ 1024 ≤ leAt [0#8, 0xC1#8, 0xB2#8, 0x7A#8, 0#8, 4#8] 4 2 := by decide +kernel
theorem witness_PanelAndCameraPortsComplete : (edp (setEdp up 0 { edp up 0 with st := 1 }) 0).st = 1
    ∧ (edp (setEdp up 0 { edp up 0 with st := 2 }) 0).st = 2 ∧ (edp (setEdp up 0 { edp up 0 with st := 3 }) 0).st = 3 ∧ (edp up 0).st = 0
    ∧ portOff up 3 0 = false ∧ portOff (inMode 5 up) 3 0 = true ∧ csiHeader up 0 2 = none ∧ (csiHeader up 0 0).isSome = true
    ∧ imageType 0x2A = some (0x24, 8)
    ∧ (let s := setCsi up 0 { csi up 0 with busy := 1#4 }; (csi ((csiHeader s 0 0).getD s) 0).busy.getLsbD 0 = true ∧ tget 0 (csi ((csiHeader s 0 0).getD s) 0).dtype 0 = 0)
  := by decide +kernel
/-- CAP[0] in a state, its period over; and a switch of RTE[3] that OUT[0] has waited 500 ms for. -/
def pipe (st : Nat) : State := after 400000000 (setCap up 0 { capAt up 0 with st := st, period := 16000000 })
def waits : State := after 500000000 (setRte (withWords [(0x13, 1, 1, 0x80000000#32), (0x13, 1, 2, 0x301#32)] shows) 0 3 0 { rte shows 0 3 0 with st := 2 })
theorem witness_CaptureAndRouteHappeningsComplete : (capAt (pipe 2) 0).st = 2
    ∧ (capAt (pipe 2) 0).pulseAt + min (2 * (capAt (pipe 2) 0).period) 400000000 ≤ (pipe 2).clk
    ∧ up.clk < (capAt (setCap up 0 { capAt up 0 with period := 1 }) 0).pulseAt + min (2 * (capAt (setCap up 0 { capAt up 0 with period := 1 }) 0).period) 400000000
    ∧ (capAt (pipe 6) 0).st = 6 ∧ (capAt (pipe 2) 0).st ≠ 6 ∧ outRuns waits 0 = true ∧ (rteReaders waits 0 3).contains 0 = true
    ∧ (rte waits 0 3 0).st = 2 ∧ (rte waits 0 3 0).since + 500000000 ≤ waits.clk ∧ (rte up 0 3 0).st ≠ 2
    ∧ (out (setOut up 0 { out up 0 with lockAt := some 0 }) 0).lockAt = some 0 ∧ (out up 0).lockAt = none := by decide +kernel
/-- SYN8 runs, and a boundary has come that no one was told of. -/
def sounds : State := after 2000 (withWords [(4, 8, 2, 1#32)] (setSyn { up with audio := { up.audio with clock8 := { on := true, at_ := 1500, n := 1, last := [(0, 1500)] } } } 8
  { syn up 8 with locked := true, gated := false }))
def port0 (t : Tdm) : State := setTdm sounds 0 t
theorem witness_AudioHappeningsComplete : up.audio.changes = [] ∧ boundarySince sounds 8 0 1000 = true
    ∧ tdmStarts (port0 { tdm up 0 with starting := true }) 0 = true ∧ tdmStarts (port0 { tdm up 0 with halted := true }) 0 = true
    ∧ tdmStarts up 0 = false ∧ tdmStops (port0 { tdm up 0 with running := true, stopping := true }) 0 = true ∧ tdmStops up 0 = false
    ∧ (conv up 0).mode = 0 ∧ (conv (setConv up 0 { conv up 0 with mode := 1 }) 0).mode ≠ 0
    ∧ (conv (setConv up 0 { conv up 0 with mode := 1, locked := true }) 0).locked = true
    ∧ (conv (setConv up 0 { conv up 0 with mode := 1 }) 0).ratioAt = none ∧ 6 * (0 : Nat) < 16777216
    ∧ ¬ (6 * 16777216 < 16777216 ∨ 67108864 < 16777216) ∧ boundaryUntold sounds 8 0 = true ∧ boundaryUntold up 8 0 = false
    ∧ (∀ e ∈ [({ dst := 0#16, src := 0#16, gain := 0#16 } : XbarEntry)], onSyn9 (laneView sounds) e.dst.toNat = false) := by decide +kernel
/-- OUT[0] at the end of its last active line; OUT[0] ready to start; and a job of OUT[0] on an engine, late. -/
def scans : State := after 1000000 (setOut shows 0 { out shows 0 with line := 1079 })
def starts : State := setOut ready 0 { out ready 0 with st := .starting }
def works : State := after 1000000000 { shows with dispA := { frames := [{ out := 0 }], engines := [(7, { job := some { out := 0, row := 0 } })] } }
theorem witness_CompositionHappeningsComplete : ([{ out := 0, row := 0 }, { out := 1, row := 0, rank := 2 }] : List EJob) ≠ []
    ∧ (out scans 0).st ≠ .starting ∧ commitDue scans 0 = true ∧ commitDue shows 0 = false ∧ (out scans 0).st = .running ∧ startNow starts 0 = some 0
    ∧ (out (frameTrigger starts 0) 0).st = .starting ∧ startNow up 0 = none
    ∧ boundaryDue (setOut shows 0 { out shows 0 with atLine := true, line := 5 }) 0 = some 5 ∧ enginesOf works .a 0 0 0 = [7]
    ∧ enginesOf up .a 0 0 0 = [] ∧ timingRuns (out works 0) = true ∧ composes works .a 0 = true ∧ jobLate works .a 0 0 0 = true
    ∧ jobLate up .a 0 0 0 = false ∧ lineLocked works 0 = false ∧ lineLocked (withWords [(0x12, 0, 1, 0x10000#32)] (inMode 3 works)) 0 = true
    ∧ rowDue works .a 0 0 = true ∧ rowDue up .a 0 0 = false ∧ recompDue works .a 0 0 = true
    ∧ (out (setOut works 0 { out works 0 with recomposing := [tileKey .a 0 0] }) 0).recomposing.contains (tileKey .a 0 0) = true := by decide +kernel
/-- Wing B is being re-admitted; the Curator boots with rail A valid. -/
def backIn (n : Nat) : State := after 1000000000 (setWing up .b { wing up .b with readmit := true, step := n })
def boots : State := { State.reset with boot := { State.reset.boot with phase := .curator, railA := true } }
theorem witness_InterconnectAndMemoryHappeningsComplete : canWait up 2 0 1 = true ∧ canWait up 2 0 15 = false ∧ (tget {} ready.mem 0).trained = true
    ∧ (tget {} ready.mem 0).asleep = false ∧ (tget {} ready.mem 0).mr4 ≠ 3 ∧ (tget {} up.mem 0).trained = false ∧ bootReadies boots .a = true
    ∧ boots.boot.phase = .curator ∧ (tget {} boots.mem 0).trained = false ∧ (wing boots .a).heldOut = false ∧ (wing up .a).waking = false
    ∧ (wing up .a).step ≠ 2 ∧ (wing (backIn 2) .b).step = 2 := by decide +kernel
/-- A mode change has waited 1 s for Wing B. -/
def wakes : State := after 1000000000 { up with modes := { up.modes with pend := some { req := q, target := 1, trigger := .atOnce, wake := some (.b, false), waitedAt := some 0 } } }
theorem witness_WingHappeningsComplete : (wing (setWing up .a { wing up .a with asserted := some 3 }) .a).asserted = some 3
    ∧ (wing up .a).asserted = none ∧ ({ up with failover := some ⟨.a, 3, 0⟩ } : State).failover = some ⟨.a, 3, 0⟩ ∧ up.failover = none
    ∧ (wing (backIn 1) .b).readmit = true ∧ (wing (backIn 1) .b).step = 1
    ∧ max (wing (backIn 1) .b).gAt (wing (backIn 1) .b).badAt + 10000000 ≤ (backIn 1).clk ∧ clockLost (backIn 1) .b = false
    ∧ (wing (backIn 1) .b).gAt + 1000000000 ≤ (backIn 1).clk ∧ (wing up .b).readmit = false ∧ (wing (backIn 3) .b).step = 3
    ∧ (wing (backIn 3) .b).supplyBad = false ∧ wakes.modes.pend.bind (·.wake) = some (.b, false) ∧ (wakes.modes.pend.bind (·.waitedAt)).isSome = true
    ∧ (wing wakes .b).supplyBad = false ∧ wakeLate wakes .b = true ∧ up.modes.pend.bind (·.wake) ≠ some (.b, false) ∧ memReady ready .a = true
    ∧ (wing boots .a).ready = false ∧ (wing boots .a).readmit = false ∧ wakeLate (after 20000000 boots) .a = false
    ∧ bootLate (after 20000000 boots) = true := by decide +kernel
theorem witness_CuratorPairsComplete : up.boot.phase = .done ∧ (pairOf up true).held = false ∧ (pairOf up true).restarting = false
    ∧ (pairOf (setPair up true { restarting := true }) true).restarting = true ∧ up.thermal.shut ≠ 1
    ∧ ({ up with thermal := { up.thermal with shut := 1 } } : State).thermal.shut = 1 := by decide +kernel
theorem witness_ResetsComplete : ({ up with boot := { up.boot with armed := some 5 } } : State).boot.armed = some 5 ∧ 5 ≤ (after 5 up).clk
    ∧ up.clk < 5 ∧ up.boot.armed = none ∧ (after 1000000000 boots).boot.curatorAt + 1000000000 ≤ (after 1000000000 boots).clk
    ∧ boots.clk < boots.boot.curatorAt + 1000000000 := by decide +kernel
def loads (p : BootPhase) : State := after 1000000000 { State.reset with boot := { State.reset.boot with phase := p } }
theorem witness_BootHappeningsComplete : State.reset.boot.phase = .held ∧ State.reset.thermal.tripped = false ∧ State.reset.boot.warm = false
    ∧ (loads .rom).boot.phase = .rom ∧ up.boot.phase ≠ .rom ∧ (loads .noImage).boot.phase = .noImage
    ∧ (loads .noImage).boot.loadedAt + 1000000000 ≤ (loads .noImage).clk ∧ (loads .curator).boot.phase = .curator
    ∧ (loads .curator).boot.bootOuts.any (fun o => decide ((out (loads .curator) o).st = .starting)) = false ∧ wingsPending (loads .curator) = false
    ∧ up.boot.phase ≠ .curator := by decide +kernel
def ran (r : LdgRun) : State := { up with ledger := { up.ledger with run := some r } }
theorem witness_CompletionsComplete : up.ledger.run = none
    ∧ (ran { step := .page 0 [], addr := 0, data := [], groups := [] }).ledger.run = some { step := .page 0 [], addr := 0, data := [], groups := [] }
    ∧ up.ledger.busy = false ∧ (takeRun maintaining (runs (.ldgMaint 0 0 0)).runs).isSome = true ∧ takeRun maintaining up.runs = none
    ∧ takeRun closing up.runs = none ∧ takeRun deriving_ up.runs = none ∧ takeRun challenging up.runs = none
    ∧ (takeRun closing (runs (.imageClose 2)).runs).map (fun x => (x.1.job, x.1.phase)) = some (.imageClose 2, 0)
    ∧ (takeRun closing (runs (.imageClose 1)).runs).map (fun x => (x.1.job, x.1.phase)) = some (.imageClose 1, 0)
    ∧ (takeRun (slotHeld 5) (runs (.vitCommit 5 16)).runs).map (·.1.job) = some (.vitCommit 5 16) ∧ takeRun (slotHeld 5) up.runs = none
    ∧ (takeRun (fun r => match r.job with | .eyeScan k _ _ => decide (k = 0) | _ => false) (runs (.eyeScan 0 0 1)).runs).isSome = true
    ∧ (takeRun challenging (runs (.challenge [])).runs).map (·.1.job) = some (.challenge [])
    ∧ (takeRun deriving_ (runs (.derive 0 [])).runs).map (fun x => (x.1.job, x.1.phase)) = some (.derive 0 [], 0) ∧ up.vault.key = none
    ∧ building.modes.build.isSome = true ∧ up.runs.any (testOn 2) = false ∧ (runs (.selftest 4 2 0)).runs.any (testOn 2) = true := by decide +kernel
def hot (t : Thermal) : State := after 1000000000 { up with thermal := t }
/-- The watch instant of an interval of 1 ms. -/
def watches : State := withWords [(0x22, 14, 0, 1#32)] { up with tb := { up.tb with running := true, ns := 5000000#64 } }
theorem witness_ThermalAndLaunchComplete : watchDue up = false ∧ watchDue watches = true ∧ up.thermal.now = none
    ∧ (hot { up.thermal with now := some 1 }).thermal.now = some 1 ∧ mgmtPairUp up = true
    ∧ (hot { up.thermal with now := some 1 }).thermal.nowAt + 20000 ≤ (hot { up.thermal with now := some 1 }).clk
    ∧ (hot { up.thermal with shut := 1 }).thermal.shut = 1 ∧ safeShown (hot { up.thermal with shut := 1 }) = true
    ∧ (hot { up.thermal with shut := 1 }).thermal.shutAt + 100000000 + (hot { up.thermal with shut := 1 }).thermal.shutMore ≤ (hot { up.thermal with shut := 1 }).clk
    ∧ up.thermal.shut ≠ 2 ∧ ledgerRests (hot { up.thermal with shut := 2 }) = true ∧ commandPairUp up = true
    ∧ commandPairUp (setPair up false { restarting := true }) = false ∧ setWaits (launchSets up) = false
    ∧ setWaits (launchSets { up with pending := [.tbSet { q with tick := some 0 } 5#64 0#16] }) = true := by decide +kernel
/-- PLK[0] at the end of an error window: its count, whether the last one was at the threshold, and the threshold. -/
def erring (n : Nat) (high : Bool) (thr : Nat) : State := withWords [(8, 0, 5, BitVec.ofNat 32 thr)] (after 1000000000
  (setPlk (linked 8 0) 0 { plk (linked 8 0) 0 with counts := { (plk (linked 8 0) 0).counts with win := n, overThr := high } }))
theorem witness_LinkErrorWindow : (plk up 0).st ≠ 8 ∧ (plk (erring 0 false 4) 0).st = 8
    ∧ (plk (erring 0 false 4) 0).winAt + 1000000000 ≤ (erring 0 false 4).clk ∧ (word (erring 0 false 4) 0 0x08 0 5).toNat = 4
    ∧ (plk (erring 0 false 4) 0).counts.win < 4 ∧ (plk (erring 0 false 4) 0).counts.overThr = false ∧ 4 ≤ (plk (erring 4 true 4) 0).counts.win
    ∧ (plk (erring 0 true 4) 0).counts.overThr = true ∧ (word (erring 0 false 0) 0 0x08 0 5).toNat = 0 ∧ up.clk < (plk up 0).winAt + 1000000000
  := by decide +kernel

/-! ## Witnesses: the queue, the pipeline, ownership -/

theorem witness_StepRunsTheFront : { up with pending := [.nop q] }.pending = Instr.nop q :: [] ∧ up.pending = [] := by decide
theorem witness_QueueIsFirstInFirstOut : ∃ t, step { up with pending := [.nop q, .identify q] } = .next t ∧ t.pending = [.identify q] :=
  ⟨_, rfl, by decide +kernel⟩
theorem witness_StepKeepsOwnersCanonical : ∃ s t, ownersCanonical s = true ∧ step s = .next t ∧ t.owners ≠ s.owners :=
  ⟨{ up with pending := [.claim q 8 3 1 0 false] }, _, by decide +kernel, rfl, by decide +kernel⟩
theorem witness_OwnershipPersistsUntilReset : changesOwners (.nop q) = false ∧ changesOwners .tamper = true
    ∧ resetDue (after 5 { up with boot := { up.boot with armed := some 5 } }) = true ∧ watchdogDue (after 1000000000 boots) = true := by
  decide +kernel
theorem witness_TakenCommandsAct : reqOf (.nop q) = some (0x00#8, q) ∧ (opOf (.nop q)).map (·.opcode) = some 0x00#8 ∧ rowTaken up (.nop q) = true := by
  decide +kernel
theorem witness_RefusedCommandsDoNotAct : portsAwake up = true ∧ q.tick = none ∧ q.sched = false
    ∧ (earlySteps (holdCredit up q.port true) q (opRefSelect 0)).2 = none ∧ ((opRefSelect 0).check (admitted q (opRefSelect 0) up)).isSome = true := by
  decide +kernel
theorem witness_ScheduledAndLateCommandsAct :
    (earlySteps (holdCredit up later.port true) later (opFenceSignal later 3)).2 = none
    ∧ (opFenceSignal later 3).check (admitted later (opFenceSignal later 3) up) = none ∧ shutRej (admitted later (opFenceSignal later 3) up) (opFenceSignal later 3) = none
    ∧ isFuture (admitted later (opFenceSignal later 3) up) later = true ∧ freeSlot (admitted later (opFenceSignal later 3) up) = some 0
    ∧ (let s := { up with tb := { up.tb with ns := 9#64 } }; isLate (admitted later (opFenceSignal later 3) s) later = true) := by decide +kernel
theorem witness_CommandsBeforeBootEnds : portsAwake State.reset = false ∧ hasTransactions .cp0 = true
    ∧ (let s := { up with boot := { up.boot with cmdPair := { restarting := true } } }; portsAwake s = true ∧ commandPairUp s = false) := by decide
theorem witness_QueriesChangeOnlyThePorts : asksOnly (.identify q) = true ∧ rowTaken up (.identify q) = true := by decide +kernel
theorem witness_PortsEnabled : portEnabled up .cp3 = true ∧ portEnabled (withWords [(0, 0, 0x10, 0#32)] up) .cp3 = false := by decide +kernel
theorem witness_OpcodesPermittedOnPorts : portsAwake up = true ∧ commandPairUp up = true ∧ ({ q with port := .cp3 } : Req).tick = none := by decide
theorem witness_AuthorityByPort : commandPairUp up = true ∧ schedBad (opRefSelect 0) q = false
    ∧ portOk (opRefSelect 0).opcode .cp0 = true ∧ (opRefSelect 0).auth (holdCredit up .cp0 true) ≠ .plain ∧ up.vault.key = none := by decide +kernel
theorem witness_ShutdownRefusesCommands : { up with thermal := { up.thermal with shut := 1 } }.thermal.shut = 1 ∧ reqOf (.nop q) = some (0x00#8, q) := by decide
/-- PLK[3] belongs to CP0. -/
def owned : State := setOwner up 0 8 3 (some .cp0)
theorem witness_ClaimActsOnAllOrNone : isHostPort q.port = true ∧ ownersCanonical owned = true
    ∧ (earlySteps (holdCredit owned q.port true) q (opClaim q 8 2 3 0 false)).2 = none
    ∧ rowTaken owned (.claim q 8 2 3 0 true) = true ∧ rowTaken owned (.claim q 8 2 3 0 false) = false ∧ rowTaken owned (.claim q 8 4 3 0 false) = true
    ∧ firstForeign owned .cp1 8 (namedInstances 2 3 0) = some (0, 3, .cp0) ∧ firstForeign owned .cp1 8 (namedInstances 4 3 0) = none
    ∧ bankReadMode owned 0 (mkAddr 8 2 0) = none ∧ isOwnable 0 = false ∧ instExists 8 24 = false := by decide +kernel
theorem witness_ReleaseFreesAllOrNone : (earlySteps (holdCredit owned q.port true) q (opRelease q 8 2 3 0 true)).2 = none
    ∧ rowTaken owned (.release q 8 2 3 0 true) = true ∧ rowTaken owned (.release q 8 2 3 0 false) = false
    ∧ firstForeign owned .cp0 8 (namedInstances 2 3 0) = none := by decide +kernel
theorem witness_ReadsOfWsFieldsGiveTheValueInEffect : (wordInfo 0x12 0 4).ws ≠ 0#32 ∧ (wordInfo 0x17 0 0x80).ws ≠ 0#32 := by decide +kernel
/-- One entry waits in the event queue. -/
def queued : Events := { State.reset.ev with queue := [{ ns := 0#64, source := 5, commit := false, sat := false, count := 65535, detail := 1#32, tick := 0 }] }
theorem witness_EventQueueTakesRaises : queued.queue.length ≤ 128 ∧ (enqueue queued 0 0#64 5 false 1#32).queue.map (fun e => (e.count, e.sat)) = [(65535, true)]
    ∧ (enqueue queued 0 0#64 5 false 2#32).queue.length = 2
    ∧ (let e := { queued with queue := List.replicate 128 { ns := 0#64, source := 5, commit := false, sat := false, count := 1, detail := 1#32, tick := 0 } }
       e.queue.length = 128 ∧ (enqueue e 0 0#64 6 false 2#32).lost = 1) := by decide +kernel
theorem witness_EventAcknowledge : (List.replicate 32 255#8).length = 32
    ∧ (let s := { up with ev := { up.ev with freshTick := up.clk, fresh := 1#256 } }; s.ev.freshTick = s.clk ∧ s.ev.fresh.getLsbD 0 = true) := by decide
theorem witness_FenceSignals : up.fences.getLsbD 7 = false ∧ ({ up with fences := 0x80#1024 } : State).fences.getLsbD 7 = true
    ∧ (let s := { up with signals := [7], signalTick := up.clk }; s.signalTick = s.clk ∧ 7 ∈ s.signals) := by decide +kernel
/-- A scheduled, authenticated WRITE of CP0, with the bytes its MAC covers. -/
def written : Req :=
  let q : Req := { port := .cp0, tag := 0x2C, sched := true, reply := true, auth := true, launch := 5#64, mac := List.replicate 16 9#8 }
  { q with msg := packetHead 0x11 q (addrBytes (mkAddr 0x13 5 4) ++ [0#8] ++ wordBytes 7#32) }
theorem witness_PacketsReadBack : packetOf (.write written (mkAddr 0x13 5 4) 0 7#32) = some (0x11#8, written, addrBytes (mkAddr 0x13 5 4) ++ [0#8] ++ wordBytes 7#32)
    ∧ (Instr.write written (mkAddr 0x13 5 4) 0 7#32).wf = true ∧ portOk 0x11 written.port = true
    ∧ (packetPayload written (addrBytes (mkAddr 0x13 5 4) ++ [0#8] ++ wordBytes 7#32)).length = 32 := by decide +kernel
theorem witness_WrittenPacketsArrive : (packetBytes 0x00 q []).length ≤ 4108 ∧ up.boot.phase ≠ .noImage ∧ creditsFree up .cp1 ≠ 0 := by decide +kernel
theorem witness_TilePlanesDecodeAsCoded : decodePlane (packBits (planeBits 8 0 [[1, 255], [7, 7]] ++ [true])) 8 2 2 0 0
    = ([[1, 255], [7, 7]], (planeBits 8 0 [[1, 255], [7, 7]]).length) := by decide +kernel
theorem witness_PictureRules : 0 < imgW dot ∧ 0 < imgH dot ∧ imgFits dot 4 3 = true ∧ imgFits dot 5 3 = false := by decide +kernel

/-! ## Single steps and values that the spec gives -/

/-- The ASCII bytes "123456789" of Table 3-6. -/
def digits : List Byte := [0x31#8, 0x32#8, 0x33#8, 0x34#8, 0x35#8, 0x36#8, 0x37#8, 0x38#8, 0x39#8]
theorem test_crc8 : crc8 digits = 0xF4#8 := by decide +kernel
theorem test_crc32c : crc32c digits = 0xE3069283#32 := by decide +kernel
/-- The header of the example under R69. -/
theorem test_packet_header : packetHeader 0x11 { port := .cp0, tag := 0x2C, sched := true, reply := true, launch := 1#64 } (List.replicate 8 0#8)
    = [0xA5#8, 0x11#8, 0x2C#8, 0x05#8, 0x10#8, 0#8, 0#8, 0x28#8] := by decide +kernel
/-- LYR[5] word 4 (the example under "Orders in the same tick"). -/
theorem test_address : mkAddr 0x13 5 4 = 0x130504#24 := by decide
/-- SYN[0] at 1,188 MHz: 199,313,326 is 0x0BE1_47AE (chapter 08). -/
theorem test_word_of_1188MHz : (0x0BE147AE#32).toNat = 199313326 ∧ inRange 0 199313326 = true := by decide +kernel
/-- SYN10 and SYN11 take one word each (Table 8-1). -/
theorem test_fixed_synthesizers : inRange 10 0x01900000 = true ∧ inRange 10 0x01900001 = false ∧ inRange 11 0x0A000000 = true := by decide +kernel
/-- IDENTIFY answers 24 bytes (Table 4-4). -/
theorem test_identify_length : (identityReply up).length = 24 := by decide +kernel
/-- A claim beyond the class is RANGE, and one of a class that cannot be owned BAD_PARAM (R98). -/
theorem test_claim_range : ((opClaim q 8 23 2 0 false).check up).map (·.status) = some .range := by decide +kernel
theorem test_claim_unownable : ((opClaim q 3 0 1 0 false).check up).map (·.status) = some .badParam := by decide +kernel
/-- A claim of another port's instance is NOT_OWNER with the owner's code (Table 3-9). -/
theorem test_claim_foreign : (opClaim q 8 2 3 0 false).check owned = some { status := .notOwner, addr := mkAddr 8 3 0, b3 := 0#8 } := by decide +kernel
/-- A release by force raises the former owner's ownership event 19 (R99). -/
theorem test_release_force : ((opRelease q 8 3 1 0 true).run owned).1.ev.pending.getLsbD 19 = true
    ∧ ownerOf ((opRelease q 8 3 1 0 true).run owned).1 0 8 3 = none := by decide +kernel
/-- SYS_RESET starts its warm reset 1 ms later (R100). -/
theorem test_sys_reset : ((opSysReset 1 0x5E7A0C1D#32).run up).1.boot.armed = some 1000000 := by decide +kernel
/-- A write of an RW word is in effect at once (R131); a WS word of a running output waits. -/
theorem test_write_now : word (writeNow up .cp1 (writeItems (mkAddr 0x25 0 20) 0 [(allOnes, 5#32)])) 0 0x25 0 20 = 5#32 := by decide +kernel
theorem test_write_waits : word (writeNow shows .cp1 (writeItems (mkAddr 0x12 0 4) 0 [(allOnes, 2210#32)])) 0 0x12 0 4 = 2200#32 := by decide +kernel
/-- TB_SET (R156) sets the count. -/
theorem test_tb_set : (setTimebase up q 77#64 3#16).tb.ns = 77#64 ∧ (setTimebase up q 77#64 3#16).ev.pending.getLsbD 198 = true := by decide +kernel
/-- The timebase wraps (R150). -/
theorem test_timebase_wraps : (countTick { up with tb := { up.tb with running := true, ns := 0xFFFFFFFFFFFFFFFF#64 } }).tb.ns = 0#64 := by decide +kernel
/-- EVT_READ of no entry answers OK with no data, and changes no pending bit (R584). -/
theorem test_evt_read_empty : ((opEvtRead 3).run up).2.data = [] := by decide +kernel
/-- An ack clears the bit of its mask alone (R585). -/
theorem test_evt_ack : ((opEvtAck q ([0x20#8] ++ List.replicate 31 0#8)).run (raise (raise up 5 0#32) 6 0#32)).1.ev.pending = 0x40#256 := by decide +kernel
/-- A fence that is signalled twice raises event 163 (R362). -/
theorem test_fence_twice : (signalFence { up with fences := 0x80#1024 } 7 0 1).ev.pending.getLsbD 163 = true := by decide +kernel
/-- LINK_UP leaves DOWN; LINK_DOWN with force returns to it (R229). -/
theorem test_link_up : (plk (linkUpNow up 0 1 4 0) 0).st = 1 ∧ (plk (linkUpNow up 0 1 4 0) 0).role = 1 := by decide +kernel
theorem test_link_down : (plk (linkDownNow (linked 8 1) 0 true) 0).st = 0 := by decide +kernel
/-- A band that is not stored has no hop (R217). -/
theorem test_hop_without_band : ((opHop q 1 0 0x02F80000#32).check ready).map (·.status) = some .badParam := by decide +kernel
/-- An LDG_READ outside the host region is RANGE (Table 23-1). -/
theorem test_ldg_read_range : ((opLdgRead 891 0 1).check up).map (·.status) = some .range := by decide +kernel
/-- Pages 900, 52 and 636 lie in the host, Vault and fault-log regions (Table 23-1). -/
theorem test_ldg_regions : regionOf 900 = 6 ∧ regionOf 52 = 3 ∧ regionOf 636 = 5 := by decide
/-- The Vitrine image of the worked example of chapter 15 is 6,480 bytes long. -/
theorem test_vitrine_length : imgShapeOk ([0xA1#8, 0x56#8, 3#8, 0#8] ++ leBytes 2 320 ++ leBytes 2 40 ++ leBytes 2 16 ++ List.replicate 6 0#8) 6480 = true := by
  decide +kernel
/-- A tile row of 16 equal values needs no bits beyond its width field (R449). -/
theorem test_flat_row : (rowBits 8 9 (List.replicate 16 9)).length = 5 := by decide +kernel
/-- The reset state's memory of Ledger records is the manufactured one, and no instance is owned. -/
theorem test_reset_vault : vaultState State.reset 0 = 0 ∧ ownerOf State.reset 0 8 0 = none := by decide +kernel
/-- A THERMAL_REFUSED command in an orderly shutdown (R538). -/
theorem test_shutdown_refuses : (shutRej { up with thermal := { up.thermal with shut := 1 } } opNop).map (·.status) = some .thermalRefused
    ∧ shutRej { up with thermal := { up.thermal with shut := 1 } } opIdentify = none := by decide +kernel
/-- The three opcodes of R95 on CP3. -/
theorem test_ports_of_opcodes : portOk 0x05 .cp3 = false ∧ portOk 0x05 .cp0 = true ∧ portOk 0x10 .cp3 = true := by decide
/-- The mesh of the worked example of chapter 04: 121 × 46 entries. -/
theorem test_mesh_size : gridSize (BitVec.ofNat 32 (121 + 4096 * 46)) = 5566 := by decide +kernel
/-- The degamma and regamma tables of reset keep a code (R411). -/
theorem test_gamma : regamma {} 10 (degamma {} 10 1023) = 1023 ∧ regamma {} 10 (degamma {} 10 1) = 1 := by decide +kernel
/-- A filter of two taps at phase 16: 3 to 1 (Table 16-2). -/
theorem test_bilinear : coefficients 2 2 1 16 = [768, 256] := by decide +kernel
/-- The mirror of the worked example of chapter 26: C is 3,396 clocks, the read point of line 0 is 3,404 clocks before its frame start, and
with a slack of 165 the line latency is 48 input and 3,613 output pixel clocks. -/
def mirror : State := withWords [(0x12, 3, 4, 1650#32), (0x13, 12, 5, BitVec.ofNat 32 (480 * 65536 + 1280)), (0x10, 10, 1, 0x4900#32), (0x13, 12, 7, 0xFFFF#32)] up
def cameraFrame : Frame := { w := 1280, h := 480 }
theorem test_line_latency : compositionClocks mirror 0 12 3 cameraFrame = 3396 ∧ readPoint mirror 0 12 3 cameraFrame 0 = -3404
    ∧ lineLatency mirror 0 12 3 10 0 cameraFrame 165 = (48, 3613) := by decide +kernel
/-- The Curator's read of a warp entry takes 28 cycles (Table 20-8), and a wait at priority 6 at most 2,364 (R502). -/
theorem test_bridge_read : bridgeRead up 0 .a 0 false false = 28 ∧ grantBound 0 6 = 2364 ∧ grantBound 2 0 = 3960 := by decide +kernel
theorem witness_GrantsGoByPriority : [(⟨9, 6, 0⟩ : Presented)] ≠ []
    ∧ (∃ r ∈ [({ master := 0, id := 1, target := 2, issued := 0 } : BusReq)], r.target = 2 ∧ heldAtPort [] r = false) := by
  refine ⟨by simp, _, List.mem_singleton.2 rfl, rfl, by decide⟩
theorem witness_GrantsGoByPriority_held : ∀ r ∈ [({ master := 0, id := 1, target := 2, issued := 0 } : BusReq)], r.target = 2 →
    heldAtPort [{ master := 0, id := 1, target := 3, issued := 0 }] r = true := by decide

end Sys2Proof.Tests
end

/-! # Reads of WS fields (R4)

Only the path and the video classes list words with WS bits, and no word has RO bits beside WS bits. So a READ of a word with WS bits
takes the stored word, or in the colour-table window the front copy of the table; what waits in the flip table is a part of neither. -/

namespace Sys2Proof.Machine
open Sys2Proof

/-! ## The kinds of map entries that have no WS bits, and the one that has -/

@[simp] theorem wRsv_ws : wRsv.ws = 0#32 := rfl
@[simp] theorem wRw_ws (m r : Word) : (wRw m r).ws = 0#32 := rfl
@[simp] theorem wRo_ws (m r : Word) : (wRo m r).ws = 0#32 := rfl
@[simp] theorem wWp_ws (m r : Word) : (wWp m r).ws = 0#32 := rfl
@[simp] theorem wW1c_ws : wW1c.ws = 0#32 := rfl
@[simp] theorem wWs_ro (m r : Word) : (wWs m r).ro = 0#32 := rfl

/-! ## The classes without WS words -/

@[simp] theorem sysInfo_ws (w : Nat) : (sysInfo w).ws = 0#32 := by
  unfold sysInfo
  split <;> simp
@[simp] theorem modeInfo_ws (w : Nat) : (modeInfo w).ws = 0#32 := by
  unfold modeInfo
  split <;> simp
@[simp] theorem tbInfo_ws (i w : Nat) : (tbInfo i w).ws = 0#32 := by
  unfold tbInfo
  repeat' split
  all_goals simp
@[simp] theorem refInfo_ws (i w : Nat) : (refInfo i w).ws = 0#32 := by
  unfold refInfo
  repeat' split
  all_goals simp
@[simp] theorem synInfo_ws (i w : Nat) : (synInfo i w).ws = 0#32 := by
  unfold synInfo
  dsimp only
  split <;> simp
@[simp] theorem portInfo_ws (cls w : Nat) : (portInfo cls w).ws = 0#32 := by
  unfold portInfo
  split <;> simp
@[simp] theorem memAudInfo_ws (cls i w : Nat) : (memAudInfo cls i w).ws = 0#32 := by
  unfold memAudInfo
  repeat' split
  all_goals simp
@[simp] theorem supportInfo_ws (cls i w : Nat) : (supportInfo cls i w).ws = 0#32 := by
  unfold supportInfo
  repeat' split
  all_goals simp

/-! ## No word has both WS and RO bits -/

theorem pathInfo_ws_or_ro (cls w : Nat) : (pathInfo cls w).ws = 0#32 ∨ (pathInfo cls w).ro = 0#32 := by
  unfold pathInfo
  split <;> simp
theorem videoInfo_ws_or_ro (cls i w : Nat) : (videoInfo cls i w).ws = 0#32 ∨ (videoInfo cls i w).ro = 0#32 := by
  unfold videoInfo
  repeat' split
  all_goals simp
theorem wordInfo_ws_or_ro (cls i w : Nat) : (wordInfo cls i w).ws = 0#32 ∨ (wordInfo cls i w).ro = 0#32 := by
  unfold wordInfo
  split <;> simp [pathInfo_ws_or_ro, videoInfo_ws_or_ro]
/-- The words of SYS, which a READ takes from the units whatever their map entries say, have no WS bits. -/
theorem ne_sys_of_ws {cls i w : Nat} (h : (wordInfo cls i w).ws ≠ 0#32) : cls ≠ 0x00 := by
  rintro rfl
  exact h (sysInfo_ws w)

/-! ## What a READ takes, and what the flip table leaves alone -/

theorem readWord_colourWindow (s : State) (b cls i w : Nat) (h : cls = 0x17 ∧ 0x80 ≤ w) : readWord s b cls i w = clrTblRead s b i w :=
  if_pos h
theorem readWord_of_ws (s : State) (b cls i w : Nat) (h : (wordInfo cls i w).ws ≠ 0#32) (hwin : ¬ (cls = 0x17 ∧ 0x80 ≤ w)) :
    readWord s b cls i w = word s b cls i w := by
  have hro : (wordInfo cls i w).ro = 0#32 := (wordInfo_ws_or_ro cls i w).resolve_left h
  unfold readWord
  dsimp only
  rw [if_neg hwin, if_neg (ne_sys_of_ws h), if_pos hro]

@[simp] theorem word_setFlip (s : State) (f : Tab (Word × Word)) (b cls i w : Nat) :
    word { s with flip := f } b cls i w = word s b cls i w := rfl
@[simp] theorem clrTblRead_setFlip (s : State) (f : Tab (Word × Word)) (b i w : Nat) :
    clrTblRead { s with flip := f } b i w = clrTblRead s b i w := rfl
@[simp] theorem word_placeWs (s : State) (b cls i w : Nat) (m v : Word) (b' cls' i' w' : Nat) :
    word (placeWs s b cls i w m v) b' cls' i' w' = word s b' cls' i' w' := rfl

/-- Settles O49: a word with WS bits reads as the word in effect, and in the window as the front copy; neither is in the flip table. -/
theorem readsOfWsFieldsGiveTheValueInEffect : Obligations.ReadsOfWsFieldsGiveTheValueInEffect := by
  intro s f b cls i w h
  refine ⟨?_, readWord_of_ws s b cls i w h, fun m v => word_placeWs s b cls i w m v b cls i w⟩
  by_cases hwin : cls = 0x17 ∧ 0x80 ≤ w
  · rw [readWord_colourWindow _ _ _ _ _ hwin, readWord_colourWindow _ _ _ _ _ hwin, clrTblRead_setFlip]
  · rw [readWord_of_ws _ _ _ _ _ h hwin, readWord_of_ws _ _ _ _ _ h hwin, word_setFlip]

end Sys2Proof.Machine

/-! # Which command ports are enabled (R57)

A port that is not enabled does not listen, and a port that does not listen sees no transaction: what a host sends on it, or reads from it,
leaves the state as it was. -/

namespace Sys2Proof.Machine
open Sys2Proof

/-! ## The enable of each port -/

@[simp] theorem portEnabled_cp0 (s : State) : portEnabled s .cp0 = true := rfl
@[simp] theorem portEnabled_cp1 (s : State) : portEnabled s .cp1 = true := rfl
/-- CP2 follows bit 0 of PRS[0] word 1, CP2_EN. -/
theorem portEnabled_cp2 (s : State) : portEnabled s .cp2 = (word s 0 0x26 0 1).getLsbD 0 := rfl
/-- CP3 follows bit 0 of SYS[0] word 0x10, CP3_EN. -/
theorem portEnabled_cp3 (s : State) : portEnabled s .cp3 = (word s 0 0x00 0 0x10).getLsbD 0 := rfl

theorem listening_of_not_enabled {s : State} {p : Port} (h : portEnabled s p = false) : listening s p = false := by
  simp [listening, h]

/-! ## Transactions on a port that does not listen -/

theorem exec_writePacket (p : Port) (b : List Byte) (s : State) : exec (.writePacket p b) s = execWritePacket p b s := rfl
theorem exec_readPlacard (p : Port) (n : Nat) (s : State) : exec (.readPlacard p n) s = execReadPlacard p n s := rfl

theorem exec_writePacket_of_not_listening {s : State} {p : Port} (hp : hasTransactions p = true) (h : listening s p = false) (b : List Byte) :
    exec (.writePacket p b) s = .next s := by
  simp [exec_writePacket, execWritePacket, hp, h]
theorem exec_readPlacard_of_not_listening {s : State} {p : Port} (hp : hasTransactions p = true) (h : listening s p = false) (n : Nat) :
    exec (.readPlacard p n) s = .next s := by
  simp [exec_readPlacard, execReadPlacard, hp, h]

/-- Settles O43: the enables are read off their words, and CP3 without its enable does not listen. -/
theorem portsEnabled : Obligations.PortsEnabled := by
  intro s
  refine ⟨portEnabled_cp0 s, portEnabled_cp1 s, by rw [portEnabled_cp2], by rw [portEnabled_cp3], fun hoff b n => ?_⟩
  have hdeaf : listening s .cp3 = false := listening_of_not_enabled hoff
  exact ⟨exec_writePacket_of_not_listening rfl hdeaf b, exec_readPlacard_of_not_listening rfl hdeaf n⟩

end Sys2Proof.Machine

/-! # CLAIM and RELEASE of a unit that a self-test holds (R79, R98, R99)

R79 holds the unit of an unfinished SELFTEST against every later command of the same port that names it (log entry 103), and a CLAIM or
RELEASE can name it. Their check of what a run holds comes after the check of the parameters: with sound parameters, and with no other port
among the owners, they are still BUSY while a self-test of their own port runs on one of the units they name. -/

namespace Sys2Proof.Machine
open Sys2Proof

/-! ## A list of checks, one check at a time -/

@[simp] theorem firstRej_none_cons (l : List (Option Rej)) : firstRej (none :: l) = firstRej l := rfl
@[simp] theorem firstRej_singleton (x : Option Rej) : firstRej [x] = x := by cases x <;> rfl

/-! ## What the checks of CLAIM and RELEASE read is not touched by steps 6 to 10 -/

@[simp] theorem bankReadMode_admitted (q : Req) (o : Op) (s : State) (bank : Nat) (a : Addr) :
    bankReadMode (admitted q o s) bank a = bankReadMode s bank a := by
  obtain ⟨p, hp⟩ := admitted_ports q o s
  rw [hp]
  rfl
@[simp] theorem ownerOf_admitted (q : Req) (o : Op) (s : State) (b cls i : Nat) : ownerOf (admitted q o s) b cls i = ownerOf s b cls i := by
  obtain ⟨p, hp⟩ := admitted_ports q o s
  rw [hp]
  rfl
@[simp] theorem instHeldRej_admitted (q : Req) (o : Op) (s : State) (p : Port) (cls b i : Nat) :
    instHeldRej (admitted q o s) p cls b i = instHeldRej s p cls b i := by
  obtain ⟨ports, hp⟩ := admitted_ports q o s
  rw [hp]
  rfl
@[simp] theorem firstForeign_admitted (q : Req) (o : Op) (s : State) (p : Port) (cls : Nat) (l : List (Nat × Nat)) :
    firstForeign (admitted q o s) p cls l = firstForeign s p cls l := by
  induction l with
  | nil => rfl
  | cons x r ih => simp only [firstForeign, ownerOf_admitted, ih]

/-! ## The check that is left when the mode, the owners and the parameters are in order -/

/-- What the unfinished runs of port `p` refuse of a command that names the instances `l` (R79). -/
def heldInstances (s : State) (p : Port) (cls : Nat) (l : List (Nat × Nat)) : Option Rej :=
  firstRej (l.map fun x => instHeldRej s p cls x.1 x.2)

section
variable {q : Req} {cls first count bank : Byte} {force : Bool} {s : State}
  (hopen : bankReadMode s bank.toNat (mkAddr cls.toNat first.toNat 0) = none)
  (hforeign : firstForeign s q.port cls.toNat (namedInstances first count bank) = none)
  (hparams : claimParams cls first count bank 2 = none)
include hopen hforeign hparams

theorem opClaim_check_eq_held (hforce : (force && !decide (q.port = .cp1)) = false) (o : Op) :
    (opClaim q cls first count bank force).check (admitted q o s)
      = heldInstances s q.port cls.toNat (namedInstances first count bank) := by
  simp [opClaim, foreignRej, heldInstances, hopen, hforeign, hparams, hforce, rejIf]
theorem opRelease_check_eq_held (o : Op) :
    (opRelease q cls first count bank force).check (admitted q o s)
      = heldInstances s q.port cls.toNat (namedInstances first count bank) := by
  simp [opRelease, foreignRej, heldInstances, hopen, hforeign, hparams]
end

/-! ## CP1 tests scaler 0 of Wing A and names it before the test ends -/

namespace ScalerTest

/-- A plain packet of CP1. -/
def req : Req := { port := .cp1, tag := 1 }
/-- Boot is done and Wing A works; it drives no output, so a test on it runs freely (R125). -/
def idle : State :=
  { State.reset with boot := { State.reset.boot with phase := .done }, wingA := { State.reset.wingA with role := 1 } }
/-- SELFTEST of class 0x02 has started on scaler 0 of Wing A, which is SCL[0] of bank 0. -/
def testing : State := runCommand (.selftest req 2 0 0) req (opSelftest req 2 0 0) idle

theorem exec_selftest_idle : exec (.selftest req 2 0 0) idle = .next testing := rfl
theorem selftest_taken : taken req (opSelftest req 2 0 0) idle = true := by decide +kernel

theorem testing_portsAwake : portsAwake testing = true := by decide +kernel
theorem testing_ownersCanonical : ownersCanonical testing = true := by decide +kernel
theorem testing_open : bankReadMode testing 0 (mkAddr 0x15 0 0) = none := by decide +kernel
theorem testing_foreign : firstForeign testing .cp1 0x15 (namedInstances 0 1 0) = none := by decide +kernel
theorem scaler_params : claimParams 0x15 0 1 0 2 = none := by decide +kernel
theorem testing_held : heldInstances testing .cp1 0x15 (namedInstances 0 1 0) = some (rejSt .busy) := by decide +kernel

theorem claim_early : (earlySteps (holdCredit testing .cp1 true) req (opClaim req 0x15 0 1 0 false)).2 = none := by decide +kernel
theorem release_early : (earlySteps (holdCredit testing .cp1 true) req (opRelease req 0x15 0 1 0 false)).2 = none := by decide +kernel

theorem claim_busy (o : Op) : (opClaim req 0x15 0 1 0 false).check (admitted req o testing) = some (rejSt .busy) :=
  (opClaim_check_eq_held (q := req) (cls := 0x15) (first := 0) (count := 1) (bank := 0) testing_open testing_foreign scaler_params rfl o).trans
    testing_held
theorem release_busy (o : Op) : (opRelease req 0x15 0 1 0 false).check (admitted req o testing) = some (rejSt .busy) :=
  (opRelease_check_eq_held (q := req) (cls := 0x15) (first := 0) (count := 1) (bank := 0) testing_open testing_foreign scaler_params o).trans
    testing_held

end ScalerTest

open ScalerTest

/-- Refutes O47: with sound parameters, no other owner and no force, a CLAIM of a scaler that its own port has under a self-test is BUSY
(R79), where the fourth clause says that no check refuses it. -/
theorem not_claimActsOnAllOrNone : ¬ Obligations.ClaimActsOnAllOrNone := by
  intro h
  obtain ⟨-, -, -, hpass, -⟩ := h req 0x15 0 1 0 false testing rfl testing_portsAwake rfl rfl claim_early testing_ownersCanonical
  have hopen := (bankReadMode_admitted req (opClaim req 0x15 0 1 0 false) testing 0 _).trans testing_open
  have hnone := (hpass hopen (.inl testing_foreign) rfl).1 scaler_params
  rw [claim_busy] at hnone
  cases hnone

/-- Refutes O48: a RELEASE of a scaler that its own port has under a self-test is BUSY (R79), where the last clause says that with no
other owner the parameters alone decide. -/
theorem not_releaseFreesAllOrNone : ¬ Obligations.ReleaseFreesAllOrNone := by
  intro h
  obtain ⟨-, -, -, hparams⟩ := h req 0x15 0 1 0 false testing rfl testing_portsAwake rfl rfl release_early testing_ownersCanonical
  have hopen := (bankReadMode_admitted req (opRelease req 0x15 0 1 0 false) testing 0 _).trans testing_open
  have heq := (hparams hopen testing_foreign).trans scaler_params
  rw [release_busy] at heq
  cases heq

end Sys2Proof.Machine

/-! # TB_SET and the schedule table (R157)

TB_SET does not place, free or renumber an entry: it marks each waiting entry where it stands, and a mark touches the late flag alone. -/

namespace Sys2Proof.Machine
open Sys2Proof

/-! ## A table whose values are all mapped -/

/-- A read of a mapped table is the mapped read, where the map keeps the value that absent keys have. -/
theorem tget_map {α : Type} (d : α) (f : α → α) (hd : f d = d) (t : Tab α) (k : Nat) :
    tget d (t.map fun x => (x.1, f x.2)) k = f (tget d t k) := by
  induction t with
  | nil => exact hd.symm
  | cons x r ih =>
    simp only [List.map_cons, tget, ih]
    split <;> rfl

/-! ## The mark of a passed-over entry -/

/-- The mark changes no field but the late flag. -/
theorem passMark_eq (old new : W64) (x : SchedEntry) : passMark old new x = { x with late := (passMark old new x).late } := by
  unfold passMark
  split
  · rfl
  · split <;> rfl
@[simp] theorem passMark_launch (old new : W64) (x : SchedEntry) : (passMark old new x).launch = x.launch := by rw [passMark_eq]
@[simp] theorem passMark_cmd (old new : W64) (x : SchedEntry) : (passMark old new x).cmd = x.cmd := by rw [passMark_eq]

/-! ## An entry after TB_SET -/

theorem setTimebase_entries (s : State) (q : Req) (ns : W64) (frac : Half) :
    (setTimebase s q ns frac).tb.entries = s.tb.entries.map fun x => (x.1, x.2.map (passMark s.tb.ns ns)) := by
  simp only [setTimebase, passOver, raise_tb]
/-- Each entry stands where it stood, marked. -/
theorem entry_setTimebase (s : State) (q : Req) (ns : W64) (frac : Half) (e : Nat) :
    entry (setTimebase s q ns frac) e = (entry s e).map (passMark s.tb.ns ns) := by
  rw [entry, setTimebase_entries]
  exact tget_map none (Option.map (passMark s.tb.ns ns)) rfl s.tb.entries e
/-- What the mark keeps of an entry, TB_SET keeps of every entry of the table. -/
theorem entry_setTimebase_map {β : Type} (f : SchedEntry → β) (hf : ∀ old new x, f (passMark old new x) = f x)
    (s : State) (q : Req) (ns : W64) (frac : Half) (e : Nat) :
    (entry (setTimebase s q ns frac) e).map f = (entry s e).map f := by
  have hmark : f ∘ passMark s.tb.ns ns = f := funext (hf s.tb.ns ns)
  rw [entry_setTimebase, Option.map_map, hmark]

/-- Settles O53: TB_SET marks the entries in place, and the mark keeps the launch value and the command. -/
theorem entriesKeepLaunchValues : Obligations.EntriesKeepLaunchValues := by
  intro q ns fr s e
  exact ⟨entry_setTimebase_map _ passMark_launch s q ns fr e, entry_setTimebase_map _ passMark_cmd s q ns fr e⟩

end Sys2Proof.Machine

/-! # The error window of a Prenlink port (R288, R289)

The happening that ends a window counts the invalid headers it names, and closes the window: a new one starts 1 s after the last start.
What is left is one comparison of the combined count with PLK_ERR_THRESH, and one bit that says how the window before compared. -/

namespace Sys2Proof.Machine
open Sys2Proof

/-! ## A window's end, by its parts -/

/-- PLK_ERR_THRESH of a port. -/
def errThresh (s : State) (n : Nat) : Nat := (word s 0 0x08 n 5).toNat
/-- The invalid headers that the happening names are counted in the window. -/
def countInvalid (s : State) (n invalid : Nat) : State := if invalid = 0 then s else plkCount s n 0 invalid 0 0 0
/-- The window closes, `high` where it is at the threshold, and the next one starts. -/
def closeErrWindow (s : State) (n : Nat) (high : Bool) : State :=
  setPlk s n { plk s n with
    winAt := (plk s n).winAt + 1000000000, counts := { (plk s n).counts with win := 0, rose := 0#4, overThr := high } }
/-- The detail of event 33 + 2n (Table 10-10). -/
def errWindowDetail (c : PlkCount) (b2 : Nat) : Word := field 0 16 (sat 16 c.win) ||| field 16 8 b2 ||| field 24 8 c.rose.toNat
/-- A window closes with its event (R289). -/
def closeErrWindowWithEvent (s : State) (n : Nat) (high : Bool) (b2 : Nat) : State :=
  raise (closeErrWindow s n high) (33 + 2 * n) (errWindowDetail (plk s n).counts b2)

/-! ## When a window ends -/

theorem exec_plkErrorWindowEnd (n : Fin 24) (i : Nat) (s : State) :
    exec (.plkErrorWindowEnd n i) s = execPlkErrorWindowEnd n i s := rfl

/-- A port out of RUNNING has no window, and a window does not end before its second is over. -/
theorem exec_plkErrorWindowEnd_of_not_over {n : Fin 24} {s : State}
    (h : (plk s n.val).st ≠ 8 ∨ s.clk < (plk s n.val).winAt + 1000000000) (i : Nat) : exec (.plkErrorWindowEnd n i) s = .next s := by
  rw [exec_plkErrorWindowEnd]
  exact if_pos (h.imp_right fun hclk => by simpa [passed] using hclk)

/-- At its end the window compares with the threshold, and below it with what the window before left (R289). -/
theorem exec_plkErrorWindowEnd_of_over {n : Fin 24} {s : State} (hst : (plk s n.val).st = 8)
    (hclk : (plk s n.val).winAt + 1000000000 ≤ s.clk) (i : Nat) :
    exec (.plkErrorWindowEnd n i) s =
      let s1 := countInvalid s n i
      let high := decide (errThresh s1 n ≠ 0) && decide (errThresh s1 n ≤ (plk s1 n).counts.win)
      if high then .next (closeErrWindowWithEvent s1 n high 0)
      else if (plk s1 n).counts.overThr ∧ errThresh s1 n ≠ 0 then .next (closeErrWindowWithEvent s1 n high 1)
      else .next (closeErrWindow s1 n high) := by
  rw [exec_plkErrorWindowEnd]
  exact if_neg (by simp [passed, hst, hclk])

/-! ## The four outcomes of a window that ends -/

section
variable {n : Fin 24} {i : Nat} {s : State} (hst : (plk s n.val).st = 8) (hclk : (plk s n.val).winAt + 1000000000 ≤ s.clk)
include hst hclk

theorem errWindow_at_threshold (hthr : errThresh (countInvalid s n i) n ≠ 0)
    (hwin : errThresh (countInvalid s n i) n ≤ (plk (countInvalid s n i) n).counts.win) :
    exec (.plkErrorWindowEnd n i) s = .next (closeErrWindowWithEvent (countInvalid s n i) n true 0) := by
  simp [exec_plkErrorWindowEnd_of_over hst hclk, hthr, hwin]
theorem errWindow_back_below (hthr : errThresh (countInvalid s n i) n ≠ 0)
    (hwin : (plk (countInvalid s n i) n).counts.win < errThresh (countInvalid s n i) n)
    (hover : (plk (countInvalid s n i) n).counts.overThr = true) :
    exec (.plkErrorWindowEnd n i) s = .next (closeErrWindowWithEvent (countInvalid s n i) n false 1) := by
  simp [exec_plkErrorWindowEnd_of_over hst hclk, hthr, hwin.not_ge, hover]
theorem errWindow_still_below (hwin : (plk (countInvalid s n i) n).counts.win < errThresh (countInvalid s n i) n)
    (hover : (plk (countInvalid s n i) n).counts.overThr = false) :
    exec (.plkErrorWindowEnd n i) s = .next (closeErrWindow (countInvalid s n i) n false) := by
  simp [exec_plkErrorWindowEnd_of_over hst hclk, hwin.not_ge, hover]
theorem errWindow_without_threshold (hthr : errThresh (countInvalid s n i) n = 0) :
    exec (.plkErrorWindowEnd n i) s = .next (closeErrWindow (countInvalid s n i) n false) := by
  simp [exec_plkErrorWindowEnd_of_over hst hclk, hthr]
end

/-- Settles O54: a window that is over has one of four outcomes, by the threshold, the combined count and the window before; a port out
of RUNNING or within its second stays as it is. -/
theorem linkErrorWindow : Obligations.LinkErrorWindow := by
  refine ⟨fun n i s hst hclk => ?_, fun n i s h => exec_plkErrorWindowEnd_of_not_over h i⟩
  exact ⟨errWindow_at_threshold hst hclk, errWindow_back_below hst hclk, fun _ => errWindow_still_below hst hclk,
    errWindow_without_threshold hst hclk⟩

end Sys2Proof.Machine

/-! # What EVT_ACK clears (R585)

An EVT_ACK clears the sources of its mask, less those that its sender may not clear, less, for a packet, those raised on its own tick. None
of the three parts reads the pending bits, and these are all that an ack changes: so each of two acks clears what it would clear alone. -/

namespace Sys2Proof.Machine
open Sys2Proof

/-! ## The bits of the mask -/

/-- Bit `n` of a little-endian number is bit `n` mod 8 of byte `n` ÷ 8 (R5). -/
theorem testBit_leNat (l : List Byte) (n : Nat) : (leNat l).testBit n = (l.getD (n / 8) 0#8).getLsbD (n % 8) := by
  induction l generalizing n with
  | nil => simp [leNat]
  | cons b r ih =>
    have hsplit : leNat (b :: r) = 2 ^ 8 * leNat r + b.toNat := Nat.add_comm _ _
    rw [hsplit, Nat.testBit_two_pow_mul_add _ b.isLt]
    by_cases hn : n < 8
    · rw [if_pos hn, Nat.div_eq_of_lt hn, Nat.mod_eq_of_lt hn]
      rfl
    · obtain ⟨k, rfl⟩ := Nat.exists_eq_add_of_le (not_lt.mp hn)
      rw [if_neg hn, Nat.add_sub_cancel_left, ih, Nat.add_div_left k (by decide), Nat.add_mod_left]
      rfl

theorem getLsbD_ackMask {m : List Byte} {n : Nat} (hm : m.length = 32) (hn : n < 256) :
    (ackMask m).getLsbD n = (m.getD (n / 8) 0#8).getLsbD (n % 8) := by
  rw [ackMask, List.take_of_length_le hm.le, BitVec.getLsbD_ofNat, decide_eq_true hn, Bool.true_and, testBit_leNat]

/-! ## The sources routed to INT_N1 -/

/-- A mask built source by source holds the sources it began with and the listed ones that satisfy `p`. -/
theorem getLsbD_foldl_setSources (p : Nat → Bool) (l : List Nat) (m : BitVec 256) {n : Nat} (hn : n < 256) :
    (l.foldl (fun m k => if p k then m ||| (1#256 <<< k) else m) m).getLsbD n = (m.getLsbD n || (decide (n ∈ l) && p n)) := by
  induction l generalizing m with
  | nil => simp
  | cons k r ih =>
    have hbit : (1#256 <<< k).getLsbD n = (decide (k < 256) && decide (k = n)) := BitVec.getLsbD_twoPow k n
    rw [List.foldl_cons, ih]
    by_cases hk : n = k
    · subst hk
      cases p n <;> simp [hn]
    · cases p k <;> simp [hk, hbit, Ne.symm hk]

theorem getLsbD_safetyRouted (s : State) {n : Nat} (hn : n < 256) : (safetyRouted s).getLsbD n = bit (evtCfg s n) 2 := by
  rw [safetyRouted, getLsbD_foldl_setSources (fun k => bit (evtCfg s k) 2) _ _ hn]
  simp [hn]

/-! ## The sources that an ack clears -/

/-- The sources of the mask that the sender may clear: CP1 and authenticated authority any, the others those not routed to INT_N1. -/
def ackPermitted (q : Req) (m : List Byte) (s : State) : BitVec 256 :=
  if q.port = .cp1 ∨ q.auth = true then ackMask m else ackMask m &&& ~~~(safetyRouted s)
/-- Of those, the ones an ack clears: the ack of a packet spares what was raised on its tick. -/
def ackCleared (q : Req) (m : List Byte) (s : State) : BitVec 256 :=
  if q.tick.isSome ∧ s.ev.freshTick = s.clk then ackPermitted q m s &&& ~~~s.ev.fresh else ackPermitted q m s

theorem opEvtAck_run (q : Req) (m : List Byte) (s : State) :
    (opEvtAck q m).run s = done { s with ev := { s.ev with pending := s.ev.pending &&& ~~~(ackCleared q m s) } } := rfl
theorem opEvtAck_run_pending (q : Req) (m : List Byte) (s : State) :
    ((opEvtAck q m).run s).1.ev.pending = s.ev.pending &&& ~~~(ackCleared q m s) := by
  rw [opEvtAck_run]; rfl

theorem getLsbD_opEvtAck_run_pending (q : Req) (m : List Byte) (s : State) {n : Nat} (hn : n < 256) :
    ((opEvtAck q m).run s).1.ev.pending.getLsbD n = (s.ev.pending.getLsbD n && !(ackCleared q m s).getLsbD n) := by
  simp [opEvtAck_run_pending, hn]

theorem getLsbD_ackPermitted (q : Req) (m : List Byte) (s : State) {n : Nat} (hn : n < 256) :
    (ackPermitted q m s).getLsbD n
      = ((ackMask m).getLsbD n && (decide (q.port = .cp1) || q.auth || !bit (evtCfg s n) 2)) := by
  unfold ackPermitted
  split
  next h => rcases h with h | h <;> simp [h]
  next h =>
    obtain ⟨hport, hauth⟩ := not_or.mp h
    rw [BitVec.getLsbD_and, BitVec.getLsbD_not, getLsbD_safetyRouted s hn]
    simp [hport, hauth, hn]

theorem ackCleared_of_no_tick {q : Req} (hq : q.tick = none) (m : List Byte) (s : State) : ackCleared q m s = ackPermitted q m s :=
  if_neg (by simp [hq])
/-- A raise of the ack's own tick comes after it. -/
theorem getLsbD_ackCleared_of_fresh {q : Req} (hq : q.tick.isSome = true) (m : List Byte) {s : State} (hclk : s.ev.freshTick = s.clk)
    {n : Nat} (hfresh : s.ev.fresh.getLsbD n = true) : (ackCleared q m s).getLsbD n = false := by
  rw [ackCleared, if_pos ⟨hq, hclk⟩]
  simp [hfresh]

/-- What an ack clears depends on no pending bit, and so not on the acks before it. -/
theorem ackCleared_after_opEvtAck (q q' : Req) (m m' : List Byte) (s : State) :
    ackCleared q' m' ((opEvtAck q m).run s).1 = ackCleared q' m' s := rfl

/-! ## A footprint that names nothing -/

theorem contradict_empty_left (f : Foot) : contradict {} f = false := by simp [contradict]
theorem contradict_empty_right (f : Foot) : contradict f {} = false := by simp [contradict]

/-- Settles O52: the pending bits left are those outside the cleared sources, whose bits are the mask's where the sender may clear them and
no raise of the tick spares them; nothing else of the state changes, and the footprint is empty. -/
theorem eventAcknowledge : Obligations.EventAcknowledge := by
  refine ⟨fun m n => getLsbD_ackMask, fun q m s n hn htick => ?_, fun q m s n hn htick hclk hfresh => ?_,
    fun q m s => by rw [opEvtAck_run]; exact ⟨rfl, rfl, rfl⟩, fun q m s f => ⟨contradict_empty_left f, contradict_empty_right f⟩, fun q q' m m' s => ?_⟩
  · rw [getLsbD_opEvtAck_run_pending q m s hn, ackCleared_of_no_tick htick, getLsbD_ackPermitted q m s hn]
  · rw [getLsbD_opEvtAck_run_pending q m s hn, getLsbD_ackCleared_of_fresh htick m hclk hfresh, Bool.not_false, Bool.and_true]
  · rw [opEvtAck_run_pending q', ackCleared_after_opEvtAck, opEvtAck_run_pending q' m' s, opEvtAck_run_pending q m s]
    ac_rfl

end Sys2Proof.Machine

/-! # The queue is first in, first out (log entry 2)

Every opcode row runs one pipeline, whose hooks all leave the queue alone; the happenings keep it one by one. So `exec` changes no command
that waits, and a step removes the one it runs. -/

namespace Sys2Proof.Machine
open Sys2Proof

/-! ## What names a command -/

/-- A row with an operation has an opcode and a request. -/
theorem reqOf_of_opOf {c : Instr} {o : Op} (h : opOf c = some o) : ∃ op q, reqOf c = some (op, q) := by
  cases c <;> first | exact ⟨_, _, rfl⟩ | cases h
/-- A row with an operation runs it through the pipeline, for the requester it names. -/
theorem exec_command {c : Instr} {o : Op} (h : opOf c = some o) :
    ∃ op q, reqOf c = some (op, q) ∧ ∀ s, exec c s = .next (runCommand c q o s) := by
  obtain ⟨op, q, hreq⟩ := reqOf_of_opOf h
  exact ⟨op, q, hreq, fun s => exec_of_opOf c op q o s hreq h⟩

/-! ## The queue -/

/-- A happening adds no command and takes none away. -/
theorem happening_pending {c : Instr} (hc : opOf c = none) (s t : State) (h : exec c s = .next t) : t.pending = s.pending := by
  cases c with
  | writePacket port bytes => exact execWritePacket_pending port bytes s t h
  | readPlacard port n => exact execReadPlacard_pending port n s t h
  | readPortStatus port n => exact execReadPortStatus_pending port n s t h
  | unknownTransaction port code => exact execUnknownTransaction_pending port code s t h
  | cp3SclTimeout got => exact execCp3SclTimeout_pending got s t h
  | cp2PacketTimeout => exact execCp2PacketTimeout_pending s t h
  | cp2LinkRetry => exact execCp2LinkRetry_pending s t h
  | buildTimeout => exact execBuildTimeout_pending s t h
  | warmReset => exact execWarmReset_pending s t h
  | modeWakeWaitEnd => exact execModeWakeWaitEnd_pending s t h
  | wingReady w => exact execWingReady_pending w s t h
  | wakeTimeout w => exact execWakeTimeout_pending w s t h
  | imageCloseComplete => exact execImageCloseComplete_pending s t h
  | outputStartInstant out => exact execOutputStartInstant_pending out s t h
  | launch => exact execLaunch_pending s t h
  | triggerDeparture port offset => exact execTriggerDeparture_pending port offset s t h
  | synBandStoreComplete syn => exact execSynBandStoreComplete_pending syn s t h
  | rampStep syn => exact execRampStep_pending syn s t h
  | synLockAcquired syn band post => exact execSynLockAcquired_pending syn band post s t h
  | synUngate syn => exact execSynUngate_pending syn s t h
  | synSearchTimeout syn => exact execSynSearchTimeout_pending syn s t h
  | synLossOfLock syn => exact execSynLossOfLock_pending syn s t h
  | coreClockLoss gen => exact execCoreClockLoss_pending gen s t h
  | refPulse c interval => exact execRefPulse_pending c interval s t h
  | refFreqMeasurement c edges => exact execRefFreqMeasurement_pending c edges s t h
  | refActivityLost c => exact execRefActivityLost_pending c s t h
  | refQualified c => exact execRefQualified_pending c s t h
  | dpllComparison phase => exact execDpllComparison_pending phase s t h
  | holdoverIntervalRecord avg => exact execHoldoverIntervalRecord_pending avg s t h
  | acquireAlarm => exact execAcquireAlarm_pending s t h
  | fsyncPulse n high => exact execFsyncPulse_pending n high s t h
  | tbPpsPulse high => exact execTbPpsPulse_pending high s t h
  | synHopLockTimeout syn => exact execSynHopLockTimeout_pending syn s t h
  | eyeScanComplete port counts => exact execEyeScanComplete_pending port counts s t h
  | plkDetectClock port => exact execPlkDetectClock_pending port s t h
  | plkLaneLock port lane => exact execPlkLaneLock_pending port lane s t h
  | plkLaneLockLost port lane invalid => exact execPlkLaneLockLost_pending port lane invalid s t h
  | plkAlignTimeout port => exact execPlkAlignTimeout_pending port s t h
  | capability port packet => exact execCapability_pending port packet s t h
  | capabilityResend port => exact execCapabilityResend_pending port s t h
  | capabilityTimeout port => exact execCapabilityTimeout_pending port s t h
  | plkStepTimeout port => exact execPlkStepTimeout_pending port s t h
  | plkTrainTimeout port => exact execPlkTrainTimeout_pending port s t h
  | plkVerifyEnd port symbols => exact execPlkVerifyEnd_pending port symbols s t h
  | plkFallbackTimeout port => exact execPlkFallbackTimeout_pending port s t h
  | plkRecoverTimeout port => exact execPlkRecoverTimeout_pending port s t h
  | plkClockLost port => exact execPlkClockLost_pending port s t h
  | heartbeatTimeout port => exact execHeartbeatTimeout_pending port s t h
  | backoffEnd port => exact execBackoffEnd_pending port s t h
  | plkDrainTimeout port => exact execPlkDrainTimeout_pending port s t h
  | heartbeatSend port => exact execHeartbeatSend_pending port s t h
  | heartbeat port packet => exact execHeartbeat_pending port packet s t h
  | videoLine port packet drift => exact execVideoLine_pending port packet drift s t h
  | tile port packet drift => exact execTile_pending port packet drift s t h
  | audio port packet => exact execAudio_pending port packet s t h
  | fence port packet => exact execFence_pending port packet s t h
  | marker port lane count corrected uncorrectable => exact execMarker_pending port lane count corrected uncorrectable s t h
  | cp2Command port m => exact execCp2Command_pending port m s t h
  | cp2Placard port => exact execCp2Placard_pending port s t h
  | ack port upTo => exact execAck_pending port upTo s t h
  | ackTimer port => exact execAckTimer_pending port s t h
  | retransmitTimeout port => exact execRetransmitTimeout_pending port s t h
  | urgent port m => exact execUrgent_pending port m s t h
  | power port m => exact execPower_pending port m s t h
  | training port m => exact execTraining_pending port m s t h
  | endOfLink port m => exact execEndOfLink_pending port m s t h
  | capabilityAck port m => exact execCapabilityAck_pending port m s t h
  | failure port m => exact execFailure_pending port m s t h
  | beacon port dir => exact execBeacon_pending port dir s t h
  | powerRequestTimeout port => exact execPowerRequestTimeout_pending port s t h
  | wakeTimeoutPlk port => exact execWakeTimeoutPlk_pending port s t h
  | trafficIdleReturn port dir => exact execTrafficIdleReturn_pending port dir s t h
  | plkErrorWindowEnd port invalid => exact execPlkErrorWindowEnd_pending port invalid s t h
  | equaliserTrainingDone port => exact execEqualiserTrainingDone_pending port s t h
  | auxRequest port kind addr off len data => exact execAuxRequest_pending port kind addr off len data s t h
  | dpLinkTraining port rate lanes => exact execDpLinkTraining_pending port rate lanes s t h
  | dpLinkLoss port => exact execDpLinkLoss_pending port s t h
  | sidebandMessage port m => exact execSidebandMessage_pending port m s t h
  | msa port sub m => exact execMsa_pending port sub m s t h
  | audioSdp port sub channels rate frames lpcm last => exact execAudioSdp_pending port sub channels rate frames lpcm last s t h
  | fenceSdp port hb1 data => exact execFenceSdp_pending port hb1 data s t h
  | edpHpdSettled port supports => exact execEdpHpdSettled_pending port supports s t h
  | edpTrainingDone port good => exact execEdpTrainingDone_pending port good s t h
  | edpIrqHpd port lost => exact execEdpIrqHpd_pending port lost s t h
  | edpPanelLoss port => exact execEdpPanelLoss_pending port s t h
  | csiFrameStart port vc hdr => exact execCsiFrameStart_pending port vc hdr s t h
  | csiFrameEnd port vc hdr drift => exact execCsiFrameEnd_pending port vc hdr drift s t h
  | csiLongPacket port vc hdr vcx dtype count good => exact execCsiLongPacket_pending port vc hdr vcx dtype count good s t h
  | csiUlpsEntry port => exact execCsiUlpsEntry_pending port s t h
  | vbIdTransition port sub starts drift => exact execVbIdTransition_pending port sub starts drift s t h
  | sourceLossTimeout pipe => exact execSourceLossTimeout_pending pipe s t h
  | fillComplete pipe => exact execFillComplete_pending pipe s t h
  | lockPoint o phase => exact execLockPoint_pending o phase s t h
  | switchWaitBound bank route o => exact execSwitchWaitBound_pending bank route o s t h
  | xbarChangeBoundary => exact execXbarChangeBoundary_pending s t h
  | tdmPortStart port => exact execTdmPortStart_pending port s t h
  | tdmPortStop port => exact execTdmPortStop_pending port s t h
  | converterLock conv => exact execConverterLock_pending conv s t h
  | converterRatioMeasure conv ratio => exact execConverterRatioMeasure_pending conv ratio s t h
  | sampleBoundary syn9 rate frames => exact execSampleBoundary_pending syn9 rate frames s t h
  | commitTick o obs => exact execCommitTick_pending o obs s t h
  | jobComplete w o row col fails lost agree rerun => exact execJobComplete_pending w o row col fails lost agree rerun s t h
  | jobDeadlineMiss w o row col late => exact execJobDeadlineMiss_pending w o row col late s t h
  | tileRowRead w o row tiles => exact execTileRowRead_pending w o row tiles s t h
  | recomposedTileRead w o row col crc => exact execRecomposedTileRead_pending w o row col crc s t h
  | bulkTransferComplete => exact execBulkTransferComplete_pending s t h
  | transactionTimeout slice master target => exact execTransactionTimeout_pending slice master target s t h
  | vitCommitComplete slot => exact execVitCommitComplete_pending slot s t h
  | ldgMaintComplete => exact execLdgMaintComplete_pending s t h
  | ldgProgramComplete failed => exact execLdgProgramComplete_pending failed s t h
  | vltDeriveComplete => exact execVltDeriveComplete_pending s t h
  | vltChallengeComplete => exact execVltChallengeComplete_pending s t h
  | tamper => exact execTamper_pending s t h
  | thermalWatch => exact execThermalWatch_pending s t h
  | measurementComplete readings => exact execMeasurementComplete_pending readings s t h
  | shutdownStep2 bound => exact execShutdownStep2_pending bound s t h
  | shutdownStep4 => exact execShutdownStep4_pending s t h
  | thermalTrip => exact execThermalTrip_pending s t h
  | selftestComplete target failed => exact execSelftestComplete_pending target failed s t h
  | wingFault w cause => exact execWingFault_pending w cause s t h
  | wingSupplyFault w => exact execWingSupplyFault_pending w s t h
  | giveUp w both => exact execGiveUp_pending w both s t h
  | takeover checks => exact execTakeover_pending checks s t h
  | tileCompare o tile a b => exact execTileCompare_pending o tile a b s t h
  | arbitrationResult o tile w confirmed => exact execArbitrationResult_pending o tile w confirmed s t h
  | readmissionMonitorClear w => exact execReadmissionMonitorClear_pending w s t h
  | readmissionMonitorTimeout w => exact execReadmissionMonitorTimeout_pending w s t h
  | readmissionTestDone w failed => exact execReadmissionTestDone_pending w failed s t h
  | lockstepMismatch mgmt => exact execLockstepMismatch_pending mgmt s t h
  | pairBackInService mgmt => exact execPairBackInService_pending mgmt s t h
  | curatorWatchdog => exact execCuratorWatchdog_pending s t h
  | mr4RefreshPoll port code hot => exact execMr4RefreshPoll_pending port code hot s t h
  | memoryTrainingComplete port trained gib => exact execMemoryTrainingComplete_pending port trained gib s t h
  | porstNAssert => exact execPorstNAssert_pending s t h
  | powerLoss groups => exact execPowerLoss_pending groups s t h
  | atrSupplyFault => exact execAtrSupplyFault_pending s t h
  | bootStart strap railA railB => exact execBootStart_pending strap railA railB s t h
  | flashLoadComplete copy0 copy1 => exact execFlashLoadComplete_pending copy0 copy1 s t h
  | flashLoadRetry => exact execFlashLoadRetry_pending s t h
  | bootModeApply => exact execBootModeApply_pending s t h
  | outputLineBoundary o line => exact execOutputLineBoundary_pending o line s t h
  | coreClockRegained gen => exact execCoreClockRegained_pending gen s t h
  | _ => cases hc
/-- Nor does any command. -/
theorem exec_pending (c : Instr) (s t : State) (h : exec c s = .next t) : t.pending = s.pending := by
  cases hc : opOf c with
  | none => exact happening_pending hc s t h
  | some o =>
    obtain ⟨op, q, -, hrun⟩ := exec_command hc
    rw [hrun, Host.Outcome.next.injEq] at h
    rw [← h, runCommand_pending c q o s (opOf_keeps c o hc)]

theorem step_cons {c : Instr} {r : List Instr} {s : State} (h : s.pending = c :: r) : step s = exec c { s with pending := r } := by
  simp only [step, h]
theorem step_nil {s : State} (h : s.pending = []) : step s = .next (tick s) := by
  simp only [step, h]

/-- Settles O31. -/
theorem stepRunsTheFront : Obligations.StepRunsTheFront := fun _ _ _ h => step_cons h

/-- Settles O34: no command touches the queue, and a step hands the rest of it to the command at its front. -/
theorem queueIsFirstInFirstOut : Obligations.QueueIsFirstInFirstOut := by
  refine ⟨exec_pending, fun c r s t hs h => ?_⟩
  rw [step_cons hs] at h
  exact exec_pending c { s with pending := r } t h

end Sys2Proof.Machine

/-! # Who owns what (R83, R85, R98, R99)

No row touches the table of owners but CLAIM and RELEASE, at their effect instant or from the schedule table, and the resets, which empty
it. CLAIM and RELEASE write single instances, and a write keeps the table's canonical form. -/

namespace Sys2Proof.Machine
open Sys2Proof

/-! ## Everything but CLAIM, RELEASE, LAUNCH and the resets -/

theorem opOf_keepsOwners {c : Instr} {o : Op} (hc : changesOwners c = false) (h : opOf c = some o) : o.KeepsOwners := by
  cases c <;> first | (cases hc; done) | (cases h <;> simp)
theorem happening_owners {c : Instr} (hk : changesOwners c = false) (hc : opOf c = none) (s t : State) (h : exec c s = .next t) :
    t.owners = s.owners := by
  cases c with
  | writePacket port bytes => exact execWritePacket_owners port bytes s t h
  | readPlacard port n => exact execReadPlacard_owners port n s t h
  | readPortStatus port n => exact execReadPortStatus_owners port n s t h
  | unknownTransaction port code => exact execUnknownTransaction_owners port code s t h
  | cp3SclTimeout got => exact execCp3SclTimeout_owners got s t h
  | cp2PacketTimeout => exact execCp2PacketTimeout_owners s t h
  | cp2LinkRetry => exact execCp2LinkRetry_owners s t h
  | buildTimeout => exact execBuildTimeout_owners s t h
  | modeWakeWaitEnd => exact execModeWakeWaitEnd_owners s t h
  | wingReady w => exact execWingReady_owners w s t h
  | wakeTimeout w => exact execWakeTimeout_owners w s t h
  | imageCloseComplete => exact execImageCloseComplete_owners s t h
  | outputStartInstant out => exact execOutputStartInstant_owners out s t h
  | triggerDeparture port offset => exact execTriggerDeparture_owners port offset s t h
  | synBandStoreComplete syn => exact execSynBandStoreComplete_owners syn s t h
  | rampStep syn => exact execRampStep_owners syn s t h
  | synLockAcquired syn band post => exact execSynLockAcquired_owners syn band post s t h
  | synUngate syn => exact execSynUngate_owners syn s t h
  | synSearchTimeout syn => exact execSynSearchTimeout_owners syn s t h
  | synLossOfLock syn => exact execSynLossOfLock_owners syn s t h
  | refPulse c interval => exact execRefPulse_owners c interval s t h
  | refFreqMeasurement c edges => exact execRefFreqMeasurement_owners c edges s t h
  | refActivityLost c => exact execRefActivityLost_owners c s t h
  | refQualified c => exact execRefQualified_owners c s t h
  | dpllComparison phase => exact execDpllComparison_owners phase s t h
  | holdoverIntervalRecord avg => exact execHoldoverIntervalRecord_owners avg s t h
  | acquireAlarm => exact execAcquireAlarm_owners s t h
  | fsyncPulse n high => exact execFsyncPulse_owners n high s t h
  | tbPpsPulse high => exact execTbPpsPulse_owners high s t h
  | synHopLockTimeout syn => exact execSynHopLockTimeout_owners syn s t h
  | eyeScanComplete port counts => exact execEyeScanComplete_owners port counts s t h
  | plkDetectClock port => exact execPlkDetectClock_owners port s t h
  | plkLaneLock port lane => exact execPlkLaneLock_owners port lane s t h
  | plkLaneLockLost port lane invalid => exact execPlkLaneLockLost_owners port lane invalid s t h
  | plkAlignTimeout port => exact execPlkAlignTimeout_owners port s t h
  | capability port packet => exact execCapability_owners port packet s t h
  | capabilityResend port => exact execCapabilityResend_owners port s t h
  | capabilityTimeout port => exact execCapabilityTimeout_owners port s t h
  | plkStepTimeout port => exact execPlkStepTimeout_owners port s t h
  | plkTrainTimeout port => exact execPlkTrainTimeout_owners port s t h
  | plkVerifyEnd port symbols => exact execPlkVerifyEnd_owners port symbols s t h
  | plkFallbackTimeout port => exact execPlkFallbackTimeout_owners port s t h
  | plkRecoverTimeout port => exact execPlkRecoverTimeout_owners port s t h
  | plkClockLost port => exact execPlkClockLost_owners port s t h
  | heartbeatTimeout port => exact execHeartbeatTimeout_owners port s t h
  | backoffEnd port => exact execBackoffEnd_owners port s t h
  | plkDrainTimeout port => exact execPlkDrainTimeout_owners port s t h
  | heartbeatSend port => exact execHeartbeatSend_owners port s t h
  | heartbeat port packet => exact execHeartbeat_owners port packet s t h
  | videoLine port packet drift => exact execVideoLine_owners port packet drift s t h
  | tile port packet drift => exact execTile_owners port packet drift s t h
  | audio port packet => exact execAudio_owners port packet s t h
  | fence port packet => exact execFence_owners port packet s t h
  | marker port lane count corrected uncorrectable => exact execMarker_owners port lane count corrected uncorrectable s t h
  | cp2Command port m => exact execCp2Command_owners port m s t h
  | cp2Placard port => exact execCp2Placard_owners port s t h
  | ack port upTo => exact execAck_owners port upTo s t h
  | ackTimer port => exact execAckTimer_owners port s t h
  | retransmitTimeout port => exact execRetransmitTimeout_owners port s t h
  | urgent port m => exact execUrgent_owners port m s t h
  | power port m => exact execPower_owners port m s t h
  | training port m => exact execTraining_owners port m s t h
  | endOfLink port m => exact execEndOfLink_owners port m s t h
  | capabilityAck port m => exact execCapabilityAck_owners port m s t h
  | failure port m => exact execFailure_owners port m s t h
  | beacon port dir => exact execBeacon_owners port dir s t h
  | powerRequestTimeout port => exact execPowerRequestTimeout_owners port s t h
  | wakeTimeoutPlk port => exact execWakeTimeoutPlk_owners port s t h
  | trafficIdleReturn port dir => exact execTrafficIdleReturn_owners port dir s t h
  | plkErrorWindowEnd port invalid => exact execPlkErrorWindowEnd_owners port invalid s t h
  | equaliserTrainingDone port => exact execEqualiserTrainingDone_owners port s t h
  | auxRequest port kind addr off len data => exact execAuxRequest_owners port kind addr off len data s t h
  | dpLinkTraining port rate lanes => exact execDpLinkTraining_owners port rate lanes s t h
  | dpLinkLoss port => exact execDpLinkLoss_owners port s t h
  | sidebandMessage port m => exact execSidebandMessage_owners port m s t h
  | msa port sub m => exact execMsa_owners port sub m s t h
  | audioSdp port sub channels rate frames lpcm last => exact execAudioSdp_owners port sub channels rate frames lpcm last s t h
  | fenceSdp port hb1 data => exact execFenceSdp_owners port hb1 data s t h
  | edpHpdSettled port supports => exact execEdpHpdSettled_owners port supports s t h
  | edpTrainingDone port good => exact execEdpTrainingDone_owners port good s t h
  | edpIrqHpd port lost => exact execEdpIrqHpd_owners port lost s t h
  | edpPanelLoss port => exact execEdpPanelLoss_owners port s t h
  | csiFrameStart port vc hdr => exact execCsiFrameStart_owners port vc hdr s t h
  | csiFrameEnd port vc hdr drift => exact execCsiFrameEnd_owners port vc hdr drift s t h
  | csiLongPacket port vc hdr vcx dtype count good => exact execCsiLongPacket_owners port vc hdr vcx dtype count good s t h
  | csiUlpsEntry port => exact execCsiUlpsEntry_owners port s t h
  | vbIdTransition port sub starts drift => exact execVbIdTransition_owners port sub starts drift s t h
  | sourceLossTimeout pipe => exact execSourceLossTimeout_owners pipe s t h
  | fillComplete pipe => exact execFillComplete_owners pipe s t h
  | lockPoint o phase => exact execLockPoint_owners o phase s t h
  | switchWaitBound bank route o => exact execSwitchWaitBound_owners bank route o s t h
  | xbarChangeBoundary => exact execXbarChangeBoundary_owners s t h
  | tdmPortStart port => exact execTdmPortStart_owners port s t h
  | tdmPortStop port => exact execTdmPortStop_owners port s t h
  | converterLock conv => exact execConverterLock_owners conv s t h
  | converterRatioMeasure conv ratio => exact execConverterRatioMeasure_owners conv ratio s t h
  | sampleBoundary syn9 rate frames => exact execSampleBoundary_owners syn9 rate frames s t h
  | commitTick o obs => exact execCommitTick_owners o obs s t h
  | jobComplete w o row col fails lost agree rerun => exact execJobComplete_owners w o row col fails lost agree rerun s t h
  | jobDeadlineMiss w o row col late => exact execJobDeadlineMiss_owners w o row col late s t h
  | tileRowRead w o row tiles => exact execTileRowRead_owners w o row tiles s t h
  | recomposedTileRead w o row col crc => exact execRecomposedTileRead_owners w o row col crc s t h
  | bulkTransferComplete => exact execBulkTransferComplete_owners s t h
  | transactionTimeout slice master target => exact execTransactionTimeout_owners slice master target s t h
  | vitCommitComplete slot => exact execVitCommitComplete_owners slot s t h
  | ldgMaintComplete => exact execLdgMaintComplete_owners s t h
  | ldgProgramComplete failed => exact execLdgProgramComplete_owners failed s t h
  | vltDeriveComplete => exact execVltDeriveComplete_owners s t h
  | vltChallengeComplete => exact execVltChallengeComplete_owners s t h
  | thermalWatch => exact execThermalWatch_owners s t h
  | measurementComplete readings => exact execMeasurementComplete_owners readings s t h
  | shutdownStep2 bound => exact execShutdownStep2_owners bound s t h
  | shutdownStep4 => exact execShutdownStep4_owners s t h
  | selftestComplete target failed => exact execSelftestComplete_owners target failed s t h
  | wingFault w cause => exact execWingFault_owners w cause s t h
  | wingSupplyFault w => exact execWingSupplyFault_owners w s t h
  | giveUp w both => exact execGiveUp_owners w both s t h
  | takeover checks => exact execTakeover_owners checks s t h
  | tileCompare o tile a b => exact execTileCompare_owners o tile a b s t h
  | arbitrationResult o tile w confirmed => exact execArbitrationResult_owners o tile w confirmed s t h
  | readmissionMonitorClear w => exact execReadmissionMonitorClear_owners w s t h
  | readmissionMonitorTimeout w => exact execReadmissionMonitorTimeout_owners w s t h
  | readmissionTestDone w failed => exact execReadmissionTestDone_owners w failed s t h
  | pairBackInService mgmt => exact execPairBackInService_owners mgmt s t h
  | mr4RefreshPoll port code hot => exact execMr4RefreshPoll_owners port code hot s t h
  | memoryTrainingComplete port trained gib => exact execMemoryTrainingComplete_owners port trained gib s t h
  | bootStart strap railA railB => exact execBootStart_owners strap railA railB s t h
  | flashLoadComplete copy0 copy1 => exact execFlashLoadComplete_owners copy0 copy1 s t h
  | flashLoadRetry => exact execFlashLoadRetry_owners s t h
  | bootModeApply => exact execBootModeApply_owners s t h
  | outputLineBoundary o line => exact execOutputLineBoundary_owners o line s t h
  | coreClockRegained gen => exact execCoreClockRegained_owners gen s t h
  | _ => simp [opOf, changesOwners] at hc hk
theorem exec_owners (c : Instr) (s t : State) (h : exec c s = .next t) (hk : changesOwners c = false) : t.owners = s.owners := by
  cases hc : opOf c with
  | none => exact happening_owners hk hc s t h
  | some o =>
    obtain ⟨op, q, -, hrun⟩ := exec_command hc
    rw [hrun, Host.Outcome.next.injEq] at h
    rw [← h, runCommand_owners c q o s (opOf_keepsOwners hk hc)]

/-! ## The resets -/

@[simp] theorem resetAll_owners (s : State) (b : Boot) (t : Thermal) : (resetAll s b t).owners = [] := rfl
@[simp] theorem warmReset_owners (s : State) (cause : Nat) : (warmReset s cause).owners = [] := by simp [warmReset]
@[simp] theorem powerOnReset_owners (s : State) (p : BootPhase) : (powerOnReset s p).owners = [] := by simp [powerOnReset]
theorem ownerOf_of_owners_nil {s : State} (h : s.owners = []) (b c i : Nat) : ownerOf s b c i = none := by
  rw [ownerOf, h]; rfl

/-- Settles O37: the rows that are not of CLAIM, RELEASE, LAUNCH or a reset keep the table of owners, and a reset leaves it empty. -/
theorem ownershipPersistsUntilReset : Obligations.OwnershipPersistsUntilReset := by
  refine ⟨exec_owners, fun s t h => ownerOf_of_owners_nil ?_⟩
  rcases h with h | h | ⟨g, h⟩ | h | ⟨hdue, h⟩ | ⟨hdue, h⟩
  · cases h; exact powerOnReset_owners s .held
  · cases h; exact powerOnReset_owners s .noSupply
  · cases h; rfl
  · cases h; rfl
  · rw [show exec .warmReset s = .next (warmReset s 1) from if_pos hdue] at h
    cases h; exact warmReset_owners s 1
  · rw [show exec .curatorWatchdog s = .next (warmReset s 4) from if_pos hdue] at h
    cases h; exact warmReset_owners s 4

end Sys2Proof.Machine

namespace Sys2Proof.Machine
open Sys2Proof

/-! ## The canonical form of the table of owners -/

theorem ownersCanonical_of_owners_eq {s t : State} (h : t.owners = s.owners) (hs : ownersCanonical s = true) : ownersCanonical t = true := by
  rw [ownersCanonical, h]; exact hs
theorem ownersCanonical_of_owners_nil {s : State} (h : s.owners = []) : ownersCanonical s = true := by
  rw [ownersCanonical, h]; rfl
theorem setOwner_canonical {s : State} (hs : ownersCanonical s = true) (b cls i : Nat) (p : Option Port) :
    ownersCanonical (setOwner s b cls i p) = true :=
  twf_tput (fun _ => none) s.owners (ikey b cls i) p hs
theorem setOwners_canonical (p : Port) (cls : Nat) (new : Option Port) (l : List (Nat × Nat)) {s : State} (hs : ownersCanonical s = true) :
    ownersCanonical (setOwners s p cls new l) = true := by
  induction l generalizing s with
  | nil => exact hs
  | cons x r ih =>
    refine ih (setOwner_canonical (ownersCanonical_of_owners_eq ?_ hs) _ _ _ _)
    split
    · split
      · rfl
      · exact raise_owners _ _ _
    · rfl

/-- The effects of an operation keep the canonical form, and its other hooks keep the table. -/
structure Op.KeepsCanonical (o : Op) : Prop where
  run : ∀ s, ownersCanonical s = true → ownersCanonical (o.run s).1 = true
  launchRun : ∀ f, o.launchRun = some f → ∀ s, ownersCanonical s = true → ownersCanonical (f s).1 = true
  accept : ∀ e s, (o.accept e s).owners = s.owners
  waits : ∀ s, (o.waits s).owners = s.owners
  refused : ∀ r s, (o.refused r s).owners = s.owners
  failed : ∀ r s, (o.failed r s).owners = s.owners

theorem Op.KeepsOwners.keepsCanonical {o : Op} (h : o.KeepsOwners) : o.KeepsCanonical where
  run s := ownersCanonical_of_owners_eq (h.run s)
  launchRun f hf s := ownersCanonical_of_owners_eq (h.launchRun f hf s)
  accept := h.accept
  waits := h.waits
  refused := h.refused
  failed := h.failed
theorem opClaim_keepsCanonical (q : Req) (cls first count bank : Byte) (force : Bool) :
    (opClaim q cls first count bank force).KeepsCanonical :=
  ⟨fun _ hs => setOwners_canonical _ _ _ _ hs, nofun, fun _ _ => rfl, fun _ => rfl, fun _ _ => rfl, fun _ _ => rfl⟩
theorem opRelease_keepsCanonical (q : Req) (cls first count bank : Byte) (force : Bool) :
    (opRelease q cls first count bank force).KeepsCanonical :=
  ⟨fun _ hs => setOwners_canonical _ _ _ _ hs, nofun, fun _ _ => rfl, fun _ => rfl, fun _ _ => rfl, fun _ _ => rfl⟩
theorem opOf_keepsCanonical {c : Instr} {o : Op} (h : opOf c = some o) : o.KeepsCanonical := by
  cases hk : changesOwners c with
  | false => exact (opOf_keepsOwners hk h).keepsCanonical
  | true =>
    cases c with
    | claim q cls first count bank force => cases h; exact opClaim_keepsCanonical q cls first count bank force
    | release q cls first count bank force => cases h; exact opRelease_keepsCanonical q cls first count bank force
    | _ => simp [opOf, changesOwners] at h hk

theorem dueOf_keepsCanonical {c : Instr} {d : Due} (h : dueOf c = some d) : d.op.KeepsCanonical := by
  unfold dueOf at h
  split at h
  next heq => cases h; exact opOf_keepsCanonical heq
  next => cases h

/-! ## CLAIM and RELEASE in the pipeline -/

section
variable {d : Due} (hd : d.op.KeepsCanonical) {s : State} (hs : ownersCanonical s = true)
include hd hs

theorem placeEntry_canonical : ownersCanonical (placeEntry s d).1 = true :=
  ownersCanonical_of_owners_eq (by simp [placeEntry, hd.accept]) hs
theorem dueEffect_canonical : ownersCanonical (dueEffect d s).1 = true := by
  unfold dueEffect
  split
  next e _ =>
    have hstart : ownersCanonical (startRun (setEntry s e none) d true) = true := ownersCanonical_of_owners_eq (by simp) hs
    cases hl : d.op.launchRun with
    | none => exact hd.run _ hstart
    | some f => exact hd.launchRun f hl _ hstart
  next =>
    split
    · exact placeEntry_canonical hd hs
    · exact hd.run _ (ownersCanonical_of_owners_eq (by simp) hs)
/-- A command that acts changes the owners by its effect alone. -/
theorem perform_canonical : ownersCanonical (perform s d) = true := by
  cases hf : isFuture s d.q with
  | true =>
    refine ownersCanonical_of_owners_eq ?_ (placeEntry_canonical hd hs)
    simp [perform, hf]
  | false =>
    refine ownersCanonical_of_owners_eq ?_ (dueEffect_canonical hd hs)
    simp only [perform, hf, Bool.false_eq_true, if_false]
    split_ifs <;> simp
theorem refuse_canonical (late : Bool) (r : Rej) : ownersCanonical (refuse s d late r) = true := by
  refine ownersCanonical_of_owners_eq ?_ hs
  unfold refuse
  dsimp only
  split_ifs <;> simp [hd.refused]
theorem launchOne_canonical (e : Nat) (x : SchedEntry) (rej : Option Rej) : ownersCanonical (launchOne s e x d rej) = true := by
  have hlate : ownersCanonical (if x.late = 0 then s else lateLaunch s e d.q x.late) = true :=
    ownersCanonical_of_owners_eq (by split <;> simp) hs
  unfold launchOne
  dsimp only
  split
  next r => exact ownersCanonical_of_owners_eq (by simp [hd.failed, hd.refused]) hlate
  next =>
    refine ownersCanonical_of_owners_eq ?_ (dueEffect_canonical hd hlate)
    split_ifs <;> simp
end

theorem runCommand_canonical {o : Op} (ho : o.KeepsCanonical) (c : Instr) (q : Req) {s : State} (hs : ownersCanonical s = true) :
    ownersCanonical (runCommand c q o s) = true := by
  unfold runCommand
  dsimp only
  split
  · exact hs
  · have hout (x : State × Option Rej) (hx : x.1.owners = s.owners) (late : Bool) :
        ownersCanonical (settle (match x.2 with
          | some r => refuse x.1 { cmd := c, q := q, op := o } late r
          | none => if isFuture x.1 q && (freeSlot x.1).isNone then refuse x.1 { cmd := c, q := q, op := o } false (rejSt .noResource)
              else perform x.1 { cmd := c, q := q, op := o })) = true := by
      have hx' : ownersCanonical x.1 = true := ownersCanonical_of_owners_eq hx hs
      refine ownersCanonical_of_owners_eq (settle_owners _) ?_
      split
      · exact refuse_canonical ho hx' _ _
      · split
        · exact refuse_canonical ho hx' _ _
        · exact perform_canonical ho hx'
    have hcredit : (if q.tick.isSome then s else holdCredit s q.port true).owners = s.owners := by split <;> simp
    generalize (if q.tick.isSome then s else holdCredit s q.port true) = s0 at hcredit ⊢
    cases q.tick with
    | none => exact hout (dueRej _ s0) (by simp [hcredit]) _
    | some t => exact hout ((earlySteps (decideDue s0 t (some c) (setsTime c) q.port none).1 q o).1, _) (by simp [hcredit]) _

/-! ## LAUNCH -/

theorem launchDue_canonical (time : Bool) {s : State} (hs : ownersCanonical s = true) : ownersCanonical (launchDue s time) = true := by
  unfold launchDue
  dsimp only
  generalize (dueEntries s).filter (fun x => inRound time x.2.cmd) = l
  induction l generalizing s with
  | nil => exact hs
  | cons x l ih =>
    refine ih ?_
    dsimp only
    split
    · exact ownersCanonical_of_owners_eq (setEntry_owners _ _ _) hs
    next d hdue =>
      have hd : d.op.KeepsCanonical := dueOf_keepsCanonical hdue
      split
      · exact ownersCanonical_of_owners_eq (hd.waits s) hs
      · exact launchOne_canonical (d := { d with entry := some x.1 }) hd (ownersCanonical_of_owners_eq (decideDue_owners _ _ _ _ _ _) hs) _ _ _
theorem launchRounds_canonical (n : Nat) {s : State} (hs : ownersCanonical s = true) : ownersCanonical (launchRounds n s) = true := by
  induction n generalizing s with
  | zero => exact hs
  | succ n ih =>
    simp only [launchRounds]
    split
    · exact launchDue_canonical false hs
    · exact ih (launchDue_canonical false hs)
theorem launchSets_canonical {s : State} (hs : ownersCanonical s = true) : ownersCanonical (launchSets s) = true := by
  unfold launchSets
  split
  · exact hs
  · exact launchDue_canonical true hs
theorem execLaunch_canonical {s t : State} (hs : ownersCanonical s = true) (h : execLaunch s = .next t) : ownersCanonical t = true := by
  unfold execLaunch at h
  split at h
  · cases h; exact hs
  · rw [Host.Outcome.next.injEq] at h
    rw [← h]
    refine ownersCanonical_of_owners_eq (settle_owners _) ?_
    split
    · exact launchSets_canonical hs
    · exact launchRounds_canonical 257 (launchSets_canonical hs)

/-! ## The resets, and a tick -/

theorem foldl_canonical {α : Type} (l : List α) (g : State → α → State)
    (hg : ∀ s x, ownersCanonical s = true → ownersCanonical (g s x) = true) {s : State} (hs : ownersCanonical s = true) :
    ownersCanonical (l.foldl g s) = true :=
  List.foldlRecOn l g (motive := fun s => ownersCanonical s = true) hs fun s h x _ => hg s x h
/-- A command that a failing pair held may have taken effect, and it may be a CLAIM (R12). -/
theorem heldEffect_canonical (c : Instr) {s : State} (hs : ownersCanonical s = true) : ownersCanonical (heldEffect s c) = true := by
  unfold heldEffect
  split
  · exact hs
  next d hdue =>
    have hrej : ownersCanonical (dueRej d s).1 = true := ownersCanonical_of_owners_eq (dueRej_owners d s) hs
    split
    next heq => rw [heq] at hrej; exact dueEffect_canonical (dueOf_keepsCanonical hdue) hrej
    next heq => rw [heq] at hrej; exact hrej
theorem dropFlight_canonical (s : State) (f : Flight) (hs : ownersCanonical s = true) : ownersCanonical (dropFlight s f) = true := by
  have hdraw : ownersCanonical (drawBool s).2 = true := ownersCanonical_of_owners_eq (drawBool_owners s) hs
  refine ownersCanonical_of_owners_eq (formPlacard_owners _ _ _ _ _) ?_
  split
  · split
    · exact heldEffect_canonical _ hdraw
    · exact hdraw
  · exact hdraw
theorem dropCommands_canonical {s : State} (hs : ownersCanonical s = true) : ownersCanonical (dropCommands s) = true := by
  have hflights := foldl_canonical s.ports.flights dropFlight dropFlight_canonical (s := { s with ports := { s.ports with flights := [] } }) hs
  exact ownersCanonical_of_owners_eq (by simp [dropCommands]) hflights
/-- With both pairs held the Ontor resets (R12). -/
theorem heldReset_canonical {s : State} (hs : ownersCanonical s = true) :
    ownersCanonical (if s.boot.cmdPair.held ∧ s.boot.mgmtPair.held then warmReset s 4 else settle s) = true := by
  split
  · exact ownersCanonical_of_owners_nil (warmReset_owners s 4)
  · exact ownersCanonical_of_owners_eq (settle_owners s) hs
theorem execLockstepMismatch_canonical {mgmt : Bool} {s t : State} (hs : ownersCanonical s = true)
    (h : execLockstepMismatch mgmt s = .next t) : ownersCanonical t = true := by
  unfold execLockstepMismatch at h
  dsimp only at h
  split at h
  · cases h; exact hs
  · rw [Host.Outcome.next.injEq] at h
    rw [← h]
    refine heldReset_canonical ?_
    split
    · exact ownersCanonical_of_owners_eq (by split_ifs <;> simp) hs
    · exact dropCommands_canonical (ownersCanonical_of_owners_eq (by split_ifs <;> simp) hs)
/-- What resets the device at its instant or at a fault keeps the table or empties it. -/
theorem reset_owners {c : Instr} (hc : opOf c = none) (hk : changesOwners c = true) (hl : c ≠ .launch)
    (hm : ∀ mgmt, c ≠ .lockstepMismatch mgmt) {s t : State} (h : exec c s = .next t) :
    t.owners = s.owners ∨ t.owners = [] := by
  cases c with
  | warmReset =>
    change execWarmReset s = .next t at h
    unfold execWarmReset at h
    split at h <;> cases h
    · exact .inr (warmReset_owners s 1)
    · exact .inl rfl
  | curatorWatchdog =>
    change execCuratorWatchdog s = .next t at h
    unfold execCuratorWatchdog at h
    split at h <;> cases h
    · exact .inr (warmReset_owners s 4)
    · exact .inl rfl
  | porstNAssert => cases h; exact .inr (powerOnReset_owners s .held)
  | atrSupplyFault => cases h; exact .inr (powerOnReset_owners s .noSupply)
  | powerLoss groups => cases h; exact .inr rfl
  | thermalTrip => cases h; exact .inr rfl
  | tamper =>
    change execTamper s = .next t at h
    unfold execTamper at h
    dsimp only at h
    split at h <;> cases h
    · exact .inl (by simp [clearVault])
    · exact .inr (by simp [clearVault])
  | coreClockLoss gen =>
    change execCoreClockLoss gen s = .next t at h
    unfold execCoreClockLoss at h
    split at h <;> split at h <;> cases h
    case h_4.isFalse.refl => exact .inr (warmReset_owners s 4)
    all_goals exact .inl (by simp)
  | lockstepMismatch mgmt => exact absurd rfl (hm mgmt)
  | launch => exact absurd rfl hl
  | _ => simp [opOf, changesOwners] at hc hk

theorem landDue_owners (s : State) : (landDue s).1.owners = s.owners := by
  refine List.foldlRecOn (motive := fun x : State × List Instr => x.1.owners = s.owners) _ _ rfl fun x hx f _ => ?_
  have hland := land_owners x.1 f
  split
  all_goals
    next heq =>
      rw [heq] at hland
      exact hland.trans hx
theorem tick_owners (s : State) : (tick s).owners = s.owners := by
  unfold tick
  dsimp only
  split
  · simp
  · simp [landDue_owners]

/-- Settles O36. -/
theorem resetOwnersCanonical : Obligations.ResetOwnersCanonical := ownersCanonical_of_owners_nil rfl

theorem exec_canonical (c : Instr) {s t : State} (hs : ownersCanonical s = true) (h : exec c s = .next t) : ownersCanonical t = true := by
  cases hc : opOf c with
  | some o =>
    obtain ⟨op, q, -, hrun⟩ := exec_command hc
    rw [hrun, Host.Outcome.next.injEq] at h
    rw [← h]
    exact runCommand_canonical (opOf_keepsCanonical hc) c q hs
  | none =>
    cases hk : changesOwners c with
    | false => exact ownersCanonical_of_owners_eq (exec_owners c s t h hk) hs
    | true =>
      by_cases hl : c = .launch
      · subst hl; exact execLaunch_canonical hs h
      by_cases hm : ∃ mgmt, c = .lockstepMismatch mgmt
      · obtain ⟨mgmt, rfl⟩ := hm
        exact execLockstepMismatch_canonical hs h
      rcases reset_owners hc hk hl (fun mgmt heq => hm ⟨mgmt, heq⟩) h with heq | hnil
      · exact ownersCanonical_of_owners_eq heq hs
      · exact ownersCanonical_of_owners_nil hnil

/-- Settles O35: a command keeps the form by its effects, a launch and a lockstep mismatch by those
of the commands that they let act, a reset by emptying the table, and a tick by
leaving it. -/
theorem stepKeepsOwnersCanonical : Obligations.StepKeepsOwnersCanonical := by
  intro s t hs h
  cases hp : s.pending with
  | nil =>
    rw [step_nil hp, Host.Outcome.next.injEq] at h
    rw [← h]
    exact ownersCanonical_of_owners_eq (tick_owners s) hs
  | cons c r =>
    rw [step_cons hp] at h
    exact exec_canonical c (s := { s with pending := r }) hs h

end Sys2Proof.Machine

/-! # A packet reads back as its command (Tables 3-4 and 3-5, R5, R72, R91, R94)

Little-endian bytes spell the number they were made of, and a field read at its offset depends on the bytes from there on. With these two
facts the eight header bytes, the launch value, the parameters and the MAC come apart as they were put together. -/

namespace Sys2Proof.Machine
open Sys2Proof

/-! ## Little-endian bytes -/

@[simp] theorem length_leBytes (n v : Nat) : (leBytes n v).length = n := by
  induction n generalizing v with
  | zero => rfl
  | succ n ih => simp [leBytes, ih]
theorem leNat_leBytes (n v : Nat) : leNat (leBytes n v) = v % 256 ^ n := by
  induction n generalizing v with
  | zero => simp [leBytes, leNat, Nat.mod_one]
  | succ n ih =>
    rw [leBytes, leNat, ih]
    exact (Nat.mod_mul (x := v) (a := 256) (b := 256 ^ n)).symm.trans (by rw [Nat.pow_succ'])
/-- A word of `8 * n` bits comes back from its `n` bytes. -/
theorem ofNat_leNat_leBytes {w : Nat} (n : Nat) (h : w = 8 * n) (x : BitVec w) : BitVec.ofNat w (leNat (leBytes n x.toNat)) = x := by
  subst h
  have hpow : 256 ^ n = 2 ^ (8 * n) := by rw [Nat.pow_mul]
  rw [leNat_leBytes, hpow, Nat.mod_eq_of_lt x.isLt, BitVec.ofNat_toNat, BitVec.setWidth_eq]
@[simp] theorem length_wordBytes (w : Word) : (wordBytes w).length = 4 := length_leBytes 4 _
@[simp] theorem length_halfBytes (h : Half) : (halfBytes h).length = 2 := length_leBytes 2 _
@[simp] theorem length_addrBytes (a : Addr) : (addrBytes a).length = 3 := length_leBytes 3 _
@[simp] theorem length_unitBytes (u : UnitRef) : (unitBytes u).length = 2 := rfl

theorem ofNat_halfBytes (h : Half) : BitVec.ofNat 16 (leNat (halfBytes h)) = h := ofNat_leNat_leBytes 2 rfl h
theorem ofNat_addrBytes (a : Addr) : BitVec.ofNat 24 (leNat (addrBytes a)) = a := ofNat_leNat_leBytes 3 rfl a
theorem ofNat_wordBytes (w : Word) : BitVec.ofNat 32 (leNat (wordBytes w)) = w := ofNat_leNat_leBytes 4 rfl w
theorem ofNat_longBytes (x : W64) : BitVec.ofNat 64 (leNat (leBytes 8 x.toNat)) = x := ofNat_leNat_leBytes 8 rfl x

@[simp] theorem wordsOf_wordsBytes (ws : List Word) : wordsOf (wordsBytes ws) = ws := by
  induction ws with
  | nil => rfl
  | cons w r ih => exact congrArg₂ List.cons (ofNat_wordBytes w) ih
@[simp] theorem length_wordsBytes (ws : List Word) : (wordsBytes ws).length = 4 * ws.length := by
  induction ws with
  | nil => rfl
  | cons w r ih => rw [wordsBytes, List.flatMap_cons, List.length_append, length_wordBytes, ← wordsBytes, ih, List.length_cons]; ring

/-! ## Fields at an offset -/

@[simp] theorem slice_append (l r : List Byte) (k n : Nat) : slice (l ++ r) (l.length + k) n = slice r k n := by
  rw [slice, List.drop_append, List.drop_eq_nil_of_le (Nat.le_add_right _ _), Nat.add_sub_cancel_left, List.nil_append, slice]
theorem leAt_append (l r : List Byte) (k n : Nat) : leAt (l ++ r) (l.length + k) n = leAt r k n := by
  rw [leAt, slice_append, leAt]
theorem pByte_append (l r : List Byte) (k : Nat) : pByte (l ++ r) (l.length + k) = pByte r k := by
  rw [pByte, pByte, List.getD_append_right _ _ _ _ (Nat.le_add_right _ _), Nat.add_sub_cancel_left]
theorem pHalf_append (l r : List Byte) (k : Nat) : pHalf (l ++ r) (l.length + k) = pHalf r k := by rw [pHalf, leAt_append, pHalf]
theorem pWord_append (l r : List Byte) (k : Nat) : pWord (l ++ r) (l.length + k) = pWord r k := by rw [pWord, leAt_append, pWord]
theorem pLong_append (l r : List Byte) (k : Nat) : pLong (l ++ r) (l.length + k) = pLong r k := by rw [pLong, leAt_append, pLong]
theorem pUnit_append (l r : List Byte) (k : Nat) : pUnit (l ++ r) (l.length + k) = pUnit r k := by
  rw [pUnit, pByte_append, Nat.add_assoc, pByte_append, pUnit]

/-! ## Flags and counts -/

theorem flagByte_bit (b : Bool) : (flagByte b).getLsbD 0 = b := by cases b <;> rfl
theorem two_flags_bit0 (a b : Bool) : (BitVec.ofNat 8 (b2n a + 2 * b2n b)).getLsbD 0 = a := by cases a <;> cases b <;> rfl
theorem two_flags_bit1 (a b : Bool) : (BitVec.ofNat 8 (b2n a + 2 * b2n b)).getLsbD 1 = b := by cases a <;> cases b <;> rfl
theorem countByte_toNat {n : Nat} (h : n ≤ 255) : (countByte n).toNat = n := by
  rw [countByte, BitVec.toNat_ofNat, Nat.mod_eq_of_lt (by omega)]
theorem leNat_countBytes {n : Nat} (h : n < 65536) : leNat [BitVec.ofNat 8 n, BitVec.ofNat 8 (n / 256)] = n :=
  (leNat_leBytes 2 n).trans (Nat.mod_eq_of_lt h)

/-! ## Parameters that are entries after a head -/

/-- Entries of one size, read one after another, come back, whatever follows them. -/
theorem map_offsets_entries {α β : Type} (enc : α → List β) (get : List β → Nat → α) (each : Nat) (es : List α)
    (hlen : ∀ e ∈ es, (enc e).length = each) (hget : ∀ e ∈ es, ∀ pre rest, get (pre ++ (enc e ++ rest)) pre.length = e) (pre post : List β) :
    (offsets es.length pre.length each).map (get (pre ++ (es.flatMap enc ++ post))) = es := by
  induction es generalizing pre with
  | nil => rfl
  | cons e r ih =>
    have hrest := ih (fun x hx => hlen x (List.mem_cons_of_mem e hx)) (fun x hx => hget x (List.mem_cons_of_mem e hx)) (pre ++ enc e)
    rw [List.length_append, hlen e List.mem_cons_self, List.append_assoc, offsets, List.map_map] at hrest
    rw [offsets, List.length_cons, List.range_succ_eq_map, List.map_cons, List.map_cons, List.flatMap_cons, Nat.mul_zero, Nat.add_zero,
      List.append_assoc, hget e List.mem_cons_self, List.map_map, List.map_map]
    congr 1
    refine Eq.trans (List.map_congr_left fun i _ => ?_) hrest
    simp only [Function.comp_apply, Nat.succ_eq_add_one]
    congr 1
    ring
/-- The entries of a packet are the last of its parameters. -/
theorem map_offsets_last {α : Type} (enc : α → List Byte) (get : List Byte → Nat → α) (each : Nat) (hlen : ∀ e, (enc e).length = each)
    (hget : ∀ pre e rest, get (pre ++ (enc e ++ rest)) pre.length = e) (es : List α) (pre : List Byte) :
    (offsets es.length pre.length each).map (get (pre ++ es.flatMap enc)) = es := by
  simpa using map_offsets_entries enc get each es (fun e _ => hlen e) (fun e _ pre rest => hget pre e rest) pre []
theorem length_flatMap_entries {α : Type} (enc : α → List Byte) (each : Nat) (hlen : ∀ e, (enc e).length = each) (es : List α) :
    (es.flatMap enc).length = each * es.length := by
  induction es with
  | nil => rfl
  | cons e r ih => rw [List.flatMap_cons, List.length_append, hlen, ih, List.length_cons]; ring

/-! ## The parameters of each row -/

/-- The parameters of a command have the size of their opcode and are read as that command. -/
def ReadsAs (op : Byte) (q : Req) (ps : List Byte) (c : Instr) : Prop :=
  lengthOk op ps = some true ∧ commandOf op q ps = some c

theorem le_of_between {lo hi n : Nat} (h : between lo hi n = true) : lo ≤ n ∧ n ≤ hi := by
  simpa [between] using h

theorem blockWrite_readsAs (q : Req) (a : Addr) (b : Byte) {vs : List Word} (hvs : vs.length ≤ 255) :
    ReadsAs 0x14 q (addrBytes a ++ [b, countByte vs.length, 0#8, 0#8, 0#8] ++ wordsBytes vs) (.blockWrite q a b vs) := by
  constructor
  · show some (decide (_ = 8 + 4 * (countByte vs.length).toNat)) = _
    simp [countByte_toNat hvs]; omega
  · show some (Instr.blockWrite q (BitVec.ofNat 24 (leNat (addrBytes a))) b (wordsOf (wordsBytes vs))) = _
    rw [wordsOf_wordsBytes, ofNat_addrBytes]
theorem imageData_readsAs (q : Req) (off : Word) {d : List Byte} (hd : 1 ≤ d.length) :
    ReadsAs 0x23 q (wordBytes off ++ d) (.imageData q off d) := by
  constructor
  · show some (decide (4 ≤ (wordBytes off ++ d).length) && decide (1 ≤ (wordBytes off ++ d).length - 4)) = _
    simp [hd]
  · show some (Instr.imageData q (BitVec.ofNat 32 (leNat (wordBytes off))) d) = _
    rw [ofNat_wordBytes]
theorem refRank_readsAs (q : Req) {cs : List Byte} (hcs : cs.length ≤ 255) :
    ReadsAs 0x51 q ([countByte cs.length, 0#8, 0#8, 0#8] ++ cs) (.refRank q cs) := by
  refine ⟨?_, rfl⟩
  show some (decide (_ = 4 + 1 * (countByte cs.length).toNat)) = _
  simp [countByte_toNat hcs]; omega
theorem meshData_readsAs (q : Req) (m : UnitRef) (first : Word) (es : List Word) :
    ReadsAs 0x80 q (unitBytes m ++ [0#8, 0#8] ++ wordBytes first ++ wordsBytes es) (.meshData q m first es) := by
  constructor
  · show some (decide (8 ≤ _) && decide ((_ - 8) % 4 = 0)) = _
    simp; omega
  · show some (Instr.meshData q m (BitVec.ofNat 32 (leNat (wordBytes first))) (wordsOf (wordsBytes es))) = _
    rw [wordsOf_wordsBytes, ofNat_wordBytes]
theorem vitData_readsAs (q : Req) (n : Byte) (off : Word) (d : List Byte) :
    ReadsAs 0x84 q ([n, 0#8, 0#8, 0#8] ++ wordBytes off ++ d) (.vitData q n off d) := by
  constructor
  · show some (decide (8 ≤ _) && true) = _
    simp
  · show some (Instr.vitData q n (BitVec.ofNat 32 (leNat (wordBytes off))) d) = _
    rw [ofNat_wordBytes]
theorem ldgWrite_readsAs (q : Req) (p : Half) (off : Byte) {d : List Byte} (hd : 1 ≤ d.length ∧ d.length ≤ 256) :
    ReadsAs 0x91 q (halfBytes p ++ [off, 0#8] ++ d) (.ldgWrite q p off d) := by
  constructor
  · show some (decide (4 ≤ _) && (decide (1 ≤ _ - 4) && decide (_ - 4 ≤ 256))) = _
    simp; omega
  · show some (Instr.ldgWrite q (BitVec.ofNat 16 (leNat (halfBytes p))) off d) = _
    rw [ofNat_halfBytes]

/-! ### Rows with entries of several fields -/

/-- The bytes of an entry of GROUP_FLIP. -/
def flipEntryBytes (e : FlipEntry) : List Byte := unitBytes e.layer ++ [0#8, 0#8] ++ leBytes 8 e.surf.toNat
/-- The bytes of a segment of SYN_RAMP_LOAD. -/
def segBytes (e : Seg) : List Byte := wordBytes e.slope ++ wordBytes e.dur
/-- The bytes of an entry of AUD_XBAR. -/
def xbarEntryBytes (e : XbarEntry) : List Byte := halfBytes e.dst ++ halfBytes e.src ++ halfBytes e.gain ++ [0#8, 0#8]

theorem flipEntry_reads (pre : List Byte) (e : FlipEntry) (rest : List Byte) :
    ({ layer := pUnit (pre ++ (flipEntryBytes e ++ rest)) pre.length, surf := pLong (pre ++ (flipEntryBytes e ++ rest)) (pre.length + 4) } : FlipEntry)
      = e := by
  rw [← Nat.add_zero pre.length, pUnit_append, Nat.add_zero, pLong_append]
  show FlipEntry.mk e.layer (BitVec.ofNat 64 (leNat (leBytes 8 e.surf.toNat))) = e
  rw [ofNat_longBytes]
theorem seg_reads (pre : List Byte) (e : Seg) (rest : List Byte) :
    ({ slope := pWord (pre ++ (segBytes e ++ rest)) pre.length, dur := pWord (pre ++ (segBytes e ++ rest)) (pre.length + 4) } : Seg) = e := by
  rw [← Nat.add_zero pre.length, pWord_append, Nat.add_zero, pWord_append]
  show Seg.mk (BitVec.ofNat 32 (leNat (wordBytes e.slope))) (BitVec.ofNat 32 (leNat (wordBytes e.dur))) = e
  rw [ofNat_wordBytes, ofNat_wordBytes]
theorem xbarEntry_reads (pre : List Byte) (e : XbarEntry) (rest : List Byte) :
    ({ dst := pHalf (pre ++ (xbarEntryBytes e ++ rest)) pre.length, src := pHalf (pre ++ (xbarEntryBytes e ++ rest)) (pre.length + 2),
       gain := pHalf (pre ++ (xbarEntryBytes e ++ rest)) (pre.length + 4) } : XbarEntry) = e := by
  rw [pHalf_append pre _ 2, pHalf_append pre _ 4, ← Nat.add_zero pre.length, pHalf_append]
  show XbarEntry.mk (BitVec.ofNat 16 (leNat (halfBytes e.dst))) (BitVec.ofNat 16 (leNat (halfBytes e.src)))
    (BitVec.ofNat 16 (leNat (halfBytes e.gain))) = e
  rw [ofNat_halfBytes, ofNat_halfBytes, ofNat_halfBytes]
theorem unit_reads (pre : List Byte) (u : UnitRef) (rest : List Byte) : pUnit (pre ++ (unitBytes u ++ rest)) pre.length = u :=
  pUnit_append pre (unitBytes u ++ rest) 0

theorem groupFlip_readsAs (q : Req) (f : Half) {es : List FlipEntry} (hes : es.length ≤ 255) :
    ReadsAs 0x32 q ([countByte es.length, 0#8] ++ halfBytes f ++ es.flatMap flipEntryBytes) (.groupFlip q f es) := by
  constructor
  · show some (decide (_ = 4 + 12 * (countByte es.length).toNat)) = _
    rw [List.length_append, length_flatMap_entries flipEntryBytes 12 (fun _ => rfl), countByte_toNat hes]
    simp
  · show some (Instr.groupFlip q (BitVec.ofNat 16 (leNat (halfBytes f))) ((offsets (countByte es.length).toNat 4 12).map _)) = _
    rw [ofNat_halfBytes, countByte_toNat hes]
    exact congrArg (fun l => some (Instr.groupFlip q f l)) (map_offsets_last flipEntryBytes
      (fun p o => { layer := pUnit p o, surf := pLong p (o + 4) }) 12 (fun _ => rfl) flipEntry_reads es ([countByte es.length, 0#8] ++ halfBytes f))
theorem synRampLoad_readsAs (q : Req) (n : Byte) {g : List Seg} (hg : g.length ≤ 255) :
    ReadsAs 0x55 q ([n, countByte g.length, 0#8, 0#8] ++ g.flatMap segBytes) (.synRampLoad q n g) := by
  constructor
  · show some (decide (_ = 4 + 8 * (countByte g.length).toNat)) = _
    rw [List.length_append, length_flatMap_entries segBytes 8 (fun _ => rfl), countByte_toNat hg]
    simp
  · show some (Instr.synRampLoad q n ((offsets (countByte g.length).toNat 4 8).map _)) = _
    rw [countByte_toNat hg]
    exact congrArg (fun l => some (Instr.synRampLoad q n l)) (map_offsets_last segBytes
      (fun p o => { slope := pWord p o, dur := pWord p (o + 4) }) 8 (fun _ => rfl) seg_reads g [n, countByte g.length, 0#8, 0#8])
theorem audXbar_readsAs (q : Req) (ramp : Bool) {es : List XbarEntry} (hes : es.length ≤ 511) :
    ReadsAs 0x70 q (leBytes 2 es.length ++ [flagByte ramp, 0#8] ++ es.flatMap xbarEntryBytes) (.audXbar q ramp es) := by
  have hcount : leNat (leBytes 2 es.length) = es.length := leNat_countBytes (by omega)
  constructor
  · show some (decide (_ = 4 + 8 * leNat (leBytes 2 es.length))) = _
    rw [List.length_append, length_flatMap_entries xbarEntryBytes 8 (fun _ => rfl), hcount]
    simp
  · show some (Instr.audXbar q ((flagByte ramp).getLsbD 0) ((offsets (leNat (leBytes 2 es.length)) 4 8).map _)) = _
    rw [hcount, flagByte_bit]
    exact congrArg (fun l => some (Instr.audXbar q ramp l)) (map_offsets_last xbarEntryBytes
      (fun p o => { dst := pHalf p o, src := pHalf p (o + 2), gain := pHalf p (o + 4) }) 8 (fun _ => rfl) xbarEntry_reads es
      (leBytes 2 es.length ++ [flagByte ramp, 0#8]))
theorem meshCommit_readsAs (q : Req) {ms : List UnitRef} (hms : ms.length ≤ 255) :
    ReadsAs 0x81 q ([countByte ms.length, 0#8, 0#8, 0#8] ++ ms.flatMap unitBytes) (.meshCommit q ms) := by
  constructor
  · show some (decide (_ = 4 + 2 * (countByte ms.length).toNat)) = _
    rw [List.length_append, length_flatMap_entries unitBytes 2 (fun _ => rfl), countByte_toNat hms]
    simp
  · show some (Instr.meshCommit q ((offsets (countByte ms.length).toNat 4 2).map _)) = _
    rw [countByte_toNat hms]
    exact congrArg (fun l => some (Instr.meshCommit q l)) (map_offsets_last unitBytes
      pUnit 2 (fun _ => rfl) unit_reads ms [countByte ms.length, 0#8, 0#8, 0#8])

/-! ### All rows -/

section
variable (h : Half) (a : Addr) (w : Word) (x : W64)
/-! The same facts, with the bytes written out one by one. -/
theorem fromHalfBytes : BitVec.ofNat 16 (leNat [BitVec.ofNat 8 h.toNat, BitVec.ofNat 8 (h.toNat / 256)]) = h := ofNat_halfBytes h
theorem fromAddrBytes :
    BitVec.ofNat 24 (leNat [BitVec.ofNat 8 a.toNat, BitVec.ofNat 8 (a.toNat / 256), BitVec.ofNat 8 (a.toNat / 256 / 256)]) = a :=
  ofNat_addrBytes a
theorem fromWordBytes :
    BitVec.ofNat 32 (leNat [BitVec.ofNat 8 w.toNat, BitVec.ofNat 8 (w.toNat / 256), BitVec.ofNat 8 (w.toNat / 256 / 256),
      BitVec.ofNat 8 (w.toNat / 256 / 256 / 256)]) = w :=
  ofNat_wordBytes w
theorem fromLongBytes :
    BitVec.ofNat 64 (leNat [BitVec.ofNat 8 x.toNat, BitVec.ofNat 8 (x.toNat / 256), BitVec.ofNat 8 (x.toNat / 256 / 256),
      BitVec.ofNat 8 (x.toNat / 256 / 256 / 256), BitVec.ofNat 8 (x.toNat / 256 / 256 / 256 / 256),
      BitVec.ofNat 8 (x.toNat / 256 / 256 / 256 / 256 / 256), BitVec.ofNat 8 (x.toNat / 256 / 256 / 256 / 256 / 256 / 256),
      BitVec.ofNat 8 (x.toNat / 256 / 256 / 256 / 256 / 256 / 256 / 256)]) = x :=
  ofNat_longBytes x
end

/-- A row with parameters of a fixed size is read field by field; the others by the lemmas of their entries. -/
theorem readsAs_packetOf {c : Instr} {op : Byte} {q : Req} {ps : List Byte} (h : packetOf c = some (op, q, ps)) (hwf : c.wf = true) :
    ReadsAs op q ps c := by
  cases c with
  | blockWrite q a b vs => cases h; exact blockWrite_readsAs q a b (le_of_between (Bool.and_eq_true_iff.mp hwf).2).2
  | imageData q off d => cases h; exact imageData_readsAs q off (le_of_between (Bool.and_eq_true_iff.mp hwf).2).1
  | groupFlip q f es => cases h; exact groupFlip_readsAs q f (le_of_between (Bool.and_eq_true_iff.mp hwf).2).2
  | refRank q cs => cases h; exact refRank_readsAs q (le_of_between (Bool.and_eq_true_iff.mp hwf).2).2
  | synRampLoad q n g => cases h; exact synRampLoad_readsAs q n (le_of_between (Bool.and_eq_true_iff.mp hwf).2).2
  | audXbar q ramp es => cases h; exact audXbar_readsAs q ramp (le_of_between (Bool.and_eq_true_iff.mp hwf).2).2
  | meshData q m f es => cases h; exact meshData_readsAs q m f es
  | meshCommit q ms => cases h; exact meshCommit_readsAs q (le_of_between (Bool.and_eq_true_iff.mp hwf).2).2
  | vitData q n off d => cases h; exact vitData_readsAs q n off d
  | ldgWrite q p off d => cases h; exact ldgWrite_readsAs q p off (le_of_between (Bool.and_eq_true_iff.mp hwf).2)
  | vltSecretWrite q k sec =>
    cases h
    have hlen : sec.length = 32 := (le_of_between (Bool.and_eq_true_iff.mp hwf).2).elim fun h1 h2 => le_antisymm h2 h1
    exact ⟨by show some (decide (sec.length + 4 = 36)) = _; rw [hlen]; rfl, rfl⟩
  | vltDerive q k ctx =>
    cases h
    have hlen : ctx.length = 16 := (le_of_between (Bool.and_eq_true_iff.mp hwf).2).elim fun h1 h2 => le_antisymm h2 h1
    exact ⟨by show some (decide (ctx.length + 4 = 20)) = _; rw [hlen]; rfl, rfl⟩
  | vltChallenge q n =>
    cases h
    have hlen : ps.length = 16 := (le_of_between (Bool.and_eq_true_iff.mp hwf).2).elim fun h1 h2 => le_antisymm h2 h1
    exact ⟨by show some (decide (ps.length = 16)) = _; rw [hlen]; rfl, rfl⟩
  | evtAck q m =>
    cases h
    have hlen : ps.length = 32 := (le_of_between (Bool.and_eq_true_iff.mp hwf).2).elim fun h1 h2 => le_antisymm h2 h1
    exact ⟨by show some (decide (ps.length = 32)) = _; rw [hlen]; rfl, rfl⟩
  | _ =>
    simp only [packetOf, Option.some.injEq, Prod.mk.injEq, reduceCtorEq] at h
    try
      obtain ⟨rfl, rfl, rfl⟩ := h
      refine ⟨rfl, ?_⟩
      show some _ = some _
      simp only [pByte, pHalf, pWord, pLong, pAddr, pUnit, pFlag, leAt, slice, addrBytes, halfBytes, wordBytes, unitBytes, leBytes,
        List.cons_append, List.nil_append, List.drop_succ_cons, List.drop_zero, List.take_succ_cons, List.take_zero, List.getD_cons_zero,
        List.getD_cons_succ, Nat.reduceAdd, fromHalfBytes, fromAddrBytes, fromWordBytes, fromLongBytes, flagByte_bit, two_flags_bit0,
        two_flags_bit1]

/-! ## The frame of a packet -/

theorem packetFlags_bits (q : Req) : (packetFlags q).getLsbD 0 = q.sched ∧ (packetFlags q).getLsbD 1 = q.priv
    ∧ (packetFlags q).getLsbD 2 = q.reply ∧ (packetFlags q).getLsbD 3 = q.auth := by
  unfold packetFlags
  cases q.sched <;> cases q.priv <;> cases q.reply <;> cases q.auth <;> decide
@[simp] theorem length_packetHeader (op : Byte) (q : Req) (ps : List Byte) : (packetHeader op q ps).length = 8 := rfl
@[simp] theorem length_packetPayload (q : Req) (ps : List Byte) :
    (packetPayload q ps).length = (launchBytes q).length + ps.length + q.mac.length := by
  rw [packetPayload, List.length_append, List.length_append]
@[simp] theorem length_launchBytes (q : Req) : (launchBytes q).length = if q.sched then 8 else 0 := by
  unfold launchBytes; split <;> simp

section
variable (op : Byte) (q : Req) (ps : List Byte)

theorem pByte_packetBytes_opcode : pByte (packetBytes op q ps) 1 = op := rfl
theorem pByte_packetBytes_tag : pByte (packetBytes op q ps) 2 = q.tag := rfl
theorem packetFlag_packetBytes (i : Nat) : packetFlag (packetBytes op q ps) i = (packetFlags q).getLsbD i := rfl
theorem payloadLen_packetBytes (hlen : (packetPayload q ps).length < 65536) :
    payloadLen (packetBytes op q ps) = (packetPayload q ps).length :=
  leNat_countBytes hlen
theorem launchLen_packetBytes : launchLen (packetBytes op q ps) = (launchBytes q).length := by
  rw [launchLen, packetFlag_packetBytes, (packetFlags_bits q).1, length_launchBytes]
theorem macLen_packetBytes (hmac : q.mac.length = if q.auth then 16 else 0) : macLen (packetBytes op q ps) = q.mac.length := by
  rw [macLen, packetFlag_packetBytes, (packetFlags_bits q).2.2.2, hmac]

/-- What a packet is made of, from its header to its CRC. -/
theorem packetBytes_eq : packetBytes op q ps
    = packetHeader op q ps ++ (launchBytes q ++ (ps ++ (q.mac ++ leBytes 4 (crc32c (packetPayload q ps)).toNat))) := by
  simp only [packetBytes, packetPayload, List.append_assoc]

theorem packetBytes_eq_head : packetBytes op q ps = packetHead op q ps ++ (q.mac ++ leBytes 4 (crc32c (packetPayload q ps)).toNat) := by
  simp only [packetBytes, packetPayload, packetHead, List.append_assoc]
theorem length_packetHead : (packetHead op q ps).length = 8 + (launchBytes q).length + ps.length := by
  rw [packetHead, List.length_append, List.length_append, length_packetHeader]

theorem take_packetBytes_head :
    (packetBytes op q ps).take (8 + (packetPayload q ps).length - q.mac.length) = packetHead op q ps := by
  have hsize : 8 + (packetPayload q ps).length - q.mac.length = (packetHead op q ps).length := by
    rw [length_packetPayload, length_packetHead]; omega
  rw [hsize, packetBytes_eq_head, List.take_left]
theorem slice_packetBytes_mac (hmac : q.mac.length = 16) :
    slice (packetBytes op q ps) (8 + (packetPayload q ps).length - 16) 16 = q.mac := by
  have hsize : 8 + (packetPayload q ps).length - 16 = (packetHead op q ps).length + 0 := by
    rw [length_packetPayload, length_packetHead]; omega
  rw [hsize, packetBytes_eq_head, slice_append, slice, List.drop_zero, ← hmac, List.take_left]
theorem launch_packetBytes (hsched : q.sched = true) : BitVec.ofNat 64 (leAt (packetBytes op q ps) 8 8) = q.launch := by
  have hlaunch : leAt (packetBytes op q ps) 8 8 = leNat (leBytes 8 q.launch.toNat) := by
    rw [packetBytes_eq, launchBytes, if_pos hsched]
    exact leAt_append (packetHeader op q ps) _ 0 8
  rw [hlaunch, ofNat_longBytes]

variable (hlen : (packetPayload q ps).length < 65536) (hmac : q.mac.length = if q.auth then 16 else 0)
include hlen hmac

theorem packetParams_packetBytes : packetParams (packetBytes op q ps) = ps := by
  have hsize : (packetPayload q ps).length - (launchBytes q).length - q.mac.length = ps.length := by rw [length_packetPayload]; omega
  rw [packetParams, payloadLen_packetBytes op q ps hlen, launchLen_packetBytes, macLen_packetBytes op q ps hmac, hsize, packetBytes_eq,
    ← length_packetHeader op q ps, slice_append, ← Nat.add_zero (launchBytes q).length, slice_append]
  simp [slice]
/-- The request of a written packet is the one it was written for. -/
theorem packetReq_packetBytes (hlaunch : q.sched = false → q.launch = 0#64) (hmsg : q.msg = packetHead op q ps) :
    packetReq q.port q.tick (packetBytes op q ps) = q := by
  obtain ⟨hsched, hpriv, hreply, hauth⟩ := packetFlags_bits q
  rw [packetReq, payloadLen_packetBytes op q ps hlen, macLen_packetBytes op q ps hmac, take_packetBytes_head op q ps, ← hmsg]
  simp only [packetFlag_packetBytes, pByte_packetBytes_tag, hsched, hpriv, hreply, hauth]
  have hl : (if q.sched then BitVec.ofNat 64 (leAt (packetBytes op q ps) 8 8) else 0#64) = q.launch := by
    split
    next h => exact launch_packetBytes op q ps h
    next h => exact (hlaunch (by simpa using h)).symm
  have hm : (if q.auth then slice (packetBytes op q ps) (8 + (packetPayload q ps).length - 16) 16 else []) = q.mac := by
    split
    next h => exact slice_packetBytes_mac op q ps (by rw [hmac, if_pos h])
    next h => exact (List.length_eq_zero_iff.mp (by rw [hmac, if_neg h])).symm
  rw [hl, hm]

theorem payload_not_short : ¬ payloadLen (packetBytes op q ps) < launchLen (packetBytes op q ps) + macLen (packetBytes op q ps) := by
  rw [payloadLen_packetBytes op q ps hlen, launchLen_packetBytes, macLen_packetBytes op q ps hmac, length_packetPayload]
  omega
end

/-- Every command that a packet carries names the request it came with, and this is well-formed. -/
theorem packetOf_req_wf {c : Instr} {op : Byte} {q : Req} {ps : List Byte} (h : packetOf c = some (op, q, ps)) (hwf : c.wf = true) :
    q.wf = true := by
  cases c <;> simp only [packetOf, Option.some.injEq, Prod.mk.injEq, reduceCtorEq] at h <;>
    (obtain ⟨-, rfl, -⟩ := h; first | exact hwf | exact (Bool.and_eq_true_iff.mp hwf).1)

/-- Settles O56: the frame gives back the request and the parameters, and the parameters the command. -/
theorem packetsReadBack : Obligations.PacketsReadBack := by
  intro c op q ps hc hwf hmsg hport hsize
  have hlen : (packetPayload q ps).length < 65536 := by omega
  have hreq := packetOf_req_wf hc hwf
  simp only [Req.wf, Bool.and_eq_true, Bool.or_eq_true, decide_eq_true_eq] at hreq
  obtain ⟨hlaunch, hmac⟩ := hreq
  obtain ⟨hfits, hcommand⟩ := readsAs_packetOf hc hwf
  have hq := packetReq_packetBytes op q ps hlen hmac (fun h => hlaunch.resolve_left (by simp [h])) hmsg
  simp only [readPacket, pByte_packetBytes_opcode, packetParams_packetBytes op q ps hlen hmac, hq, hfits, hport, hcommand,
    if_neg (payload_not_short op q ps hlen hmac), Bool.not_true, Bool.false_eq_true, if_false]

end Sys2Proof.Machine

/-! # A coded plane decodes as it was (R449)

A row is coded as residues between neighbours, wrapped to the plane's bits, and each residue as a number of the row's width. Bits packed
from the least significant upwards are read back at their position; a residue added to its prediction gives the value, modulo the plane's
range. -/

namespace Sys2Proof.Machine
open Sys2Proof

/-! ## Residues -/

theorem residue_residueCode (r : Int) : residue (residueCode r) = r := by
  unfold residueCode
  split
  next h =>
    rw [residue, if_pos (by omega)]
    omega
  next h =>
    rw [residue, if_neg (by omega)]
    omega
/-- Wrapping changes a difference by a multiple of the range. -/
theorem wrapSigned_emod (b : Nat) (r : Int) : wrapSigned b r % (2 ^ b : Nat) = r % (2 ^ b : Nat) := by
  unfold wrapSigned
  dsimp only
  split
  · exact Int.emod_emod_of_dvd r dvd_rfl
  · rw [Int.sub_emod_right, Int.emod_emod_of_dvd r dvd_rfl]
/-- The code of a wrapped difference fits the plane's bits. -/
theorem residueCode_wrapSigned_lt {b : Nat} (hb : 1 ≤ b) (r : Int) : residueCode (wrapSigned b r) < 2 ^ b := by
  obtain ⟨k, rfl⟩ : ∃ k, b = k + 1 := ⟨b - 1, by omega⟩
  have hpos : 0 < 2 ^ k := Nat.two_pow_pos k
  have hlo := Int.emod_nonneg r (b := ((2 ^ (k + 1) : Nat) : Int)) (by positivity)
  have hhi := Int.emod_lt_of_pos r (b := ((2 ^ (k + 1) : Nat) : Int)) (by positivity)
  unfold wrapSigned residueCode
  dsimp only
  rw [Nat.add_sub_cancel]
  rw [Nat.pow_succ] at hlo hhi ⊢
  split_ifs <;> omega

/-- A value below the range comes back from its prediction and its residue. -/
theorem predict_add_residue {b v : Nat} (hv : v < 2 ^ b) (pred : Int) :
    ((pred + residue (residueCode (wrapSigned b ((v : Int) - pred)))) % (2 ^ b : Nat)).toNat = v := by
  rw [residue_residueCode, Int.add_emod, wrapSigned_emod, ← Int.add_emod, add_sub_cancel, ← Int.natCast_emod, Int.toNat_natCast,
    Nat.mod_eq_of_lt hv]
theorem decodeRow_encodeRow {b : Nat} {row : List Nat} (hrow : ∀ v ∈ row, v < 2 ^ b) (pred : Int) :
    decodeRow b pred (encodeRow b pred row) = row := by
  induction row generalizing pred with
  | nil => rfl
  | cons v r ih =>
    rw [encodeRow, decodeRow, predict_add_residue (hrow v List.mem_cons_self)]
    rw [ih fun x hx => hrow x (List.mem_cons_of_mem v hx)]
theorem length_encodeRow (b : Nat) (pred : Int) (row : List Nat) : (encodeRow b pred row).length = row.length := by
  induction row generalizing pred with
  | nil => rfl
  | cons v r ih => rw [encodeRow, List.length_cons, ih, List.length_cons]
theorem encodeRow_lt {b : Nat} (hb : 1 ≤ b) (pred : Int) (row : List Nat) : ∀ u ∈ encodeRow b pred row, u < 2 ^ b := by
  induction row generalizing pred with
  | nil => exact fun u hu => absurd hu List.not_mem_nil
  | cons v r ih =>
    intro u hu
    rcases List.mem_cons.mp hu with rfl | hu
    · exact residueCode_wrapSigned_lt hb _
    · exact ih _ u hu

/-! ## The width of a row -/

theorem lt_two_pow_bitWidth (u : Nat) : u < 2 ^ bitWidth u := by
  unfold bitWidth
  split
  next h => simp [h]
  next => exact Nat.lt_log2_self
theorem bitWidth_le {u b : Nat} (h : u < 2 ^ b) : bitWidth u ≤ b := by
  unfold bitWidth
  split
  · exact Nat.zero_le b
  next hu => exact (Nat.log2_lt hu).mpr h
/-- The width is the greatest of the codes' widths. -/
theorem foldl_max_le_iff (us : List Nat) (w k : Nat) : us.foldl (fun w u => max w (bitWidth u)) w ≤ k ↔ w ≤ k ∧ ∀ u ∈ us, bitWidth u ≤ k := by
  induction us generalizing w with
  | nil => simp
  | cons u r ih => simp [ih, and_assoc]
theorem rowWidth_le_iff (us : List Nat) (k : Nat) : rowWidth us ≤ k ↔ ∀ u ∈ us, bitWidth u ≤ k := by
  simp [rowWidth, foldl_max_le_iff]
theorem lt_two_pow_rowWidth {us : List Nat} {u : Nat} (h : u ∈ us) : u < 2 ^ rowWidth us :=
  (lt_two_pow_bitWidth u).trans_le (Nat.pow_le_pow_right two_pos ((rowWidth_le_iff us _).mp le_rfl u h))

/-! ## Bits in bytes -/

theorem testBit_bitsNat (l : List Bool) (i : Nat) : (bitsNat l).testBit i = l.getD i false := by
  induction l generalizing i with
  | nil => simp [bitsNat]
  | cons b r ih =>
    cases i with
    | zero => cases b <;> simp [bitsNat, Nat.testBit_zero]
    | succ i =>
      have hdiv : (b.toNat + 2 * bitsNat r) / 2 = bitsNat r := by cases b <;> simp; omega
      rw [bitsNat, Nat.testBit_succ, hdiv, ih, List.getD_cons_succ]
theorem getLsbD_packBits (l : List Bool) (j k : Nat) (hk : k < 8) :
    ((Sys2Proof.packBits l).getD j 0#8).getLsbD k = l.getD (8 * j + k) false := by
  unfold Sys2Proof.packBits
  by_cases hj : j < (l.length + 7) / 8
  · rw [List.getD_eq_getElem _ _ (by simpa using hj), List.getElem_map, List.getElem_range, BitVec.getLsbD_ofNat, testBit_bitsNat]
    simp [List.getD_eq_getElem?_getD, hk]
  · rw [List.getD_eq_default _ _ (by simpa using hj), List.getD_eq_default _ _ (by omega)]
    simp
theorem getD_slice (d : List Byte) (o n i : Nat) (hi : i < n) : (slice d o n).getD i 0#8 = d.getD (o + i) 0#8 := by
  simp [slice, List.getD_eq_getElem?_getD, hi]
/-- A number read at a bit position has the bits packed there; five bytes hold it while it has at most 33. -/
theorem testBit_bitsAt_packBits (l : List Bool) (off n i : Nat) (hn : n ≤ 33) :
    (bitsAt (Sys2Proof.packBits l) off n).testBit i = (decide (i < n) && l.getD (off + i) false) := by
  rw [bitsAt, Nat.testBit_mod_two_pow, Nat.testBit_div_two_pow, leAt, testBit_leNat]
  by_cases hi : i < n
  · rw [getD_slice _ _ _ _ (by omega), getLsbD_packBits _ _ _ (Nat.mod_lt _ (by decide))]
    congr 2
    omega
  · simp [hi]
theorem length_toBits (n v : Nat) : (toBits n v).length = n := by simp [toBits]
theorem getD_toBits (n v i : Nat) (hi : i < n) : (toBits n v).getD i false = v.testBit i := by
  simp [toBits, List.getD_eq_getElem?_getD, hi]
/-- What was packed at a position is read there. -/
theorem bitsAt_packBits {n v : Nat} (hn : n ≤ 33) (hv : v < 2 ^ n) (pre rest : List Bool) :
    bitsAt (Sys2Proof.packBits (pre ++ (toBits n v ++ rest))) pre.length n = v := by
  refine Nat.eq_of_testBit_eq fun i => ?_
  rw [testBit_bitsAt_packBits _ _ _ _ hn, List.getD_append_right _ _ _ _ (Nat.le_add_right _ _), Nat.add_sub_cancel_left]
  by_cases hi : i < n
  · rw [List.getD_append _ _ _ _ (by rw [length_toBits]; exact hi), getD_toBits n v i hi, decide_eq_true hi, Bool.true_and]
  · rw [Nat.testBit_lt_two_pow (hv.trans_le (Nat.pow_le_pow_right two_pos (not_lt.mp hi)))]
    simp [hi]

/-! ## Rows and planes -/

theorem length_rowBits (b : Nat) (above : Int) (row : List Nat) :
    (rowBits b above row).length = 5 + rowWidth (encodeRow b above row) * row.length := by
  rw [rowBits, List.length_append, length_toBits, List.length_flatMap]
  simp [length_toBits, length_encodeRow, Nat.mul_comm]

section
variable {b : Nat} (hb : 1 ≤ b) (hb16 : b ≤ 16)
include hb hb16

theorem rowWidth_le_sixteen (above : Int) (row : List Nat) : rowWidth (encodeRow b above row) ≤ 16 :=
  (rowWidth_le_iff _ _).mpr fun u hu => (bitWidth_le (encodeRow_lt hb above row u hu)).trans hb16
/-- The width of a row and its codes are read where the row begins. -/
theorem row_reads (above : Int) (row : List Nat) (pre rest : List Bool) :
    let d := Sys2Proof.packBits (pre ++ (rowBits b above row ++ rest))
    let w := rowWidth (encodeRow b above row)
    bitsAt d pre.length 5 = w
      ∧ (List.range row.length).map (fun i => bitsAt d (pre.length + 5 + w * i) w) = encodeRow b above row := by
  intro d w
  have hw : w ≤ 16 := rowWidth_le_sixteen hb hb16 above row
  have hsplit : pre ++ (rowBits b above row ++ rest) = pre ++ (toBits 5 w ++ ((encodeRow b above row).flatMap (toBits w) ++ rest)) := by
    rw [rowBits, List.append_assoc]
  have hcodes := map_offsets_entries (toBits w) (fun l o => bitsAt (Sys2Proof.packBits l) o w) w (encodeRow b above row)
    (fun u _ => length_toBits w u)
    (fun u hu pre rest => bitsAt_packBits (by omega) (lt_two_pow_rowWidth hu) pre rest) (pre ++ toBits 5 w) rest
  rw [List.length_append, length_toBits, List.append_assoc, ← hsplit, offsets, List.map_map, length_encodeRow] at hcodes
  exact ⟨by rw [show d = _ from congrArg Sys2Proof.packBits hsplit]; exact bitsAt_packBits (by decide) (by omega) pre _, hcodes⟩

theorem decodePlane_packBits {n : Nat} {rows : List (List Nat)} (hrows : ∀ r ∈ rows, r.length = n ∧ ∀ v ∈ r, v < 2 ^ b)
    (above : Int) (pre rest : List Bool) :
    decodePlane (Sys2Proof.packBits (pre ++ (planeBits b above rows ++ rest))) b n rows.length pre.length above
      = (rows, pre.length + (planeBits b above rows).length) := by
  induction rows generalizing above pre with
  | nil => rfl
  | cons row r ih =>
    obtain ⟨hn, hvals⟩ := hrows row List.mem_cons_self
    obtain ⟨hwidth, hcodes⟩ := row_reads hb hb16 above row pre (planeBits b ((row.headD 0 : Nat) : Int) r ++ rest)
    have hrest := ih (fun x hx => hrows x (List.mem_cons_of_mem row hx)) ((row.headD 0 : Nat) : Int) (pre ++ rowBits b above row)
    rw [List.length_append, length_rowBits, List.append_assoc, hn, ← Nat.add_assoc] at hrest
    rw [hn] at hcodes
    rw [List.length_cons, decodePlane, planeBits, List.append_assoc]
    dsimp only
    rw [hwidth, hcodes, decodeRow_encodeRow hvals, hrest, List.length_append, length_rowBits, hn]
    simp only [Nat.add_assoc]
end

/-- Settles O58, at bit 0. -/
theorem tilePlanesDecodeAsCoded : Obligations.TilePlanesDecodeAsCoded := by
  intro b n rows rest hb hb16 hrows _
  simpa using decodePlane_packBits hb hb16 hrows 0 [] rest

end Sys2Proof.Machine

/-! # The commands of the opcode table: each completes, or starts, where Table 3-10 takes it

The pipeline laws say what a taken command leaves. What is left for each row is that its operation answers at once or starts a run, and that
the operation's effect is the one the statement names. -/

namespace Sys2Proof.Machine
open Sys2Proof

/-! ## From an operation to its completion -/

/-- A row that answers at once completes with its operation's effect. -/
theorem completes_run {c : Instr} {q : Req} {o : Op} (hj : o.job = none) (he : ∀ s, exec c s = .next (runCommand c q o s)) :
    Completes c q o o.run :=
  completes_of c q o o.run hj he rfl
/-- A long-running row starts with its operation's effect. -/
theorem starts_run {c : Instr} {q : Req} {o : Op} {j : Job} (hj : o.job = some j) (he : ∀ s, exec c s = .next (runCommand c q o s)) :
    Starts c q o j fun s => (o.run s).1 :=
  starts_of c q o j _ hj he fun _ => rfl
/-- A taken command is alone on its tick and not scheduled, and its effect needs to be as stated only then. -/
theorem completes_of_alone {c : Instr} {q : Req} {o : Op} {f : State → State × Reply} (hj : o.job = none)
    (he : ∀ s, exec c s = .next (runCommand c q o s)) (hr : q.sched = false → q.tick = none → o.run = f) : Completes c q o f := by
  intro s h
  obtain ⟨hsched, htick⟩ := taken_alone q o s h
  rw [he, runCommand_taken c q o s h hj, hr hsched htick]

/-! ## Writes (R4, R131) -/

section
variable {c : Instr} {q : Req} {opcode bank : Byte} {addr : Addr} {ws : List (Word × Word)}
  (he : ∀ s, exec c s = .next (runCommand c q (opWriteWords opcode q addr bank ws) s))
include he

/-- A write that names no word of PRS completes by placing its words. -/
theorem completes_writeWords (h : prsItems (writeItems addr bank.toNat ws) = []) :
    Completes c q (opWriteWords opcode q addr bank ws) fun s => done (writeNow s q.port (writeItems addr bank.toNat ws)) :=
  completes_of c q _ _ (if_pos h) he rfl
/-- One that names a word of PRS starts the write of its records (R145). -/
theorem starts_writeWords (h : prsItems (writeItems addr bank.toNat ws) ≠ []) :
    Starts c q (opWriteWords opcode q addr bank ws) (.prs ((prsItems (writeItems addr bank.toNat ws)).map fun x => (x.w, x.v)))
      fun s => writeNow s q.port (writeItems addr bank.toNat ws) :=
  starts_of c q _ _ _ (if_neg h) he fun _ => rfl
/-- The same for a write whose words are known. -/
theorem completes_writeWords_eq {l : List WItem} (hl : writeItems addr bank.toNat ws = l) (h : prsItems l = []) :
    Completes c q (opWriteWords opcode q addr bank ws) fun s => done (writeNow s q.port l) := by
  subst hl; exact completes_writeWords he h
end

/-- Settles O2: the five writing rows are one operation, which completes or starts by the PRS words among its items. -/
theorem writesComplete : Obligations.WritesComplete :=
  ⟨fun _ _ _ _ h => ⟨completes_writeWords (fun _ => rfl) h, completes_writeWords (fun _ => rfl) h, completes_writeWords (fun _ => rfl) h⟩,
    fun _ _ _ _ h => ⟨starts_writeWords (fun _ => rfl) h, starts_writeWords (fun _ => rfl) h, starts_writeWords (fun _ => rfl) h⟩,
    fun _ _ _ _ _ h => completes_writeWords (fun _ => rfl) h, fun _ _ _ _ _ h => starts_writeWords (fun _ => rfl) h,
    fun _ _ _ _ h => completes_writeWords (fun _ => rfl) h, fun _ _ _ _ h => starts_writeWords (fun _ => rfl) h⟩

/-! ### Rows that write one word of a unit -/

/-- A write of one word names it once in each bank of its address. -/
theorem writeItems_word {cls i w : Nat} (hc : cls < 256) (hi : i < 256) (hw : w < 256) (bank : Nat) (m v : Word) :
    writeItems (mkAddr cls i w) bank [(m, v)]
      = (banksOf (if isBanked cls then bank else 0)).map fun b => ⟨b, cls, i, w, m, v⟩ := by
  simp [writeItems, clsOf_mkAddr cls i w hc hi hw, instOf_mkAddr cls i w hi hw, wordOf_mkAddr cls i w hw, List.map_eq_flatMap]
theorem writeItems_unbanked {cls i w : Nat} (hb : isBanked cls = false) (hc : cls < 256) (hi : i < 256) (hw : w < 256) (bank : Nat)
    (m v : Word) : writeItems (mkAddr cls i w) bank [(m, v)] = [⟨0, cls, i, w, m, v⟩] := by
  rw [writeItems_word hc hi hw, hb]; rfl
theorem writeItems_banked {cls i w : Nat} (hb : isBanked cls = true) (hc : cls < 256) (hi : i < 256) (hw : w < 256) (bank : Nat) (m v : Word) :
    writeItems (mkAddr cls i w) bank [(m, v)] = (banksOf bank).map fun b => ⟨b, cls, i, w, m, v⟩ := by
  rw [writeItems_word hc hi hw, hb]; rfl
theorem prsItems_of_cls {l : List WItem} (h : ∀ x ∈ l, x.cls ≠ 0x26) : prsItems l = [] := by
  refine List.filter_eq_nil_iff.mpr fun x hx => ?_
  simp [h x hx]

section
variable {c : Instr} {q : Req} {opcode bank : Byte} {cls i w : Nat} {m v : Word}
  (he : ∀ s, exec c s = .next (runCommand c q (opWriteWords opcode q (mkAddr cls i w) bank [(m, v)]) s)) (hc : cls < 256 ∧ cls ≠ 0x26)
  (hi : i < 256) (hw : w < 256)
include he hc hi hw

theorem completes_word_unbanked (hb : isBanked cls = false) :
    Completes c q (opWriteWords opcode q (mkAddr cls i w) bank [(m, v)]) fun s => done (writeNow s q.port [⟨0, cls, i, w, m, v⟩]) :=
  completes_writeWords_eq he (writeItems_unbanked hb hc.1 hi hw bank.toNat m v) (prsItems_of_cls (by simpa using hc.2))
theorem completes_word_banked (hb : isBanked cls = true) :
    Completes c q (opWriteWords opcode q (mkAddr cls i w) bank [(m, v)])
      fun s => done (writeNow s q.port ((banksOf bank.toNat).map fun b => ⟨b, cls, i, w, m, v⟩)) :=
  completes_writeWords_eq he (writeItems_banked hb hc.1 hi hw bank.toNat m v) (prsItems_of_cls (by simp [hc.2]))
end

/-- The records that a write of one register names: its own, unless the word is reserved. -/
theorem prsItems_word (w : Nat) (v : Word) :
    prsItems [⟨0, 0x26, 0, w, allOnes, v⟩] = if prsWord w then [⟨0, 0x26, 0, w, allOnes, v⟩] else [] := by
  cases h : prsWord w <;> simp [prsItems, h]
theorem prsWrite_starts (q : Req) (w : Byte) (v : Word) (h : prsWord w.toNat = true) :
    Starts (.prsWrite q w v) q (opWrite q (mkAddr 0x26 0 w.toNat) 0#8 v) (.prs [(w.toNat, v)])
      fun s => writeNow s q.port [⟨0, 0x26, 0, w.toNat, allOnes, v⟩] := by
  have hitems := writeItems_unbanked (cls := 0x26) (i := 0) (w := w.toNat) rfl (by decide) (by decide) w.isLt 0 allOnes v
  have hprs := (prsItems_word w.toNat v).trans (if_pos h)
  have hstart := starts_writeWords (c := .prsWrite q w v) (q := q) (opcode := 0x11) (bank := 0#8) (addr := mkAddr 0x26 0 w.toNat)
    (ws := [(allOnes, v)]) (fun _ => rfl) (by rw [show (0#8 : Byte).toNat = 0 from rfl, hitems, hprs]; exact List.cons_ne_nil _ _)
  rw [show (0#8 : Byte).toNat = 0 from rfl, hitems, hprs] at hstart
  exact hstart
theorem prsWrite_reserved_completes (q : Req) (w : Byte) (v : Word) (h : prsWord w.toNat = false) :
    Completes (.prsWrite q w v) q (opWrite q (mkAddr 0x26 0 w.toNat) 0#8 v)
      fun s => done (writeNow s q.port [⟨0, 0x26, 0, w.toNat, allOnes, v⟩]) :=
  completes_writeWords_eq (fun _ => rfl) (writeItems_unbanked rfl (by decide) (by decide) w.isLt 0 allOnes v)
    ((prsItems_word w.toNat v).trans (if_neg (by simp [h])))

/-- Settles O3: each row writes one word of an unbanked or a banked class, none of them a word of PRS; PRS_WRITE starts where its word is a
register. -/
theorem unitWritesComplete : Obligations.UnitWritesComplete := by
  refine ⟨⟨fun q n on => ?_, fun q n v => ?_, fun q n v => ?_, fun q n m d => ?_, fun q c v => ?_, fun q hi v => ?_, fun q u w v => ?_,
    fun q u v => ?_, fun q n v => ?_, fun q p v => ?_, fun q c v => ?_⟩, prsWrite_starts, prsWrite_reserved_completes⟩
  · exact completes_word_unbanked (fun _ => rfl) (by decide) n.isLt (by decide) rfl
  · exact completes_word_unbanked (fun _ => rfl) (by decide) n.isLt (by decide) rfl
  · exact completes_word_unbanked (fun _ => rfl) (by decide) n.isLt (by decide) rfl
  · exact completes_word_unbanked (fun _ => rfl) (by decide) n.isLt (by decide) rfl
  · exact completes_word_unbanked (fun _ => rfl) (by decide) c.isLt (by decide) rfl
  · exact completes_word_unbanked (fun _ => rfl) (by decide) (by decide) (by split <;> decide) rfl
  · exact completes_word_banked (fun _ => rfl) (by decide) u.inst.isLt w.isLt rfl
  · exact completes_word_banked (fun _ => rfl) (by decide) u.inst.isLt (by decide) rfl
  · exact completes_word_unbanked (fun _ => rfl) (by decide) (by decide) n.isLt rfl
  · exact completes_word_unbanked (fun _ => rfl) (by decide) p.isLt (by decide) rfl
  · refine completes_writeWords (fun _ => rfl) (prsItems_writeItems_of _ _ _ ?_)
    have hc := c.isLt
    simp [clsOf, mkAddr]
    omega

/-! ## The other rows, by family -/

/-- Settles O1: these rows' operations are stated with the effects the statement names. -/
theorem systemAndReadCommandsComplete : Obligations.SystemAndReadCommandsComplete :=
  ⟨⟨fun _ => completes_run rfl fun _ => rfl, fun _ => completes_run rfl fun _ => rfl, fun _ _ _ _ _ => completes_run rfl fun _ => rfl,
    fun _ _ _ => completes_run rfl fun _ => rfl⟩, fun _ _ _ => completes_run rfl fun _ => rfl, fun _ _ _ _ => completes_run rfl fun _ => rfl⟩

/-- IMAGE_CLOSE releases a build of another port when it starts. -/
theorem opImageClose_run_fst (q : Req) (action : Byte) (s : State) : ((opImageClose q action).run s).1 = match s.modes.build with
    | some b => if b.port = q.port then s else releaseBuild s
    | none => s := by
  cases hb : s.modes.build with
  | none => simp only [opImageClose, hb]; rfl
  | some b => simp only [opImageClose, hb, apply_ite Prod.fst]; rfl

/-- Settles O4. -/
theorem modeAndImageCommandsComplete : Obligations.ModeAndImageCommandsComplete :=
  ⟨fun _ _ _ => completes_run rfl fun _ => rfl, fun _ => completes_run rfl fun _ => rfl, fun _ _ _ _ => completes_run rfl fun _ => rfl,
    fun _ _ _ => completes_run rfl fun _ => rfl, fun q action => starts_of _ _ _ _ _ rfl (fun _ => rfl) (opImageClose_run_fst q action),
    fun _ => completes_run rfl fun _ => rfl⟩

/-- Settles O5: these rows' operations are stated with the effects the statement names (log entry 75: a start leaves an output that is not
STOPPED as it is). -/
theorem displayAndUnitCommandsComplete : Obligations.DisplayAndUnitCommandsComplete :=
  ⟨⟨fun _ _ _ _ => completes_run rfl fun _ => rfl, fun _ _ _ _ => completes_run rfl fun _ => rfl,
      fun _ _ _ => completes_run rfl fun _ => rfl, fun _ _ => completes_run rfl fun _ => rfl⟩,
    fun _ _ _ => completes_run rfl fun _ => rfl, fun _ _ _ => completes_run rfl fun _ => rfl, fun _ _ _ => completes_run rfl fun _ => rfl,
    fun _ _ => completes_run rfl fun _ => rfl, fun _ _ _ => completes_run rfl fun _ => rfl⟩

/-- A TRIGGER that is not scheduled takes the count of its tick as its launch value (R170). -/
theorem opTrigger_run_of_not_sched {q : Req} (h : q.sched = false) (port camera : Byte) (w : Word) :
    (opTrigger q port camera w).run = fun s => done (triggerNow s port.toNat camera.toNat w s.tb.ns) := by
  simp [opTrigger, h]

/-- Settles O6: TRIGGER alone reads its request, and a taken one is not scheduled. -/
theorem timeAndReferenceCommandsComplete : Obligations.TimeAndReferenceCommandsComplete :=
  ⟨⟨fun _ => completes_run rfl fun _ => rfl, fun _ _ _ => completes_run rfl fun _ => rfl, fun _ _ _ => completes_run rfl fun _ => rfl,
      fun _ _ _ => completes_run rfl fun _ => rfl,
      fun _ port camera w => completes_of_alone rfl (fun _ => rfl) fun h _ => opTrigger_run_of_not_sched h port camera w⟩,
    fun _ _ => completes_run rfl fun _ => rfl, fun _ _ => completes_run rfl fun _ => rfl, fun _ _ => completes_run rfl fun _ => rfl⟩

/-- Settles O7: SYN_BAND_STORE and EYE_SCAN start, the others complete, with the effects the statement names (log entry 35: the band's free
tuning word). -/
theorem synthesizerAndLinkCommandsComplete : Obligations.SynthesizerAndLinkCommandsComplete :=
  ⟨⟨fun _ _ _ _ => completes_run rfl fun _ => rfl, fun _ _ _ => starts_run rfl fun _ => rfl, fun _ _ _ => completes_run rfl fun _ => rfl,
      fun _ _ => completes_run rfl fun _ => rfl⟩,
    fun _ _ _ _ _ => completes_run rfl fun _ => rfl, fun _ _ _ => completes_run rfl fun _ => rfl,
    fun _ _ _ _ => completes_run rfl fun _ => rfl, fun _ _ => completes_run rfl fun _ => rfl, fun _ _ _ _ => starts_run rfl fun _ => rfl,
    fun _ _ _ _ => completes_run rfl fun _ => rfl⟩

/-- Settles O8: VIT_COMMIT starts, the others complete, with the effects the statement names. -/
theorem audioMeshVitrineCommandsComplete : Obligations.AudioMeshVitrineCommandsComplete :=
  ⟨fun _ _ _ => completes_run rfl fun _ => rfl, fun _ _ _ _ => completes_run rfl fun _ => rfl, fun _ _ => completes_run rfl fun _ => rfl,
    fun _ _ _ _ _ _ _ => completes_run rfl fun _ => rfl, fun _ _ _ _ => completes_run rfl fun _ => rfl,
    fun _ _ _ _ => starts_run rfl fun _ => rfl⟩

/-- Settles O9: LDG_WRITE, LDG_MAINT and the Vault's keyed operations start, the others complete, with the effects the statement names. -/
theorem ledgerAndVaultCommandsComplete : Obligations.LedgerAndVaultCommandsComplete :=
  ⟨⟨fun _ _ _ _ => completes_run rfl fun _ => rfl, fun _ _ _ _ => starts_run rfl fun _ => rfl, fun _ _ _ _ => starts_run rfl fun _ => rfl,
      fun _ _ _ => completes_run rfl fun _ => rfl⟩,
    fun _ _ _ => starts_run rfl fun _ => rfl, fun _ _ _ => starts_run rfl fun _ => rfl, fun _ _ => starts_run rfl fun _ => rfl,
    fun _ _ => completes_run rfl fun _ => rfl, fun _ => completes_run rfl fun _ => rfl⟩

/-- An ack that is alone on its tick clears what its sender may clear (R585). -/
theorem opEvtAck_run_of_no_tick {q : Req} (h : q.tick = none) (m : List Byte) :
    (opEvtAck q m).run = fun s => done { s with ev := { s.ev with pending := s.ev.pending &&& ~~~(ackPermitted q m s) } } := by
  funext s
  rw [opEvtAck_run, ackCleared_of_no_tick h]

/-- Settles O10: THM_MEASURE and SELFTEST start, the others complete; EVT_ACK alone reads its tick, and a taken one has none. -/
theorem healthCommandsComplete : Obligations.HealthCommandsComplete := by
  refine ⟨fun _ _ => starts_run rfl fun _ => rfl, fun _ _ _ _ => starts_run rfl fun _ => rfl, fun _ _ => completes_run rfl fun _ => rfl,
    fun _ first count => completes_of _ _ _ _ rfl (fun _ => rfl) (funext fun s =>
      congrArg (fun entry => answer s ((List.range count.toNat).flatMap entry)) (funext fun i => ?_)),
    fun _ _ => completes_run rfl fun _ => rfl, fun _ => completes_run rfl fun _ => rfl, fun _ _ => completes_run rfl fun _ => rfl,
    fun _ m => completes_of_alone rfl (fun _ => rfl) fun _ h => opEvtAck_run_of_no_tick h m⟩
  -- The log need not be evaluated: the entry at a place agrees whether the log is empty or has a newest entry.
  generalize records s logRing = log
  rcases newestOf logRing log with _ | ⟨top, _⟩
  · rfl
  · rfl

end Sys2Proof.Machine

/-! # The pipeline of Table 3-10, whatever the opcode -/

namespace Sys2Proof.Machine
open Sys2Proof

/-! ## Taken and refused commands -/

/-- Settles O38: a row is its operation, which answers at once or starts its run. -/
theorem takenCommandsAct : Obligations.TakenCommandsAct := by
  intro c op q o s hreq hop htaken
  rw [exec_of_opOf c op q o s hreq hop]
  cases hjob : o.job with
  | none => rw [runCommand_taken c q o s htaken hjob]
  | some j => rw [runCommand_started c q o s j htaken hjob]

/-- Settles O39: a refusal by the command's own check leaves what it records. -/
theorem refusedCommandsDoNotAct : Obligations.RefusedCommandsDoNotAct := by
  intro c op q o s r hreq hop hawake htick hsched hearly hcheck
  rw [exec_of_opOf c op q o s hreq hop, runCommand_refused c q o s r hawake htick hsched hearly hcheck]

/-! ## Scheduled and late commands -/

/-- A late command is no future one. -/
theorem isFuture_of_isLate {s : State} {q : Req} (h : isLate s q = true) : isFuture s q = false := by simp [isFuture, h]

/-- The steps that judge a command alone on its tick find nothing against one whose checks pass and that needs no entry. -/
theorem dueRej_passes (c : Instr) (q : Req) (o : Op) (s : State) (hearly : (earlySteps (holdCredit s q.port true) q o).2 = none)
    (hcheck : o.check (admitted q o s) = none) (hshut : shutRej (admitted q o s) o = none) (hfuture : isFuture (admitted q o s) q = false) :
    dueRej { cmd := c, q := q, op := o } (holdCredit s q.port true) = (admitted q o s, none) := by
  unfold admitted at *
  unfold dueRej
  dsimp only
  generalize earlySteps (holdCredit s q.port true) q o = e at *
  obtain ⟨e1, e2⟩ := e
  simp only at hearly hcheck hshut hfuture
  subst hearly
  simp [hcheck, hshut, hfuture, rejIf, firstRej]

section
variable (c : Instr) (q : Req) (o : Op) (s : State) (hawake : portsAwake s = true) (htick : q.tick = none)
  (hearly : (earlySteps (holdCredit s q.port true) q o).2 = none) (hcheck : o.check (admitted q o s) = none)
  (hshut : shutRej (admitted q o s) o = none) (hlate : isLate (admitted q o s) q = true)
include hawake htick hearly hcheck hshut hlate

/-- What a late command alone on its tick leaves that answers at once (R80, R165). -/
theorem runCommand_finishedLate (hjob : o.job = none) :
    runCommand c q o s = finishedLate q o (admitted q o s).vault.key (o.run (admitted q o s)) := by
  have hfuture := isFuture_of_isLate hlate
  have hdue := dueRej_passes c q o s hearly hcheck hshut hfuture
  simp only [runCommand, hawake, htick, Option.isSome_none, Bool.not_true, Bool.false_eq_true, if_false, hdue, hfuture, Bool.false_and,
    perform, hlate, dueEffect, startRun, hjob, if_true, finishedLate, lateData]
  split <;> rfl

/-- What a late long-running command alone on its tick leaves when it starts. -/
theorem runCommand_startedLate {j : Job} (hjob : o.job = some j) : runCommand c q o s = startedLate q o j (admitted q o s) := by
  have hfuture := isFuture_of_isLate hlate
  have hdue := dueRej_passes c q o s hearly hcheck hshut hfuture
  simp only [runCommand, hawake, htick, Option.isSome_none, Option.isSome_some, Bool.not_true, Bool.false_eq_true, if_false, hdue, hfuture,
    Bool.false_and, perform, hlate, dueEffect, startRun, hjob, if_true, startedLate, lateData]
end

/-- The entry that a scheduled command takes is the lowest free one. -/
theorem freeSlot_eq_some {s : State} {e : Nat} (h : freeSlot s = some e) :
    e < 256 ∧ entry s e = none ∧ ∀ n, n < e → (entry s n).isSome = true := by
  obtain ⟨hfree, hmem, hbefore⟩ := List.find?_range_eq_some.mp h
  exact ⟨List.mem_range.mp hmem, Option.isNone_iff_eq_none.mp hfree, fun n hn => by simpa using hbefore n hn⟩

/-- Settles O40: a future command takes the lowest free entry, a late one acts at once. -/
theorem scheduledAndLateCommandsAct : Obligations.ScheduledAndLateCommandsAct := by
  refine ⟨fun c op q o s e hreq hop hawake htick hearly hcheck hshut hfuture hfree => ⟨?_, freeSlot_eq_some hfree⟩,
    fun c op q o s hreq hop hawake htick hearly hcheck hshut hlate => ?_⟩
  · rw [exec_of_opOf c op q o s hreq hop,
      runCommand_scheduled c q o s hawake htick hearly hcheck hshut hfuture (by rw [hfree]; rfl)]
    simp only [scheduled, placeEntry, hfree, Option.getD_some]
    rfl
  · rw [exec_of_opOf c op q o s hreq hop]
    cases hjob : o.job with
    | none => rw [runCommand_finishedLate c q o s hawake htick hearly hcheck hshut hlate hjob]
    | some j => rw [runCommand_startedLate c q o s hawake htick hearly hcheck hshut hlate hjob]

end Sys2Proof.Machine

/-! # Idle steps, reset, events, fences, arrivals, picture rules and grants -/

namespace Sys2Proof.Machine
open Sys2Proof

/-! ## Steps on an empty queue, and reset -/

/-- Settles O32. -/
theorem idleStepsAndBitlessRows : Obligations.IdleStepsAndBitlessRows := by
  refine ⟨fun s h => ⟨tick s, step_nil h, rfl, rfl, ?_⟩, fun _ _ _ => ⟨rfl, rfl⟩⟩
  unfold countTick
  split <;> rfl

/-- After reset no object word is stored, so each has its reset value. -/
theorem wget_reset (b : Nat) (a : Addr) : wget State.reset b a = resetWord (wkey b a) := by
  rw [wget, show State.reset.words = [] from rfl, tget]

/-- Every route's source word is 0x100 after reset, in both banks. -/
theorem word_reset_route_source {b i : Nat} (hi : i < 64) : word State.reset b 0x11 i 1 = 0x100#32 := by
  have haddr : BitVec.ofNat 24 (wkey b (mkAddr 0x11 i 1) % 16777216) = mkAddr 0x11 i 1 := by
    apply BitVec.eq_of_toNat_eq
    have hlt := (mkAddr 0x11 i 1).isLt
    rw [BitVec.toNat_ofNat, wkey]
    omega
  rw [word, wget_reset, resetWord, haddr, infoAt, clsOf_mkAddr _ _ _ (by decide) (by omega) (by decide),
    instOf_mkAddr _ _ _ (by omega) (by decide), wordOf_mkAddr _ _ _ (by decide)]
  rfl

/-- Settles O33. -/
theorem resetLeaves : Obligations.ResetLeaves :=
  ⟨fun b c i => ownerOf_of_owners_nil rfl b c i, fun _ => BitVec.getLsbD_zero, rfl, rfl, wget_reset,
    fun _ _ _ hi => word_reset_route_source hi, rfl, rfl, rfl, rfl, by decide⟩

/-! ## The event queue (R582) -/

/-- The entry that takes a raise counts it. -/
def EvEntry.counted (e : EvEntry) : EvEntry := if e.count = 65535 then { e with sat := true } else { e with count := e.count + 1 }

/-- No entry takes the raise, and so none is counted. -/
theorem coalesce_eq_none {src : Nat} {d : Word} {l : List EvEntry} (h : ∀ x ∈ l, ¬ (x.source = src ∧ x.detail = d)) : coalesce src d l = none := by
  induction l with
  | nil => rfl
  | cons x l ih =>
    rw [coalesce, if_neg (h x List.mem_cons_self), ih fun y hy => h y (List.mem_cons_of_mem x hy)]
    rfl
/-- The first entry of the list, which is the newest, takes the raise. -/
theorem coalesce_append {src : Nat} {d : Word} {e : EvEntry} (l1 l2 : List EvEntry) (he : e.source = src ∧ e.detail = d) (h : ∀ x ∈ l2, ¬ (x.source = src ∧ x.detail = d)) :
    coalesce src d (l2 ++ e :: l1) = some (l2 ++ e.counted :: l1) := by
  induction l2 with
  | nil => rw [List.nil_append, coalesce, if_pos he]; rfl
  | cons x l ih =>
    rw [List.cons_append, coalesce, if_neg (h x List.mem_cons_self), ih fun y hy => h y (List.mem_cons_of_mem x hy)]
    rfl
/-- A raise that is counted adds no entry. -/
theorem length_of_coalesce {src : Nat} {d : Word} {l r : List EvEntry} (h : coalesce src d l = some r) : r.length = l.length := by
  induction l generalizing r with
  | nil => cases h
  | cons x l ih =>
    rw [coalesce] at h
    split at h
    · cases h; rfl
    · obtain ⟨t, ht, rfl⟩ := Option.map_eq_some_iff.mp h
      simp [ih ht]
/-- An entry that joins a queue is one more in it. -/
theorem length_joinQueue (e : EvEntry) (l : List EvEntry) : (joinQueue e l).length = l.length + 1 := by
  induction l with
  | nil => rfl
  | cons x l ih =>
    rw [joinQueue]
    split
    · simp [ih]
    · rfl
theorem mem_joinQueue (e : EvEntry) (l : List EvEntry) : e ∈ joinQueue e l := by
  induction l with
  | nil => exact List.mem_cons_self
  | cons x l ih =>
    rw [joinQueue]
    split
    · exact List.mem_cons_of_mem x ih
    · exact List.mem_cons_self

section
variable {ev : Events} {tick src : Nat} {ns : W64} {commit : Bool} {d : Word}

/-- A raise that an entry takes changes the queue alone. -/
theorem enqueue_of_coalesce {q : List EvEntry} (h : coalesce src d ev.queue.reverse = some q) :
    enqueue ev tick ns src commit d = { ev with queue := q.reverse } := by
  simp only [enqueue, h]
/-- A raise that no entry takes is added while there is room. -/
theorem enqueue_of_room (h : coalesce src d ev.queue.reverse = none) (hroom : ev.queue.length < 128) :
    enqueue ev tick ns src commit d = { ev with queue := (joinQueue
      { ns := ns, source := src, commit := commit, sat := false, count := 1, detail := d, tick := tick } ev.queue.reverse).reverse } := by
  simp only [enqueue, h, if_pos hroom]
/-- With no room it is lost. -/
theorem enqueue_of_full (h : coalesce src d ev.queue.reverse = none) (hfull : ¬ ev.queue.length < 128) :
    (enqueue ev tick ns src commit d).queue = ev.queue ∧ (enqueue ev tick ns src commit d).lost = sat 16 (ev.lost + 1)
      ∧ (enqueue ev tick ns src commit d).pending = ev.pending ||| (1#256 <<< 15) := by
  simp only [enqueue, h, if_neg hfull, and_self]

theorem length_queue_enqueue_le (h : ev.queue.length ≤ 128) : (enqueue ev tick ns src commit d).queue.length ≤ 128 := by
  cases hc : coalesce src d ev.queue.reverse with
  | some q => simpa [enqueue_of_coalesce hc, length_of_coalesce hc] using h
  | none =>
    by_cases hroom : ev.queue.length < 128
    · simpa [enqueue_of_room hc hroom, length_joinQueue] using hroom
    · rwa [(enqueue_of_full hc hroom).1]
end

/-- Settles O51: the newest entry of the source with equal detail takes the raise; else it is added, or lost. -/
theorem eventQueueTakesRaises : Obligations.EventQueueTakesRaises := by
  intro ev tick ns src commit d hle hsrc
  refine ⟨length_queue_enqueue_le hle, fun l1 e l2 hq hes hed hnone => ?_, fun hnone hroom => ?_, fun hnone hfull => ?_⟩
  · have hc : coalesce src d ev.queue.reverse = some (l2.reverse ++ e.counted :: l1.reverse) := by
      rw [hq, List.reverse_append, List.reverse_cons, List.append_assoc]
      exact coalesce_append l1.reverse l2.reverse ⟨hes, hed⟩ fun x hx => hnone x (List.mem_reverse.mp hx)
    simp [enqueue_of_coalesce hc, EvEntry.counted]
  · have hc := coalesce_eq_none (l := ev.queue.reverse) fun x hx => hnone x (List.mem_reverse.mp hx)
    rw [enqueue_of_room hc hroom]
    exact ⟨by simp [length_joinQueue], ⟨_, List.mem_reverse.mpr (mem_joinQueue _ _), rfl, rfl, rfl, rfl, rfl⟩, rfl⟩
  · have hc := coalesce_eq_none (l := ev.queue.reverse) fun x hx => hnone x (List.mem_reverse.mp hx)
    obtain ⟨hqueue, hlost, hpending⟩ := enqueue_of_full (tick := tick) (ns := ns) (commit := commit) hc (by omega)
    exact ⟨hqueue, hlost, by rw [hpending]; simp⟩

/-! ## What a raise does to the pending bits (R579) -/

/-- An update of the pending bits clears none, and sets no other than those of the given sources. -/
structure SetsOnly (l : List Nat) (p t : BitVec 256) : Prop where
  keeps : ∀ n, p.getLsbD n = true → t.getLsbD n = true
  only : ∀ n, t.getLsbD n = true → n ∈ l ∨ p.getLsbD n = true

theorem SetsOnly.refl (l : List Nat) (p : BitVec 256) : SetsOnly l p p := ⟨fun _ => id, fun _ => .inr⟩
theorem SetsOnly.trans {l : List Nat} {p t u : BitVec 256} (h : SetsOnly l p t) (k : SetsOnly l t u) : SetsOnly l p u :=
  ⟨fun n hn => k.keeps n (h.keeps n hn), fun n hn => (k.only n hn).elim .inl (h.only n)⟩
theorem SetsOnly.mono {l l' : List Nat} {p t : BitVec 256} (h : SetsOnly l p t) (hl : ∀ n ∈ l, n ∈ l') : SetsOnly l' p t :=
  ⟨h.keeps, fun n hn => (h.only n hn).imp_left (hl n)⟩
theorem setsOnly_or_bit (p : BitVec 256) {k : Nat} {l : List Nat} (hk : k ∈ l) : SetsOnly l p (p ||| (1#256 <<< k)) := by
  refine ⟨fun n hn => by simp [hn], fun n hn => ?_⟩
  rcases eq_or_ne n k with rfl | hne
  · exact .inl hk
  · refine .inr ?_
    have hbit : (1#256 <<< k).getLsbD n = false := by
      simp
      omega
    simpa [hbit] using hn

theorem enqueue_setsOnly {ev : Events} {p : BitVec 256} (hp : ev.pending = p) (tick : Nat) (ns : W64) (src : Nat) (commit : Bool) (d : Word) :
    SetsOnly [14, 15] p (enqueue ev tick ns src commit d).pending := by
  subst hp
  unfold enqueue
  split
  · exact .refl _ _
  · split
    · exact .refl _ _
    · exact setsOnly_or_bit _ (by simp)
theorem stageLog_setsOnly (ev : Events) (tick : Nat) (b : Bool) (it : LogItem) :
    SetsOnly [14, 15] ev.pending (stageLog ev tick b it).pending := by
  unfold stageLog
  split
  · exact .refl _ _
  · refine (setsOnly_or_bit ev.pending (k := 14) (by simp)).trans ?_
    dsimp only
    split
    · exact enqueue_setsOnly (by rfl) ..
    · exact .refl _ _
theorem logRaise_setsOnly (s : State) (src : Nat) (d : Word) : SetsOnly [14, 15] s.ev.pending (logRaise s src d).ev.pending := by
  refine SetsOnly.trans ?_ (stageLog_setsOnly ..)
  dsimp only
  split
  · exact stageLog_setsOnly ..
  · exact .refl _ _
/-- The pending bits of a raise before its queue entry and its record in the fault log: its own bit is set. -/
theorem raise_setsOnly (s : State) (src : Nat) (d : Word) :
    SetsOnly [14, 15] (s.ev.pending ||| (1#256 <<< src)) (raise s src d).ev.pending := by
  have hpost : SetsOnly [14, 15] (s.ev.pending ||| (1#256 <<< src)) (post s src false d).ev.pending := by
    unfold post
    dsimp only
    split
    · exact enqueue_setsOnly (by rfl) ..
    · exact .refl _ _
  unfold raise
  dsimp only
  split
  · exact hpost.trans (logRaise_setsOnly ..)
  · exact hpost

/-- A raise sets its source's pending bit. -/
theorem getLsbD_raise_pending (s : State) {src : Nat} (d : Word) (h : src < 256) : (raise s src d).ev.pending.getLsbD src = true :=
  (raise_setsOnly s src d).keeps src (by simp [h])

/-- Settles O50: beside its own bit a raise may set those of the fault log's overflow and of the queue's losses. -/
theorem raisesSetPendingBits : Obligations.RaisesSetPendingBits := by
  intro s src d hsrc
  have hall : SetsOnly [src, 14, 15] s.ev.pending (raise s src d).ev.pending :=
    (setsOnly_or_bit _ (by simp)).trans ((raise_setsOnly s src d).mono (by simp))
  refine ⟨getLsbD_raise_pending s d hsrc, hall.keeps, fun n hn => ?_⟩
  simpa [or_assoc] using hall.only n hn

/-! ## Fences (R362) -/

/-- Settles O55. -/
theorem fenceSignals : Obligations.FenceSignals := by
  intro s n by_ port hn
  unfold signalFence
  dsimp only
  refine ⟨fun htick hmem => ?_, fun hnew hset => ?_, fun hnew hclear => ?_⟩
  · simp [htick, hmem]
  · rw [if_neg (by simpa using hnew), if_pos hset]
    exact ⟨by rw [raise_eq], getLsbD_raise_pending _ _ (by decide)⟩
  · rw [if_neg (by simpa using hnew), if_neg (by simp [hclear])]
    exact ⟨_, rfl, rfl, rfl, rfl⟩

/-! ## Arrivals -/

/-- The first seven bytes of a written packet are its header without its CRC. -/
theorem take_packetBytes (op : Byte) (q : Req) (ps : List Byte) : (packetBytes op q ps).take 7 = packetLead op q ps := rfl
theorem pByte_packetBytes_crc (op : Byte) (q : Req) (ps : List Byte) : (packetBytes op q ps).getD 7 0#8 = crc8 (packetLead op q ps) := rfl
theorem length_packetBytes (op : Byte) (q : Req) (ps : List Byte) : (packetBytes op q ps).length = 12 + (packetPayload q ps).length := by
  simp [packetBytes]; omega
/-- The payload is what stands between the header and the CRC-32C. -/
theorem slice_packetBytes_payload (op : Byte) (q : Req) (ps : List Byte) :
    slice (packetBytes op q ps) 8 (packetPayload q ps).length = packetPayload q ps := by
  rw [packetBytes, List.append_assoc]
  exact (slice_append (packetHeader op q ps) _ 0 _).trans (by simp [slice])
theorem leAt_packetBytes_crc (op : Byte) (q : Req) (ps : List Byte) :
    BitVec.ofNat 32 (leAt (packetBytes op q ps) (8 + (packetPayload q ps).length) 4) = crc32c (packetPayload q ps) := by
  have hcrc := leAt_append (packetHeader op q ps ++ packetPayload q ps) (leBytes 4 (crc32c (packetPayload q ps)).toNat) 0 4
  rw [List.length_append, length_packetHeader] at hcrc
  rw [packetBytes, ← Nat.add_zero (8 + _), hcrc]
  exact ofNat_wordBytes _

/-- Settles O57: a written packet passes each arrival check in turn. -/
theorem writtenPacketsArrive : Obligations.WrittenPacketsArrive := by
  intro s p op q ps hlen himage hcredit
  rw [length_packetBytes] at hlen
  have hpay : leAt (packetBytes op q ps) 4 2 = (packetPayload q ps).length := payloadLen_packetBytes op q ps (by omega)
  unfold arrive
  dsimp only
  rw [if_neg himage, if_neg, if_neg, if_neg hcredit, hpay, if_neg, if_neg, if_neg]
  · rw [slice_packetBytes_payload, leAt_packetBytes_crc]; exact fun h => h rfl
  · omega
  · rw [length_packetBytes]; exact fun h => h rfl
  · rw [take_packetBytes, pByte_packetBytes_crc]; exact fun h => h rfl
  · rw [length_packetBytes]
    rintro (h | h)
    · omega
    · exact h rfl

/-! ## Picture rules -/

/-- The linear degamma table gives a code's linear value, rounded to the nearest. -/
theorem degamma_linear {v : Nat} (h : v < 1024) : degamma {} 10 v = (2 * v * 65535 + 1023) / 2046 := by
  rw [degamma, if_pos rfl, tableEntry, if_neg (by omega), tblEntry, tget_nil, Option.getD_none, linearEntry, if_pos rfl, BitVec.toNat_ofNat]
  exact Nat.mod_eq_of_lt (by omega)
/-- The linear regamma table has 64 for each step. -/
theorem tableEntry_linear_regamma {i : Nat} (h : i ≤ 1023) : tableEntry {} 1 i = 64 * i := by
  rw [tableEntry, if_neg (by omega), tblEntry, tget_nil, Option.getD_none, linearEntry, if_neg (by decide), BitVec.toNat_ofNat]
  exact Nat.mod_eq_of_lt (by omega)
/-- Below its last step the linear regamma table interpolates a linear value to itself. -/
theorem regamma_linear {l : Nat} (h : l < 65472) : regamma {} 10 l = clampTo 1023 (roundRat ((l : Rat) * 1023 / 65535)) := by
  have hclamp : max 0 (min 65535 (l : Rat)) = l := by
    rw [min_eq_right (by exact_mod_cast (by omega : l ≤ 65535)), max_eq_right (Nat.cast_nonneg l)]
  have hstep : ((l : Rat) / 64).floor.toNat = l / 64 := by
    have hfloor : ((l : Rat) / 64).floor = ((l / 64 : Nat) : Int) := Rat.floor_intCast_div_natCast l 64
    rw [hfloor, Int.toNat_natCast]
  have hinside : ((((64 * (l / 64 + 1) : Nat) : Int) - ((64 * (l / 64) : Nat) : Int) : Int) : Rat) * ((l : Rat) - (64 * (l / 64) : Nat)) / 64
      = (((l : Int) - (64 * (l / 64) : Nat) : Int) : Rat) := by
    generalize l / 64 = i
    push_cast
    ring
  unfold regamma
  dsimp only
  rw [hclamp, hstep, tableEntry_linear_regamma (by omega), tableEntry_linear_regamma (by omega), hinside, Rat.floor_intCast]
  norm_num
/-- A code's linear value lies so near it that it is rounded back. -/
theorem roundRat_linear {v l : Nat} (h : l = (2 * v * 65535 + 1023) / 2046) : roundRat ((l : Rat) * 1023 / 65535) = v := by
  have hlow : 2 * v * 65535 ≤ 2046 * l + 1023 := by omega
  have hhigh : 2046 * l ≤ 2 * v * 65535 + 1023 := by omega
  have hlow' : (2 * v * 65535 : Rat) ≤ 2046 * l + 1023 := by exact_mod_cast hlow
  have hhigh' : (2046 * l : Rat) ≤ 2 * v * 65535 + 1023 := by exact_mod_cast hhigh
  refine (Int.floor_eq_iff (a := (l : Rat) * 1023 / 65535 + 1 / 2)).mpr ⟨?_, ?_⟩ <;> push_cast <;> linarith
/-- The linear table pair returns every code (R411). -/
theorem regamma_degamma_linear {v : Nat} (h : v < 1024) : regamma {} 10 (degamma {} 10 v) = v := by
  rw [degamma_linear h]
  rcases Nat.lt_or_ge v 1023 with hv | hv
  · rw [regamma_linear (by omega), roundRat_linear rfl, clampTo]
    omega
  · obtain rfl : v = 1023 := by omega
    decide +kernel

/-- A window's size is a whole 1 to 4 times an image's. -/
theorem factor_iff {big small : Nat} (h : 0 < small) : factor big small = true ↔ ∃ x, 1 ≤ x ∧ x ≤ 4 ∧ big = x * small := by
  simp only [factor, Bool.and_eq_true, decide_eq_true_eq]
  constructor
  · rintro ⟨⟨⟨_, hdvd⟩, hge⟩, hle⟩
    exact ⟨big / small, hge, hle, (Nat.div_mul_cancel (Nat.dvd_of_mod_eq_zero hdvd)).symm⟩
  · rintro ⟨x, hge, hle, rfl⟩
    rw [Nat.mul_div_cancel x h, Nat.mul_mod_left]
    exact ⟨⟨⟨h, rfl⟩, hge⟩, hle⟩

/-- The sum of a list whose element at a place is raised by an amount. -/
theorem sum_modify_add (l : List Int) (i : Nat) (hi : i < l.length) (d : Int) : (l.modify i (· + d)).sum = l.sum + d := by
  induction l generalizing i with
  | nil => simp at hi
  | cons a l ih =>
    cases i with
    | zero => simp; ring
    | succ i => simp at hi ⊢; rw [ih i hi]; ring

/-- The largest element of a list that is not empty is in it. -/
theorem foldl_max_mem (a : Int) (l : List Int) : l.foldl max a ∈ a :: l := by
  induction l generalizing a with
  | nil => simp
  | cons b l ih =>
    have hmem := ih (max a b)
    rw [List.foldl_cons]
    rcases max_choice a b with h | h <;> rw [h] at hmem ⊢ <;> simp only [List.mem_cons] at hmem ⊢ <;> tauto

/-- A list that is not empty sums to what it did and the amount its largest element is adjusted by. -/
theorem sum_addToLargest {l : List Int} (h : l ≠ []) (d : Int) : (addToLargest l d).sum = l.sum + d := by
  obtain ⟨a, r, rfl⟩ := List.exists_cons_of_ne_nil h
  have hmem : (a :: r).foldl max ((a :: r).headD 0) ∈ a :: r := by simpa using foldl_max_mem a r
  unfold addToLargest
  dsimp only
  generalize (a :: r).foldl max ((a :: r).headD 0) = m at hmem ⊢
  cases hfind : (a :: r).findIdx? fun x => decide (x = m) with
  | none => exact absurd (List.findIdx?_eq_none_iff.mp hfind m hmem) (by simp)
  | some i => exact sum_modify_add _ i (List.findIdx?_eq_some_iff_findIdx_eq.mp hfind).1 d

theorem sum_coefficients (kind : Nat) {t : Nat} (r : Rat) (phase : Nat) (h : 1 ≤ t) : (coefficients kind t r phase).sum = 1024 := by
  unfold coefficients
  dsimp only
  rw [sum_addToLargest, ← List.sum_eq_foldl, add_sub_cancel]
  simpa using ⟨0, h⟩

/-- Settles O59. -/
theorem pictureRules : Obligations.PictureRules := by
  refine ⟨fun v hv => ?_, fun kind t r phase ht => sum_coefficients kind r phase ht, fun b W H hw hh => ?_⟩
  · exact regamma_degamma_linear hv
  · rw [imgFits, Bool.and_eq_true, factor_iff hw, factor_iff hh]
    constructor
    · rintro ⟨⟨x, hx1, hx4, hW⟩, y, hy1, hy4, hH⟩
      exact ⟨x, y, hx1, hx4, hy1, hy4, hW, hH⟩
    · rintro ⟨x, y, hx1, hx4, hy1, hy4, hW, hH⟩
      exact ⟨⟨x, hx1, hx4, hW⟩, y, hy1, hy4, hH⟩

/-! ## Grants (R501) -/

/-- One request goes before another, or is as good as it. -/
def GoesFirst (now : Nat) (x r : Presented) : Prop :=
  effectivePriority now r < effectivePriority now x
    ∨ (effectivePriority now r = effectivePriority now x ∧ (x.since < r.since ∨ (x.since = r.since ∧ x.master ≤ r.master)))

theorem goesBefore_iff (now : Nat) (x r : Presented) : goesBefore now x r = true ↔ GoesFirst now x r := by
  simp only [goesBefore, GoesFirst, Bool.or_eq_true, Bool.and_eq_true, decide_eq_true_eq, eq_comm (a := effectivePriority now x)]
theorem GoesFirst.refl (now : Nat) (x : Presented) : GoesFirst now x x := .inr ⟨rfl, .inr ⟨rfl, le_rfl⟩⟩
theorem GoesFirst.trans {now : Nat} {x y z : Presented} (h : GoesFirst now x y) (k : GoesFirst now y z) : GoesFirst now x z := by
  unfold GoesFirst at *
  omega
theorem goesFirst_total (now : Nat) (x y : Presented) : GoesFirst now x y ∨ GoesFirst now y x := by
  unfold GoesFirst
  omega

/-- The request granted is one of those presented, and goes before each. -/
theorem granted_goesFirst (now : Nat) (l : List Presented) (h : l ≠ []) : ∃ x ∈ l, granted now l = some x ∧ ∀ r ∈ l, GoesFirst now x r := by
  induction l with
  | nil => exact absurd rfl h
  | cons r l ih =>
    cases l with
    | nil => exact ⟨r, by simp, rfl, by simp [GoesFirst.refl]⟩
    | cons r' l =>
      obtain ⟨x, hmem, hgrant, hfirst⟩ := ih (List.cons_ne_nil _ _)
      rw [granted, hgrant]
      by_cases hb : goesBefore now r x = true
      · refine ⟨r, by simp, if_pos hb, fun z hz => ?_⟩
        rcases List.mem_cons.mp hz with rfl | hz
        · exact .refl now z
        · exact ((goesBefore_iff now r x).mp hb).trans (hfirst z hz)
      · refine ⟨x, List.mem_cons_of_mem r hmem, if_neg hb, fun z hz => ?_⟩
        rcases List.mem_cons.mp hz with rfl | hz
        · exact (goesFirst_total now x z).resolve_right fun hz => hb ((goesBefore_iff now z x).mpr hz)
        · exact hfirst z hz

/-- The oldest of the requests that a condition leaves is the head of the sorted list. -/
theorem head_mergeSort_issued {l : List BusReq} (h : l ≠ []) :
    ∃ x ∈ l, (l.mergeSort fun a b => decide (a.issued ≤ b.issued)).head? = some x ∧ ∀ r ∈ l, x.issued ≤ r.issued := by
  have hperm := List.mergeSort_perm l fun a b => decide (a.issued ≤ b.issued)
  have hsorted := List.pairwise_mergeSort (le := fun a b : BusReq => decide (a.issued ≤ b.issued)) (by simp; omega) (by simp; omega) l
  obtain ⟨x, r, hsort⟩ := List.exists_cons_of_ne_nil fun h' => h (List.Perm.nil_eq (h' ▸ hperm)).symm
  rw [hsort] at hperm hsorted ⊢
  refine ⟨x, hperm.mem_iff.mp List.mem_cons_self, rfl, fun z hz => ?_⟩
  rcases List.mem_cons.mp (hperm.mem_iff.mpr hz) with rfl | hz
  · exact le_rfl
  · simpa using List.rel_of_pairwise_cons hsorted hz

/-- Settles O60. -/
theorem grantsGoByPriority : Obligations.GrantsGoByPriority := by
  refine ⟨fun now l h => granted_goesFirst now l h, fun outstanding waiting t hex => ?_, fun outstanding waiting t hheld => ?_⟩
  · obtain ⟨r, hr, ht, hheld⟩ := hex
    have hmem : r ∈ waiting.filter fun r => decide (r.target = t) && !heldAtPort outstanding r := by simp [hr, ht, hheld]
    obtain ⟨x, hx, hhead, hold⟩ := head_mergeSort_issued (List.ne_nil_of_mem hmem)
    simp only [List.mem_filter, Bool.and_eq_true, decide_eq_true_eq, Bool.not_eq_true'] at hx
    exact ⟨x, hx.1, hhead, hx.2.1, hx.2.2, fun z hz hzt hzh => hold z (by simp [hz, hzt, hzh])⟩
  · have hnil : (waiting.filter fun r => decide (r.target = t) && !heldAtPort outstanding r) = [] := by
      rw [List.filter_eq_nil_iff]
      intro r hr
      simpa using hheld r hr
    rw [presents, hnil, List.mergeSort_nil]
    rfl

end Sys2Proof.Machine

/-! # The happenings at the command ports, the references, the synthesizers and the core clocks

A happening's row is its `exec…` function, which guards it by its unit's state: each clause is that guard taken, or not taken. -/

namespace Sys2Proof.Machine
open Sys2Proof

/-! ## Transactions on the command ports (R57 to R67) -/

theorem getPort_setPort_same (s : State) {p : Port} (hp : hasTransactions p = true) (c : CmdPort) : getPort (setPort s p c) p = c := by
  cases p with
  | cp0 | cp1 | cp3 => rfl
  | _ => cases hp
theorem setPort_driven (s : State) (p : Port) (c : CmdPort) : (setPort s p c).ports.driven = s.ports.driven := by cases p <;> rfl
theorem setPort_cycles (s : State) (p : Port) (c : CmdPort) : (setPort s p c).ports.cycles = s.ports.cycles := by cases p <;> rfl
theorem setPort_i2c (s : State) (p : Port) (c : CmdPort) : (setPort s p c).ports.i2c = s.ports.i2c := by cases p <;> rfl

section
variable (s : State) (p r : Port) (code : Byte) (host back : List Byte) (read : Bool)

theorem transact_driven : (transact s p code host read back).ports.driven = back := by unfold transact; dsimp only; split <;> rfl
theorem transact_cycles (hp : p ≠ .cp3) : (transact s p code host read back).ports.cycles = spiCycles p code host read back := by
  unfold transact; dsimp only; rw [if_neg hp]
theorem transact_i2c : (transact s .cp3 code host read back).ports.i2c = i2cBytes s code host read back := rfl
theorem getPort_transact : getPort (transact s p code host read back) r = getPort s r := by
  unfold transact; dsimp only; split <;> cases r <;> rfl
theorem portStatus_length : (portStatus s p).length = 4 := rfl

theorem stopCp3_driven : (stopCp3 s p).ports.driven = s.ports.driven := by unfold stopCp3; split <;> rfl
theorem stopCp3_cycles : (stopCp3 s p).ports.cycles = s.ports.cycles := by unfold stopCp3; split <;> rfl
theorem stopCp3_i2c : (stopCp3 s p).ports.i2c = s.ports.i2c := by unfold stopCp3; split <;> rfl
theorem getPort_stopCp3 : getPort (stopCp3 s p) r = getPort s r := by unfold stopCp3; split <;> cases r <;> rfl
end

/-- The bytes of the oldest Placard that are clocked out, zeros after its end. -/
def clockedOut (s : State) (p : Port) (n : Nat) : List Byte :=
  sized (match (getPort s p).queue with | [] => [] | w :: _ => placardBytes w.plac) n

/-- Clocking out a Placard is a transaction that reads its bytes; it leaves the queue with its last byte (R60). -/
theorem clockPlacard_eq (s : State) (p : Port) (n : Nat) : clockPlacard s p n = match (getPort s p).queue with
    | [] => transact s p 0x0B#8 [] true (clockedOut s p n)
    | w :: r => if (placardBytes w.plac).length ≤ n
        then setPort (transact s p 0x0B#8 [] true (clockedOut s p n)) p { getPort s p with queue := r }
        else transact s p 0x0B#8 [] true (clockedOut s p n) := by
  unfold clockPlacard clockedOut
  dsimp only
  cases (getPort s p).queue <;> simp [sized]

section
variable (s : State) (p : Port) (n : Nat)

theorem clockPlacard_driven : (clockPlacard s p n).ports.driven = clockedOut s p n := by
  rw [clockPlacard_eq]
  split
  · exact transact_driven ..
  · split
    · rw [setPort_driven, transact_driven]
    · exact transact_driven ..
theorem clockPlacard_cycles (hp : p ≠ .cp3) : (clockPlacard s p n).ports.cycles = spiCycles p 0x0B#8 [] true (clockedOut s p n) := by
  rw [clockPlacard_eq]
  split
  · exact transact_cycles _ _ _ _ _ _ hp
  · split
    · rw [setPort_cycles, transact_cycles _ _ _ _ _ _ hp]
    · exact transact_cycles _ _ _ _ _ _ hp
theorem clockPlacard_i2c : (clockPlacard s .cp3 n).ports.i2c = i2cBytes s 0x0B#8 [] true (clockedOut s .cp3 n) := by
  rw [clockPlacard_eq]
  split
  · rfl
  · split <;> rfl
theorem clockPlacard_queue (hp : hasTransactions p = true) : (getPort (clockPlacard s p n) p).queue = match (getPort s p).queue with
    | [] => []
    | w :: r => if (placardBytes w.plac).length ≤ n then r else w :: r := by
  rw [clockPlacard_eq]
  cases hq : (getPort s p).queue with
  | nil => simp only [getPort_transact, hq]
  | cons w r =>
    simp only
    split
    · rw [getPort_setPort_same _ hp]
    · rw [getPort_transact, hq]

/-- Clocking out the port status drives its four bytes, and clears the intake error with its third (R61). -/
theorem clockStatus_driven : (clockStatus s p n).ports.driven.take 4 = (portStatus s p).take n := by
  have hdriven : (clockStatus s p n).ports.driven = (portStatus s p).take n ++ (drawBytes s (n - 4)).1 := by
    unfold clockStatus
    dsimp only
    split
    · rw [setPort_driven, transact_driven]
    · rw [transact_driven]
  rw [hdriven]
  rcases Nat.le_total n 4 with hn | hn
  · simp [drawBytes, Nat.sub_eq_zero_of_le hn, List.take_take, Nat.min_eq_right hn]
  · rw [List.take_of_length_le (l := portStatus s p) (by rw [portStatus_length]; exact hn), ← portStatus_length s p, List.take_left]
theorem clockStatus_intakeErr (hp : hasTransactions p = true) :
    (getPort (clockStatus s p n) p).intakeErr = (decide (n < 3) && (getPort s p).intakeErr) := by
  have hdraw : ∀ k, getPort (drawBytes s k).2 p = getPort s p := fun _ => by cases p <;> rfl
  unfold clockStatus
  dsimp only
  split
  · rw [getPort_setPort_same _ hp, decide_eq_false (by omega), Bool.false_and]
  · rw [getPort_transact, hdraw, decide_eq_true (by omega), Bool.true_and]
end

section
variable {s : State} {p : Port}

/-- On a port with transactions each row acts where the port listens. -/
theorem execWritePacket_eq (hp : hasTransactions p = true) (b : List Byte) : exec (.writePacket p b) s =
    .next (if listening s p then stopCp3 (arrive (transact s p 0x02#8 b false []) p b) p else s) := by
  show execWritePacket p b s = _
  rw [execWritePacket, hp, apply_ite Host.Outcome.next]
  rfl
theorem execReadPlacard_eq (hp : hasTransactions p = true) (n : Nat) : exec (.readPlacard p n) s =
    .next (if listening s p then stopCp3 (clockPlacard s p n) p else s) := by
  show execReadPlacard p n s = _
  rw [execReadPlacard, hp, apply_ite Host.Outcome.next]
  rfl
theorem execReadPortStatus_eq (hp : hasTransactions p = true) (n : Nat) : exec (.readPortStatus p n) s =
    .next (if listening s p then stopCp3 (clockStatus s p n) p else s) := by
  show execReadPortStatus p n s = _
  rw [execReadPortStatus, hp, apply_ite Host.Outcome.next]
  rfl
theorem execUnknownTransaction_eq (hp : hasTransactions p = true) {c : Byte} (hc : [0x02#8, 0x0B#8, 0x05#8].contains c = false) :
    exec (.unknownTransaction p c) s =
      .next (if listening s p then stopCp3 (discard (transact s p c [] false []) p) p else s) := by
  show execUnknownTransaction p c s = _
  rw [execUnknownTransaction, hp, knownCode, hc, apply_ite Host.Outcome.next]
  simp [strangeCode]

theorem readPlacard_clocks (hp : hasTransactions p = true) (n : Nat) (h : listening s p = true) :
    ∃ t, exec (.readPlacard p n) s = .next t ∧ t.ports.driven = clockedOut s p n
      ∧ (getPort t p).queue = (match (getPort s p).queue with
          | [] => []
          | w :: r => if (placardBytes w.plac).length ≤ n then r else w :: r)
      ∧ (p ≠ .cp3 → t.ports.cycles = spiCycles p 0x0B#8 [] true t.ports.driven)
      ∧ (p = .cp3 → t.ports.i2c = i2cBytes s 0x0B#8 [] true t.ports.driven) := by
  refine ⟨_, execReadPlacard_eq hp n, ?_⟩
  simp only [if_pos h, stopCp3_driven, stopCp3_cycles, stopCp3_i2c, getPort_stopCp3, clockPlacard_driven, clockPlacard_queue _ _ _ hp]
  refine ⟨trivial, trivial, clockPlacard_cycles s p n, ?_⟩
  rintro rfl
  exact clockPlacard_i2c s n
theorem readPortStatus_clocks (hp : hasTransactions p = true) (n : Nat) (h : listening s p = true) :
    ∃ t, exec (.readPortStatus p n) s = .next t ∧ t.ports.driven.take 4 = (portStatus s p).take n
      ∧ (getPort t p).intakeErr = (decide (n < 3) && (getPort s p).intakeErr) := by
  refine ⟨_, execReadPortStatus_eq hp n, ?_⟩
  rw [if_pos h, stopCp3_driven, getPort_stopCp3]
  exact ⟨clockStatus_driven s p n, clockStatus_intakeErr s p n hp⟩
end

/-- A port with no transactions, and a requester inside the Ontor, stops the step (R63). -/
theorem no_transactions_fault {p : Port} (hp : hasTransactions p = false) (s : State) (b : List Byte) (n m : Nat) (c : Byte) :
    exec (.writePacket p b) s = .fault .noTransactionHere ∧ exec (.readPlacard p n) s = .fault .noTransactionHere
      ∧ exec (.readPortStatus p m) s = .fault .noTransactionHere ∧ exec (.unknownTransaction p c) s = .fault .noTransactionHere := by
  have hnot : (!hasTransactions p) = true := by rw [hp]; rfl
  exact ⟨if_pos hnot, if_pos hnot, if_pos hnot, if_pos hnot⟩

/-! ### Time-outs of CP3 and CP2 -/

section
variable {s : State}

theorem execCp3SclTimeout_deaf (cut : SclCut) (h : listening s .cp3 = false) : exec (.cp3SclTimeout cut) s = .next s := by
  show execCp3SclTimeout cut s = _
  rw [execCp3SclTimeout, if_neg (by simp [h])]
theorem execCp3SclTimeout_none (b : List Byte) (n : Nat) (h : listening s .cp3 = true) :
    exec (.cp3SclTimeout ⟨none, b, n⟩) s = .next (transact s .cp3 0#8 [] false []) := by
  show execCp3SclTimeout ⟨none, b, n⟩ s = _
  rw [execCp3SclTimeout, if_pos h]
theorem execCp3SclTimeout_some (c : Byte) (b : List Byte) (n : Nat) (h : listening s .cp3 = true) :
    exec (.cp3SclTimeout ⟨some c, b, n⟩) s =
      if c = 0x02#8 then .next (arrive (transact s .cp3 c b false []) .cp3 b)
      else if c = 0x0B#8 then .next (clockPlacard s .cp3 n)
      else if c = 0x05#8 then .next (clockStatus s .cp3 n)
      else .next (strangeCode s .cp3 c) := by
  show execCp3SclTimeout ⟨some c, b, n⟩ s = _
  rw [execCp3SclTimeout, if_pos h]
theorem execCp3SclTimeout_strange {c : Byte} (b : List Byte) (n : Nat) (h : listening s .cp3 = true)
    (hc : [0x02#8, 0x0B#8, 0x05#8].contains c = false) :
    exec (.cp3SclTimeout ⟨some c, b, n⟩) s = .next (discard (transact s .cp3 c [] false []) .cp3) := by
  simp only [List.contains_cons, List.contains_nil, Bool.or_eq_false_iff, beq_eq_false_iff_ne, ne_eq] at hc
  obtain ⟨h02, h0B, h05, _⟩ := hc
  rw [execCp3SclTimeout_some c b n h, if_neg h02, if_neg h0B, if_neg h05]
  rfl

/-- A packet of which fewer than eight bytes, or a wrong first one, have come is discarded. -/
theorem arrive_discard {p : Port} {b : List Byte} (himage : s.boot.phase ≠ .noImage) (hb : b.length < 8 ∨ b.getD 0 0#8 ≠ 0xA5#8) :
    arrive s p b = discard s p := by
  unfold arrive
  dsimp only
  rw [if_neg himage, if_pos hb]
theorem execCp2PacketTimeout_idle (h : s.ports.cp2.rx = [] ∨ s.clk < s.ports.cp2RxAt + 10000000) :
    exec .cp2PacketTimeout s = .next s := if_pos h
theorem execCp2PacketTimeout_late (hrx : s.ports.cp2.rx ≠ []) (hclk : s.ports.cp2RxAt + 10000000 ≤ s.clk) :
    ∃ t, exec .cp2PacketTimeout s = .next t
      ∧ (s.boot.phase ≠ .noImage → (s.ports.cp2.rx.length < 8 ∨ s.ports.cp2.rx.getD 0 0#8 ≠ 0xA5#8) →
          t = discard (setPort s .cp2 { s.ports.cp2 with rx := [] }) .cp2) := by
  refine ⟨_, if_neg (by simp only [not_or, not_lt]; exact ⟨hrx, hclk⟩), fun himage hshort => ?_⟩
  have hshort' : (decide (s.ports.cp2.rx.length < 8) || decide (s.ports.cp2.rx.getD 0 0#8 ≠ 0xA5#8)) = true := by simpa using hshort
  rw [hshort', if_neg (by simp)]
  exact arrive_discard (s := setPort s .cp2 _) himage hshort
theorem execCp2LinkRetry_failed {n : Nat} (hport : cp2Port s = some n) (hst : (plk s n).st = 11)
    (hclk : (plk s n).since + 1000000000 ≤ s.clk) : exec .cp2LinkRetry s = .next (ensureCp2 (plkDown s n 0)) := by
  show execCp2LinkRetry s = _
  simp only [execCp2LinkRetry, hport]
  rw [if_pos ⟨hst, decide_eq_true hclk⟩]
theorem execCp2LinkRetry_none (hport : cp2Port s = none) : exec .cp2LinkRetry s = .next s := by
  show execCp2LinkRetry s = _
  simp only [execCp2LinkRetry, hport]
end

/-- Settles O11 (log entries 4 and 15). -/
theorem transactionsComplete : Obligations.TransactionsComplete := by
  refine ⟨fun p hp s => ⟨execWritePacket_eq hp, fun n hl => ⟨?_, ?_⟩, fun n => readPlacard_clocks hp n, fun n => readPortStatus_clocks hp n,
    fun c => execUnknownTransaction_eq hp⟩, fun p hp => no_transactions_fault hp,
    fun s => ⟨fun cut => execCp3SclTimeout_deaf cut, fun b n hl => ⟨execCp3SclTimeout_none b n hl, ?_, ?_, ?_, fun c => execCp3SclTimeout_strange b n hl⟩,
      execCp2PacketTimeout_idle, execCp2PacketTimeout_late, fun n => execCp2LinkRetry_failed, execCp2LinkRetry_none, rfl⟩⟩
  · rw [execReadPlacard_eq hp, if_neg (by simp [hl])]
  · rw [execReadPortStatus_eq hp, if_neg (by simp [hl])]
  · exact (execCp3SclTimeout_some _ b n hl).trans (if_pos rfl)
  · exact (execCp3SclTimeout_some _ b n hl).trans rfl
  · exact (execCp3SclTimeout_some _ b n hl).trans rfl

end Sys2Proof.Machine

/-! # The happenings of the reference candidates, the DPLL and FSYNC (chapter 07) -/

namespace Sys2Proof.Machine
open Sys2Proof

/-! ## Reference candidates (R174 to R182) -/

section
variable {s : State} {n : Nat}

theorem refPulseNow_ignored (h : frameMonitor s n = false ∨ candAbsent s n = true) (i : Nat) : refPulseNow s n i = s := by
  refine if_pos ?_
  rcases h with h | h <;> simp [h]
/-- A pulse is monitored where the candidate is a frame reference that is not absent. -/
theorem pulse_monitored (hmon : frameMonitor s n = true) (habs : candAbsent s n = false) : ¬ (!frameMonitor s n || candAbsent s n) = true := by
  simp [hmon, habs]
/-- The first pulse makes the candidate present and starts its intervals. -/
theorem refPulseNow_first {i : Nat} (hmon : frameMonitor s n = true) (habs : candAbsent s n = false) (h : (cand s n).present = false ∨ i = 0) :
    refPulseNow s n i = alignFsyncs (setCand s n { cand s n with present := true, intervals := [], good := 0, since := s.clk }) n := by
  have hfirst : (!(cand s n).present || decide (i = 0)) = true := by rcases h with h | h <;> simp [h]
  rw [refPulseNow, if_neg (pulse_monitored hmon habs)]
  exact if_pos hfirst
/-- Any other joins the last four intervals, of which the nominal rate is measured. -/
theorem refPulseNow_later {i : Nat} (hmon : frameMonitor s n = true) (habs : candAbsent s n = false) (hpresent : (cand s n).present = true)
    (hi : i ≠ 0) :
    let l := (i :: (cand s n).intervals).take 4
    let r := nominalOf frameRates (1000000000000 * l.length, l.foldl (· + ·) 0)
    let one := within (1000000000000, i) r (acceptOf s n)
    let t := setCand s n { cand s n with
      intervals := l, nominal := r, offset := if r.1 = 0 then 32767 else (cand s n).offset,
      good := if one then (cand s n).good + 1 else 0, since := if one then (cand s n).since else s.clk }
    refPulseNow s n i = alignFsyncs (if l.length = 4 then measured t n (1000000000000 * l.length, l.foldl (· + ·) 0) r else t) n := by
  have hlater : ¬ (!(cand s n).present || decide (i = 0)) = true := by simp [hpresent, hi]
  dsimp only
  rw [refPulseNow, if_neg (pulse_monitored hmon habs)]
  exact if_neg hlater
end

section
variable {c : Fin 16} {s : State}

theorem execRefFreqMeasurement_ignored (h : clockMonitor s c.val = false ∨ candAbsent s c.val = true) (e : Nat) :
    exec (.refFreqMeasurement c e) s = .next s := by
  refine if_pos ?_
  rcases h with h | h <;> simp [h]
theorem execRefFreqMeasurement_measures {e : Nat} (hmon : clockMonitor s c.val = true) (habs : candAbsent s c.val = false) (hc : c.val ≠ 4)
    (he : e ≠ 0) :
    let t := setCand s c.val { cand s c.val with present := true, since := if (cand s c.val).present then (cand s c.val).since else s.clk }
    exec (.refFreqMeasurement c e) s = .next (measured t c.val (e * 10, 1)
      (if c.val ≤ 3 then nominalOf clockRates (e * 10, 1) else kind1Nominal t c.val)) := by
  have hmonitored : ¬ (!clockMonitor s c.val || candAbsent s c.val) = true := by simp [hmon, habs]
  show execRefFreqMeasurement c e s = _
  unfold execRefFreqMeasurement
  dsimp only
  rw [if_neg hmonitored, if_neg hc, if_neg he]
theorem execRefQualified_qualifies (hen : refEnabled s c.val = true) (hcls : classAllowed s c.val = true) (hpresent : candPresent s c.val = true)
    (hqual : (cand s c.val).qualified = false) (hout : (cand s c.val).outside = false) (hnominal : (cand s c.val).nominal.1 ≠ 0)
    (htime : (cand s c.val).since + bits (refWord s c.val 2) 31 16 * 1000000 ≤ s.clk)
    (hgood : isFrameRef s c.val = true → bits (refWord s c.val 2) 15 0 ≤ (cand s c.val).good) :
    exec (.refQualified c) s = .next (runSelection (armFsyncs (checkTier (raise
      (setCand s c.val { cand s c.val with qualified := true, everQualified := true }) 182
        (detOff c.val 0 (cand s c.val).offset)) c.val) c.val)) := by
  have hover : qualTimeOver s c.val = true := by
    simp only [qualTimeOver, Bool.and_eq_true, Bool.or_eq_true, decide_eq_true_eq, Bool.not_eq_true']
    refine ⟨htime, ?_⟩
    cases hframe : isFrameRef s c.val with
    | false => exact .inl rfl
    | true => exact .inr (hgood hframe)
  refine if_pos ?_
  simp [hen, hcls, hpresent, hqual, hout, hnominal, hover]
end

/-! ## The DPLL, FSYNC and the pulse per second (R172, R183 to R203) -/

/-- The windows that a comparison has counted move the DPLL between ACQUIRE and LOCKED. -/
def comparisonLocks (t : State) : State :=
  if t.dpll.state = 1 ∧ bits (refWord t 16 1) 7 0 ≤ t.dpll.inWin then dpllTo t 2 1
  else if t.dpll.state = 2 ∧ 4 ≤ t.dpll.outWin then dpllTo t 1 2 else t

section
variable {s : State}

/-- A comparison with a reference takes its phase step or counts its window, and then the locks move. -/
theorem execDpllComparison_active {c : Nat} (ph : Int) (hactive : s.dpll.active = some c) :
    exec (.dpllComparison ph) s = .next (comparisonLocks
      (if s.dpll.measure then takeStep s (wrapPhase (comparisonRate s c) ph) else countComparison s c (wrapPhase (comparisonRate s c) ph))) := by
  show execDpllComparison ph s = _
  simp only [execDpllComparison, hactive, comparisonLocks, apply_ite Host.Outcome.next, ge_iff_le]
theorem execDpllComparison_none (ph : Int) (hactive : s.dpll.active = none) : exec (.dpllComparison ph) s = .next s := by
  show execDpllComparison ph s = _
  simp only [execDpllComparison, hactive]
theorem execDpllComparison_step {c : Nat} (ph : Int) (hactive : s.dpll.active = some c) (hmeasure : s.dpll.measure = true) :
    let ps := wrapPhase (comparisonRate s c) ph
    let t := raise { s with dpll := { s.dpll with measure := false, stored := if s.dpll.compat then ps else 0, inWin := 1 } } 186
      (BitVec.ofNat 32 (stepField ps + 16777216 * b2n s.dpll.compat))
    exec (.dpllComparison ph) s = .next (comparisonLocks (if s.dpll.compat then t else settleStep (addStep t ps))) := by
  dsimp only
  rw [execDpllComparison_active ph hactive, if_pos hmeasure]
  rfl
theorem execDpllComparison_counts {c : Nat} (ph : Int) (hactive : s.dpll.active = some c) (hmeasure : s.dpll.measure = false) :
    let win : Int := if isFrameRef s c then 1000000 else 8000
    let e := (wrapPhase (comparisonRate s c) ph - s.dpll.stored).natAbs
    exec (.dpllComparison ph) s = .next (comparisonLocks { s with dpll := { s.dpll with
      inWin := if (e : Int) ≤ win then s.dpll.inWin + 1 else 0, outWin := if (e : Int) > 4 * win then s.dpll.outWin + 1 else 0 } }) := by
  dsimp only
  rw [execDpllComparison_active ph hactive, if_neg (by simp [hmeasure])]
  rfl

theorem execHoldoverIntervalRecord_early (a : Int) (h : s.dpll.state ≠ 2 ∨ s.clk < s.dpll.since + 100000000) :
    exec (.holdoverIntervalRecord a) s = .next s :=
  if_neg fun ⟨hst, hclk⟩ => h.elim (· hst) fun h => absurd hclk (Nat.not_le.mpr h)
theorem execAcquireAlarm_early (h : s.dpll.state ≠ 1 ∨ s.clk < s.dpll.since + 10000000000) : exec .acquireAlarm s = .next s :=
  if_neg fun ⟨hst, hclk⟩ => h.elim (· hst) fun h => absurd hclk (Nat.not_le.mpr h)

theorem execFsyncPulse_rises {n : Fin 8} (h : fsyncRises s n.val = true) :
    ∃ t, exec (.fsyncPulse n true) s = .next t ∧ (fsync t n.val).high = true ∧ (fsync t n.val).rose = s.clk := by
  have hread : fsync { s with fsyncs := tput {} s.fsyncs n.val { fsync s n.val with high := true, rose := s.clk } } n.val
      = { fsync s n.val with high := true, rose := s.clk } :=
    tget_tput_of_ne _ _ _ _ fun heq => absurd (congrArg Fsync.high heq) (by simp)
  exact ⟨_, if_pos h, by rw [hread], by rw [hread]⟩
theorem execFsyncPulse_falls {n : Fin 8} (hhigh : (fsync s n.val).high = true) (hclk : (fsync s n.val).rose + 4096 ≤ s.clk) :
    exec (.fsyncPulse n false) s = .next { s with fsyncs := tput {} s.fsyncs n.val { fsync s n.val with high := false } } :=
  if_pos (by simp [fsyncFalls, hhigh, hclk])
theorem execTbPpsPulse_rises (hrun : s.tb.running = true) (hns : s.tb.ns.toNat % 1000000000 = 0) :
    exec (.tbPpsPulse true) s = .next { s with tb := { s.tb with pps := true, ppsRose := s.clk } } :=
  if_pos (by simp [ppsRises, hrun, hns])
theorem execTbPpsPulse_falls (hpps : s.tb.pps = true) (hclk : s.tb.ppsRose + 4096 ≤ s.clk) :
    exec (.tbPpsPulse false) s = .next { s with tb := { s.tb with pps := false } } :=
  if_pos (by simp [ppsFalls, hpps, hclk])
end

/-- Settles O12 (the sign of a step at half a period is log entry 32). -/
theorem referenceHappeningsComplete : Obligations.ReferenceHappeningsComplete :=
  ⟨fun _ _ => ⟨fun h i => congrArg _ (refPulseNow_ignored h i), fun _ hmon habs h => congrArg _ (refPulseNow_first hmon habs h),
      fun _ hmon habs hpresent hi => congrArg _ (refPulseNow_later hmon habs hpresent hi), execRefFreqMeasurement_ignored,
      fun _ => execRefFreqMeasurement_measures, fun hc => if_neg hc, execRefQualified_qualifies⟩,
    fun _ => ⟨execDpllComparison_none, fun ph _ => execDpllComparison_step ph, fun ph _ => execDpllComparison_counts ph,
      fun _ hst hclk => if_pos ⟨hst, hclk⟩, execHoldoverIntervalRecord_early, fun hst hclk => if_pos ⟨hst, hclk⟩, execAcquireAlarm_early,
      fun _ => execFsyncPulse_rises, fun _ => execFsyncPulse_falls, execTbPpsPulse_rises, execTbPpsPulse_falls⟩⟩

end Sys2Proof.Machine

/-! # The happenings of the synthesizers and the core clocks (chapter 08) -/

namespace Sys2Proof.Machine
open Sys2Proof

/-! ## Timers of a synthesizer (R211 to R219) -/

section
variable {n : Fin 12} {s : State}

theorem execRampStep_idle (h : (syn s n.val).ramping = false ∨ s.clk < (syn s n.val).rampAt + 1000) : exec (.rampStep n) s = .next s :=
  if_pos (h.imp_left fun h => by simp [h])
/-- A ramp's microsecond has come. -/
theorem ramp_due (hramp : (syn s n.val).ramping = true) (hclk : (syn s n.val).rampAt + 1000 ≤ s.clk) :
    ¬ ((!(syn s n.val).ramping) = true ∨ s.clk < (syn s n.val).rampAt + 1000) := by
  simp only [hramp, Bool.not_true, Bool.false_eq_true, false_or]
  omega
theorem execRampStep_slope {g : Seg} (hramp : (syn s n.val).ramping = true) (hclk : (syn s n.val).rampAt + 1000 ≤ s.clk)
    (hseg : (syn s n.val).ramp[(syn s n.val).segIdx]? = some g) :
    exec (.rampStep n) s = .next (
      let x := syn s n.val
      let v := (((synFreq s n.val).toNat : Int) * 65536 + x.frac.toNat + sext32 g.slope).toNat
      let next := decide (segUs g ≤ x.segRun + 1)
      let idx := if next then x.segIdx + 1 else x.segIdx
      let last := decide (x.ramp.length ≤ idx)
      let t := setSyn (setWord s 0 0x04 n.val 0 (BitVec.ofNat 32 (v / 65536))) n.val
        { x with rampAt := x.rampAt + 1000, frac := BitVec.ofNat 16 v, segIdx := idx, segRun := if next then 0 else x.segRun + 1, ramping := !last }
      if last then raise t 193 (det2 n.val 0 x.ramp.length) else t) := by
  refine (if_neg (ramp_due hramp hclk)).trans ?_
  simp only [hseg, ge_iff_le]
theorem execRampStep_end (hramp : (syn s n.val).ramping = true) (hclk : (syn s n.val).rampAt + 1000 ≤ s.clk)
    (hseg : (syn s n.val).ramp[(syn s n.val).segIdx]? = none) :
    exec (.rampStep n) s = .next (setSyn s n.val { syn s n.val with ramping := false }) := by
  refine (if_neg (ramp_due hramp hclk)).trans ?_
  simp only [hseg]

theorem execSynHopLockTimeout_late {m : Nat} (htask : (syn s n.val).task = .hop m) (hlocked : (syn s n.val).locked = false)
    (hclk : (syn s n.val).since + 20000 ≤ s.clk) :
    exec (.synHopLockTimeout n) s = .next (raise (setSyn s n.val { syn s n.val with task := .fallback m, searchAt := s.clk }) 191
      (det n.val m 0 0)) := by
  have hlate : ¬ ((syn s n.val).locked = true ∨ s.clk < (syn s n.val).since + 20000) := by
    simp only [hlocked, Bool.false_eq_true, false_or]
    omega
  show execSynHopLockTimeout n s = _
  simp only [execSynHopLockTimeout, htask, if_neg hlate]
theorem execSynHopLockTimeout_idle (h : (∀ m, (syn s n.val).task ≠ .hop m) ∨ (syn s n.val).locked = true ∨ s.clk < (syn s n.val).since + 20000) :
    exec (.synHopLockTimeout n) s = .next s := by
  show execSynHopLockTimeout n s = _
  unfold execSynHopLockTimeout
  dsimp only
  split
  · next m htask => exact if_pos (h.resolve_left fun hno => hno m htask)
  · rfl
theorem execSynSearchTimeout_late (hsearch : searching (syn s n.val) = true) (htask : ∀ m, (syn s n.val).task ≠ .hop m)
    (hclk : (syn s n.val).searchAt + 400000 ≤ s.clk) :
    exec (.synSearchTimeout n) s = .next (
      let f := (syn s n.val).fails + 1
      let t := setSyn s n.val { syn s n.val with fails := f, searchAt := s.clk }
      if (syn s n.val).task = .relock ∧ f % 16 = 0 then raise t 194 (field 0 8 n.val ||| field 8 24 (sat 24 f)) else t) := by
  refine if_neg ?_
  cases h : (syn s n.val).task with
  | hop m => exact absurd h (htask m)
  | _ => simp [hsearch, hclk]

/-- The stored band is recorded and the Placard formed (R211). -/
theorem execSynBandStoreComplete_none
    (h : takeRun (fun r => match r.job with | .bandStore k _ => decide (k = n.val) | _ => false) s.runs = none) :
    exec (.synBandStoreComplete n) s = .next s := by
  show execSynBandStoreComplete n s = _
  unfold execSynBandStoreComplete
  split
  · rfl
  · next r rest hrun => exact absurd (h.symm.trans hrun) (by simp)
theorem execSynBandStoreComplete_some {r : Run} {rest : List Run} {m : Nat} {b : Band}
    (h : takeRun (fun r => match r.job with | .bandStore k _ => decide (k = n.val) | _ => false) s.runs = some (r, rest))
    (hstoring : (syn s n.val).storing = some (m, b)) :
    exec (.synBandStoreComplete n) s = .next (finishRun (setSyn { s with runs := rest } n.val
      { syn s n.val with bands := tput none (syn s n.val).bands m (some b), storing := none }) r .ok []) := by
  show execSynBandStoreComplete n s = _
  unfold execSynBandStoreComplete
  split
  · next hrun => exact absurd (h.symm.trans hrun) (by simp)
  · next r' rest' hrun =>
    cases (h.symm.trans hrun)
    simp only [hstoring]
end

/-! ## Locks and losses (R153, R213 to R223) -/

/-- What a lock leaves of a synthesizer: its search is over. -/
def lockedSyn (s : State) (x : Syn) (band post : Nat) : Syn :=
  { x with locked := true, lockedAt := s.clk, band := band, post := post, fails := 0 }

section
variable {n : Fin 12} {band post : Nat} {s : State}

theorem execSynLockAcquired_idle (h : searching (syn s n.val) = false) : exec (.synLockAcquired n band post) s = .next s :=
  if_pos (by simp [h])
/-- SYN11's lock starts the timebase, or is told where it ran. -/
theorem execSynLockAcquired_11 (hsearch : searching (syn s 11) = true) (htask : ∀ m, (syn s 11).task ≠ .hop m) :
    exec (.synLockAcquired 11 band post) s = .next (
      let t := setSyn s 11 { lockedSyn s (syn s 11) band post with task := .idle, gated := false }
      if s.tb.running then raise t 201 (det 1 0 0 0) else { t with tb := { t.tb with running := true } }) := by
  show execSynLockAcquired 11 band post s = _
  unfold execSynLockAcquired
  simp only [show ((11 : Fin 12) : Nat) = 11 from rfl, hsearch, Bool.not_true, Bool.false_eq_true, if_false, if_true]
  cases h : (syn s 11).task with
  | hop m => exact absurd h (htask m)
  | _ => rw [apply_ite Host.Outcome.next]; rfl

section
variable (hsearch : searching (syn s n.val) = true) (hn : n.val ≠ 11)
include hsearch hn

/-- A lock after a loss holds the synthesizer gated. -/
theorem execSynLockAcquired_relock (htask : (syn s n.val).task = .relock) :
    exec (.synLockAcquired n band post) s = .next (setSyn s n.val { lockedSyn s (syn s n.val) band post with holding := true }) := by
  refine (if_neg (by simp [hsearch])).trans ((if_neg hn).trans ?_)
  simp only [htask, lockedSyn]
theorem execSynLockAcquired_start (htask : (syn s n.val).task = .start) :
    exec (.synLockAcquired n band post) s = .next (raise (setSyn s n.val
      { lockedSyn s (syn s n.val) band post with task := .idle, gated := false }) 190 (det2 n.val 0 (sinceUs s (syn s n.val)))) := by
  refine (if_neg (by simp [hsearch])).trans ((if_neg hn).trans ?_)
  simp only [htask]
  rfl
theorem execSynLockAcquired_retune (htask : (syn s n.val).task = .retune) :
    exec (.synLockAcquired n band post) s = .next (raise (setSyn s n.val
      { lockedSyn s (syn s n.val) band post with task := .idle, gated := false }) 190 (det2 n.val 2 (sinceUs s (syn s n.val)))) := by
  refine (if_neg (by simp [hsearch])).trans ((if_neg hn).trans ?_)
  simp only [htask]
  rfl
/-- A hop's lock is on the band of its memory. -/
theorem execSynLockAcquired_hop {m : Nat} {b : Band} (htask : (syn s n.val).task = .hop m) (hband : tget none (syn s n.val).bands m = some b) :
    exec (.synLockAcquired n band post) s = .next (raise (setSyn s n.val
      { lockedSyn s (syn s n.val) b.band b.post with task := .idle, gated := false }) 190 (det2 n.val 3 (sinceUs s (syn s n.val)))) := by
  refine (if_neg (by simp [hsearch])).trans ((if_neg hn).trans ?_)
  simp only [htask, hband]
  rfl
/-- A fallback's lock records its band with a free tuning word (log entry 35). -/
theorem execSynLockAcquired_fallback {m : Nat} (htask : (syn s n.val).task = .fallback m) :
    exec (.synLockAcquired n band post) s = .next (raise (setSyn (drawWord s).2 n.val
      { lockedSyn s (syn s n.val) band post with
        task := .idle, gated := false, bands := tput none (syn s n.val).bands m (some ⟨band, post, (synFreq s n.val).toNat * post, (drawWord s).1⟩) }) 190
      (det2 n.val 3 (sinceUs s (syn s n.val)))) := by
  refine (if_neg (by simp [hsearch])).trans ((if_neg hn).trans ?_)
  simp only [htask]
  rfl
end

theorem execSynUngate_held (hhold : (syn s n.val).holding = true) (hlocked : (syn s n.val).locked = true)
    (hclk : (syn s n.val).lockedAt + 100000 ≤ s.clk) :
    exec (.synUngate n) s = .next (settle (restartHalted (raise
      (setSyn s n.val { syn s n.val with gated := false, holding := false, task := .idle }) 189
      (det2 n.val 0 (sat 16 ((s.clk - (syn s n.val).gatedAt) / 1000)))) n.val)) :=
  if_pos (by simp [hhold, hlocked, hclk])
theorem execSynUngate_idle (h : (syn s n.val).holding = false ∨ (syn s n.val).locked = false ∨ s.clk < (syn s n.val).lockedAt + 100000) :
    exec (.synUngate n) s = .next s := by
  refine if_neg ?_
  rcases h with h | h | h <;> simp [h]
end

/-- Settles O13 (a stored band's free tuning word is log entry 35). -/
theorem synthesizerHappeningsComplete : Obligations.SynthesizerHappeningsComplete :=
  ⟨fun _ _ => ⟨execSynBandStoreComplete_none, fun _ _ _ _ => execSynBandStoreComplete_some, execRampStep_idle, fun _ => execRampStep_slope,
      execRampStep_end, fun _ => execSynHopLockTimeout_late, execSynHopLockTimeout_idle, execSynSearchTimeout_late⟩,
    fun _ _ _ _ => ⟨execSynLockAcquired_idle, execSynLockAcquired_11, fun _ _ hsearch hn => execSynLockAcquired_hop hsearch hn,
      fun _ hsearch hn => execSynLockAcquired_fallback hsearch hn,
      fun hsearch hn => ⟨execSynLockAcquired_relock hsearch hn, execSynLockAcquired_start hsearch hn, execSynLockAcquired_retune hsearch hn⟩,
      execSynUngate_held, execSynUngate_idle, rfl⟩⟩

/-! ## Core clocks (Table 8-3, R22, R223, R615) -/

/-- Settles O14: a loss acts where its clock runs, and a return where it is lost (log entries 39 and 95). -/
theorem coreClocksComplete : Obligations.CoreClocksComplete := by
  refine fun s => ⟨fun h => if_neg ?_, fun h => if_neg ?_, fun h => if_neg ?_, fun hheld hsupply => if_neg ?_, fun h => if_pos h,
    fun h => ⟨if_pos h, if_pos h⟩, fun h => ⟨if_pos h, if_pos h⟩, fun h => ⟨if_pos h, if_pos h⟩, rfl⟩
  · simp [h]
  · simp [h]
  · simp [h]
  · simp [hheld, hsupply]

end Sys2Proof.Machine

/-! # The bring-up of a Prenlink port (Tables 9-3 and 9-4) -/

namespace Sys2Proof.Machine
open Sys2Proof

/-! ## Reads of a port after a move -/

/-- A port's record that is not the one at rest reads back as it was written. -/
theorem plk_setPlk {s : State} {n : Nat} {p : Plk} (h : p ≠ {}) : plk (setPlk s n p) n = p := tget_tput_of_ne _ _ _ _ h
theorem plk_setPlk_of_st {s : State} {n : Nat} {p : Plk} (h : p.st ≠ 0) : plk (setPlk s n p) n = p :=
  plk_setPlk fun heq => h (congrArg Plk.st heq)
/-- An update of the event unit alone leaves every port as it is. -/
theorem plk_raise (s : State) (src : Nat) (d : Word) (n : Nat) : plk (raise s src d) n = plk s n := by rw [raise_eq]; rfl
theorem getLsbD_raise_pending_of {s : State} {k : Nat} (h : s.ev.pending.getLsbD k = true) (src : Nat) (d : Word) :
    (raise s src d).ev.pending.getLsbD k = true :=
  (raise_setsOnly s src d).keeps k (by simp [h])

/-- What an update of a port that moves keeps: its state, and the event that told it. -/
structure KeepsPort (n : Nat) (s t : State) : Prop where
  st : (plk s n).st ≠ 0 → (plk t n).st = (plk s n).st
  event : ∀ k, s.ev.pending.getLsbD k = true → t.ev.pending.getLsbD k = true

theorem KeepsPort.refl (n : Nat) (s : State) : KeepsPort n s s := ⟨fun _ => rfl, fun _ => id⟩
theorem KeepsPort.trans {n : Nat} {s t u : State} (h : KeepsPort n s t) (k : KeepsPort n t u) : KeepsPort n s u :=
  ⟨fun hs => (k.st (by rwa [h.st hs])).trans (h.st hs), fun i hi => k.event i (h.event i hi)⟩
theorem keepsPort_raise (n : Nat) (s : State) (src : Nat) (d : Word) : KeepsPort n s (raise s src d) :=
  ⟨fun _ => by rw [plk_raise], fun _ h => getLsbD_raise_pending_of h src d⟩
theorem keepsPort_setPlk {n : Nat} {s : State} {p : Plk} (hp : p.st = (plk s n).st) : KeepsPort n s (setPlk s n p) :=
  ⟨fun hs => by rw [plk_setPlk_of_st (by rwa [hp]), hp], fun _ => id⟩
theorem keepsPort_setPwr (n : Nat) (s : State) (dir v : Nat) : KeepsPort n s (setPwr s n dir v) := by
  unfold setPwr
  dsimp only
  split
  · exact .refl n s
  · exact (keepsPort_setPlk (by split <;> rfl)).trans (keepsPort_raise ..)

/-- A port enters a state, before the power of its directions follows. -/
def enteredPlk (s : State) (n st cause : Nat) : State :=
  let t := setPlk s n { plk s n with st := st, since := s.clk, ownOk := false, farOk := false }
  if eventState st ∨ cause = 10 ∨ cause = 12 then plkEvent t n cause 0 false else t

theorem enteredPlk_st {s : State} {n st : Nat} (cause : Nat) (hst : st ≠ 0) : (plk (enteredPlk s n st cause) n).st = st := by
  have hset : (plk (setPlk s n { plk s n with st := st, since := s.clk, ownOk := false, farOk := false }) n).st = st := by
    rw [plk_setPlk_of_st hst]
  unfold enteredPlk
  dsimp only
  split
  · rw [plkEvent, plk_raise, hset]
  · exact hset
theorem enteredPlk_event {s : State} {n st : Nat} (cause : Nat) (hn : n < 24) (hst : eventState st = true) :
    (enteredPlk s n st cause).ev.pending.getLsbD (32 + 2 * n) = true := by
  unfold enteredPlk
  dsimp only
  rw [if_pos (.inl hst)]
  exact getLsbD_raise_pending _ _ (by omega)
/-- A port that was not linked loses nothing as it moves: only the power of its directions follows. -/
theorem plkTo_unlinked {s : State} {n st : Nat} (cause : Nat) (h8 : (plk s n).st ≠ 8) (h12 : (plk s n).st ≠ 12) :
    plkTo s n st cause = if st = 8 ∨ st = 13 then enteredPlk s n st cause
      else setPwr (setPwr (enteredPlk s n st cause) n 0 (if st = 0 then 3 else 0)) n 1 (if st = 0 then 3 else 0) := by
  simp only [plkTo, plkMove, h8, h12, decide_false, Bool.false_and, Bool.or_false, Bool.false_eq_true, if_false, false_and]
  rfl
theorem keepsPort_plkTo {s : State} {n st : Nat} (cause : Nat) (h8 : (plk s n).st ≠ 8) (h12 : (plk s n).st ≠ 12) :
    KeepsPort n (enteredPlk s n st cause) (plkTo s n st cause) := by
  rw [plkTo_unlinked cause h8 h12]
  split
  · exact .refl ..
  · exact (keepsPort_setPwr ..).trans (keepsPort_setPwr ..)
/-- It stands in its new state, and the event tells it where the spec gives one (R260). -/
theorem plkTo_stands {s : State} {n st : Nat} (cause : Nat) (hn : n < 24) (hst : st ≠ 0) (h8 : (plk s n).st ≠ 8) (h12 : (plk s n).st ≠ 12) :
    (plk (plkTo s n st cause) n).st = st ∧ (eventState st = true → (plkTo s n st cause).ev.pending.getLsbD (32 + 2 * n) = true) := by
  have hkeeps : KeepsPort n (enteredPlk s n st cause) (plkTo s n st cause) := keepsPort_plkTo cause h8 h12
  have hentered := enteredPlk_st (s := s) (n := n) cause hst
  exact ⟨(hkeeps.st (by rwa [hentered])).trans hentered, fun hev => hkeeps.event _ (enteredPlk_event cause hn hev)⟩

/-! ## Timers of the bring-up states -/

section
variable {n : Fin 24} {s : State}

theorem stayed_of {t : Nat} (h : (plk s n.val).since + t ≤ s.clk) : stayed s n.val t = true := decide_eq_true h
/-- A timer's row does nothing in another state, or before its time. -/
theorem not_stayed_of {st t : Nat} (h : (plk s n.val).st ≠ st ∨ s.clk < (plk s n.val).since + t) :
    ¬ ((plk s n.val).st = st ∧ stayed s n.val t = true) := by
  simp only [stayed, passed, decide_eq_true_eq]
  omega

theorem execEqualiserTrainingDone_trains (hst : (plk s n.val).st = 5) (hlocked : ownLocked (plk s n.val) = true) :
    exec (.equaliserTrainingDone n) s = .next (trainDone (sendTraining
      (setPlk (drawBytes s 9).2 n.val { plk s n.val with
        lanes := { (plk s n.val).lanes with trained := true }, eq := { (plk s n.val).eq with adapted := (drawBytes s 9).1 } }) n.val 3 (plk s n.val).step 0 0#8 0#8) n.val) := by
  have h13 : (plk s n.val).st ≠ 13 := by rw [hst]; decide
  exact (if_pos (.inl ⟨hst, hlocked⟩)).trans (congrArg Host.Outcome.next (if_neg h13))
theorem execPlkFallbackTimeout_late (hst : (plk s n.val).st = 7) (hclk : (plk s n.val).since + 10000000 ≤ s.clk) :
    exec (.plkFallbackTimeout n) s = .next (if 0 < (plk s n.val).step then plkFallback s n.val 3 else plkBackoff s n.val 3) := by
  rw [apply_ite Host.Outcome.next]
  exact if_neg (by simp [hst, stayed_of hclk])
theorem execPlkFallbackTimeout_idle (h : (plk s n.val).st ≠ 7 ∨ s.clk < (plk s n.val).since + 10000000) :
    exec (.plkFallbackTimeout n) s = .next s := by
  refine if_pos ?_
  simpa [stayed, passed] using h
theorem execPlkRecoverTimeout_late (hst : (plk s n.val).st = 9) (hlocked : ownLocked (plk s n.val) = false)
    (hclk : (plk s n.val).since + 1000000 ≤ s.clk) :
    exec (.plkRecoverTimeout n) s = .next (if 0 < (plk s n.val).step then plkFallback s n.val 4 else plkBackoff s n.val 4) := by
  rw [apply_ite Host.Outcome.next]
  exact if_neg (by simp [hst, hlocked, stayed_of hclk])
theorem execPlkRecoverTimeout_idle (h : (plk s n.val).st ≠ 9 ∨ s.clk < (plk s n.val).since + 1000000) :
    exec (.plkRecoverTimeout n) s = .next s := by
  refine if_pos ?_
  rcases h with h | h
  · exact .inl h
  · exact .inr (.inr (by simpa [stayed, passed] using h))
theorem execBackoffEnd_ends (hst : (plk s n.val).st = 10)
    (hclk : (plk s n.val).since + (if (plk s n.val).attempts < 8 then 10000000 else 1000000000) ≤ s.clk)
    (hgated : ¬ ((plk s n.val).role = 0 ∧ (syn s 10).gated = true)) :
    exec (.backoffEnd n) s = .next (plkTo (setPlk s n.val { plk s n.val with
      attempts := (plk s n.val).attempts + 1, step := 0, rs := false, eq := {} }) n.val 1 1) := by
  have hwait : stayed s n.val (backoffWait (plk s n.val)) = true := decide_eq_true hclk
  refine if_neg ?_
  rw [hst, hwait]
  simpa using hgated
theorem execPlkClockLost_active (hst : (plk s n.val).st = 8) (hpower : powerOf (plk s n.val) (rxDir (plk s n.val)) < 2) :
    exec (.plkClockLost n) s = .next (plkBackoff s n.val 5) := by
  have hlost : heartbeatLost s n.val = plkBackoff s n.val 5 := if_pos (.inl hst)
  rw [← hlost]
  exact if_neg fun h => absurd h.2 (Nat.not_le.mpr hpower)
theorem execHeartbeatTimeout_lost (hst : (plk s n.val).st = 8 ∨ (plk s n.val).st = 9) (hpower : powerOf (plk s n.val) (rxDir (plk s n.val)) = 0)
    (hclk : (plk s n.val).lastRx + 1000000 ≤ s.clk) : exec (.heartbeatTimeout n) s = .next (plkBackoff s n.val 5) := by
  have hlost : heartbeatLost s n.val = plkBackoff s n.val 5 := if_pos hst
  rw [← hlost]
  exact if_pos ⟨hpower, decide_eq_true hclk⟩
end

/-! ## Lane locks -/

section
variable {n : Fin 24} {l : Fin 3} {s : State}

/-- What a port does once its own lanes are all locked, by its state (Table 9-4). -/
theorem lanesLocked_eq (t : State) (n : Nat) : lanesLocked t n =
    if ownLocked (plk t n) = false then t
    else if (plk t n).st = 2 then alignDone (sendAck t n) n
    else if (plk t n).st = 4 then toTrain t n
    else if (plk t n).st = 7 ∨ (plk t n).st = 9 then startCheck t n
    else if (plk t n).st = 8 ∧ (wakeOf (plk t n) (rxDir (plk t n))).isSome = true then startCheck t n
    else t := by
  unfold lanesLocked
  simp only [Bool.not_eq_true']
  split
  · rfl
  · split <;> simp_all

theorem execPlkLaneLock_locks (hst : (plk s n.val).st ≠ 0) (hlane : laneLocked (plk s n.val) l.val = false)
    (hnew : lockLane (plk s n.val) l.val true ≠ plk s n.val) :
    exec (.plkLaneLock n l) s = .next (lanesLocked (setPlk s n.val (lockLane (plk s n.val) l.val true)) n.val) :=
  (if_neg (by simp [hst, hlane])).trans (if_neg hnew)
theorem execPlkLaneLockLost_loses (i : Nat) (hlane : laneLocked (plk s n.val) l.val = true)
    (h : (plk s n.val).st ≠ 8 ∨ powerOf (plk s n.val) (rxDir (plk s n.val)) = 0) :
    exec (.plkLaneLockLost n l i) s = .next (laneLost s n.val l.val (if framesLost s (plk s n.val) l.val then i else max 16 i)) := by
  refine if_neg ?_
  rw [hlane]
  simpa using h.resolve_left
theorem execPlkLaneLockLost_idle (i : Nat) (hlane : laneLocked (plk s n.val) l.val = false) : exec (.plkLaneLockLost n l i) s = .next s :=
  if_pos (.inl (by simp [hlane]))
end

/-! ## Checks -/

/-- What a port tells its far end of a check it has made. -/
def toldCheck (s : State) (n : Nat) (ok : Bool) : State :=
  sendTraining (setPlk s n { plk s n with ownOk := ok }) n (if ok then 5 else 6) (plk s n).step 0 0#8 0#8

section
variable {n : Fin 24} {v : Nat} {s : State}

theorem execPlkVerifyEnd_early (h : s.clk < (plk s n.val).checkAt + 1000000) : exec (.plkVerifyEnd n v) s = .next s :=
  if_pos (by simpa [passed] using h)
/-- At its end a check is judged by the state it was made in. -/
theorem execPlkVerifyEnd_verify (hclk : (plk s n.val).checkAt + 1000000 ≤ s.clk) (hst : (plk s n.val).st = 6) :
    exec (.plkVerifyEnd n v) s = .next (if checkPassed (plk s n.val) v then checkDone (toldCheck s n.val (checkPassed (plk s n.val) v)) n.val
      else plkFallback (toldCheck s n.val (checkPassed (plk s n.val) v)) n.val 3) := by
  refine (if_neg (by simpa [passed] using hclk)).trans ?_
  simp only [hst, toldCheck]
theorem execPlkVerifyEnd_again (hclk : (plk s n.val).checkAt + 1000000 ≤ s.clk) (hst : (plk s n.val).st = 7 ∨ (plk s n.val).st = 9)
    (hlocked : ownLocked (plk s n.val) = true) :
    exec (.plkVerifyEnd n v) s = .next (if checkPassed (plk s n.val) v then checkDone (toldCheck s n.val true) n.val
      else startCheck (toldCheck s n.val false) n.val) := by
  refine (if_neg (by simpa [passed] using hclk)).trans ?_
  cases hok : checkPassed (plk s n.val) v <;> rcases hst with hst | hst <;> simp [hst, hlocked, toldCheck]
/-- With both ends passed, a verified step leads to the next one or to RUNNING. -/
theorem checkDone_verified {t : State} {k : Nat} (hown : (plk t k).ownOk = true) (hfar : (plk t k).farOk = true) (hst : (plk t k).st = 6) :
    checkDone t k = if (plk t k).step < (plk t k).target then toStep t k else plkRunning t k 1 := by
  unfold checkDone
  simp [hown, hfar, hst]
end

/-- Settles O15 (log entry 42). -/
theorem linkBringUpComplete : Obligations.LinkBringUpComplete := by
  refine ⟨fun n s => ⟨fun st cause hst h8 h12 => plkTo_stands cause n.isLt hst h8 h12, fun h => if_pos h, fun h => if_neg h,
      fun hst hclk => if_pos ⟨hst, stayed_of hclk⟩, fun hst hack => if_pos ⟨hst, by simp [hack]⟩, fun hst hclk => if_pos ⟨hst, stayed_of hclk⟩,
      fun hst hclk => if_pos ⟨hst, stayed_of hclk⟩, fun hst hclk => if_pos ⟨hst, stayed_of hclk⟩, execEqualiserTrainingDone_trains,
      execPlkFallbackTimeout_late, execPlkRecoverTimeout_late, execBackoffEnd_ends, fun hst hclk => if_pos ⟨hst, stayed_of hclk⟩,
      execPlkClockLost_active, execHeartbeatTimeout_lost, ?_⟩, fun n l s => ⟨fun h => if_pos h, ?_, execPlkLaneLockLost_loses,
      execPlkLaneLockLost_idle⟩, fun n v s => ⟨execPlkVerifyEnd_early, ?_, ?_, execPlkVerifyEnd_again, fun t => checkDone_verified⟩⟩
  · exact ⟨fun h => if_neg (not_stayed_of h), fun h => if_neg (not_stayed_of h), fun h => if_neg (not_stayed_of h),
      fun h => if_neg (not_stayed_of h), execPlkFallbackTimeout_idle, execPlkRecoverTimeout_idle⟩
  · intro hst hlane hnew
    rw [execPlkLaneLock_locks hst hlane hnew, lanesLocked_eq]
  · intro hclk hst hok
    rw [execPlkVerifyEnd_verify hclk hst, hok]
    rfl
  · intro hclk hst hok
    rw [execPlkVerifyEnd_verify hclk hst, hok]
    rfl

end Sys2Proof.Machine

/-! # Control messages and traffic timers of a Prenlink port (chapter 10) -/

namespace Sys2Proof.Machine
open Sys2Proof

/-! ## CAPABILITY, CAPABILITY_ACK, FAILURE and TRAINING (R281, R282, Table 10-7) -/

section
variable {n : Fin 24} {s : State}

theorem execCapability_deaf (b : List Byte) (h : takesCtl (plk s n.val) = false) : exec (.capability n b) s = .next s :=
  if_pos (by simp [h])
theorem execCapability_bad (b : List Byte) (h : takesCtl (plk s n.val) = true) (hopen : openPacket b 0x16 64 false = none) :
    exec (.capability n b) s = .next (plkCount s n.val 1 0 0 0 0) := by
  refine (if_neg (by simp [h])).trans ?_
  rw [hopen]
/-- A valid block is acknowledged with its CRC, and judged in CAPABILITY. -/
theorem execCapability_good {b k : List Byte} {h : Nat} (htakes : takesCtl (plk s n.val) = true)
    (hopen : openPacket b 0x16 64 false = some (h, k)) :
    exec (.capability n b) s = .next (
      let t := sendCtl (validPacket s n.val) n.val 0x07 (leBytes 4 (crc32c k).toNat)
      if (plk t n.val).st = 3 then judgeCapability t n.val k else t) := by
  refine (if_neg (by simp [htakes])).trans ?_
  rw [hopen, apply_ite Host.Outcome.next]

section
variable {m : Ctl}

/-- A message that is not the next one does nothing but what its receipt does. -/
theorem execTraining_unreceived (h : (receiveCtl s n.val m).1 = false) : exec (.training n m) s = .next (receiveCtl s n.val m).2 := by
  show execTraining n m s = _
  unfold execTraining
  dsimp only
  rw [if_pos (by rw [h]; rfl)]
theorem execCapabilityAck_unreceived (h : (receiveCtl s n.val m).1 = false) :
    exec (.capabilityAck n m) s = .next (receiveCtl s n.val m).2 := by
  show execCapabilityAck n m s = _
  unfold execCapabilityAck
  dsimp only
  rw [if_neg fun hd => Bool.false_ne_true (h.symm.trans hd.1)]
theorem execFailure_unreceived (h : (receiveCtl s n.val m).1 = false) : exec (.failure n m) s = .next (receiveCtl s n.val m).2 := by
  show execFailure n m s = _
  unfold execFailure
  dsimp only
  rw [if_neg fun hd => Bool.false_ne_true (h.symm.trans hd.1), if_neg fun hd => Bool.false_ne_true (h.symm.trans hd.1)]
theorem execCapabilityAck_known (h : (receiveCtl s n.val m).1 = true) (hst : (plk (receiveCtl s n.val m).2 n.val).st = 3)
    (hcrc : leAt m.data 0 4 = (crc32c (ownCapability (receiveCtl s n.val m).2 n.val)).toNat) :
    exec (.capabilityAck n m) s =
      .next (capDone (setPlk (receiveCtl s n.val m).2 n.val { plk (receiveCtl s n.val m).2 n.val with capAcked := true }) n.val) := by
  show execCapabilityAck n m s = _
  unfold execCapabilityAck
  dsimp only
  rw [if_pos ⟨h, hst, hcrc⟩]
theorem execFailure_incompatible (h : (receiveCtl s n.val m).1 = true) (hst : (plk (receiveCtl s n.val m).2 n.val).st = 3)
    (hcause : byteAt m.data 0 = 6) : exec (.failure n m) s = .next (plkTo (receiveCtl s n.val m).2 n.val 11 6) := by
  show execFailure n m s = _
  unfold execFailure
  dsimp only
  rw [if_pos ⟨h, hst, hcause⟩]
theorem execFailure_recover (h : (receiveCtl s n.val m).1 = true) (hst : (plk (receiveCtl s n.val m).2 n.val).st = 8)
    (hcause : byteAt m.data 0 = 4) :
    exec (.failure n m) s = .next (startCheck (plkTo (receiveCtl s n.val m).2 n.val 9 4) n.val) := by
  show execFailure n m s = _
  unfold execFailure
  dsimp only
  rw [if_neg fun hd => absurd (hst.symm.trans hd.2.1) (by decide), if_pos ⟨h, hst, hcause⟩]

/-- What a TRAINING message asks of the port (Table 10-7). -/
def takeTraining (t : State) (n : Nat) (data : List Byte) : State :=
  let p := plk t n
  let follows := decide (p.role = 0) && decide (p.st = 5)
  match byteAt data 0 with
  | 1 => if follows then setPlk t n { p with eq := { p.eq with preset := byteAt data 2 % 16 } } else t
  | 2 => if follows then setPlk t n { p with eq := { p.eq with pre := data.getD 3 0#8, post := data.getD 4 0#8 } } else t
  | 3 => trainDone (setPlk t n { p with lanes := { p.lanes with far := p.lanes.far || decide (p.st = 5) } }) n
  | 4 => if p.st = 5 then plkFallback t n 12 else t
  | 5 => checkDone (setPlk t n { p with farOk := true }) n
  | 6 => if p.st = 6 then plkFallback t n 3 else setPlk t n { p with farOk := false }
  | _ => t
theorem execTraining_received (h : (receiveCtl s n.val m).1 = true) :
    exec (.training n m) s = .next (takeTraining (receiveCtl s n.val m).2 n.val m.data) := by
  show execTraining n m s = _
  unfold execTraining takeTraining
  dsimp only
  rw [if_neg (by rw [h]; decide)]
  generalize byteAt m.data 0 = req
  match req with
  | 0 | 1 | 2 | 3 | 4 | 5 | 6 | _ + 7 => rfl

/-- A request for a preset, and one for its settings, are followed in TRAIN by the source end. -/
theorem takeTraining_preset {t : State} {k : Nat} {d : List Byte} (hreq : byteAt d 0 = 1) (hrole : (plk t k).role = 0) (hst : (plk t k).st = 5) :
    takeTraining t k d = setPlk t k { plk t k with eq := { (plk t k).eq with preset := byteAt d 2 % 16 } } := by
  unfold takeTraining
  simp [hreq, hrole, hst]
theorem takeTraining_settings {t : State} {k : Nat} {d : List Byte} (hreq : byteAt d 0 = 2) (hrole : (plk t k).role = 0) (hst : (plk t k).st = 5) :
    takeTraining t k d = setPlk t k { plk t k with eq := { (plk t k).eq with pre := d.getD 3 0#8, post := d.getD 4 0#8 } } := by
  unfold takeTraining
  simp [hreq, hrole, hst]
/-- In TRAIN the far end's trained lanes are noted. -/
theorem takeTraining_trained {t : State} {k : Nat} {d : List Byte} (hreq : byteAt d 0 = 3) (hst : (plk t k).st = 5) :
    takeTraining t k d = trainDone (setPlk t k { plk t k with lanes := { (plk t k).lanes with far := true } }) k := by
  unfold takeTraining
  simp [hreq, hst]
/-- The other requests need no role. -/
theorem takeTraining_verdicts (t : State) (k : Nat) (d : List Byte) :
    (byteAt d 0 = 4 → takeTraining t k d = if (plk t k).st = 5 then plkFallback t k 12 else t)
      ∧ (byteAt d 0 = 5 → takeTraining t k d = checkDone (setPlk t k { plk t k with farOk := true }) k)
      ∧ (byteAt d 0 = 6 → takeTraining t k d =
          if (plk t k).st = 6 then plkFallback t k 3 else setPlk t k { plk t k with farOk := false }) := by
  refine ⟨fun h => ?_, fun h => ?_, fun h => ?_⟩ <;> simp only [takeTraining, h]
end
end

/-! ## Heartbeats, markers and acknowledgements (R268, R274 to R280) -/

section
variable {n : Fin 24} {s : State}

/-- A port that takes control messages is in no near-end loop. -/
theorem nearLoop_of_takesCtl {p : Plk} (h : takesCtl p = true) : nearLoop p = false := by
  simp only [takesCtl, Bool.and_eq_true, decide_eq_true_eq] at h
  have h13 : p.st ≠ 13 := by omega
  simp [nearLoop, h13]
theorem execHeartbeat_good {b k : List Byte} {h : Nat} (htakes : takesCtl (plk s n.val) = true) (hopen : openPacket b 0x17 8 false = some (h, k)) :
    exec (.heartbeat n b) s = .next (takeAck (validPacket s n.val) n.val (k.getD 2 0#8)) := by
  have hloop := nearLoop_of_takesCtl htakes
  show execHeartbeat n b s = _
  unfold execHeartbeat
  simp only [htakes, hloop, hopen, Bool.not_true, Bool.false_eq_true, false_and, if_false]
theorem execHeartbeat_bad {b : List Byte} (htakes : takesCtl (plk s n.val) = true) (hopen : openPacket b 0x17 8 false = none) :
    exec (.heartbeat n b) s = .next (plkCount s n.val 1 0 0 0 0) := by
  have hloop := nearLoop_of_takesCtl htakes
  show execHeartbeat n b s = _
  unfold execHeartbeat
  simp only [htakes, hloop, hopen, Bool.not_true, Bool.false_eq_true, false_and, if_false]

theorem laneLocked_forward {p : Plk} (h : codeReceived p = true) : laneLocked p 0 = p.lanes.d0 ∧ laneLocked p 1 = p.lanes.d1 := by
  have hfwd : takesForward p = true := by
    simp only [codeReceived, Bool.and_eq_true] at h
    exact h.2
  simp [laneLocked, hfwd]
theorem plk_setPlk_of_rs {t : State} {k : Nat} {p : Plk} (h : p.rs = true) : plk (setPlk t k p) k = p :=
  plk_setPlk fun heq => absurd (congrArg Plk.rs heq) (by simp [h])
/-- Counting leaves what a lane has received. -/
theorem plk_plkCount_rx0 (t : State) (k : Nat) {p : Plk} (h : p.rs = true) (a b : Nat) :
    (plk (plkCount (setPlk t k p) k 0 0 a b 0) k).rx0 = p.rx0 := by
  rw [plkCount, plk_setPlk_of_rs h]
  refine (congrArg Plk.rx0 (plk_setPlk_of_rs ?_)).trans rfl
  exact h
theorem execMarker_ignored {l : Fin 2} (w : Word) (c u : Nat) (h : codeReceived (plk s n.val) = false ∨ laneLocked (plk s n.val) l.val = false) :
    exec (.marker n l w c u) s = .next s :=
  if_pos (h.imp (by simp [·]) (by simp [·]))
section
variable (hcode : codeReceived (plk s n.val) = true) (w : Word) (c u : Nat)
include hcode

/-- A marker on a framed lane counts what the code corrected. -/
theorem execMarker_framed0 (hlane : (plk s n.val).lanes.d0 = true) (hframed : (plk s n.val).rx0.framed = true) :
    exec (.marker n 0 w c u) s = .next (plkCount (setPlk s n.val { plk s n.val with
      rx0 := takeMarker (plk s n.val).rx0 w s.clk, counts := { (plk s n.val).counts with corr0 := (plk s n.val).counts.corr0 + c } })
      n.val 0 0 c u 0) := by
  have hlocked := (laneLocked_forward hcode).1.trans hlane
  refine (if_neg (by simp [hcode, hlocked])).trans ?_
  simp [takeMarker, hframed]
theorem execMarker_framed1 (hlane : (plk s n.val).lanes.d1 = true) (hframed : (plk s n.val).rx1.framed = true) :
    exec (.marker n 1 w c u) s = .next (plkCount (setPlk s n.val { plk s n.val with
      rx1 := takeMarker (plk s n.val).rx1 w s.clk, counts := { (plk s n.val).counts with corr1 := (plk s n.val).counts.corr1 + c } })
      n.val 0 0 c u 0) := by
  have hlocked := (laneLocked_forward hcode).2.trans hlane
  refine (if_neg (by simp [hcode, hlocked])).trans ?_
  simp [takeMarker, hframed]
/-- A count that follows the one before frames the lane. -/
theorem execMarker_frames0 (hlane : (plk s n.val).lanes.d0 = true) (hcount : (plk s n.val).rx0.count = some (w - 1)) :
    ∃ t, exec (.marker n 0 w c u) s = .next t ∧ (plk t n.val).rx0.framed = true := by
  have hlocked := (laneLocked_forward hcode).1.trans hlane
  have hrs : (plk s n.val).rs = true := by
    simp only [codeReceived, Bool.and_eq_true] at hcode
    exact hcode.1
  refine ⟨_, if_neg (by simp [hcode, hlocked]), ?_⟩
  refine (congrArg LaneRx.framed (plk_plkCount_rx0 s n.val
    (p := { plk s n.val with rx0 := takeMarker (plk s n.val).rx0 w s.clk, counts := _ }) hrs _ _)).trans ?_
  simp [takeMarker, hcount]
end

theorem execRetransmitTimeout_resends {m : CtlOut} {r : List CtlOut} (hun : (plk s n.val).unacked = m :: r) (hclk : m.sentAt + 200000 ≤ s.clk)
    (hpower : powerOf (plk s n.val) (txDir (plk s n.val)) = 0) (hsends : m.sends < 8) :
    exec (.retransmitTimeout n) s = .next (plkCount ((m :: r).foldl (fun s x => resendCtl s n.val x)
      (setPlk s n.val { plk s n.val with unacked := [] })) n.val 0 0 0 0 (r.length + 1)) := by
  show execRetransmitTimeout n s = _
  unfold execRetransmitTimeout
  simp only [hun]
  rw [if_neg (by simp [passed, hclk, hpower]), if_neg (by omega)]
  rfl
theorem execRetransmitTimeout_gives_up {m : CtlOut} {r : List CtlOut} (hun : (plk s n.val).unacked = m :: r) (hclk : m.sentAt + 200000 ≤ s.clk)
    (hpower : powerOf (plk s n.val) (txDir (plk s n.val)) = 0) (hsends : 8 ≤ m.sends) :
    exec (.retransmitTimeout n) s = .next (heartbeatLost s n.val) := by
  show execRetransmitTimeout n s = _
  unfold execRetransmitTimeout
  simp only [hun]
  rw [if_neg (by simp [passed, hclk, hpower]), if_pos hsends]
theorem execTriggerDeparture_departs {off : Nat} {t : Trig} {r : List Trig} (htrig : (plk s n.val).triggers = t :: r) (hst : (plk s n.val).st = 8)
    (hbck : (plk s n.val).bck = 0) (hwindow : windowOpen (plk s n.val) = true) (hlow : 64 ≤ off) (hhigh : off ≤ t.latest.getD off) :
    exec (.triggerDeparture n off) s = .next (launchCtl (setPlk s n.val { plk s n.val with triggers := r }) n.val
      { sub := 0x03#8, trig := some t, data := triggerData t off }) := by
  show execTriggerDeparture n off s = _
  unfold execTriggerDeparture
  simp only [htrig]
  rw [if_neg (by simp [hst, hbck, hwindow]; omega)]
theorem execTriggerDeparture_waits {off : Nat} (h : (plk s n.val).triggers = [] ∨ (plk s n.val).st ≠ 8 ∨ (plk s n.val).bck ≠ 0 ∨ off < 64) :
    exec (.triggerDeparture n off) s = .next s := by
  show execTriggerDeparture n off s = _
  unfold execTriggerDeparture
  dsimp only
  split
  · rfl
  · next t r htrig =>
    refine if_pos ?_
    rcases h with h | h | h | h
    · exact absurd (h.symm.trans htrig) (by simp)
    · exact .inl h
    · exact .inr (.inl h)
    · exact .inr (.inr (.inr (.inl h)))
end

/-- Settles O16. -/
theorem linkMessagesComplete : Obligations.LinkMessagesComplete := by
  refine ⟨fun n s => ⟨execCapability_deaf, execCapability_bad, fun b h k htakes hopen => ?_, fun m => execCapabilityAck_known,
      fun m => execFailure_incompatible, fun m => execFailure_recover, fun m hrec => ?_,
      fun m hrec => ⟨execTraining_unreceived hrec, execCapabilityAck_unreceived hrec, execFailure_unreceived hrec⟩⟩,
    fun n s => ⟨fun h => if_pos h, fun b h k => execHeartbeat_good, fun b => execHeartbeat_bad, fun l w c u => execMarker_ignored w c u,
      fun w c u hcode => execMarker_framed0 hcode w c u, fun w c u hcode => execMarker_framed1 hcode w c u,
      fun w c u hcode hlane _ => execMarker_frames0 hcode w c u hlane, fun a htakes => if_pos htakes,
      fun hdue htakes hclk => if_pos ⟨hdue, htakes, decide_eq_true hclk⟩, fun m r => execRetransmitTimeout_resends,
      fun m r => execRetransmitTimeout_gives_up, fun _ => rfl, fun _ => rfl, fun off t r => execTriggerDeparture_departs,
      fun off => execTriggerDeparture_waits⟩⟩
  · rw [execCapability_good htakes hopen, ite_not]
    rfl
  · rw [execTraining_received hrec]
    obtain ⟨hfour, hfive, hsix⟩ := takeTraining_verdicts (receiveCtl s n.val m).2 n.val m.data
    exact ⟨fun hreq hrole hst => congrArg _ (takeTraining_preset hreq hrole hst),
      fun hreq hrole hst => congrArg _ (takeTraining_settings hreq hrole hst), fun hreq hst => congrArg _ (takeTraining_trained hreq hst),
      fun hreq => congrArg _ (hfour hreq), fun hreq => congrArg _ (hfive hreq), fun hreq => congrArg _ (hsix hreq)⟩

end Sys2Proof.Machine

/-! # The power states of a Prenlink port, and what its packets carry (chapters 09 and 10) -/

namespace Sys2Proof.Machine
open Sys2Proof

/-- A span since an instant has passed. -/
theorem passed_of {s : State} {start span : Nat} (h : start + span ≤ s.clk) : passed s start span = true := decide_eq_true h

/-! ## Power requests, beacons and wakes (R248 to R254) -/

section
variable {n : Fin 24} {s : State}

section
variable {m : Ctl}

theorem execPower_unreceived (h : (receiveCtl s n.val m).1 = false) : exec (.power n m) s = .next (receiveCtl s n.val m).2 := by
  show execPower n m s = _
  unfold execPower
  dsimp only
  rw [if_pos (.inl (by rw [h]; rfl))]
variable (h : (receiveCtl s n.val m).1 = true) (hst : (plk (receiveCtl s n.val m).2 n.val).st = 8)
include h hst

/-- A received message of a linked port goes on to what its third byte says. -/
theorem power_received : ¬ ((!(receiveCtl s n.val m).1) = true ∨ (plk (receiveCtl s n.val m).2 n.val).st ≠ 8) := by
  rw [h, hst]
  decide
/-- A notice is obeyed by the end that receives. -/
theorem execPower_notice (hkind : byteAt m.data 2 = 0) (hdir : transmits (plk (receiveCtl s n.val m).2 n.val) (byteAt m.data 0 % 2) = false) :
    let t := (receiveCtl s n.val m).2
    let x := plk t n.val
    let dir := byteAt m.data 0 % 2
    exec (.power n m) s = .next (setPower (setPlk t n.val
      { x with request := if x.request.map Prod.fst = some dir then none else x.request }) n.val dir (byteAt m.data 1 % 4)) := by
  show execPower n m s = _
  unfold execPower
  dsimp only
  rw [if_neg (power_received h hst), if_pos hkind, if_neg (by rw [hdir]; decide)]
/-- A request is obeyed by the end that transmits. -/
theorem execPower_request (hkind : byteAt m.data 2 ≠ 0) (hdir : transmits (plk (receiveCtl s n.val m).2 n.val) (byteAt m.data 0 % 2) = true) :
    exec (.power n m) s = .next (changePower (receiveCtl s n.val m).2 n.val (byteAt m.data 0 % 2) (byteAt m.data 1 % 4)) := by
  show execPower n m s = _
  unfold execPower
  dsimp only
  rw [if_neg (power_received h hst), if_neg hkind, if_pos hdir]
end

theorem execBeacon_wakes {d : Fin 2} (hst : (plk s n.val).st = 8) (hdir : transmits (plk s n.val) d.val = false)
    (hpower : powerOf (plk s n.val) d.val = 1 ∨ powerOf (plk s n.val) d.val = 2) :
    exec (.beacon n d) s = .next (
      let t := setPower (setPlk s n.val { plk s n.val with
        request := if (plk s n.val).request.map Prod.fst = some d.val then none else (plk s n.val).request }) n.val d.val 0
      if powerOf (plk t n.val) (txDir (plk t n.val)) = 2 then wakeTx t n.val else t) := by
  refine if_neg ?_
  rcases hpower with hpower | hpower <;> simp [hst, hdir, hpower]
theorem execBeacon_ignored {d : Fin 2} (h : (plk s n.val).st ≠ 8 ∨ transmits (plk s n.val) d.val = true) : exec (.beacon n d) s = .next s :=
  if_pos (h.imp id .inl)
theorem execPowerRequestTimeout_late {d st t : Nat} (hreq : (plk s n.val).request = some (d, st, t)) (hclk : t + 1000000 ≤ s.clk) :
    exec (.powerRequestTimeout n) s = .next (plkEvent (setPlk s n.val { plk s n.val with request := none }) n.val 12 0 false) := by
  show execPowerRequestTimeout n s = _
  unfold execPowerRequestTimeout
  simp only [hreq]
  rw [if_pos (passed_of hclk)]
theorem execWakeTimeoutPlk_late {b : Nat} (hwake : wakeOf (plk s n.val) (rxDir (plk s n.val)) = some b) (hst : (plk s n.val).st = 8)
    (hclk : b + 1000000 ≤ s.clk) : exec (.wakeTimeoutPlk n) s = .next (plkTo s n.val 9 4) := by
  show execWakeTimeoutPlk n s = _
  unfold execWakeTimeoutPlk
  simp only [hwake]
  rw [if_pos ⟨hst, passed_of hclk⟩]
theorem execTrafficIdleReturn_idle {d : Fin 2} (hst : (plk s n.val).st = 8) (hdir : transmits (plk s n.val) d.val = true)
    (hidle : txIdle (plk s n.val) = true) (hclk : (plk s n.val).idleAt + 1000000 ≤ s.clk) :
    exec (.trafficIdleReturn n d) s = .next (
      let c := if d.val = 0 then (plk s n.val).cmdFwd else (plk s n.val).cmdBck
      if c = 0 then s else idleTx s n.val c) := by
  refine if_neg ?_
  simp [hst, hdir, hidle, passed_of hclk]
theorem execTrafficIdleReturn_busy {d : Fin 2} (h : (plk s n.val).st ≠ 8 ∨ transmits (plk s n.val) d.val = false ∨ txIdle (plk s n.val) = false) :
    exec (.trafficIdleReturn n d) s = .next s := by
  refine if_pos ?_
  rcases h with h | h | h <;> simp [h]
end

/-- Settles O17. -/
theorem linkPowerHappeningsComplete : Obligations.LinkPowerHappeningsComplete :=
  fun _ _ => ⟨fun _ h hst => ⟨execPower_notice h hst, execPower_request h hst⟩, fun _ => execPower_unreceived, fun _ => execBeacon_wakes,
    fun _ => execBeacon_ignored, fun _ _ _ => execPowerRequestTimeout_late, fun _ => execWakeTimeoutPlk_late,
    fun _ => execTrafficIdleReturn_idle, fun _ => execTrafficIdleReturn_busy⟩

/-! ## Video lines, tiles, audio and fences (R270 to R275, R287) -/

section
variable {n : Fin 24} {s : State}

theorem data_refused (h : takesData (plk s n.val) = false) (b : List Byte) (d : Int) : exec (.videoLine n b d) s = .next (packetFailed s n.val)
    ∧ exec (.tile n b d) s = .next (packetFailed s n.val) ∧ exec (.audio n b) s = .next (packetFailed s n.val) := by
  have hnot : (!takesData (plk s n.val)) = true := by rw [h]; rfl
  exact ⟨if_pos hnot, if_pos hnot, if_pos hnot⟩

section
variable (htakes : takesData (plk s n.val) = true) {b k : List Byte} {st seq len h : Nat}
include htakes

/-- A line whose payload is as long as its pixels reaches the pipes of its stream. -/
theorem execVideoLine_good (d : Int) (hheader : openHeader b 0x11 8192 true = some (st, seq, len))
    (hopen : openPacket b 0x11 8192 true = some (h, k)) (hlen : 12 ≤ len) (hpixels : pixelBytes (byteAt k 8) (leAt k 6 2) = some (len - 12)) :
    exec (.videoLine n b d) s = .next (
      let ks := pipesOf s (1, n.val, st)
      let t := ks.foldl (fun s p => lineForPipe s (1, n.val, st) p seq k d) (streamCand (validPacket s n.val) n.val st (leAt k 0 2))
      settleDrains (if byteAt k 9 / 4 % 2 = 1 then ks.foldl (fun s p => forcedLine s n.val p) t else t)) := by
  show execVideoLine n b d s = _
  unfold execVideoLine
  simp only [htakes, hheader, hopen, hpixels, Bool.not_true, Bool.false_eq_true, if_false]
  rw [if_neg (by simp; omega)]
/-- A broken payload leaves a loss notice. -/
theorem execVideoLine_bad (d : Int) (hheader : openHeader b 0x11 8192 true = some (st, seq, len))
    (hopen : openPacket b 0x11 8192 true = none) :
    exec (.videoLine n b d) s = .next (packetFailed ((pipesOf s (1, n.val, st)).foldl (fun s p => lossNotice s p seq) s) n.val) := by
  show execVideoLine n b d s = _
  unfold execVideoLine
  simp only [htakes, hheader, hopen, Bool.not_true, Bool.false_eq_true, if_false]
theorem execTile_good (d : Int) (hheader : openHeader b 0x12 2048 true = some (st, seq, len))
    (hopen : openPacket b 0x12 2048 true = some (h, k)) :
    exec (.tile n b d) s = .next (
      let ks := (pipesOf s (1, n.val, st)).filter fun p => decide ((capAt s p).carries ≠ 1)
      settleDrains (ks.foldl (fun s p => forcedLine s n.val p) (ks.foldl (fun s p => tileForPipe s (1, n.val, st) p seq k d)
        (streamCand (validPacket s n.val) n.val st (leAt k 0 2))))) := by
  show execTile n b d s = _
  unfold execTile
  simp only [htakes, hheader, hopen, Bool.not_true, Bool.false_eq_true, if_false]
theorem execAudio_good (hopen : openPacket b 0x13 4108 false = some (h, k))
    (hshape : 1 ≤ byteAt k 8 ∧ byteAt k 8 ≤ 32 ∧ byteAt k 9 ≤ 2 ∧ 1 ≤ leAt k 10 2 ∧ leAt k 10 2 ≤ 32
      ∧ k.length = 12 + 4 * byteAt k 8 * leAt k 10 2) :
    exec (.audio n b) s = .next (audioArrives (validPacket s n.val) n.val (byteAt k 8) (sampleRate (byteAt k 9)) (some (leAt b 4 2)) (leAt k 10 2)
      (BitVec.ofNat 64 (leAt k 0 8)) (wordsOf (slice k (12 + 4 * byteAt k 8 * (leAt k 10 2 - 1)) (4 * byteAt k 8)))) := by
  show execAudio n b s = _
  unfold execAudio
  simp only [htakes, hopen, Bool.not_true, Bool.false_eq_true, if_false]
  rw [if_pos hshape]
end

theorem execFence_good {b k : List Byte} {h : Nat} (hrole : (plk s n.val).role = 1) (hopen : openPacket b 0x14 8 false = some (h, k)) :
    exec (.fence n b) s = .next (
      let x := receiveCtl s n.val { seq := k.getD 1 0#8, ack := k.getD 2 0#8 }
      if x.1 && decide (leAt k 4 2 < 1024) then signalFence x.2 (leAt k 4 2) 1 n.val else x.2) := by
  refine (if_neg (by simp [hrole])).trans ?_
  rw [hopen, apply_ite Host.Outcome.next]

/-! ## Commands and Placards of CP2 (R63 to R66, R278) -/

theorem execCp2Command_eq (m : Ctl) : exec (.cp2Command n m) s = .next (
    let t := (receiveCtl s n.val m).2
    if (receiveCtl s n.val m).1 = false then t
    else if cp2Port t = some n.val ∧ (plk t n.val).role = 0 then cp2Bytes t m
    else intakeError t .cp2) := by
  show execCp2Command n m s = _
  unfold execCp2Command
  simp only [Bool.not_eq_true', apply_ite Host.Outcome.next]
theorem execCp2Placard_acknowledged {m : CtlOut} (hport : cp2Port s = some n.val)
    (hlast : (plk s n.val).unacked.find? (fun x => x.cp2 && x.frag.getLsbD 1) = some m) :
    exec (.cp2Placard n) s = .next (takeAck s n.val m.seq) := by
  have hends : (plk s n.val).unacked.find? endsPlacard = some m := hlast
  refine (if_pos hport).trans ?_
  rw [hends]
end

/-- The bytes of a command are collected, and met as a packet with its last ones. -/
theorem cp2Bytes_eq {t : State} {m : Ctl} (h : t.ports.cp2.rx = [] ∨ m.first = false) : cp2Bytes t m = (
    let b := (if m.first then [] else t.ports.cp2.rx) ++ m.data
    let u := { t with ports := { t.ports with cp2RxAt := if m.first then t.clk else t.ports.cp2RxAt } }
    if m.last then arrive (setPort u .cp2 { t.ports.cp2 with rx := [] }) .cp2 b else setPort u .cp2 { t.ports.cp2 with rx := b }) := by
  have hfresh : ¬ (m.first = true ∧ t.ports.cp2.rx ≠ []) := fun ⟨hfirst, hrx⟩ => h.elim hrx fun h => by simp [h] at hfirst
  unfold cp2Bytes
  simp only [if_neg hfresh]

/-! ## Scrambling and the bits of a block (R262; log entry 124) -/

/-- The far end reads what was scrambled, and its register follows. -/
theorem descramble_scramble (r : Scr) (l : List Bool) : descramble r (scramble r l).2 = ((scramble r l).1, l) := by
  induction l generalizing r with
  | nil => rfl
  | cons b l ih => simp [scramble, descramble, ih]

/-- Two registers that agree in their newest bits agree in one more after each bit received. -/
theorem descramble_agrees {k : Nat} {r r' : Scr} (l : List Bool) (h : ∀ i, i < k → r.getLsbD i = r'.getLsbD i) :
    ∀ i, i < k + l.length → (descramble r l).1.getLsbD i = (descramble r' l).1.getLsbD i := by
  induction l generalizing k r r' with
  | nil => exact h
  | cons b l ih =>
    have hpush : ∀ i, i < k + 1 → (scrPush r b).getLsbD i = (scrPush r' b).getLsbD i := by
      intro i hi
      rcases Nat.eq_zero_or_pos i with rfl | hpos
      · simp [scrPush]
      · simp [scrPush, h (i - 1) (by omega)]
    intro i hi
    exact ih hpush i (by rw [List.length_cons] at hi; omega)
/-- After 58 bits the register no longer depends on what it held. -/
theorem descramble_forgets (r r' : Scr) (l : List Bool) (h : 58 ≤ l.length) : (descramble r l).1 = (descramble r' l).1 :=
  BitVec.eq_of_getLsbD_eq fun i hi => descramble_agrees (k := 0) l (fun _ hi => absurd hi (Nat.not_lt_zero _)) i (by omega)

theorem byteOf_bits : ∀ x : Byte, byteOf ((List.range 8).map x.getLsbD) = x := by decide
theorem bytesOf_bitsOf (b : List Byte) : bytesOf b.length (bitsOf b) = b := by
  induction b with
  | nil => rfl
  | cons x b ih =>
    have hbits : bitsOf (x :: b) = (List.range 8).map x.getLsbD ++ bitsOf b := by simp [bitsOf]
    have hlen : ((List.range 8).map x.getLsbD).length = 8 := by simp
    rw [List.length_cons, bytesOf, hbits, List.take_left' hlen, List.drop_left' hlen, byteOf_bits, ih]

/-! ## The order of a sender (R273) -/

theorem mem_joinSend {rank : Nat} {p : List Byte} {l : List (Nat × List Byte)} {x : Nat × List Byte} (h : x ∈ joinSend rank p l) :
    x = (rank, p) ∨ x ∈ l := by
  induction l with
  | nil => exact .inl (List.mem_singleton.mp h)
  | cons y l ih =>
    rw [joinSend] at h
    split at h
    · exact List.mem_cons.mp h
    · rcases List.mem_cons.mp h with rfl | h
      · exact .inr List.mem_cons_self
      · exact (ih h).imp_right (List.mem_cons_of_mem y)
/-- A packet joins the packets of its sender behind those of its own precedence and before those of a later one. -/
theorem pairwise_joinSend (rank : Nat) (p : List Byte) {l : List (Nat × List Byte)} (h : l.Pairwise fun x y => x.1 ≤ y.1) :
    (joinSend rank p l).Pairwise fun x y => x.1 ≤ y.1 := by
  induction l with
  | nil => exact List.pairwise_singleton _ _
  | cons y l ih =>
    obtain ⟨hy, hl⟩ := List.pairwise_cons.mp h
    rw [joinSend]
    split
    · next hlt =>
      refine List.pairwise_cons.mpr ⟨fun z hz => ?_, h⟩
      rcases List.mem_cons.mp hz with rfl | hz
      · exact Nat.le_of_lt hlt
      · exact (Nat.le_of_lt hlt).trans (hy z hz)
    · next hge =>
      refine List.pairwise_cons.mpr ⟨fun z hz => ?_, ih hl⟩
      rcases mem_joinSend hz with rfl | hz
      · exact Nat.le_of_not_lt hge
      · exact hy z hz

/-- Settles O18. -/
theorem linkDataComplete : Obligations.LinkDataComplete :=
  ⟨fun _ _ => ⟨fun b d h => data_refused h b d, fun _ d _ _ _ _ _ htakes => execVideoLine_good htakes d,
      fun _ d _ _ _ htakes => execVideoLine_bad htakes d, fun _ d _ _ _ _ _ htakes => execTile_good htakes d,
      fun _ _ _ htakes => execAudio_good htakes, fun _ hrole => if_pos hrole, fun _ _ _ => execFence_good⟩,
    fun _ _ => ⟨execCp2Command_eq, fun _ => execCp2Placard_acknowledged, fun h => if_neg h⟩, fun _ _ => cp2Bytes_eq,
    ⟨descramble_scramble, descramble_forgets, bytesOf_bitsOf⟩, fun rank p _ => pairwise_joinSend rank p⟩

end Sys2Proof.Machine

/-! # The DisplayPort links, their sideband and their streams (chapter 11) -/

namespace Sys2Proof.Machine
open Sys2Proof

/-! ## AUX and training (R291 to R293) -/

section
variable {p : Fin 4} {s : State}

theorem execAuxRequest_unplugged (k : Fin 4) (a o len : Nat) (d : List Byte) (h : (dps s p.val).hpd = false) :
    exec (.auxRequest p k a o len d) s = .next (setDps s p.val { dps s p.val with reply := .none }) :=
  if_pos (by simp [h])
section
variable (a o len : Nat) (d : List Byte) (h : (dps s p.val).hpd = true)
include h

theorem execAuxRequest_dpcdRead : exec (.auxRequest p 0 a o len d) s = .next (setDps s p.val
    { dps s p.val with reply := .ack ((List.range len).map fun i => dpcdRead s p.val (a + i)) }) :=
  (if_neg (by simp [h])).trans rfl
theorem execAuxRequest_dpcdWrite : exec (.auxRequest p 1 a o len d) s = .next (setDps s p.val
    { dps s p.val with dpcd := d.zipIdx.foldl (fun t y => tput none t (a + y.2) (some y.1)) (dps s p.val).dpcd, reply := .ack [] }) :=
  (if_neg (by simp [h])).trans rfl
/-- Only the EDID and its segment pointer answer on I2C. -/
theorem execAuxRequest_i2cRead : exec (.auxRequest p 2 a o len d) s = .next (setDps s p.val { dps s p.val with reply :=
    (if a = 0x50 ∨ a = 0x30 then .ack ((List.range len).map fun i => edidByte (dps s p.val) (o + i)) else .i2cNack) }) :=
  (if_neg (by simp [h])).trans rfl
theorem execAuxRequest_i2cWrite : exec (.auxRequest p 3 a o len d) s = .next (setDps s p.val { dps s p.val with reply :=
    (if a = 0x50 ∨ a = 0x30 then .ack [] else .i2cNack) }) :=
  (if_neg (by simp [h])).trans rfl
end

theorem execDpLinkTraining_trains {r : Fin 7} {l : Fin 3} (h : (dps s p.val).hpd = true) (hrate : r.val ≤ bits (dpsCfg s p.val) 2 0) :
    exec (.dpLinkTraining p r l) s = .next (
      let t := dpsEvent (setDps s p.val { dps s p.val with rate := r.val, lanes := 2 ^ l.val, trained := true }) p.val 2 0
      if r.val = (dps s p.val).rate then t else rateChanged t 2 p.val) :=
  if_neg (by simp [h]; omega)
theorem execDpLinkTraining_fails {r : Fin 7} {l : Fin 3} (h : (dps s p.val).hpd = false ∨ bits (dpsCfg s p.val) 2 0 < r.val) :
    exec (.dpLinkTraining p r l) s = .next s :=
  if_pos (h.imp_left fun h => by simp [h])
theorem execDpLinkLoss_trained (h : (dps s p.val).trained = true) :
    exec (.dpLinkLoss p) s = .next (settleStreams (portLost (dpsEvent (irqHpd
      (setDps s p.val { dps s p.val with trained := false, msa := [], compressed := 0#4 }) p.val) p.val 3 0) 2 p.val 2)) :=
  if_neg (by simp [h])
theorem execDpLinkLoss_untrained (h : (dps s p.val).trained = false) : exec (.dpLinkLoss p) s = .next s := if_pos (by simp [h])
end

/-! ## Sideband messages -/

/-- A sideband message is answered. -/
def saidSideband (p : Nat) (t : State) (r : Sideband) : State := setDps t p { dps t p with side := r }

section
variable {p : Fin 4} {s : State}

theorem execSidebandMessage_silent (m : SideReq) (h : (dps s p.val).hpd = false ∨ bit (dpsCfg s p.val) 4 = false) :
    exec (.sidebandMessage p m) s = .next (setDps s p.val { dps s p.val with side := .none }) := by
  refine if_pos ?_
  rcases h with h | h <;> simp [h]

theorem logicalPort_iff (n : Nat) : logicalPort s p.val n = true ↔ 8 ≤ n ∧ n ≤ 8 + bits (dpsCfg s p.val) 6 5 := by
  simp [logicalPort]

section
variable (h : (dps s p.val).hpd = true) (hmst : bit (dpsCfg s p.val) 4 = true)
include h hmst

/-- A branch that is plugged in answers. -/
theorem sideband_heard : ¬ ((!(dps s p.val).hpd) = true ∨ (!bit (dpsCfg s p.val) 4) = true) := by simp [h, hmst]

/-- A payload is allocated where the link has room. -/
theorem execSidebandMessage_allocate (sub rate : Nat) (dsc : Bool) : exec (.sidebandMessage p (.allocatePayload sub rate dsc)) s = .next (
    let table := tput none (dps s p.val).payload sub (some (rate, dsc))
    if bits (dpsCfg s p.val) 6 5 < sub then saidSideband p.val s .nakBadParam
    else if rate = 0 then saidSideband p.val (dropPayload s p.val sub) .ack
    else if 2400000000 < (payloadSums table).1 ∨ 1200000000 < (payloadSums table).2 ∨ (dsc = true ∧ bit (dpsCfg s p.val) 7 = false) then
      saidSideband p.val (irqHpd (dpsEvent s p.val 4 sub) p.val) .nakResources
    else saidSideband p.val (setDps s p.val { dps s p.val with payload := table }) .ack) := by
  refine (if_neg (sideband_heard h hmst)).trans ?_
  simp only [apply_ite Host.Outcome.next, Bool.not_eq_true', gt_iff_lt]
  rfl

theorem execSidebandMessage_path (n : Nat) : exec (.sidebandMessage p (.enumPathResources n)) s = .next (saidSideband p.val s (
    if 8 ≤ n ∧ n ≤ 8 + bits (dpsCfg s p.val) 6 5 then .ackPath 2400000000 (2400000000 - (payloadSums (dps s p.val).payload).1)
    else .nakBadParam)) := by
  refine (if_neg (sideband_heard h hmst)).trans ?_
  simp only [← logicalPort_iff n, apply_ite (saidSideband p.val s), apply_ite Host.Outcome.next]
  rfl
theorem execSidebandMessage_dpcd (n a len : Nat) : exec (.sidebandMessage p (.remoteDpcdRead n a len)) s = .next (saidSideband p.val s (
    if 8 ≤ n ∧ n ≤ 8 + bits (dpsCfg s p.val) 6 5 then .ackData ((List.range len).map fun i => dpcdRead s p.val (a + i))
    else .nakBadParam)) := by
  refine (if_neg (sideband_heard h hmst)).trans ?_
  simp only [← logicalPort_iff n, apply_ite (saidSideband p.val s), apply_ite Host.Outcome.next]
  rfl
theorem execSidebandMessage_i2c (n dev o len : Nat) : exec (.sidebandMessage p (.remoteI2cRead n dev o len)) s = .next (saidSideband p.val s (
    if (8 ≤ n ∧ n ≤ 8 + bits (dpsCfg s p.val) 6 5) ∧ (dev = 0x50 ∨ dev = 0x30)
    then .ackData ((List.range len).map fun i => edidByte (dps s p.val) (o + i)) else .nakBadParam)) := by
  refine (if_neg (sideband_heard h hmst)).trans ?_
  simp only [← logicalPort_iff n, apply_ite (saidSideband p.val s), apply_ite Host.Outcome.next]
  rfl
theorem execSidebandMessage_branch :
    exec (.sidebandMessage p .powerUpPhy) s = .next (saidSideband p.val (setDps s p.val { dps s p.val with powered := true }) .ack)
    ∧ exec (.sidebandMessage p .powerDownPhy) s = .next (saidSideband p.val (setDps s p.val { dps s p.val with powered := false }) .ack)
    ∧ exec (.sidebandMessage p .clearPayloadIdTable) s =
        .next (saidSideband p.val ((tkeys (dps s p.val).payload).foldl (fun s sub => dropPayload s p.val sub) s) .ack)
    ∧ exec (.sidebandMessage p .linkAddress) s =
        .next (saidSideband p.val s (.ackPorts ((List.range (bits (dpsCfg s p.val) 6 5 + 1)).map (8 + ·))))
    ∧ exec (.sidebandMessage p .other) s = .next (saidSideband p.val s .nakBadParam) := by
  have hheard := sideband_heard h hmst
  exact ⟨if_neg hheard, if_neg hheard, if_neg hheard, if_neg hheard, if_neg hheard⟩
end

/-! ## Fences, attributes, audio and the VB-ID of a stream (R294 to R299, R175) -/

theorem execFenceSdp_signals {d : List Byte} (h : (dps s p.val).trained = true) (hname : slice d 1 3 = [0xC1#8, 0xB2#8, 0x7A#8])
    (hfence : leAt d 4 2 < 1024) : exec (.fenceSdp p 0x81#8 d) s = .next (signalFence s (leAt d 4 2) 2 p.val) :=
  (if_neg (by simp [h, hname])).trans (if_neg (by omega))
theorem execFenceSdp_beyond {d : List Byte} (h : (dps s p.val).trained = true) (hname : slice d 1 3 = [0xC1#8, 0xB2#8, 0x7A#8])
    (hfence : 1024 ≤ leAt d 4 2) : exec (.fenceSdp p 0x81#8 d) s = .next (dpsEvent s p.val 7 0) :=
  (if_neg (by simp [h, hname])).trans (if_pos (by omega))
theorem execFenceSdp_ignored (b : Byte) {d : List Byte}
    (h : (dps s p.val).trained = false ∨ b ≠ 0x81#8 ∨ slice d 1 3 ≠ [0xC1#8, 0xB2#8, 0x7A#8]) : exec (.fenceSdp p b d) s = .next s :=
  if_pos (h.imp_left fun h => by simp [h])

section
variable {k : Fin 4}

/-- A new set of attributes is taken, and told to the pipes that run on the stream where another was known. -/
theorem execMsa_trained (m : MsaData) (h : (dps s p.val).trained = true) :
    let x := dps s p.val
    let bad := !bit (dpsCfg s p.val) 4 && beyondLimits s p.val m
    let new := ((if bad ∨ !(decide (0x10 ≤ m.fmt) && decide (m.fmt ≤ 0x1B)) then 0xFF else m.fmt), m.w, m.h, m.color)
    let old := tget none x.msa k.val
    let t := setDps s p.val { x with msa := tput none x.msa k.val (some new), clock := tput 0 x.clock k.val m.clock, compressed :=
      if m.dsc.isSome then x.compressed ||| 1#4 <<< k.val else x.compressed &&& ~~~(1#4 <<< k.val) }
    (old = some new → exec (.msa p k m) s = .next s)
    ∧ (old = none → exec (.msa p k m) s = .next (if bad then dpsEvent t p.val 6 k.val else t))
    ∧ (old.isSome = true → old ≠ some new → exec (.msa p k m) s = .next ((pipesOf (dpsEvent t p.val 6 k.val) (2, p.val, k.val)).foldl
        (fun s c => if (capAt s c).st = 2 then capChange s c else s) (dpsEvent t p.val 6 k.val))) := by
  have htrained : ¬ (!(dps s p.val).trained) = true := by simp [h]
  refine ⟨fun hold => (if_neg htrained).trans (if_pos hold), fun hold => (if_neg htrained).trans ?_,
    fun hsome hnew => (if_neg htrained).trans ((if_neg hnew).trans ?_)⟩
  · simp only [hold, reduceCtorEq, if_false, Option.isSome_none, Option.isNone_none, Bool.false_eq_true, false_or, if_true]
  · obtain ⟨old, hold⟩ := Option.isSome_iff_exists.mp hsome
    simp only [hold, Option.isSome_some, Option.isNone_some, true_or, if_true, Bool.false_eq_true, if_false]

theorem execAudioSdp_lpcm (ch rate n : Nat) (last : List Word) (h : (dps s p.val).trained = true) :
    exec (.audioSdp p k ch rate n true last) s = .next (audioArrives s (32 + 4 * p.val + k.val) ch rate none n 0#64 last) :=
  (if_neg (by simp [h])).trans rfl
theorem execAudioSdp_other (ch rate n : Nat) (last : List Word) (h : (dps s p.val).trained = true) :
    exec (.audioSdp p k ch rate n false last) s = .next (stopStream (dpsEvent s p.val 8 k.val) (32 + 4 * p.val + k.val)) :=
  (if_neg (by simp [h])).trans rfl
theorem execAudioSdp_untrained (ch rate n : Nat) (lpcm : Bool) (last : List Word) (h : (dps s p.val).trained = false) :
    exec (.audioSdp p k ch rate n lpcm last) s = .next s :=
  if_pos (by simp [h])

theorem execVbIdTransition_ignored (st : Bool) (d : Int) (h : (dps s p.val).trained = false ∨ tget none (dps s p.val).msa k.val = none) :
    exec (.vbIdTransition p k st d) s = .next s := by
  show execVbIdTransition p k st d s = _
  unfold execVbIdTransition
  dsimp only
  split
  · rfl
  · next htrained =>
    rw [h.resolve_left (by simpa using htrained)]
section
variable (d : Int) {f w ht c : Nat} (h : (dps s p.val).trained = true) (hmsa : tget none (dps s p.val).msa k.val = some (f, w, ht, c))
include h hmsa

/-- Where the vertical blanking ends, the frames of the stream's pipes start. -/
theorem execVbIdTransition_starts : exec (.vbIdTransition p k false d) s = .next ((pipesOf s (2, p.val, k.val)).foldl
    (fun s c => capKnow (capPulse s c f w none) c f w) (sourceRefPulse s (2, p.val, k.val))) := by
  refine (if_neg (by simp [h])).trans ?_
  rw [hmsa]
  rfl
/-- Where it begins, they end with what the stream carried. -/
theorem execVbIdTransition_ends : exec (.vbIdTransition p k true d) s = .next ((pipesOf (drawSpan s (w * ht)).2 (2, p.val, k.val)).foldl
    (fun t c => capFrameEnd
      (if (capAt t c).inFrame then setCap t c { capAt t c with curH := ht, write := (capAt t c).write.map fun x =>
        { x with spans := { y := 0, rows := ht, x := 0, count := w, src := (drawSpan s (w * ht)).1 } :: x.spans } } else t) c d)
      (drawSpan s (w * ht)).2) := by
  refine (if_neg (by simp [h])).trans ?_
  rw [hmsa]
  rfl
end
end
end

/-- Settles O19 (log entries 50, 52, 53 and 61). -/
theorem displayPortComplete : Obligations.DisplayPortComplete := by
  refine ⟨fun p s => ⟨execAuxRequest_unplugged, fun a o len d h => execAuxRequest_dpcdRead a o len d h,
      fun a o len d h => execAuxRequest_dpcdWrite a o len d h, fun a o len d h hdev => ⟨?_, ?_⟩, fun a o len d h h50 h30 => ⟨?_, ?_⟩,
      fun r l => execDpLinkTraining_trains, fun r l => execDpLinkTraining_fails, execDpLinkLoss_trained, execDpLinkLoss_untrained,
      fun m => execSidebandMessage_silent m, fun h hmst => ?_, fun d => execFenceSdp_signals, fun d => execFenceSdp_beyond,
      fun b d => execFenceSdp_ignored b⟩, fun p k s => ⟨fun m h => if_pos (by simp [h]), fun m => execMsa_trained m, execAudioSdp_lpcm,
      execAudioSdp_other, execAudioSdp_untrained, execVbIdTransition_ignored, fun d f w h cc => execVbIdTransition_starts d,
      fun d f w h cc => execVbIdTransition_ends d⟩⟩
  · rw [execAuxRequest_i2cRead a o len d h, if_pos hdev]
  · rw [execAuxRequest_i2cWrite a o len d h, if_pos hdev]
  · rw [execAuxRequest_i2cRead a o len d h, if_neg (by simp [h50, h30])]
  · rw [execAuxRequest_i2cWrite a o len d h, if_neg (by simp [h50, h30])]
  · obtain ⟨hup, hdown, hclear, haddress, hother⟩ := execSidebandMessage_branch h hmst
    exact ⟨execSidebandMessage_allocate h hmst, hup, hdown, hclear, haddress, execSidebandMessage_path h hmst,
      execSidebandMessage_dpcd h hmst, execSidebandMessage_i2c h hmst, hother⟩

end Sys2Proof.Machine

/-! # The eDP panels, the CSI-2 ports, and the happenings of capture and routes (chapters 11 to 13) -/

namespace Sys2Proof.Machine
open Sys2Proof

/-! ## Panels (R301 to R304, Table 11-5) -/

section
variable {p : Fin 4} {s : State}

theorem execEdpHpdSettled_other (b : Bool) (h : (edp s p.val).st ≠ 1) :
    exec (.edpHpdSettled p b) s = .next (setEdp s p.val { edp s p.val with hpd := true }) := if_pos h
/-- A starting panel goes to training, or is ended. -/
theorem execEdpHpdSettled_starting (h : (edp s p.val).st = 1) :
    exec (.edpHpdSettled p true) s = .next (setEdp (setEdp s p.val { edp s p.val with hpd := true }) p.val { edp s p.val with hpd := true, st := 2 })
    ∧ exec (.edpHpdSettled p false) s = .next (edpEvent (setEdp (setEdp s p.val { edp s p.val with hpd := true }) p.val
        { edp s p.val with hpd := true, st := 4 }) p.val 2) :=
  ⟨if_neg (by simp [h]), if_neg (by simp [h])⟩
theorem execEdpTrainingDone_training (h : (edp s p.val).st = 2) :
    exec (.edpTrainingDone p true) s = .next (edpEvent (setEdp s p.val { edp s p.val with st := 3, fails := 0, blank := 0 }) p.val 0)
    ∧ exec (.edpTrainingDone p false) s = .next (
        let bad := edpEvent (setEdp s p.val { edp s p.val with fails := (edp s p.val).fails + 1 }) p.val 1
        if 3 ≤ (edp s p.val).fails + 1 then edpEvent (setEdp bad p.val { edp bad p.val with st := 4 }) p.val 2 else bad) :=
  ⟨if_neg (by simp [h]), if_neg (by simp [h])⟩
theorem execEdpIrqHpd_other (b : Bool) (h : (edp s p.val).st ≠ 3 ∨ b = false) : exec (.edpIrqHpd p b) s = .next s :=
  if_neg fun ⟨hst, hb⟩ => h.elim (· hst) fun h => by simp [h] at hb
end

/-! ## CSI-2 ports (R305, R306) -/

section
variable {p : Fin 8} {s : State}

/-- A port that has no power sees nothing (R32). -/
theorem csi_off (h : portOff s 3 p.val = true) : (∀ v hd, exec (.csiFrameStart p v hd) s = .next s)
    ∧ (∀ v hd d, exec (.csiFrameEnd p v hd d) s = .next s) ∧ (∀ v hd x ty n g, exec (.csiLongPacket p v hd x ty n g) s = .next s)
    ∧ exec (.csiUlpsEntry p) s = .next s :=
  ⟨fun _ _ => if_pos h, fun _ _ _ => if_pos h, fun _ _ _ _ _ _ => if_pos h, if_pos h⟩

section
variable (hon : ¬ portOff s 3 p.val = true) {v : Fin 4} {hd : Fin 3}
include hon

theorem csi_header_bad (h : csiHeader s p.val hd = none) : exec (.csiFrameStart p v hd) s = .next (csiHeaderBad s p.val v.val)
    ∧ (∀ d, exec (.csiFrameEnd p v hd d) s = .next (csiHeaderBad s p.val v.val))
    ∧ (∀ x ty n g, exec (.csiLongPacket p v hd x ty n g) s = .next (csiHeaderBad s p.val v.val)) := by
  refine ⟨(if_neg hon).trans ?_, fun d => (if_neg hon).trans ?_, fun x ty n g => (if_neg hon).trans ?_⟩ <;> rw [h]
theorem execCsiFrameEnd_good (d : Int) {t : State} (h : csiHeader s p.val hd = some t) :
    exec (.csiFrameEnd p v hd d) s = .next (if (csi t p.val).busy.getLsbD v.val then csiEnd t p.val v.val d else t) := by
  refine (if_neg hon).trans ?_
  rw [h]
/-- A frame start ends a frame that was open, and begins the frames of the pipes on its virtual channel. -/
theorem execCsiFrameStart_good {t : State} (h : csiHeader s p.val hd = some t) : exec (.csiFrameStart p v hd) s = .next (
    let t := if (csi t p.val).busy.getLsbD v.val then csiEnd (csiEvent t p.val 3 v.val 0) p.val v.val 0 else t
    let c := csi t p.val
    let ks := pipesOf t (3, p.val, v.val)
    let first := decide (ks ≠ []) && !c.told.getLsbD v.val
    let t := setCsi t p.val { c with
      busy := c.busy ||| 1#4 <<< v.val, dtype := tput 0 c.dtype v.val 0, lines := tput 0 c.lines v.val 0, told := if first then c.told ||| 1#4 <<< v.val else c.told }
    let t := if first then csiEvent t p.val 0 v.val 0 else t
    ks.foldl (fun s k => capPulse s k 0 0 none) (sourceRefPulse t (3, p.val, v.val))) := by
  refine (if_neg hon).trans ?_
  rw [h]
/-- A long packet of an image type gives the pipes a line, whose pixels are free (log entry 61). -/
theorem execCsiLongPacket_line {ty : Nat} (n : Nat) {fmt bpp : Nat} {t : State} (h : csiHeader s p.val hd = some t) (hty : ty ≠ 0x12)
    (himage : imageType ty = some (fmt, bpp)) (hbusy : (csi t p.val).busy.getLsbD v.val = true)
    (hsame : tget 0 (csi t p.val).dtype v.val = 0 ∨ tget 0 (csi t p.val).dtype v.val = ty) :
    exec (.csiLongPacket p v hd false ty n true) s = .next (
      let c := csi t p.val
      let t' := setCsi (setCsi t p.val c) p.val { c with
        dtype := tput 0 c.dtype v.val ty, lines := tput 0 c.lines v.val (tget 0 c.lines v.val + 1) }
      let w := n * 8 / bpp
      (pipesOf t' (3, p.val, v.val)).foldl (fun s k => capPixels (capKnow s k fmt w) k (tget 0 c.lines v.val) 0 w (drawSpan t' w).1) (drawSpan t' w).2) := by
  have htype : ¬ (tget 0 (csi t p.val).dtype v.val ≠ 0 ∧ tget 0 (csi t p.val).dtype v.val ≠ ty) := by tauto
  refine (if_neg hon).trans ?_
  rw [h]
  simp only [Bool.false_eq_true, if_false, if_true, if_neg hty, himage, hbusy, Bool.not_true, if_neg htype]
end
end

/-- Settles O20 (the free pixels of a line are log entry 61). -/
theorem panelAndCameraPortsComplete : Obligations.PanelAndCameraPortsComplete := by
  refine ⟨fun p s => ⟨fun b h => execEdpHpdSettled_other b h, fun h => (execEdpHpdSettled_starting h).1,
      fun h => (execEdpHpdSettled_starting h).2, fun h => (execEdpTrainingDone_training h).1, fun h => (execEdpTrainingDone_training h).2,
      fun _ h => if_pos h, fun h => if_pos ⟨h, rfl⟩, fun b h => execEdpIrqHpd_other b h, fun h => if_pos h, fun h => if_neg h⟩,
    fun p s => ⟨fun h => csi_off h, fun h => ?_⟩⟩
  have hon : ¬ portOff s 3 p.val = true := by simp [h]
  exact ⟨fun _ _ hbad => csi_header_bad hon hbad, fun _ _ d _ hgood => execCsiFrameEnd_good hon d hgood,
    fun _ _ _ hgood => execCsiFrameStart_good hon hgood, fun _ _ _ n _ _ _ hgood => execCsiLongPacket_line hon n hgood, if_neg hon⟩

/-! ## Source loss, fill, switch bound and lock point (R318 to R321, R341, R425, R426) -/

section
variable {s : State}

theorem execSourceLossTimeout_loses {k : Fin 80} (hst : (capAt s k.val).st = 2 ∨ (capAt s k.val).st = 4)
    (hclk : (capAt s k.val).pulseAt + min (2 * (capAt s k.val).period) 400000000 ≤ s.clk) :
    exec (.sourceLossTimeout k) s = .next (capLose s k.val 0) :=
  if_pos (by rw [decide_eq_true (show lossAt (capAt s k.val) ≤ s.clk from hclk)]; rcases hst with h | h <;> simp [capRunning, h])
theorem execSourceLossTimeout_early {k : Fin 80} (hclk : s.clk < (capAt s k.val).pulseAt + min (2 * (capAt s k.val).period) 400000000) :
    exec (.sourceLossTimeout k) s = .next s :=
  if_neg (by rw [decide_eq_false (show ¬ lossAt (capAt s k.val) ≤ s.clk from Nat.not_le.mpr hclk)]; simp)
theorem execSwitchWaitBound_bounds {b : Fin 2} {r : Fin 64} {o : Fin 20} (hruns : outRuns s o.val = true)
    (hreads : (rteReaders s b.val r.val).contains o.val = true) (hst : (rte s b.val r.val o.val).st = 2)
    (hclk : (rte s b.val r.val o.val).since + 500000000 ≤ s.clk) :
    exec (.switchWaitBound b r o) s = .next (routeTick s b.val r.val o.val true) :=
  if_pos (by rw [hruns, hreads, hst, decide_eq_true hclk]; rfl)
theorem execSwitchWaitBound_idle {b : Fin 2} {r : Fin 64} {o : Fin 20}
    (h : (rte s b.val r.val o.val).st ≠ 2 ∨ s.clk < (rte s b.val r.val o.val).since + 500000000) : exec (.switchWaitBound b r o) s = .next s := by
  refine if_neg ?_
  rcases h with h | h
  · simp [h]
  · rw [decide_eq_false (Nat.not_le.mpr h), Bool.and_false]
    exact Bool.false_ne_true
theorem execLockPoint_reached {o : Fin 20} (p : Int) {t : Rat} (hlock : (out s o.val).lockAt = some t) (hclk : t ≤ s.clk) :
    exec (.lockPoint o p) s = .next (lockPoint (setOut s o.val { out s o.val with lockAt := none }) o.val
      (lockError s o.val t - (if lineLocked s o.val then p else 0))) := by
  show execLockPoint o p s = _
  unfold execLockPoint
  simp only [hlock]
  exact if_pos hclk
theorem execLockPoint_none {o : Fin 20} (p : Int) (hlock : (out s o.val).lockAt = none) : exec (.lockPoint o p) s = .next s := by
  show execLockPoint o p s = _
  unfold execLockPoint
  simp only [hlock]
end

/-- Settles O21 (what a lock point measures is log entry 134). -/
theorem captureAndRouteHappeningsComplete : Obligations.CaptureAndRouteHappeningsComplete :=
  fun _ => ⟨fun _ => execSourceLossTimeout_loses, fun _ => execSourceLossTimeout_early, fun _ h => if_pos h, fun _ h => if_neg h,
    fun _ _ _ => execSwitchWaitBound_bounds, fun _ _ _ => execSwitchWaitBound_idle, fun _ p _ => execLockPoint_reached p,
    fun _ => execLockPoint_none⟩

end Sys2Proof.Machine

/-! # The happenings of the crossbar, the TDM ports and the converters (chapter 19) -/

namespace Sys2Proof.Machine
open Sys2Proof

/-! ## Crossbar changes (R468 to R472) -/

section
variable {s : State}

/-- A change none of whose entries are on SYN9 acts whole at its boundary. -/
theorem reachBoundary_whole {c : XChange} (hfirst : c.first = false) (hboundary : boundarySince s 8 0 c.tick = true)
    (hclock : ∀ e ∈ c.entries, onSyn9 (laneView (xbarEvent s c)) e.dst.toNat = false) :
    reachBoundary s c = (takeEntries (xbarEvent s c) c.ramp c.entries, none) := by
  have hlate : c.entries.filter (fun e => onSyn9 (laneView (xbarEvent s c)) e.dst.toNat) = [] :=
    List.filter_eq_nil_iff.mpr fun e he => by simp [hclock e he]
  have hnow : c.entries.filter (fun e => !onSyn9 (laneView (xbarEvent s c)) e.dst.toNat) = c.entries :=
    List.filter_eq_self.mpr fun e he => by simp [hclock e he]
  refine (if_neg (by simp [hfirst, hboundary])).trans ?_
  dsimp only
  rw [hlate, hnow, if_pos rfl]
theorem execXbarChangeBoundary_acts {c : XChange} (hchanges : s.audio.changes = [c]) (hfirst : c.first = false)
    (hboundary : boundarySince s 8 0 c.tick = true)
    (hclock : ∀ e ∈ c.entries, onSyn9 (laneView (xbarEvent { s with audio := { s.audio with changes := [] } } c)) e.dst.toNat = false) :
    exec .xbarChangeBoundary s = .next (
      let t := takeEntries (xbarEvent { s with audio := { s.audio with changes := [] } } c) c.ramp c.entries
      { t with audio := { t.audio with changes := t.audio.changes ++ [] } }) := by
  show Host.Outcome.next (reachAll _ s.audio.changes) = _
  rw [hchanges, reachAll, reachBoundary_whole (s := { s with audio := { s.audio with changes := [] } }) hfirst hboundary hclock]
  rfl
theorem execXbarChangeBoundary_none (hchanges : s.audio.changes = []) : exec .xbarChangeBoundary s = .next s := by
  show Host.Outcome.next (reachAll _ s.audio.changes) = _
  rw [hchanges, reachAll, ← hchanges]

/-! ## TDM ports -/

theorem execTdmPortStart_starting {p : Fin 8} (h : tdmStarts s p.val = true) (hstarting : (tdm s p.val).starting = true) :
    exec (.tdmPortStart p) s = .next (
      tdmEvent (setTdm s p.val { tdm s p.val with running := true, starting := false, halted := false, stopping := false }) p.val 0) :=
  (if_neg (by simp [h])).trans (if_pos hstarting)
theorem execTdmPortStart_halted {p : Fin 8} (h : tdmStarts s p.val = true) (hstarting : (tdm s p.val).starting = false)
    (hhalted : (tdm s p.val).halted = true) :
    exec (.tdmPortStart p) s = .next (tdmEvent (setTdm s p.val { tdm s p.val with halted := false }) p.val 3) :=
  (if_neg (by simp [h])).trans ((if_neg (by simp [hstarting])).trans (if_pos hhalted))

/-! ## Converters (R476 to R480) -/

theorem execConverterLock_locks {k : Fin 64} (hmode : (conv s k.val).mode ≠ 0) (hlocked : (conv s k.val).locked = false) :
    exec (.converterLock k) s = .next
      (raise (setConv s k.val { conv s k.val with locked := true, fade := 0, fadingOut := false, muted := false }) 219 (det k.val 0 0 0)) :=
  if_neg (by simp [hmode, hlocked])

/-- The ratio of a converter is out of range, by its number. -/
def ratioWrong (n : Nat) : Bool := decide (6 * n < 16777216) || decide (67108864 < n)
/-- It has stepped by more than one in 200. -/
def ratioStep (c : Conv) (n : Nat) : Bool := decide (c.ratio ≠ 0) && decide (c.ratio < (n - c.ratio + (c.ratio - n)) * 200)

/-- A measurement that does not come too soon judges the ratio. -/
theorem execConverterRatioMeasure_eq {k : Fin 64} (r : Word) (hmode : (conv s k.val).mode ≠ 0)
    (hsoon : ∀ t, (conv s k.val).ratioAt = some t → t + 10000000 ≤ s.clk) :
    exec (.converterRatioMeasure k r) s =
      let x := { conv s k.val with ratio := r.toNat, muted := ratioWrong r.toNat, ratioAt := some s.clk }
      if ratioWrong r.toNat then .next (if (conv s k.val).muted then setConv s k.val x else raise (setConv s k.val x) 219 (det k.val 3 0 0))
      else if ratioStep (conv s k.val) r.toNat ∧ (conv s k.val).locked then
        .next (raise (setConv s k.val { x with locked := false, fadingOut := true }) 219 (det k.val 1 0 0))
      else .next (setConv s k.val x) := by
  refine if_neg ?_
  cases hat : (conv s k.val).ratioAt with
  | none => simp [hmode]
  | some t =>
    have ht := hsoon t hat
    simp [hmode, ht]

section
variable {k : Fin 64} {r : Word} (hmode : (conv s k.val).mode ≠ 0) (hsoon : ∀ t, (conv s k.val).ratioAt = some t → t + 10000000 ≤ s.clk)
include hmode hsoon

theorem execConverterRatioMeasure_wrong (hwrong : ratioWrong r.toNat = true) : exec (.converterRatioMeasure k r) s =
    let x := { conv s k.val with ratio := r.toNat, muted := ratioWrong r.toNat, ratioAt := some s.clk }
    .next (if (conv s k.val).muted then setConv s k.val x else raise (setConv s k.val x) 219 (det k.val 3 0 0)) :=
  (execConverterRatioMeasure_eq r hmode hsoon).trans (if_pos hwrong)
theorem execConverterRatioMeasure_step (hwrong : ratioWrong r.toNat = false) (hstep : ratioStep (conv s k.val) r.toNat = true)
    (hlocked : (conv s k.val).locked = true) : exec (.converterRatioMeasure k r) s = .next (raise (setConv s k.val
      { conv s k.val with ratio := r.toNat, muted := ratioWrong r.toNat, ratioAt := some s.clk, locked := false, fadingOut := true })
      219 (det k.val 1 0 0)) :=
  (execConverterRatioMeasure_eq r hmode hsoon).trans ((if_neg (by simp [hwrong])).trans (if_pos ⟨hstep, hlocked⟩))
theorem execConverterRatioMeasure_steady (hwrong : ratioWrong r.toNat = false)
    (h : ratioStep (conv s k.val) r.toNat = false ∨ (conv s k.val).locked = false) : exec (.converterRatioMeasure k r) s =
      .next (setConv s k.val { conv s k.val with ratio := r.toNat, muted := ratioWrong r.toNat, ratioAt := some s.clk }) :=
  (execConverterRatioMeasure_eq r hmode hsoon).trans
    ((if_neg (by simp [hwrong])).trans (if_neg fun ⟨hstep, hlocked⟩ => by simp [hstep, hlocked] at h))
end

theorem sampleBoundary_told {n r : Nat} (f : List (Nat × List Word)) (h : boundaryUntold s n r = false) : sampleBoundary s n r f = s :=
  if_pos (by simp [h])
end

/-- Settles O22. -/
theorem audioHappeningsComplete : Obligations.AudioHappeningsComplete := by
  refine fun s => ⟨fun c => execXbarChangeBoundary_acts, execXbarChangeBoundary_none, rfl, fun p => execTdmPortStart_starting,
    fun p => execTdmPortStart_halted, fun p h => if_pos (by simp [h]), fun p h => if_pos h, fun p h => if_neg (by simp [h]),
    fun k => execConverterLock_locks, fun k h => if_pos h, fun k r h => if_pos (.inl h), fun k r hmode hsoon => ⟨?_, ?_, ?_, ?_⟩,
    fun nine r f h => rfl, fun nine r f h => congrArg _ (sampleBoundary_told f h)⟩
  · intro hwrong hmuted
    exact (execConverterRatioMeasure_wrong hmode hsoon hwrong).trans (congrArg _ (if_pos hmuted))
  · intro hwrong hmuted
    exact (execConverterRatioMeasure_wrong hmode hsoon hwrong).trans (congrArg _ (if_neg (by simp [hmuted])))
  · exact execConverterRatioMeasure_step hmode hsoon
  · exact execConverterRatioMeasure_steady hmode hsoon

end Sys2Proof.Machine

/-! # Commit ticks, output starts, line boundaries and composing jobs (chapters 14 and 17) -/

namespace Sys2Proof.Machine
open Sys2Proof

/-! ## The job that goes first (R373) -/

/-- What jobs are ordered by: rank, deadline, output, raster order (Table 14-7). -/
def jobKey (x : EJob) : List Int := [x.rank, x.due, x.out, x.row, x.col]

theorem jobBefore_iff (x y : EJob) : jobBefore x y = true ↔ jobKey x ≤ jobKey y := decide_eq_true_iff
/-- A job that goes before another has the lower rank, or of equal ranks no later a deadline. -/
theorem rank_due_of_jobBefore {x y : EJob} (h : jobKey x ≤ jobKey y) : x.rank < y.rank ∨ (x.rank = y.rank ∧ x.due ≤ y.due) := by
  by_contra hnot
  refine absurd h (not_le.mpr ?_)
  rcases lt_trichotomy x.rank y.rank with hlt | heq | hgt
  · exact absurd (.inl hlt) hnot
  · have hdue : y.due < x.due := by
      by_contra hdue
      exact hnot (.inr ⟨heq, not_lt.mp hdue⟩)
    unfold jobKey
    rw [heq]
    exact List.Lex.cons (List.Lex.rel hdue)
  · exact List.Lex.rel (by exact_mod_cast hgt)

/-- Of two jobs the one that goes first. -/
def firstOf (x y : EJob) : EJob := if jobBefore x y then x else y
theorem firstOf_mem (x y : EJob) : firstOf x y = x ∨ firstOf x y = y := by unfold firstOf; split <;> simp
theorem firstOf_le (x y : EJob) : jobKey (firstOf x y) ≤ jobKey x ∧ jobKey (firstOf x y) ≤ jobKey y := by
  unfold firstOf
  split
  · next h => exact ⟨le_rfl, (jobBefore_iff x y).mp h⟩
  · next h => exact ⟨le_of_lt (not_le.mp fun hle => h ((jobBefore_iff x y).mpr hle)), le_rfl⟩
theorem firstJob_cons (a : EJob) (l : List EJob) : firstJob (a :: l) = some (l.foldl firstOf a) := by
  unfold firstJob
  rw [List.foldl_cons]
  dsimp only
  induction l generalizing a with
  | nil => rfl
  | cons b l ih =>
    rw [List.foldl_cons, List.foldl_cons, ← ih]
    dsimp only [firstOf]
    split <;> rfl
/-- The first of some jobs is one of them, and goes before each. -/
theorem foldl_firstOf (l : List EJob) (a : EJob) : l.foldl firstOf a ∈ a :: l ∧ ∀ y ∈ a :: l, jobKey (l.foldl firstOf a) ≤ jobKey y := by
  induction l generalizing a with
  | nil => simp
  | cons b l ih =>
    rw [List.foldl_cons]
    obtain ⟨hmem, hle⟩ := ih (firstOf a b)
    have hhead := hle _ List.mem_cons_self
    obtain ⟨hfa, hfb⟩ := firstOf_le a b
    refine ⟨?_, fun y hy => ?_⟩
    · rcases firstOf_mem a b with h | h <;> rw [h] at hmem ⊢ <;> simp only [List.mem_cons] at hmem ⊢ <;> tauto
    · rcases List.mem_cons.mp hy with rfl | hy
      · exact hhead.trans hfa
      · rcases List.mem_cons.mp hy with rfl | hy
        · exact hhead.trans hfb
        · exact hle y (List.mem_cons_of_mem _ hy)
theorem firstJob_first {l : List EJob} (h : l ≠ []) :
    ∃ x ∈ l, firstJob l = some x ∧ ∀ y ∈ l, x.rank < y.rank ∨ (x.rank = y.rank ∧ x.due ≤ y.due) := by
  obtain ⟨a, r, rfl⟩ := List.exists_cons_of_ne_nil h
  obtain ⟨hmem, hle⟩ := foldl_firstOf r a
  exact ⟨_, hmem, firstJob_cons a r, fun y hy => rank_due_of_jobBefore (hle y hy)⟩

/-! ## Commit ticks and starts (R169, R432, R434) -/

section
variable {o : Fin 20} {s : State}

theorem execCommitTick_running (obs : TickObs) (hst : (out s o.val).st ≠ .starting) (hdue : commitDue s o.val = true) :
    exec (.commitTick o obs) s = .next (settle (runningTick s o.val obs)) :=
  congrArg (fun t => Host.Outcome.next (settle t)) ((if_neg hst).trans (if_pos hdue))
theorem execCommitTick_early (obs : TickObs) (hst : (out s o.val).st ≠ .starting) (hdue : commitDue s o.val = false) :
    exec (.commitTick o obs) s = .next (settle s) :=
  congrArg (fun t => Host.Outcome.next (settle t)) ((if_neg hst).trans (if_neg (by simp [hdue])))
/-- An output that may start takes its words and runs from that instant. -/
theorem firstTick_starts {c0 : Rat} (hstart : startNow s o.val = some c0) (hst : (out (frameTrigger s o.val) o.val).st = .starting) :
    firstTick s o.val {} = (
      let t := (takeOutWords (recentre (frameTrigger s o.val) o.val) o.val).1
      let st : OutState := if (cannotCarry t o.val).isSome then .linkIdle else .running
      let t := outEvent (setOut t o.val { out t o.val with
        st := st, begun := true, line := vAct (word t) o.val, lineAt := c0, frameAt := 0, atLine := true }) o.val 0 0 0
      edpTick (nextFrame (tickWork t o.val {}).1 o.val) o.val) := by
  unfold firstTick
  simp only [hstart]
  rw [if_neg (by simp [hst])]
theorem firstTick_none (hstart : startNow s o.val = none) : firstTick s o.val {} = s := by
  unfold firstTick
  simp only [hstart]
theorem lineBoundary_other {line : Nat} (h : boundaryDue s o.val ≠ some line) : lineBoundary s o.val line = s := if_pos h

/-! ## Composing jobs and rows (R374, R375, R441, R456, R458) -/

theorem jobComplete_run {w : Wing} {row col : Nat} (fails lost : List (Nat × Nat)) (agree : Bool) (rerun : Option Bool)
    (h : enginesOf s w o.val row col ≠ []) : exec (.jobComplete w o row col fails lost agree rerun) s = .next (
      let g := jobGalleries s w o.val row col
      let bad := fails.map (fun t => (t.1, t.2, true)) ++ lost.map fun t => (t.1, t.2, false)
      finishJob (jobCompare (failTiles s (wingCode w) o.val bad) w o.val row col g.1 g.2 agree rerun) w o.val row col) :=
  congrArg Host.Outcome.next (if_neg h)
section
variable {w : Wing} {row col : Nat}

theorem jobMiss_none (late : Option Nat) (h : timingRuns (out s o.val) = false ∨ composes s w o.val = false ∨ jobLate s w o.val row col = false) :
    jobMiss s w o.val row col late = s := by
  refine if_pos ?_
  rcases h with h | h | h <;> simp [h]
/-- A miss of a line-locked output is told as it is (log entry 79). -/
theorem jobMiss_lineLocked (late : Option Nat) (hruns : timingRuns (out s o.val) = true) (hcomposes : composes s w o.val = true)
    (hlate : jobLate s w o.val row col = true) (hline : lineLocked s o.val = true) : jobMiss s w o.val row col late = (
      let t := if (out s o.val).wing = w then setOut s o.val { out s o.val with late := (out s o.val).late + 1 } else s
      raiseWing t w 164 (det o.val (wingCode w) (sat 8 (out t o.val).late) 0)) := by
  refine (if_neg (by simp [hruns, hcomposes, hlate])).trans ?_
  simp only [hline, if_true]
  cases late <;> rfl
theorem tileRow_due {l : List (Nat × Option Word)} (hruns : timingRuns (out s o.val) = true) (hcomposes : composes s w o.val = true)
    (hline : lineLocked s o.val = false) (hdue : rowDue s w o.val row = true) :
    exec (.tileRowRead w o row l) s = .next (l.foldl (fun s t => match t.2 with
      | some c => sendTile s w o.val row t.1 c
      | none => setOut s o.val { out s o.val with recomposing := (tileKey w row t.1 :: (out s o.val).recomposing).dedup })
      (rowRead s w o.val row ((l.filter fun t => t.2.isNone).map (·.1)))) :=
  congrArg Host.Outcome.next (if_neg (by simp [hruns, hcomposes, hline, hdue]))
theorem tileRow_early {l : List (Nat × Option Word)} (hdue : rowDue s w o.val row = false) : exec (.tileRowRead w o row l) s = .next s :=
  congrArg Host.Outcome.next (if_pos (by simp [hdue]))

/-- A recomposed tile is awaited no more. -/
def recompTaken (s : State) (w : Wing) (o row col : Nat) : State :=
  dropRecomp (setOut s o { out s o with recomposing := (out s o).recomposing.filter (· ≠ tileKey w row col) }) w o row col
section
variable (hwait : (out s o.val).recomposing.contains (tileKey w row col) = true) (hdue : recompDue s w o.val row = true)
include hwait hdue

/-- A recomposed tile that fails too is concealed. -/
theorem recomposedTile_fails : exec (.recomposedTileRead w o row col none) s = .next (
    let x := concealTile (recompTaken s w o.val row col) w o.val row col
    raiseWing x.1 w 206 (det o.val (wingCode w) (sat 8 (out x.1 o.val).concealed) (b2n x.2))) :=
  congrArg Host.Outcome.next (if_neg (by rw [hwait, hdue]; decide))
/-- One that is good replaces its own. -/
theorem recomposedTile_good (c : Word) : exec (.recomposedTileRead w o row col (some c)) s = .next (
    let t := recompTaken s w o.val row col
    let t := countFst (sendTile (drawByte t).2 w o.val row col c) (2 * wingCode w + (drawByte t).1.toNat % 2) 2 1
    let n := (out t o.val).recomposed + 1
    raiseWing (if (out t o.val).wing = w then setOut t o.val { out t o.val with recomposed := n } else t) w 205
      (det o.val (wingCode w) (sat 8 n) 0)) :=
  congrArg Host.Outcome.next (if_neg (by rw [hwait, hdue]; decide))
end
end
end

/-- Settles O23 (the deadline misses follow log entry 79). -/
theorem compositionHappeningsComplete : Obligations.CompositionHappeningsComplete := by
  refine ⟨fun _ => firstJob_first, fun o s => ⟨execCommitTick_running, execCommitTick_early,
    fun c0 hstart hst => congrArg (fun t => Host.Outcome.next (settle t)) (firstTick_starts hstart hst),
    fun hstart => congrArg (fun t => Host.Outcome.next (settle t)) (firstTick_none hstart), fun line _ => rfl,
    fun line h => congrArg (fun t => Host.Outcome.next (settle t)) (lineBoundary_other h),
    fun w row col fails lost agree rerun => jobComplete_run fails lost agree rerun,
    fun w row col fails lost agree rerun h => congrArg Host.Outcome.next (if_pos h),
    fun w row col late h => congrArg Host.Outcome.next (jobMiss_none _ h),
    fun w row col late hruns hcomposes hlate => ⟨rfl, jobMiss_lineLocked _ hruns hcomposes hlate⟩,
    fun w row l => tileRow_due, fun w row l => tileRow_early, fun w row col => recomposedTile_fails,
    fun w row col c hwait hdue => recomposedTile_good hwait hdue c⟩⟩

end Sys2Proof.Machine

/-! # The Wings: faults, re-admission, wakes (chapter 21) -/

namespace Sys2Proof.Machine
open Sys2Proof

/-! ## The record of a Wing -/

@[simp] theorem wing_setWing (s : State) (w : Wing) (x : WingSt) : wing (setWing s w x) w = x := by cases w <;> rfl
theorem wing_setWing_of_ne {w v : Wing} (h : v ≠ w) (s : State) (x : WingSt) : wing (setWing s v x) w = wing s w := by
  match v, w with
  | .a, .b | .b, .a => rfl
  | .a, .a | .b, .b => exact absurd rfl h
@[simp] theorem wing_raise (s : State) (src : Nat) (d : Word) (w : Wing) : wing (raise s src d) w = wing s w := by rw [raise_eq]; rfl
@[simp] theorem wing_setCap (s : State) (k : Nat) (c : Cap) (w : Wing) : wing (setCap s k c) w = wing s w := rfl
@[simp] theorem wing_setOut (s : State) (n : Nat) (o : Out) (w : Wing) : wing (setOut s n o) w = wing s w := rfl

/-- A Wing that has been re-admitted: its role, no cause, no re-admission in progress (R521). -/
def Readmitted (w : Wing) (role : Nat) (s : State) : Prop := (wing s w).role = role ∧ (wing s w).cause = 0 ∧ (wing s w).readmit = false

section
variable {w : Wing} {role : Nat} {s : State}

theorem Readmitted.of_wing (h : Readmitted w role s) {t : State} (hw : wing t w = wing s w) : Readmitted w role t := by
  unfold Readmitted
  rw [hw]
  exact h
/-- A disarmed Wing loses the takeover and nothing else. -/
theorem Readmitted.disarm (h : Readmitted w role s) (v : Wing) (reason : Nat) : Readmitted w role (disarm s v reason) := by
  unfold Machine.disarm
  dsimp only
  split
  · refine Readmitted.of_wing ?_ (wing_raise _ _ _ _)
    by_cases hv : v = w
    · subst hv
      unfold Readmitted
      rw [wing_setWing]
      exact h
    · exact h.of_wing (wing_setWing_of_ne hv _ _)
  · exact h
theorem Readmitted.dirtyFrame (h : Readmitted w role s) (o : Nat) : Readmitted w role (dirtyFrame s o) := by
  have hout := h.of_wing (wing_setOut s o { out s o with frameBad := true, goodFrames := 0 } w)
  unfold Machine.dirtyFrame
  dsimp only
  split
  · split
    · exact hout.disarm _ _
    · exact hout
  · exact hout
theorem Readmitted.dirtyFrames (l : List Nat) (h : Readmitted w role s) : Readmitted w role (l.foldl Machine.dirtyFrame s) := by
  induction l generalizing s with
  | nil => exact h
  | cons o l ih => exact ih (h.dirtyFrame o)
/-- The pipes of a re-admitted Wing start, and nothing of the Wing's record changes. -/
theorem Readmitted.pipes (base : Nat) (l : List Nat) (h : Readmitted w role s) :
    Readmitted w role (l.foldl (fun s n => setCap s (base + n) { capAt s (base + n) with st := 1, det := none }) s) := by
  induction l generalizing s with
  | nil => exact h
  | cons n l ih => exact ih (h.of_wing (wing_setCap _ _ _ _))
end

/-! ## Re-admission (R521) -/

section
variable {w : Wing} {s : State}

theorem monitorClear_step (hre : (wing s w).readmit = true) (hstep : (wing s w).step = 1)
    (hquiet : max (wing s w).gAt (wing s w).badAt + 10000000 ≤ s.clk) (hclock : clockLost s w = false) :
    exec (.readmissionMonitorClear w) s = .next (setWing s w { wing s w with step := 2, supplyBad := false }) :=
  if_pos ⟨hre, hstep, by simp [monitorsClear, hquiet, hclock]⟩
theorem monitorTimeout_holds (hre : (wing s w).readmit = true) (hstep : (wing s w).step = 1) (hlate : (wing s w).gAt + 1000000000 ≤ s.clk) :
    exec (.readmissionMonitorTimeout w) s = .next (holdOut s w 4) :=
  if_pos (by simp [monitorsLate, hre, hstep, hlate])
theorem testDone_other (f : Option Byte) (h : (wing s w).readmit = false ∨ (wing s w).step ≠ 3) :
    exec (.readmissionTestDone w f) s = .next s := by
  refine if_neg fun hon => ?_
  rcases h with h | h
  · exact Bool.false_ne_true (h.symm.trans hon.1)
  · exact h hon.2
/-- The events of a re-admission's tests leave the Wings. -/
theorem wing_tell (t : State) (b : Bool) (d₁ d₂ d₃ : Word) (v : Wing) :
    wing (if b then raise t 254 d₁ else raise (raise (raise t 254 d₁) 254 d₂) 254 d₃) v = wing t v := by
  cases b <;> simp
/-- A failed test holds the Wing out with cause 9. -/
theorem testDone_failed (c : Byte) (hre : (wing s w).readmit = true) (hstep : (wing s w).step = 3) :
    ∃ t, exec (.readmissionTestDone w (some c)) s = .next (holdOut t w 2) ∧ (wing t w).cause = 9 ∧ (wing t w).role = (wing s w).role := by
  show ∃ t, execReadmissionTestDone w (some c) s = .next (holdOut t w 2) ∧ _
  unfold execReadmissionTestDone
  dsimp only
  rw [if_pos ⟨hre, hstep⟩]
  have hfail : ∃ c', (if (wing s w).supplyBad then some ((some c).getD 3#8) else some c) = some c' := by split <;> exact ⟨_, rfl⟩
  obtain ⟨c', hc'⟩ := hfail
  rw [hc']
  refine ⟨_, rfl, by rw [wing_setWing], ?_⟩
  rw [wing_setWing]
  dsimp only
  split <;> simp
/-- A passed test gives the Wing its role. -/
theorem testDone_passed (hre : (wing s w).readmit = true) (hstep : (wing s w).step = 3) (hsupply : (wing s w).supplyBad = false) :
    ∃ t, exec (.readmissionTestDone w none) s = .next t
      ∧ (wing t w).role = (if s.modes.cur = 2 then 3 else 1) ∧ (wing t w).cause = 0 ∧ (wing t w).readmit = false := by
  show ∃ t, execReadmissionTestDone w none s = .next t ∧ _
  unfold execReadmissionTestDone
  dsimp only
  rw [if_pos ⟨hre, hstep⟩, if_neg (by simp [hsupply]), if_neg (by simp)]
  refine ⟨_, rfl, ?_⟩
  refine Readmitted.dirtyFrames _ (Readmitted.pipes _ _ (Readmitted.of_wing ?_ (wing_raise _ _ _ _)))
  unfold Readmitted
  rw [wing_setWing, raise_modes, raise_modes, raise_modes]
  exact ⟨rfl, rfl, rfl⟩

/-! ## A Wing that is ready, and wakes (R47, R526) -/

theorem wingReady_wakes (hsupply : (wing s w).supplyBad = false) (hwake : s.modes.pend.bind (·.wake) = some (w, false))
    (hwaited : (s.modes.pend.bind (·.waitedAt)).isSome = true) : exec (.wingReady w) s = .next (settle (wakeDone s w)) :=
  (if_neg (by simp [hsupply])).trans ((if_pos hwake).trans (if_pos hwaited))
theorem wingReady_readmits (hsupply : (wing s w).supplyBad = false) (hwake : s.modes.pend.bind (·.wake) ≠ some (w, false))
    (hre : (wing s w).readmit = true) (hstep : (wing s w).step = 2) : exec (.wingReady w) s = .next (readmitReady s w) :=
  (if_neg (by simp [hsupply])).trans ((if_neg hwake).trans (if_pos ⟨hre, hstep⟩))
theorem wingReady_boots (hsupply : (wing s w).supplyBad = false) (hwake : s.modes.pend.bind (·.wake) ≠ some (w, false))
    (hre : (wing s w).readmit = false) (hphase : s.boot.phase = .curator) (hmem : memReady s w = true) (hready : (wing s w).ready = false)
    (hheld : (wing s w).heldOut = false) : exec (.wingReady w) s = .next (settle (bootReady s w)) :=
  (if_neg (by simp [hsupply])).trans ((if_neg hwake).trans ((if_neg (by simp [hre])).trans (if_pos ⟨hphase, hmem, by simp [hready], by simp [hheld]⟩)))
theorem modeWake_ends {p : ModePend} (hpend : s.modes.pend = some p) (hwake : p.wake = some (w, false)) (hwaited : p.waitedAt = none)
    (htime : p.askedAt + 500000 * bits (word s 0 0x01 0 1) 3 0 ≤ s.clk) : exec .modeWakeWaitEnd s = .next (memSleep
      (setWing { s with modes := { s.modes with pend := some { p with waitedAt := some s.clk } } } w { wing s w with clocksOff := false }) w false) := by
  show execModeWakeWaitEnd s = _
  unfold execModeWakeWaitEnd
  rw [hpend]
  dsimp only
  rw [hwake]
  exact if_neg (by simp [wakeWaited, hwaited, htime])
end

/-- Settles O25. -/
theorem wingHappeningsComplete : Obligations.WingHappeningsComplete := by
  refine ⟨fun s => ⟨fun _ _ => rfl, fun _ => rfl, fun w both c h => ?_, fun w both h => ?_, fun checks f h hdue => ?_, fun checks h => ?_,
      fun _ _ _ _ _ => rfl, fun _ _ _ _ _ => rfl⟩, fun w s => ⟨monitorClear_step, monitorTimeout_holds, testDone_other, testDone_failed,
      testDone_passed, wingReady_wakes, wingReady_readmits, wingReady_boots, fun h => if_pos h, fun hwake hboot => ?_,
      fun p => modeWake_ends⟩⟩
  · show execGiveUp w both s = _
    rw [execGiveUp, h]
  · show execGiveUp w both s = _
    rw [execGiveUp, h]
  · show execTakeover checks s = _
    rw [execTakeover, h]
    exact if_neg (Nat.not_lt.mpr hdue)
  · show execTakeover checks s = _
    rw [execTakeover, h]
  · exact (if_neg (by simp [hwake])).trans (if_pos ⟨rfl, hboot⟩)

end Sys2Proof.Machine

/-! # The Curator's pairs, resets and boot (chapters 01 and 27) -/

namespace Sys2Proof.Machine
open Sys2Proof

/-! ## The pairs (R12, R164) -/

section
variable {mgmt : Bool} {s : State}

/-- A pair that runs meets a mismatch while the Curator runs, and at no other time. -/
theorem lockstepMismatch_runs (hphase : s.boot.phase = .curator ∨ s.boot.phase = .done) (hheld : (pairOf s mgmt).held = false)
    (hrestart : (pairOf s mgmt).restarting = false) : exec (.lockstepMismatch mgmt) s = .next (
      let second := secondMismatch s (pairOf s mgmt)
      let t := setPair s mgmt { restarting := !second, held := second, last := some s.clk }
      let t := if second then raise t 2 (det (b2n mgmt) 0 0 0) else t
      let t := if mgmt then dropMgmtRuns t else dropCommands t
      if t.boot.cmdPair.held ∧ t.boot.mgmtPair.held then warmReset t 4 else settle t) :=
  if_neg (by rcases hphase with h | h <;> simp [h, hheld, hrestart])
theorem lockstepMismatch_down (h : (pairOf s mgmt).held = true ∨ (pairOf s mgmt).restarting = true) :
    exec (.lockstepMismatch mgmt) s = .next s :=
  if_pos (by rcases h with h | h <;> simp [h])
theorem pairBack_other (h : (pairOf s mgmt).restarting = false) : exec (.pairBackInService mgmt) s = .next s := if_pos (by simp [h])

/-- A pair that is back in service says so with event 1 and the time it was away. -/
def pairReturned (s : State) (mgmt : Bool) : State :=
  let p := pairOf s mgmt
  let us := sat 16 ((s.clk - p.last.getD s.clk) / 1000)
  raise (setPair s mgmt { p with restarting := false }) 1 (det (b2n mgmt) 0 (us % 256) (us / 256))
theorem pairBack_command (h : (pairOf s false).restarting = true) :
    exec (.pairBackInService false) s = .next (delayDue (pairReturned s false)) :=
  (if_neg (by simp [h])).trans (congrArg (fun t => Host.Outcome.next (delayDue t)) (if_neg fun hm => Bool.false_ne_true hm.1))
theorem pairBack_management (h : (pairOf s true).restarting = true) (hshut : (pairReturned s true).thermal.shut ≠ 1) :
    exec (.pairBackInService true) s = .next (pump (pairReturned s true)) :=
  (if_neg (by simp [h])).trans (congrArg (fun t => Host.Outcome.next (pump t)) (if_neg fun hm => hshut hm.2))
/-- The restart of the management pair extends the step of a shutdown that is in progress (Table 22-3). -/
theorem pairBack_shutdown (h : (pairOf s true).restarting = true) (hshut : (pairReturned s true).thermal.shut = 1) :
    exec (.pairBackInService true) s = .next (pump (
      let t := pairReturned s true
      { t with thermal := { t.thermal with shutMore := t.thermal.shutMore + (t.clk - (pairOf s true).last.getD t.clk) } })) :=
  (if_neg (by simp [h])).trans (congrArg (fun t => Host.Outcome.next (pump t)) (if_pos ⟨rfl, hshut⟩))
end

/-- Settles O26. -/
theorem curatorPairsComplete : Obligations.CuratorPairsComplete := by
  refine fun mgmt s => ⟨lockstepMismatch_runs, lockstepMismatch_down, pairBack_other, fun h => ⟨?_, ?_, ?_⟩⟩
  · rintro rfl
    exact pairBack_command h
  · rintro rfl hshut
    exact pairBack_management h hshut
  · rintro rfl hshut
    exact pairBack_shutdown h hshut

/-! ## Resets (Table 27-3) -/

section
variable {s : State}

theorem warmReset_armed {t : Nat} (harmed : s.boot.armed = some t) (hdue : t ≤ s.clk) : exec .warmReset s = .next (warmReset s 1) :=
  if_pos (by simp [resetDue, harmed, hdue])
theorem warmReset_unarmed (harmed : s.boot.armed = none) : exec .warmReset s = .next s := if_neg (by simp [resetDue, harmed])
theorem warmReset_early {t : Nat} (harmed : s.boot.armed = some t) (hearly : s.clk < t) : exec .warmReset s = .next s :=
  if_neg (by simp [resetDue, harmed, hearly])
theorem curatorWatchdog_late (hphase : s.boot.phase = .curator) (hlate : s.boot.curatorAt + 1000000000 ≤ s.clk) :
    exec .curatorWatchdog s = .next (warmReset s 4) :=
  if_pos (by simp [watchdogDue, hphase, hlate])
theorem curatorWatchdog_other (h : s.boot.phase ≠ .curator ∨ s.clk < s.boot.curatorAt + 1000000000) :
    exec .curatorWatchdog s = .next s := by
  refine if_neg ?_
  rcases h with h | h <;> simp [watchdogDue, h]
theorem tamper_resets : exec .tamper s = .next (
    let t := if s.boot.phase = .held ∨ s.boot.phase = .noSupply then s else warmReset s 0
    clearVault { t with vault := { t.vault with tamper := true } }) := by
  show execTamper s = _
  unfold execTamper
  dsimp only
  split <;> rfl
end

/-- Settles O27. -/
theorem resetsComplete : Obligations.ResetsComplete :=
  fun _ => ⟨fun _ => warmReset_armed, warmReset_unarmed, fun _ => warmReset_early, curatorWatchdog_late, curatorWatchdog_other,
    rfl, rfl, fun _ => rfl, rfl, tamper_resets⟩

/-! ## Boot (R619 to R624) -/

section
variable {s : State}

theorem boot_tellDpllReset (s : State) : (tellDpllReset s).boot = s.boot := by
  unfold tellDpllReset
  split
  · rfl
  · exact raise_boot _ _ _
theorem boot_bootSyn (s : State) (n : Nat) (w : Word) : (bootSyn s n w).boot = s.boot := rfl

/-- A release of the resets samples the straps and goes on in ROM. -/
theorem bootStart_released (strap : BitVec 3) (a b : Bool) (hphase : s.boot.phase = .held ∨ s.boot.phase = .noSupply)
    (htrip : s.thermal.tripped = false) (hwarm : s.boot.warm = true → s.boot.resetAt + 100000 ≤ s.clk) :
    ∃ t, exec (.bootStart strap a b) s = .next t ∧ t.boot.phase = .rom ∧ t.boot.railA = a ∧ t.boot.railB = b
      ∧ t.boot.strap = (if s.boot.warm then s.boot.strap else strap) ∧ t.boot.cause = resetCause s := by
  refine ⟨_, if_pos ⟨hphase, by simp [htrip], hwarm⟩, ?_⟩
  rw [boot_bootSyn, boot_bootSyn, boot_tellDpllReset]
  refine ⟨rfl, rfl, rfl, ?_, rfl⟩
  dsimp only [setThermal]
  split <;> rfl
theorem flashLoad_other (c0 c1 : List Byte) (h : s.boot.phase ≠ .rom) : exec (.flashLoadComplete c0 c1) s = .next s := if_pos h
theorem flashLoad_rom (c0 c1 : List Byte) (h : s.boot.phase = .rom) : exec (.flashLoadComplete c0 c1) s = .next (match flashChoice c0 c1 with
    | none => { s with boot := { s.boot with phase := .noImage, loadedAt := s.clk } }
    | some c =>
      let t := { s with boot := { s.boot with
        phase := .curator, curatorAt := s.clk, remap := true, fwVer := BitVec.ofNat 32 (flashVersion c), memRate := byteAt ((sectionOf c 3).getD []) 2 } }
      pump (settle (bootBase (loadOverlays (loadVitrine (ensureCp2 (loadPrs (recover (loadLinks t c)))) c))))) := by
  show execFlashLoadComplete c0 c1 s = _
  unfold execFlashLoadComplete
  rw [if_neg fun hne => hne h]
  cases flashChoice c0 c1 <;> rfl
theorem flashRetry_other (h : s.boot.phase ≠ .noImage ∨ s.clk < s.boot.loadedAt + 1000000000) : exec .flashLoadRetry s = .next s :=
  if_neg fun hon => h.elim (· hon.1) fun hlt => absurd hon.2 (Nat.not_le.mpr hlt)
/-- The last step of boot, once nothing of the boot image is waited for, raises event 0. -/
theorem bootModeApply_ends (hphase : s.boot.phase = .curator)
    (houts : s.boot.bootOuts.any (fun o => decide ((out s o).st = .starting)) = false) (hwings : wingsPending s = false) :
    exec .bootModeApply s = .next (
      let a := { s with boot := { s.boot with phase := .done, deferred := [], attempts := if s.boot.attempts < 3 then 0 else s.boot.attempts } }
      let x := bootEnter a
      let b := s.boot.deferred.foldl (fun s e => bootEvent s e.1 e.2) x.1
      let c := if b.boot.cause = 3 then raise b 252 0#32 else b
      let d := raise c 0 (det2 c.modes.cur (b2n x.2 + 16 * c.boot.cause) (sat 16 ((c.clk - c.boot.releasedAt) / 1000000)))
      pump (settle { d with boot := { d.boot with attempts := 0 } })) := by
  show execBootModeApply s = _
  unfold execBootModeApply
  rw [if_neg (by simp only [hphase, houts, hwings]; simp)]
theorem bootModeApply_waits (h : s.boot.phase ≠ .curator ∨ s.boot.bootOuts.any (fun o => decide ((out s o).st = .starting)) = true
    ∨ wingsPending s = true) : exec .bootModeApply s = .next s := if_pos h
end

/-- Settles O28. -/
theorem bootHappeningsComplete : Obligations.BootHappeningsComplete :=
  fun _ => ⟨bootStart_released, flashLoad_other, flashLoad_rom, fun hphase hlate => if_pos ⟨hphase, hlate⟩, flashRetry_other,
    bootModeApply_ends, bootModeApply_waits⟩

end Sys2Proof.Machine

/-! # Completions of long-running work, the thermal manager, and LAUNCH -/

namespace Sys2Proof.Machine
open Sys2Proof

/-! ## Completions (R97) -/

section
variable {s : State} {r : Run} {rest : List Run}

theorem ldgProgramComplete_runs (l : List Nat) {r : LdgRun} (h : s.ledger.run = some r) :
    exec (.ldgProgramComplete l) s = .next (pump (programEnd s r l)) := by
  show execLdgProgramComplete l s = _
  rw [execLdgProgramComplete, h]
theorem ldgProgramComplete_idle (l : List Nat) (h : s.ledger.run = none) : exec (.ldgProgramComplete l) s = .next s := by
  show execLdgProgramComplete l s = _
  rw [execLdgProgramComplete, h]
theorem ldgMaintComplete_runs (hbusy : s.ledger.busy = false) (hrun : takeRun maintaining s.runs = some (r, rest)) :
    exec .ldgMaintComplete s = .next (pump (finishRun { s with runs := rest } r .ok [])) := by
  show execLdgMaintComplete s = _
  rw [execLdgMaintComplete, if_neg (by simp [hbusy]), hrun]
theorem ldgMaintComplete_other (h : s.ledger.busy = true ∨ takeRun maintaining s.runs = none) : exec .ldgMaintComplete s = .next s := by
  show execLdgMaintComplete s = _
  unfold execLdgMaintComplete
  split
  · rfl
  · next hbusy => rw [h.resolve_left hbusy]

theorem imageClose_none (h : takeRun closing s.runs = none) : exec .imageCloseComplete s = .next s := by
  show execImageCloseComplete s = _
  rw [execImageCloseComplete, h]
/-- The close of an image that is being checked: what is dropped is told, and the rest is checked (Table 4-6). -/
theorem imageClose_runs {a : Nat} {b : Build} (hrun : takeRun closing s.runs = some (r, rest)) (hphase : r.phase ≠ 1)
    (hjob : r.job = .imageClose a) (hbuild : s.modes.build = some b) : exec .imageCloseComplete s = .next (if a = 2
      then finishRun { s with runs := rest, modes := { s.modes with build := none } } r .ok (closeReply (sized b.bytes b.total))
      else closeChecked s r rest (decide (a = 1)) b) := by
  show execImageCloseComplete s = _
  rw [execImageCloseComplete, hrun]
  dsimp only
  rw [if_neg hphase, hbuild, hjob]
  dsimp only
  split <;> rfl

theorem vitCommitComplete_runs {n : Fin 64} {m l : Nat} (hrun : takeRun (slotHeld n.val) s.runs = some (r, rest)) (hjob : r.job = .vitCommit m l) :
    exec (.vitCommitComplete n) s = .next (finishRun (exchange { s with runs := rest } n.val l) r .ok []) := by
  show execVitCommitComplete n s = _
  rw [execVitCommitComplete, hrun]
  dsimp only
  rw [hjob]
theorem vitCommitComplete_none {n : Fin 64} (h : takeRun (slotHeld n.val) s.runs = none) : exec (.vitCommitComplete n) s = .next s := by
  show execVitCommitComplete n s = _
  rw [execVitCommitComplete, h]
theorem eyeScanComplete_runs {p : Fin 24} (l : List Byte)
    (hrun : takeRun (fun r => match r.job with | .eyeScan k _ _ => decide (k = p.val) | _ => false) s.runs = some (r, rest)) :
    exec (.eyeScanComplete p l) s = .next (finishRun { s with runs := rest } r .ok (sized l 4096)) := by
  show execEyeScanComplete p l s = _
  unfold execEyeScanComplete
  split
  · next hnone => exact absurd (hnone.symm.trans hrun) (by simp)
  · next hsome =>
    cases hsome.symm.trans hrun
    rfl
theorem challengeComplete_runs {n : List Byte} (hrun : takeRun challenging s.runs = some (r, rest)) (hjob : r.job = .challenge n) :
    exec .vltChallengeComplete s = .next (finishRun { s with runs := rest } r .ok (response (r.key.getD []) n)) := by
  show execVltChallengeComplete s = _
  rw [execVltChallengeComplete, hrun]
  dsimp only
  rw [hjob]
theorem challengeComplete_none (h : takeRun challenging s.runs = none) : exec .vltChallengeComplete s = .next s := by
  show execVltChallengeComplete s = _
  rw [execVltChallengeComplete, h]
theorem deriveComplete_none (h : takeRun deriving_ s.runs = none) : exec .vltDeriveComplete s = .next s := by
  show execVltDeriveComplete s = _
  rw [execVltDeriveComplete, h]
/-- A derivation of an unchanged slot that meets no key loads its key with event 250. -/
theorem deriveComplete_loads {k : Nat} {ctx : List Byte} (hrun : takeRun deriving_ s.runs = some (r, rest)) (hjob : r.job = .derive k ctx)
    (hphase : r.phase ≠ 1) (hkey : s.vault.key = none) :
    exec .vltDeriveComplete s = .next (finishRun (raise (zeroCounters { s with runs := rest, vault := { s.vault with
      key := some (derivedKey (vaultSecret s k) ctx k), parent := some k } }) 250 (det 0 k (portCode r.req.port) 0)) r .ok []) := by
  show execVltDeriveComplete s = _
  rw [execVltDeriveComplete, hrun]
  dsimp only
  rw [if_neg hphase, if_neg (by simp [hkey]), hjob]
  rfl

theorem selftestComplete_none {t : Fin 3} (f : Option (Half × Word)) (h : s.runs.any (testOn t.val) = false) :
    exec (.selftestComplete t f) s = .next s := if_pos (by simp [h])
theorem selftestComplete_passed {t : Fin 3} (h : s.runs.any (testOn t.val) = true) :
    exec (.selftestComplete t none) s = .next (endTest s t.val 0 0 0#32) := if_neg (by simp [h])
theorem selftestComplete_failed {t : Fin 3} (u : Half) (d : Word) (h : s.runs.any (testOn t.val) = true) :
    exec (.selftestComplete t (some (u, d))) s = .next (
      let x := endTest s t.val 1 u.toNat d
      if t.val < 2 ∧ (testClass s t.val = 1 ∨ testClass s t.val = 2) then wingFault x (wingOf t.val) 3 else x) := if_neg (by simp [h])
end

/-- Settles O29. -/
theorem completionsComplete : Obligations.CompletionsComplete :=
  fun _ => ⟨fun l _ => ldgProgramComplete_runs l, ldgProgramComplete_idle, fun _ _ => ldgMaintComplete_runs, ldgMaintComplete_other,
    imageClose_none, fun _ _ _ hrun hphase hjob hbuild => imageClose_runs hrun hphase hjob hbuild,
    fun _ _ _ _ hrun hphase hjob ha hbuild => (imageClose_runs hrun hphase hjob hbuild).trans (congrArg Host.Outcome.next (if_neg ha)),
    fun _ _ _ _ _ => vitCommitComplete_runs, fun _ => vitCommitComplete_none, fun _ l _ _ => eyeScanComplete_runs l,
    fun _ _ _ => challengeComplete_runs, challengeComplete_none, deriveComplete_none, fun _ _ _ _ => deriveComplete_loads,
    fun _ => selftestComplete_none, fun _ => selftestComplete_passed, fun _ => selftestComplete_failed⟩

/-! ## The thermal manager (R529 to R538) -/

section
variable {s : State}

theorem thermalWatch_due (h : watchDue s = true) : exec .thermalWatch s = .next (
    let on := (maskSensors (bits (word s 0 0x22 14 1) 13 0)).filter fun i => !sensorOff s i
    let t := { s with thermal := { s.thermal with watchAt := some s.clk } }
    if on = [] then t else requestMeasure t (on.foldl (fun a i => a + 2 ^ i) 0) false) := by
  show execThermalWatch s = _
  unfold execThermalWatch
  dsimp only
  rw [if_neg (by simp [h])]
  split <;> rfl
theorem measurementComplete_ends (l : List (Option Half)) {m : Nat} (hnow : s.thermal.now = some m) (hup : mgmtPairUp s = true)
    (htime : s.thermal.nowAt + 20000 ≤ s.clk) : exec (.measurementComplete l) s = .next (conversionEnds s m l) := by
  show execMeasurementComplete l s = _
  rw [execMeasurementComplete, hnow]
  exact if_neg (by simp [hup, htime])
theorem measurementComplete_idle (l : List (Option Half)) (h : s.thermal.now = none) : exec (.measurementComplete l) s = .next s := by
  show execMeasurementComplete l s = _
  rw [execMeasurementComplete, h]
theorem shutdownStep2_safe (hshut : s.thermal.shut = 1) (hsafe : safeShown s = true) (hup : mgmtPairUp s = true) :
    exec (.shutdownStep2 false) s = .next (shutdownStep2 s false) := if_pos ⟨hshut, by simp [hsafe], hup⟩
theorem shutdownStep2_bound (hshut : s.thermal.shut = 1) (htime : s.thermal.shutAt + 100000000 + s.thermal.shutMore ≤ s.clk)
    (hup : mgmtPairUp s = true) : exec (.shutdownStep2 true) s = .next (shutdownStep2 s true) := by
  have hbound : shutBound s = true := decide_eq_true htime
  show execShutdownStep2 true s = _
  unfold execShutdownStep2
  rw [hbound]
  exact if_pos ⟨hshut, rfl, hup⟩
theorem shutdownStep2_other (b : Bool) (h : s.thermal.shut ≠ 1 ∨ mgmtPairUp s = false) : exec (.shutdownStep2 b) s = .next s :=
  if_neg fun hon => h.elim (· hon.1) fun hup => Bool.false_ne_true (hup.symm.trans hon.2.2)
theorem shutdownStep4_other (h : s.thermal.shut ≠ 2 ∨ ledgerRests s = false ∨ mgmtPairUp s = false) : exec .shutdownStep4 s = .next s := by
  refine if_neg fun ⟨hshut, hrests, hup⟩ => ?_
  rcases h with h | h | h
  · exact h hshut
  · exact Bool.false_ne_true (h.symm.trans hrests)
  · exact Bool.false_ne_true (h.symm.trans hup)

/-! ## LAUNCH (Tables 6-1 and 6-2) -/

theorem launch_rounds (hup : commandPairUp s = true) (hsets : setWaits (launchSets s) = false) :
    exec .launch s = .next (settle (launchRounds 257 (launchSets s))) :=
  (if_neg (by simp [hup])).trans (congrArg (fun t => Host.Outcome.next (settle t)) (if_neg (by simp [hsets])))
theorem launch_waits (hup : commandPairUp s = true) (hsets : setWaits (launchSets s) = true) :
    exec .launch s = .next (settle (launchSets s)) :=
  (if_neg (by simp [hup])).trans (congrArg (fun t => Host.Outcome.next (settle t)) (if_pos hsets))
end

/-- Settles O30. -/
theorem thermalAndLaunchComplete : Obligations.ThermalAndLaunchComplete :=
  fun _ => ⟨fun h => if_pos (by simp [h]), thermalWatch_due, fun l _ => measurementComplete_ends l, measurementComplete_idle,
    shutdownStep2_safe, shutdownStep2_bound, shutdownStep2_other, fun hshut hrests hup => if_pos ⟨hshut, hrests, hup⟩, shutdownStep4_other,
    fun h => if_pos (by simp [h]), launch_rounds, launch_waits⟩

end Sys2Proof.Machine

/-! # Queries on CP2 change a link too -/

namespace Sys2Proof.Machine
open Sys2Proof

namespace Cp2Query

/-- NOP, asked on CP2. -/
def request : Req := { port := .cp2, tag := 1 }
/-- The Ontor after boot with CP2 enabled, its nominated Prenlink port in RUNNING and awake, and everything else at reset. -/
def linked : State := { boot := { phase := .done }, words := [(0x260001, 1#32)], plks := [(0, { st := 8, role := 0, fwd := 0, bck := 0 })] }
/-- The same Ontor with any command ports and any events. -/
def idle (p : Ports) (e : Events) : State := { linked with ports := p, ev := e }

/-! ## Nothing waits there to be served -/

section
variable (p : Ports) (e : Events)

theorem settleKey_idle : settleKey (idle p e) = idle p e := rfl
theorem settleVideo_idle : settleVideo (idle p e) = idle p e := by
  have hflips : settleFlips (idle p e) = idle p e := rfl
  have htables : settleTables (idle p e) = idle p e := rfl
  have hrewritten : settleRewritten (idle p e) = idle p e := rfl
  have hmode : settleMode (idle p e) = idle p e := rfl
  have hsets : sweepSets (idle p e) = idle p e := rfl
  have hlayers : restLayers (idle p e) = idle p e := rfl
  have hbuffers : sweepBuffers (idle p e) = idle p e := rfl
  rw [settleVideo, hflips, htables, hrewritten, hmode, hsets, hlayers, hbuffers]
theorem settleHops_idle : settleHops (idle p e) = idle p e := List.foldl_fixed' (fun _ => rfl) _
/-- No output runs, so none sends a window over a link. -/
theorem settleWindows_idle : settleWindows (idle p e) = idle p e := by
  refine List.foldl_fixed' (fun o => ?_) _
  have hactive : outActive (idle p e) o = false := rfl
  have hsends : windowSends (idle p e) o = tget false (idle p e).audio.sending o := by
    simp only [windowSends, hactive, Bool.false_and]
    rfl
  exact if_pos hsends
/-- No CSI-2 channel has told of an error, so none is forgotten. -/
theorem settleCsi_idle : settleCsi (idle p e) = idle p e := by
  refine List.foldl_fixed' (fun n => if_pos (List.foldl_fixed' (a := (csi (idle p e) n).told) (fun v => ?_) _)) _
  have htold : (csi (idle p e) n).told = 0#4 := rfl
  rw [htold, BitVec.zero_and, ite_self]
theorem settlePorts_idle : settlePorts (idle p e) = idle p e := by
  have hdrains : settleDrains (idle p e) = idle p e := rfl
  have hhpd : settleHpd (idle p e) = idle p e := rfl
  have htdms : settleTdms (idle p e) = idle p e := rfl
  have hstreams : settleStreams (idle p e) = idle p e := rfl
  rw [settlePorts, settleHops_idle, hdrains, hhpd, htdms, hstreams, settleWindows_idle, settleCsi_idle]
/-- A candidate that is neither present nor qualified is left as it is. -/
theorem settleCands_idle : settleCands (idle p e) = idle p e := by
  refine List.foldl_fixed' (fun k => if_neg ?_) _
  have hcand : ((cand (idle p e) (k + 5)).present || (cand (idle p e) (k + 5)).qualified) = false := rfl
  rw [hcand, Bool.and_false]
  exact Bool.false_ne_true
theorem settleRefs_idle : settleRefs (idle p e) = idle p e := by
  have hfsyncs : settleFsyncs (idle p e) = idle p e := rfl
  have hstep : settleStep (idle p e) = idle p e := rfl
  rw [settleRefs, settleCands_idle, hfsyncs, hstep]
theorem settle_idle : settle (idle p e) = idle p e := by
  have hpulses : seePulses (idle p e) = idle p e := rfl
  have hdispatch : dispatchAll (idle p e) = idle p e := rfl
  rw [settle, settleVideo_idle, settlePorts_idle, settleRefs_idle, hpulses, hdispatch]
end

/-- What a query leaves of the links. -/
def plksAfter (c : Instr) (s : State) : Option (Tab Plk) :=
  match exec c s with
  | .next t => some t.plks
  | _ => none
/-- The Placard of a NOP on CP2 goes out at once, as a control message of the nominated port (R66, R278). -/
theorem nop_changes_plks : taken request opNop linked = true ∧ plksAfter (.nop request) linked ≠ some linked.plks := by decide +kernel

end Cp2Query

/-- Refutes O42: a query that CP2 asks while the nominated Prenlink port runs sends its Placard over that port, so the record of the link
changes with the ports and the events. -/
theorem not_queriesChangeOnlyThePorts : ¬ Obligations.QueriesChangeOnlyThePorts := by
  intro h
  obtain ⟨htaken, hplks⟩ := Cp2Query.nop_changes_plks
  obtain ⟨ports, ev, hexec⟩ := h (.nop Cp2Query.request) 0x00#8 Cp2Query.request opNop Cp2Query.linked rfl rfl rfl htaken
  have hidle : settle (settleKey { Cp2Query.linked with ports := ports, ev := ev }) = Cp2Query.idle ports ev :=
    (congrArg settle (Cp2Query.settleKey_idle ports ev)).trans (Cp2Query.settle_idle ports ev)
  refine hplks ?_
  rw [Cp2Query.plksAfter, hexec, hidle]
  rfl

end Sys2Proof.Machine
